-- ==== Sys2Proof/Word.lean ====
section
/-! DEFINITION. The word and byte types of the controller, and nothing that a test could show wrong: every register of the
spec is 32 bits wide and is accessed as a whole (R43, R44). -/

namespace Sys2Proof

/-- A register, a recipe word, a message-RAM word. -/
abbrev Word := BitVec 32

/-- A byte of a buffer, a frame or a record. -/
abbrev Byte := BitVec 8

end Sys2Proof
end

