-- ==== Sys2Proof/Syntax.lean ====
section
/-! DEFINITION. The commands the block takes: one constructor of `Instr` per row of the opcode table, with the row's operands,
and the types of those operands. A command is a write or a read of a register, a frame or telegram on a bus, an event on a pin, a
measurement that crosses its limit, or the end of a time the spec names. -/

namespace Sys2Proof

/-- The nine doorway commands (R78), coded as DWn.CMD.OP codes them. -/
inductive DwOp where
  | opn | close | closeWait | stop | isolate | restore | home | learn | testCycle
deriving DecidableEq, Repr

/-- The sources of a doorway command (R77), coded as LAST_CMD.SRC. -/
inductive CmdSrc where
  | host | telegram | dcl | sideRel | button | internal
deriving DecidableEq, Repr

/-- The side of the car: DREL_L or DREL_R. -/
inductive Side where
  | left | right
deriving DecidableEq, Repr

inductive Phase where
  | u | v | w
deriving DecidableEq, Repr

/-- A differential pair of a feedback port (R150). -/
inductive Pair where
  | a | b | i
deriving DecidableEq, Repr

/-- The dies with a serial link of their own (R20). -/
inductive Die where
  | g (i : Fin 2)
  | s (i : Fin 4)
deriving DecidableEq, Repr

/-! ### Ledger records (R363, R365) -/

/-- DOOR_CYCLE payload; every figure in the unit of R365. -/
structure DoorCycle where
  openT    : Nat
  closeT   : Nat
  cycleT   : Nat
  cycleCnt : Nat
  endByte  : Nat
  flags    : Nat
  obst     : Nat
  holds    : Nat
  cause    : Nat
  fault    : Nat
  fPeak    : Nat
  fPos     : Nat
  iPeak    : Nat
  waitT    : Nat
  deferT   : Nat
  vCapMin  : Nat
  gap      : Nat
  stepPos  : Nat
  eMotion  : Nat
  tjMax    : Nat
  unlockT  : Nat
  lockT    : Nat
deriving DecidableEq, Repr

/-- CONFIG_CHANGE payload. -/
structure ConfigChange where
  source  : Nat
  result  : Nat
  reason  : Nat
  bank    : Nat
  gen     : Nat
  hashNew : Word
  hashOld : Word
  words   : Nat
  session : Nat
  pages   : List Nat
deriving DecidableEq, Repr

/-- The payload of a ledger record, by type (R365, R366). -/
inductive Payload where
  | doorCycle (d : DoorCycle)
  | event (code subsys inst arg0 arg1 arg2 : Nat)
  | fault (loc : Word) (kind level cause page count : Nat) (ctx : List Nat)
  | configChange (c : ConfigChange)
  | power (kind states wakeSrc rstCause vbatA vhold sup tjMax arg : Nat)
  | summary (bytes : List Byte)
deriving DecidableEq, Repr

/-- A record: the header of R363 and its payload. `dw` is 8 for the car as a whole. -/
structure Record where
  unitB       : Bool
  timeInvalid : Bool
  unreliable  : Bool
  dw          : Nat
  time        : Nat
  rseq        : Nat
  payload     : Payload
deriving DecidableEq, Repr

/-- What the port samples of an SSI frame (R138, R139): DATA at the first falling clock edge, the data bits, the error and parity
bits where the frame has them, and DATA after the last bit. -/
structure SsiFrame where
  idleHigh : Bool
  data     : Word
  err      : Bool
  parity   : Bool
  tailHigh : Bool
deriving DecidableEq, Repr

/-- What a sensor link sees of an Ethernet frame before the Jubido body (R192, R194): a VLAN tag, the EtherType, whether the FCS held,
then VER, TYPE, LEN and SEQ of the header. No rule uses a received SEQ. -/
structure JubidoHead where
  tagged    : Bool
  etherType : BitVec 16
  fcs       : Bool
  ver       : Nat
  typ       : Nat
  len       : Nat
  seq       : Word
deriving DecidableEq, Repr

/-- FRAME_START (R195). -/
structure FrameStartMsg where
  hdr      : JubidoHead
  frameNo  : Word
  expEnd   : BitVec 64
  expDur   : Word
  width    : BitVec 16
  height   : BitVec 16
  headStat : BitVec 16
  syncErr  : BitVec 16
  calCrc   : Word
deriving DecidableEq, Repr

/-- ROW (R196): 320 depths in 0.1 mm and 320 confidences. -/
structure RowMsg where
  hdr     : JubidoHead
  frameNo : Word
  row     : BitVec 16
  depth   : List (BitVec 16)
  conf    : List Byte
deriving DecidableEq, Repr

/-- CAL (R197). -/
structure CalMsg where
  hdr      : JubidoHead
  headId   : Word
  fx       : Word
  fy       : Word
  cx       : Word
  cy       : Word
  rangeMin : BitVec 16
  rangeMax : BitVec 16
  fmt      : BitVec 16
  crc      : Word
deriving DecidableEq, Repr

/-- The causes 1 to 4 of an OE fault (R223). -/
inductive OeCause where
  | memory | noPass | ddr | pixelMap
deriving DecidableEq, Repr
/-- An output that SC tests with pulses (R250). -/
inductive TestOutput where
  | channel (c : Fin 48) | tracRel | element
deriving DecidableEq, Repr

/-- The degraded causes (R259). -/
inductive DegrCause where
  | edge | lockDiag | inputDiag
deriving DecidableEq, Repr

/-- The train-line inputs (R228). -/
inductive TrainLine where
  | zspA | zspB | drelL | drelR | dcl | tracFb | loopIn
deriving DecidableEq, Repr

/-- What SC samples at a tick (R228, R230, R254). `lines` and `pins` hold the samples since the last tick, one every 50 µs: of each the
train lines, and the discrete inputs, whose voltage has changed, with it in 0.1 V. The TRAC_REL pin and LOOP_OUT are levels outside
pulses; `loopLow` is the width in µs of a low interval of LOOP_IN that ended in this tick, 0 for none. -/
structure ScSample where
  lines   : List (List (TrainLine × Nat))
  tracPin : Bool
  loopOut : Bool
  loopLow : Nat
  pins    : List (List (Fin 64 × Nat))
deriving DecidableEq, Repr

/-- What an incoming unit sees at a bridge at a counter zero: every gate line low (R128), every bootstrap at or above 9.0 V (R129). -/
structure Bridge where
  allLow         : Bool
  bootstrapsHigh : Bool
deriving DecidableEq, Repr

/-- What a quad SPI transaction opens with: the command byte and the address (R34). -/
structure QsHead where
  cmd  : Byte
  addr : BitVec 24
deriving DecidableEq, Repr

/-- What a Bruvan frame opens with, and whether the frame's code and CRC held (R342). -/
structure Checked (α : Type) where
  good : Bool
  val  : α
deriving DecidableEq, Repr

/-- A telegram as it arrives: its bytes (R274). -/
structure Telegram where
  bytes : List Byte
deriving DecidableEq, Repr

/-- A test of SC's memories (R258): its result, and the location of the failing bit (R22). -/
structure MemoryTest where
  pass : Bool
  loc  : Word
deriving DecidableEq, Repr

/-- What a pulse of SC reads back (R251). In BOOT_TEST, where the switches of a series stage are tested alone (R258), `second` says which
one was: SA or EA, or SB or EB. -/
structure Readback where
  good   : Bool
  second : Bool
deriving DecidableEq, Repr

/-- The carriers of telegrams (R273). -/
inductive Carrier where
  | host | canFd (b : Fin 4) | canXl (b : Fin 4)
deriving DecidableEq, Repr

/-- What the die's test of a channel finds. In its off state (R307): the output low at the end of the first 2 ms; high with the source
removed; low only then; the switch itself conducting; a demand that ended the test without a result. In its on state the readback of
R304: a switch that does not turn on. -/
inductive OffStateResult where
  | pass | shortBat | openLoad | conducts | ended | notOn
deriving DecidableEq, Repr

/-- The measurements of a group: currents (mA) and temperatures (0.1 °C) of its 12 channels, the die temperature, VBAT (10 mV) and
the group current (mA). -/
structure GroupMeas where
  i     : List Nat
  t     : List Int
  die   : Int
  vbat  : Nat
  iGrp  : Nat
deriving DecidableEq, Repr

/-- What is measured at a pantry tick (R316, R324, R325, R336): the four groups; the junction temperatures of C, G0 and G1 in 0.1 °C;
PKG_P in W; the supplies in 10 mV. -/
structure PantryMeas where
  groups : List GroupMeas
  tjC    : Int
  tjG0   : Int
  tjG1   : Int
  pkg    : Nat
  vdd08  : Nat
  vdd11  : Nat
  vdd33  : Nat
  vgd    : Nat
  vhold  : Nat
  vcel   : Nat
deriving DecidableEq, Repr

/-- The wake sources (R330). -/
inductive WakeSrc where
  | rtcAlarm | di (i : Fin 64) | release (side : Side) | dcl | zeroSpeed | can (b : Fin 4) | host | partner
deriving DecidableEq, Repr

/-- The conditions of SUP_STAT (R332): supplies 0 to 7 are VBAT_A to VBAT_D, VGD, VDD08, VDD11, VDD33. -/
inductive Monitor where
  | undervolt (i : Fin 8) | overvolt (i : Fin 8) | surge (g : Fin 4)
deriving DecidableEq, Repr

/-- The mirror of an axis (R345). -/
structure AxisMirror where
  target : Word
  profs  : List Word
  posOfs : Word
deriving DecidableEq, Repr

/-- The mirror of a doorway (R345); `flags` is DWn.STATE whole, `elapsed` the ms of its waiting closure, if one runs, `left` the
DEGRn.LEFT seconds and `cause` DEGRn.CAUSE. -/
structure DoorMirror where
  flags    : Word
  degr     : Word
  fault    : Nat
  exec     : Word
  reopens  : Nat
  elapsed  : Option Nat
  axes     : List AxisMirror
  cause    : Nat
  left     : Nat
  cycles   : Nat
  obst     : Nat
  holds    : Nat
deriving DecidableEq, Repr

/-- The mirror of a telegram connection (R345): the sent SEQ values with their send times. -/
structure ConnMirror where
  state : Nat
  txSeq : Nat
  rxSeq : Nat
  sent  : List (Nat × Nat)
deriving DecidableEq, Repr

/-- A STATE frame (R345): the doorways, the ON demand of every load channel, the connections, and the sender's role. -/
structure MirrorFrame where
  doors : List DoorMirror
  on    : BitVec 48
  conns : List ConnMirror
deriving DecidableEq, Repr

/-- A HEALTH frame (R342, R350, R391, R437). -/
structure HealthFrame where
  role  : Fin 4
  unitB : Bool
  check : Word
  grade : Fin 16
  delay : BitVec 16
  gen   : Word
  hash  : List Word
deriving DecidableEq, Repr

/-- A configuration image as VAULT frames carry it (R391): register cells, unit B's copy, password section, GEN. -/
structure VaultFrame where
  cells : List (Nat × Word)
  unitB : List (Nat × Word)
  salt  : List Byte
  hash  : List Byte
  gen   : Nat
deriving DecidableEq, Repr

/-- The adapted tables of a doorway's axes, 128 words each, and their SAT_BINS (R185). -/
structure AdaptFrame where
  door : List Word
  step : List Word
  satD : Nat
  satS : Nat
deriving DecidableEq, Repr

/-- The frames of the Bruvan link (R342). -/
inductive BruvanFrame where
  | state (f : MirrorFrame)
  | health (f : HealthFrame)
  | handover (th : Nat) (cause : Nat)
  | records (rs : List Record)
  | vault (f : VaultFrame)
  | adapt (n : Fin 8) (f : AdaptFrame)
  | catchup (rseq : Option Nat)
  | ack (seq : BitVec 16)
deriving DecidableEq, Repr
/-- A frame on a CAN bus (R397, R405): format 0 Classical, 1 FD, 2 XL; the identifier, or the priority identifier of an XL frame. -/
structure CanFrame where
  fmt   : Fin 3
  ide   : Bool
  rmt   : Bool
  brs   : Bool
  esi   : Bool
  sec   : Bool
  dlc   : Fin 16
  sdt   : Byte
  vcid  : Byte
  ident : BitVec 29
  af    : Word
  data  : List Byte
deriving DecidableEq, Repr

/-- What a line of the MVB carried at a frame: nothing, a frame whose check sequence fails, a valid frame (R419). -/
inductive LineFrame where
  | none | bad | good
deriving DecidableEq, Repr

/-- Where an error of R28 was found: a register-fabric transfer, for a host access (its address, and whether it writes) or not; the
program memory of an engine; the eNVM; the header of a change-log entry, counted back from the newest; the journal SRAM; a page of the
NAND's data area, as its block from the oldest and its number in the block, which counts parity pages, and whether the read needed more
than ECC_TH corrections (R372); the index of such a page, the header of a record in it; the boot path; a word of a CAN controller's
message RAM; SC's memories. -/
inductive EccSource where
  | fabric (host : Option (BitVec 20 × Bool)) | doorEngine (n : Fin 8) | le | xe | oe | sc | vault | changeLog (back : Nat) | journal
  | nand (block page : Nat) (worn : Bool) | index (block page : Nat) | header (block page rec : Nat) | boot
  | canRam (b : Fin 4) (page : Fin 16)
deriving DecidableEq, Repr
/-- How the NAND takes a program or an erase (R372, R381): it holds, its block has to be retired, a die does not answer. -/
inductive NandResult where
  | ok | blockFails (die : Bool) | dieDead (die : Bool)
deriving DecidableEq, Repr

inductive RestartEngine where
  | le | xe
deriving DecidableEq, Repr

/-- The commands, one for each row of the opcode table. The comment of each is the rule of the spec that says what it does. -/
inductive Instr where
  | doorwayTick (n : Fin 8)  -- DOORWAY_TICK: R67
  | openCmd (n : Fin 8) (src : CmdSrc)  -- OPEN: R78
  | closeCmd (n : Fin 8) (src : CmdSrc)  -- CLOSE: R78
  | closeWait (n : Fin 8) (src : CmdSrc)  -- CLOSE_WAIT: R81
  | stopCmd (n : Fin 8) (src : CmdSrc)  -- STOP: R78
  | isolate (n : Fin 8) (src : CmdSrc)  -- ISOLATE: R78
  | restore (n : Fin 8) (src : CmdSrc)  -- RESTORE: R71
  | home (n : Fin 8) (axsel : Fin 3) (src : CmdSrc)  -- HOME: R78
  | learn (n : Fin 8) (axsel : Fin 3) (src : CmdSrc)  -- LEARN: R179
  | testCycle (n : Fin 8) (src : CmdSrc)  -- TEST_CYCLE: R78
  | dclRise  -- DCL_RISE: R79
  | sideReleaseRise (side : Side)  -- SIDE_RELEASE_RISE: R80
  | sideReleaseWithdrawn (side : Side)  -- SIDE_RELEASE_WITHDRAWN: R80
  | openButtonPress (n : Fin 8)  -- OPEN_BUTTON_PRESS: R77
  | isolationActive (n : Fin 8)  -- ISOLATION_ACTIVE: R69
  | egressActive (n : Fin 8)  -- EGRESS_ACTIVE: R69
  | unlockConfirmed (n : Fin 8)  -- UNLOCK_CONFIRMED: R71
  | tUnlockExpired (n : Fin 8)  -- T_UNLOCK_EXPIRED: R71
  | lockConfirmed (n : Fin 8)  -- LOCK_CONFIRMED: R71
  | tLockExpired (n : Fin 8)  -- T_LOCK_EXPIRED: R71
  | lockedLost (n : Fin 8) (moved : Bool)  -- LOCKED_LOST: R71
  | leavesPushed (n : Fin 8)  -- LEAVES_PUSHED: R71
  | closedLost (n : Fin 8)  -- CLOSED_LOST: R71
  | manualStillExpired (n : Fin 8)  -- MANUAL_STILL_EXPIRED: R71
  | homingNoStall (ax : Fin 16)  -- HOMING_NO_STALL: R110
  | stepRetractRetry (n : Fin 8)  -- STEP_RETRACT_RETRY: R75
  | stepLatchTimeout (n : Fin 8)  -- STEP_LATCH_TIMEOUT: R75
  | recipeEnd (n : Fin 8)  -- RECIPE_END: R84
  | recipeMove (n : Fin 8)  -- RECIPE_MOVE: R84
  | recipeHome (n : Fin 8)  -- RECIPE_HOME: R110
  | recipeSetLs (n : Fin 8)  -- RECIPE_SET_LS: R84
  | recipeClrLs (n : Fin 8)  -- RECIPE_CLR_LS: R84
  | recipeWaitDi (n : Fin 8)  -- RECIPE_WAIT_DI: R84
  | recipeWaitPos (n : Fin 8)  -- RECIPE_WAIT_POS: R84
  | recipeWaitPorch (n : Fin 8)  -- RECIPE_WAIT_PORCH: R214
  | recipeDelay (n : Fin 8)  -- RECIPE_DELAY: R84
  | recipeBranch (n : Fin 8)  -- RECIPE_BRANCH: R84
  | delayExpired (n : Fin 8)  -- DELAY_EXPIRED: R84
  | waitTimeout (n : Fin 8)  -- WAIT_TIMEOUT: R85
  | recipeRunaway (n : Fin 8)  -- RECIPE_RUNAWAY: R86
  | reopenDwellExpired (n : Fin 8)  -- REOPEN_DWELL_EXPIRED: R85
  | testDwellExpired (n : Fin 8)  -- TEST_DWELL_EXPIRED: R78
  | porchWaitExpired (n : Fin 8)  -- PORCH_WAIT_EXPIRED: R81
  | loadRef (n : Fin 8)  -- LOAD_REF: R90
  | doorwayReload (n : Fin 8)  -- DOORWAY_RELOAD: R88
  | currentLoopCycle (ax : Fin 16) (iu iv iw : Int)  -- CURRENT_LOOP_CYCLE: R113
  | profHoldClear (ax : Fin 16)  -- PROF_HOLD_CLEAR: R103
  | motionEnd (ax : Fin 16)  -- MOTION_END: R105
  | inposFail (ax : Fin 16)  -- INPOS_FAIL: R105
  | followingError (ax : Fin 16)  -- FOLLOWING_ERROR: R107
  | stall (ax : Fin 16)  -- STALL: R108
  | alignmentDone (ax : Fin 16) (d0 d1 d2 d3 : Int)  -- ALIGNMENT_DONE: R97
  | i2t (ax : Fin 16)  -- I2T: R114
  | i2tRelease (ax : Fin 16)  -- I2T_RELEASE: R114
  | bootstrapUndervoltage (ax : Fin 16) (phase : Phase)  -- BOOTSTRAP_UNDERVOLTAGE: R118
  | vgdUndervoltage (die : Fin 2) (below5V : Bool)  -- VGD_UNDERVOLTAGE: R118
  | desaturation (ax : Fin 16) (phase : Phase) (high : Bool)  -- DESATURATION: R119
  | shuntOvercurrent (ax : Fin 16) (phase : Phase)  -- SHUNT_OVERCURRENT: R120
  | shuntOffsetFault (ax : Fin 16) (phase : Phase)  -- SHUNT_OFFSET_FAULT: R121
  | phaseSumFault (ax : Fin 16)  -- PHASE_SUM_FAULT: R121
  | openPhase (ax : Fin 16)  -- OPEN_PHASE: R121
  | gateReadbackMismatch (ax : Fin 16) (phase : Phase) (high : Bool)  -- GATE_READBACK_MISMATCH: R122
  | axisClr (ax : Fin 16)  -- AXIS_CLR: R124
  | axisOffsetMeasured (ax : Fin 16) (offsetsGood bootstrapsHigh : Bool)  -- AXIS_OFFSET_MEASURED: R127
  | prechargeEnd (ax : Fin 16) (bootstrapsHigh : Bool)  -- PRECHARGE_END: R127
  | gateTakeover (ax : Fin 16) (bridge : Bridge)  -- GATE_TAKEOVER: R128
  | quadEdge (p : Fin 16) (a b i : Bool) (dt : Nat)  -- QUAD_EDGE: R135
  | hallSectorChange (p : Fin 16) (code : Fin 8) (dt : Nat)  -- HALL_SECTOR_CHANGE: R137
  | hallInvalidTimeout (p : Fin 16)  -- HALL_INVALID_TIMEOUT: R137
  | ssiFrameStart (p : Fin 16)  -- SSI_FRAME_START: R138
  | ssiFrameReceived (p : Fin 16) (f : SsiFrame) (dt : Nat)  -- SSI_FRAME_RECEIVED: R139
  | ssiClockTakeover (p : Fin 16)  -- SSI_CLOCK_TAKEOVER: R140
  | index (p : Fin 16)  -- INDEX: R141
  | indexStuck (p : Fin 16)  -- INDEX_STUCK: R145
  | idxMiss (p : Fin 16)  -- IDX_MISS: R145
  | idxRearm (p : Fin 16)  -- IDX_REARM: R142
  | stillTimeout (p : Fin 16)  -- STILL_TIMEOUT: R147
  | wireBreak (p : Fin 16) (pair : Pair)  -- WIRE_BREAK: R150
  | directionMismatch (p : Fin 16)  -- DIRECTION_MISMATCH: R151
  | fbClr (p : Fin 16)  -- FB_CLR: R152
  | encoOutputEdge (e : Fin 4)  -- ENCO_OUTPUT_EDGE: R155
  | edgeDiscrepancyTimeout (n : Fin 8)  -- EDGE_DISCREPANCY_TIMEOUT: R164
  | forceLimitExceeded (n : Fin 8)  -- FORCE_LIMIT_EXCEEDED: R172
  | cbLimitExceeded (n : Fin 8)  -- CB_LIMIT_EXCEEDED: R170
  | modelCrossCheck (n : Fin 8)  -- MODEL_CROSS_CHECK: R171
  | forceCheckDivergence (n : Fin 8)  -- FORCE_CHECK_DIVERGENCE: R171
  | obstacleStopRest (n : Fin 8)  -- OBSTACLE_STOP_REST: R175
  | learnRunEnd (n : Fin 8)  -- LEARN_RUN_END: R180
  | learnTimeout (n : Fin 8)  -- LEARN_TIMEOUT: R181
  | effSnap (n : Fin 8)  -- EFF_SNAP: R186
  | clrModel (n : Fin 8)  -- CLR_MODEL: R181
  | resetAdapt (n : Fin 8)  -- RESET_ADAPT: R184
  | porchStart (n : Fin 8)  -- PORCH_START: R190
  | porchStop (n : Fin 8)  -- PORCH_STOP: R190
  | preRelWrite (w : Word)  -- PRE_REL_WRITE: R190
  | preRelWindowOpen (side : Side)  -- PRE_REL_WINDOW_OPEN: R190
  | preRelWindowClose (side : Side)  -- PRE_REL_WINDOW_CLOSE: R190
  | frameStart (l : Fin 16) (m : FrameStartMsg)  -- FRAME_START: R195
  | row (l : Fin 16) (m : RowMsg)  -- ROW: R196
  | cal (l : Fin 16) (m : CalMsg)  -- CAL: R197
  | sync  -- SYNC: R198
  | calReq (l : Fin 16)  -- CAL_REQ: R194
  | linkUp (l : Fin 16) (polInv : Bool)  -- LINK_UP: R192
  | pwrfltActive (l : Fin 16)  -- PWRFLT_ACTIVE: R193
  | podlRetry (l : Fin 16)  -- PODL_RETRY: R193
  | frameDeadline (n : Fin 8)  -- FRAME_DEADLINE: R203
  | passPublish (n : Fin 8)  -- PASS_PUBLISH: R203
  | staleTimeout (n : Fin 8)  -- STALE_TIMEOUT: R213
  | rateEpoch  -- RATE_EPOCH: R202
  | porchQuery (n : Fin 8)  -- PORCH_QUERY: R221
  | freezeGrid (n : Fin 8) (on : Bool)  -- FREEZE_GRID: R208
  | linkDownTimeout (l : Fin 16)  -- LINK_DOWN_TIMEOUT: R222
  | calTimeout (l : Fin 16)  -- CAL_TIMEOUT: R222
  | syncErrTimeout (l : Fin 16)  -- SYNC_ERR_TIMEOUT: R222
  | noFrameTimeout (l : Fin 16)  -- NO_FRAME_TIMEOUT: R222
  | slClr (l : Fin 16)  -- SL_CLR: R222
  | oeFault (cause : OeCause)  -- OE_FAULT: R223
  | oeRestartDone  -- OE_RESTART_DONE: R223
  | occClr  -- OCC_CLR: R223
  | scTick (m : ScSample)  -- SC_TICK: R230
  | tracSettleElapsed  -- TRAC_SETTLE_ELAPSED: R232
  | tracFbMismatch  -- TRAC_FB_MISMATCH: R234
  | zspDiscrepancy  -- ZSP_DISCREPANCY: R237
  | zspAgree  -- ZSP_AGREE: R237
  | stepOutNoRelease (n : Fin 8)  -- STEP_OUT_NO_RELEASE: R240
  | egressStop (n : Fin 8)  -- EGRESS_STOP: R241
  | commandDisagreement (n : Fin 8)  -- COMMAND_DISAGREEMENT: R244
  | loopDarkPulse (low : Nat)  -- LOOP_DARK_PULSE: R247
  | loopOpen  -- LOOP_OPEN: R247
  | loopSrcOvercurrent  -- LOOP_SRC_OVERCURRENT: R249
  | tracRelOvercurrent  -- TRAC_REL_OVERCURRENT: R450
  | testPulse (o : TestOutput) (bright : Bool)  -- TEST_PULSE: R250
  | testPulseReadback (o : TestOutput) (r : Readback)  -- TEST_PULSE_READBACK: R251
  | diLevelChange (di : Fin 64) (level : Bool)  -- DI_LEVEL_CHANGE: R254
  | wettingPulse (di : Fin 64) (levelIn : Bool)  -- WETTING_PULSE: R255
  | comparatorDisagreement (di : Fin 64)  -- COMPARATOR_DISAGREEMENT: R256
  | scBootTestsDone  -- SC_BOOT_TESTS_DONE: R258
  | lockstepMismatch  -- LOCKSTEP_MISMATCH: R258
  | lockstepInjectionTest (pass : Bool)  -- LOCKSTEP_INJECTION_TEST: R258
  | scMemoryScrub (m : MemoryTest)  -- SC_MEMORY_SCRUB: R258
  | instructionSetTest (pass : Bool)  -- INSTRUCTION_SET_TEST: R258
  | inputComparatorTest (di : Fin 64) (pass : Bool)  -- INPUT_COMPARATOR_TEST: R258
  | adcReferenceCheck (pass : Bool)  -- ADC_REFERENCE_CHECK: R258
  | configCrcCheck  -- CONFIG_CRC_CHECK: R258
  | clockCrossCheck (sysclk safclk ref25 : Nat)  -- CLOCK_CROSS_CHECK: R25
  | safetyReset  -- SAFETY_RESET: R261
  | degradedCauseEnd (n : Fin 8) (cause : DegrCause)  -- DEGRADED_CAUSE_END: R259
  | degradedExpired (n : Fin 8)  -- DEGRADED_EXPIRED: R260
  | degradedHoldExpired (n : Fin 8)  -- DEGRADED_HOLD_EXPIRED: R260
  | safClr  -- SAF_CLR: R261
  | tilClr  -- TIL_CLR: R270
  | connect (t : Telegram) (via : Carrier)  -- CONNECT: R283
  | command (t : Telegram) (via : Carrier)  -- COMMAND: R284
  | transmitPeriod (k : Fin 8)  -- TRANSMIT_PERIOD: R276
  | connectionTimeout (k : Fin 8)  -- CONNECTION_TIMEOUT: R281
  | rxWinWrite (w : Word)  -- RX_WIN_WRITE: R288
  | rxPartialTimeout  -- RX_PARTIAL_TIMEOUT: R288
  | rxFlush  -- RX_FLUSH: R288
  | txWinRead  -- TX_WIN_READ: R288
  | lsinChange (c : Fin 48) (level : Bool)  -- LSIN_CHANGE: R292
  | lsgOnWrite (g : Fin 4) (w : Word)  -- LSG_ON_WRITE: R294
  | inrushWindowEnd (c : Fin 48)  -- INRUSH_WINDOW_END: R296
  | limitHoldTrip (c : Fin 48)  -- LIMIT_HOLD_TRIP: R295
  | overloadTrip (c : Fin 48)  -- OVERLOAD_TRIP: R297
  | shortToGround (c : Fin 48)  -- SHORT_TO_GROUND: R298
  | thermalShutdown (c : Fin 48)  -- THERMAL_SHUTDOWN: R299
  | channelCooled (c : Fin 48)  -- CHANNEL_COOLED: R301
  | freewheelMissing (c : Fin 48)  -- FREEWHEEL_MISSING: R300
  | retryTimer (c : Fin 48)  -- RETRY_TIMER: R301
  | retryRefill (c : Fin 48)  -- RETRY_REFILL: R302
  | lsgClr (g : Fin 4) (mask : BitVec 12)  -- LSG_CLR: R303
  | groupUndervoltage (g : Fin 4) (mv10 : Nat)  -- GROUP_UNDERVOLTAGE: R291
  | groupVoltageReturn (g : Fin 4) (mv10 : Nat)  -- GROUP_VOLTAGE_RETURN: R291
  | openLoadOn (c : Fin 48) (cleared : Bool)  -- OPEN_LOAD_ON: R306
  | offStateTest (c : Fin 48) (result : OffStateResult)  -- OFF_STATE_TEST: R307
  | senseSnapshot (g : Fin 4) (m : GroupMeas)  -- SENSE_SNAPSHOT: R309
  | sselChange (g : Fin 4) (code : Fin 16)  -- SSEL_CHANGE: R308
  | holdTimeout (c : Fin 48)  -- HOLD_TIMEOUT: R311
  | groupOvercurrent (g : Fin 4)  -- GROUP_OVERCURRENT: R313
  | groupOverClear (g : Fin 4)  -- GROUP_OVER_CLEAR: R313
  | pantryTick (m : PantryMeas)  -- PANTRY_TICK: R318
  | deferMaxExpired (ax : Fin 16)  -- DEFER_MAX_EXPIRED: R320
  | shedRotation  -- SHED_ROTATION: R322
  | refreshEscalation  -- REFRESH_ESCALATION: R323
  | heatStageRelease  -- HEAT_STAGE_RELEASE: R324
  | pkgCeilingRelease  -- PKG_CEILING_RELEASE: R325
  | pwrRequestCellar  -- PWR_REQUEST_CELLAR: R328
  | pwrRequestWatch  -- PWR_REQUEST_WATCH: R328
  | pwrRequestService  -- PWR_REQUEST_SERVICE: R328
  | watchBurst  -- WATCH_BURST: R329
  | wake (src : WakeSrc)  -- WAKE: R330
  | cellarStart (crystal : Bool)  -- CELLAR_START: R328
  | coreSupplyValid (hostsel : Fin 4) (unitB : Bool)  -- CORE_SUPPLY_VALID: R425
  | powerFail (holdsUp : Bool)  -- POWER_FAIL: R331
  | cellarSupplyLoss  -- CELLAR_SUPPLY_LOSS: R328
  | supplyMonitorCrossing (m : Monitor) (entered : Bool)  -- SUPPLY_MONITOR_CROSSING: R332
  | rtcSet  -- RTC_SET: R333
  | rtcAlarm  -- RTC_ALARM: R330
  | resetStuck (heldMs : Nat)  -- RESET_STUCK: R334
  | slowDomainWrite (addr : BitVec 20) (w : Word)  -- SLOW_DOMAIN_WRITE: R54
  | shadowRefresh  -- SHADOW_REFRESH: R53
  | bruvanState (m : Checked MirrorFrame)  -- STATE: R345
  | bruvanHealth (m : Checked HealthFrame)  -- HEALTH: R350
  | healthCompute  -- HEALTH_COMPUTE: R350
  | bruvanHandover (th : Checked Nat) (cause : Nat)  -- HANDOVER: R352
  | bruvanRecords (seq : Checked (BitVec 16)) (rs : List Record)  -- RECORDS: R376
  | bruvanVault (seq : Checked (BitVec 16)) (m : VaultFrame)  -- VAULT: R391
  | bruvanAdapt (seq : Checked (BitVec 16)) (n : Fin 8) (m : AdaptFrame)  -- ADAPT: R185
  | catchupReq (seq : Checked (BitVec 16)) (rseq : Option Nat)  -- CATCHUP_REQ: R360
  | bruvanAck (seq : Checked (BitVec 16))  -- ACK: R342
  | lane1Retransmit  -- LANE1_RETRANSMIT: R342
  | laneDown (rx : Bool) (lane : Fin 2)  -- LANE_DOWN: R343
  | linkLost  -- LINK_LOST: R343
  | mirrorStale  -- MIRROR_STALE: R343
  | pwmComma (err : Int) (delay : Nat)  -- PWM_COMMA: R344
  | partnerHeartbeatLoss  -- PARTNER_HEARTBEAT_LOSS: R346
  | ownHeartbeatLoss  -- OWN_HEARTBEAT_LOSS: R354
  | handoverRequest  -- HANDOVER_REQUEST: R351
  | healthHandover  -- HEALTH_HANDOVER: R351
  | handoverTime  -- HANDOVER_TIME: R352
  | overlapEnd  -- OVERLAP_END: R352
  | testPulseResume  -- TEST_PULSE_RESUME: R352
  | bothActive  -- BOTH_ACTIVE: R357
  | partnerWaitExpired  -- PARTNER_WAIT_EXPIRED: R348
  | syncComplete  -- SYNC_COMPLETE: R360
  | hashMismatchTimeout  -- HASH_MISMATCH_TIMEOUT: R391
  | resync  -- RESYNC: R347
  | stbyTest  -- STBY_TEST: R358
  | stbyTestDone (pass : Bool)  -- STBY_TEST_DONE: R358
  | claimStrobe  -- CLAIM_STROBE: R359
  | brvClr  -- BRV_CLR: R361
  | recordSubmit (p : Payload) (dw : Fin 9)  -- RECORD_SUBMIT: R367
  | dataPageWrite (r : NandResult)  -- DATA_PAGE_WRITE: R368
  | journalAreaWrite  -- JOURNAL_AREA_WRITE: R368
  | ldgFlush  -- LDG_FLUSH: R368
  | blockRefresh (r : NandResult)  -- BLOCK_REFRESH: R373
  | retentionCheck (bad : List (Nat × Nat))  -- RETENTION_CHECK: R374
  | ldgCheck  -- LDG_CHECK: R374
  | dayBoundary  -- DAY_BOUNDARY: R366
  | ldgQryReq  -- LDG_QRY_REQ: R378
  | ldgQryNext  -- LDG_QRY_NEXT: R378
  | ldgQryDone  -- LDG_QRY_DONE: R378
  | rdWinRead  -- RD_WIN_READ: R379
  | dmaGo  -- DMA_GO: R380
  | dmaAbort  -- DMA_ABORT: R380
  | dmaDone  -- DMA_DONE: R380
  | ldgClr  -- LDG_CLR: R382
  | pwWinWrite (w : Word)  -- PW_WIN_WRITE: R385
  | unlock  -- UNLOCK: R385
  | passwordCheckDone  -- PASSWORD_CHECK_DONE: R385
  | lockoutEnd  -- LOCKOUT_END: R385
  | sessionTimeout  -- SESSION_TIMEOUT: R387
  | abort  -- ABORT: R387
  | newpw  -- NEWPW: R387
  | commit  -- COMMIT: R389
  | commitDone (good : Bool)  -- COMMIT_DONE: R390
  | fsConfirmTimeout (g : Fin 4)  -- FS_CONFIRM_TIMEOUT: R390
  | fsPushRetry (g : Fin 4) (confirmed : Bool)  -- FS_PUSH_RETRY: R390
  | canFrameReceived (b : Fin 4) (f : CanFrame)  -- CAN_FRAME_RECEIVED: R406
  | canTxReq (b : Fin 4) (buf : Fin 64)  -- CAN_TX_REQ: R409
  | txCancel (b : Fin 4) (buf : Fin 64) (won : Bool)  -- TX_CANCEL: R411
  | canTxComplete (b : Fin 4)  -- CAN_TX_COMPLETE: R411
  | canTxError (b : Fin 4) (err : Fin 8) (data : Bool)  -- CAN_TX_ERROR: R410
  | boRecover (b : Fin 4)  -- BO_RECOVER: R414
  | boDelayExpired (b : Fin 4)  -- BO_DELAY_EXPIRED: R414
  | busOffRecoveryDone (b : Fin 4)  -- BUS_OFF_RECOVERY_DONE: R414
  | canIntegrated (b : Fin 4)  -- CAN_INTEGRATED: R402
  | queueRel (b : Fin 4) (q : Fin 4) (w : Word)  -- QUEUE_REL: R408
  | tlogRel (b : Fin 4) (w : Word)  -- TLOG_REL: R408
  | canRxStuck (b : Fin 4)  -- CAN_RX_STUCK: R416
  | canClr (b : Fin 4)  -- CAN_CLR: R417
  | mvbMasterFrame (a b : LineFrame) (fcode : Fin 16) (addr : BitVec 12)  -- MVB_MASTER_FRAME: R418
  | mvbSlaveFrame (a b : LineFrame) (data : List Byte)  -- MVB_SLAVE_FRAME: R420
  | mvbLineTimeout (line : Bool)  -- MVB_LINE_TIMEOUT: R419
  | portFreshnessTimeout (k : Fin 256)  -- PORT_FRESHNESS_TIMEOUT: R420
  | mvbPortSnap  -- MVB_PORT_SNAP: R421
  | mvbPortCommit  -- MVB_PORT_COMMIT: R421
  | resetNAssert  -- RESET_N_ASSERT: R426
  | resetNRelease (hostsel : Fin 4) (unitB : Bool)  -- RESET_N_RELEASE: R429
  | bootReady  -- BOOT_READY: R433
  | dieLinkTimeout (die : Die)  -- DIE_LINK_TIMEOUT: R433
  | srstKeyWrite (w : Word)  -- SRST_KEY_WRITE: R435
  | sreset  -- SRESET: R435
  | erase  -- ERASE: R434
  | fwWinWrite (w : Word)  -- FW_WIN_WRITE: R434
  | verify  -- VERIFY: R434
  | activate  -- ACTIVATE: R434
  | confirm  -- CONFIRM: R434
  | fwCommandDone  -- FW_COMMAND_DONE: R434
  | trialTimeout  -- TRIAL_TIMEOUT: R434
  | vbatReversed (g : Fin 4)  -- VBAT_REVERSED: R437
  | switchDieHeartbeatLoss (g : Fin 4)  -- SWITCH_DIE_HEARTBEAT_LOSS: R20
  | gateDieHeartbeatLoss (die : Fin 2)  -- GATE_DIE_HEARTBEAT_LOSS: R20
  | dieHeartbeat (die : Die) (delivered : Bool)  -- DIE_HEARTBEAT: R20
  | clocksReady  -- CLOCKS_READY: R24
  | eccError (src : EccSource) (loc : Word) (corrected : Bool)  -- ECC_ERROR: R28
  | hpbLowHalfWrite (addr : BitVec 20) (v : BitVec 16)  -- HPB_LOW_HALF_WRITE: R32
  | hpbHighHalfWrite (addr : BitVec 20) (v : BitVec 16)  -- HPB_HIGH_HALF_WRITE: R32
  | hpbLowHalfRead (addr : BitVec 20)  -- HPB_LOW_HALF_READ: R33
  | hpbHighHalfRead (addr : BitVec 20)  -- HPB_HIGH_HALF_READ: R33
  | qsWrite (addr : BitVec 24) (bytes : List Byte)  -- QS_WRITE: R34
  | qsRead (head : QsHead) (len : Nat)  -- QS_READ: R34
  | qsFastRead (addr : BitVec 24) (len : Nat)  -- QS_FAST_READ: R34
  | qsStatus (len : Nat)  -- QS_STATUS: R35
  | qsModeReset  -- QS_MODE_RESET: R36
  | pcieBar0Write (addr : BitVec 20) (dws : List (Word × BitVec 4))  -- PCIE_BAR0_WRITE: R39
  | pcieBar0Read (addr : BitVec 20) (len : Nat)  -- PCIE_BAR0_READ: R39
  | pcieBar2Read (addr : BitVec 29) (len : Nat)  -- PCIE_BAR2_READ: R40
  | pcieBar2Write (addr : BitVec 29)  -- PCIE_BAR2_WRITE: R40
  | pePerstAssert  -- PE_PERST_ASSERT: R41
  | unmappedPageAccess (addr : BitVec 20) (write : Bool)  -- UNMAPPED_PAGE_ACCESS: R42
  | counter64LowRead (addr : BitVec 20)  -- COUNTER64_LOW_READ: R47
  | counter64HighRead (addr : BitVec 20)  -- COUNTER64_HIGH_READ: R47
  | registerWrite (addr : BitVec 20) (w : Word)  -- REGISTER_WRITE: R52
  | pageEnable (page : BitVec 8)  -- PAGE_ENABLE: R51
  | pageDisable (page : BitVec 8)  -- PAGE_DISABLE: R89
  | evtForce (page : BitVec 8) (w : Word)  -- EVT_FORCE: R43
  | wdKeyWrite (w : Word)  -- WD_KEY_WRITE: R57
  | wdBootExpired  -- WD_BOOT_EXPIRED: R56
  | wdMaxExpired  -- WD_MAX_EXPIRED: R57
  | wdWarn  -- WD_WARN: R57
  | rearm  -- REARM: R56
  | msiEoi (w : Word)  -- MSI_EOI: R63
  | msiUnmask (v : Fin 16)  -- MSI_UNMASK: R63
  | clk32RcFallback  -- CLK32_RC_FALLBACK: R23
  | pePerstRelease  -- PE_PERST_RELEASE: R41
  | pcieConfigRequest (offset : BitVec 12) (wr : Option (Word × BitVec 4))  -- PCIE_CONFIG_REQUEST: R38
  | pcieLinkChange (up : Bool) (gen2 : Bool)  -- PCIE_LINK_CHANGE: R41
  | slLinkDown (l : Fin 16)  -- SL_LINK_DOWN: R227
  | laneUp (rx : Bool) (lane : Fin 2)  -- LANE_UP: R343
  | partnerHeartbeatReturn  -- PARTNER_HEARTBEAT_RETURN: R346
  | commaTimeout  -- COMMA_TIMEOUT: R344
  | canRxError (b : Fin 4) (err : Fin 8) (data : Bool)  -- CAN_RX_ERROR: R412
  | wireBreakCleared (p : Fin 16) (pair : Pair)  -- WIRE_BREAK_CLEARED: R150
  | engineRestartDone (e : RestartEngine)  -- ENGINE_RESTART_DONE: R27
deriving DecidableEq, Repr

end Sys2Proof
end

