-- ==== Sys2Proof/Machine/RegNames.lean ====
section
/-! DEFINITION. The named places of every register and field that the spec's register tables give, one constant for each
(written out from the tables of R43, R64, R65, R93, R130, R158, R159, R187, R225 to R227, R270, R271, R289, R315, R335 to
R338, R361, R382, R396, R417, R424, R438 and R464). A name is the spec's own: `DW.STATE_DW_STATE n` is DWn.STATE.DW_STATE.
The first argument of a page with instances is the instance; a second one is the index of an array register, or of the field
where a register holds one field per channel, zone, role, input or source. A register name without a field is its whole word. -/

namespace Sys2Proof.Machine

/-- A field of the register window: the byte address of its word, its lowest bit and its width. -/
structure Fld where
  addr  : Nat
  lo    : Nat
  width : Nat
deriving DecidableEq, Repr

/-! The common page header (R43); the argument is the page number. -/

def HDR.PAGE_CTRL (page : Nat) : Fld := ⟨4096 * page + 0x004, 0, 32⟩
def HDR.ENABLE (page : Nat) : Fld := ⟨4096 * page + 0x004, 0, 1⟩
def HDR.FREEZE (page : Nat) : Fld := ⟨4096 * page + 0x004, 1, 1⟩
def HDR.PAGE_STAT (page : Nat) : Fld := ⟨4096 * page + 0x008, 0, 32⟩
def HDR.ACTIVE (page : Nat) : Fld := ⟨4096 * page + 0x008, 0, 1⟩
def HDR.BUSY (page : Nat) : Fld := ⟨4096 * page + 0x008, 1, 1⟩
def HDR.CFG_REJ (page : Nat) : Fld := ⟨4096 * page + 0x008, 2, 1⟩
def HDR.COLLIDE (page : Nat) : Fld := ⟨4096 * page + 0x008, 3, 1⟩
def HDR.SLOW (page : Nat) : Fld := ⟨4096 * page + 0x008, 4, 1⟩
def HDR.EVT (page : Nat) : Fld := ⟨4096 * page + 0x00C, 0, 32⟩
def HDR.EVT_EN (page : Nat) : Fld := ⟨4096 * page + 0x010, 0, 32⟩
def HDR.REJ_OFFS (page : Nat) : Fld := ⟨4096 * page + 0x018, 0, 12⟩
def HDR.SHADOW_SEQ (page : Nat) : Fld := ⟨4096 * page + 0x01C, 0, 32⟩
def HDR.EVT_BIT (page bit : Nat) : Fld := ⟨4096 * page + 0x00C, bit, 1⟩
def HDR.EVT_EN_BIT (page bit : Nat) : Fld := ⟨4096 * page + 0x010, bit, 1⟩

/-! The SYS page (R438). -/

def SYS.CHIP_ID : Fld := ⟨0x00040, 0, 32⟩
def SYS.CHIP_ID_PART : Fld := ⟨0x00040, 0, 16⟩
def SYS.CHIP_ID_REV : Fld := ⟨0x00040, 16, 8⟩
def SYS.BOOT_STAT : Fld := ⟨0x00044, 0, 32⟩
def SYS.BOOT_STAT_STAGE : Fld := ⟨0x00044, 0, 4⟩
def SYS.BOOT_STAT_READY : Fld := ⟨0x00044, 4, 1⟩
def SYS.BOOT_STAT_SLOT : Fld := ⟨0x00044, 5, 1⟩
def SYS.BOOT_STAT_ERR : Fld := ⟨0x00044, 8, 4⟩
def SYS.BOOT_T : Fld := ⟨0x00048, 0, 32⟩
def SYS.BOOT_T_T : Fld := ⟨0x00048, 0, 16⟩
def SYS.RST_CAUSE : Fld := ⟨0x0004C, 0, 32⟩
def SYS.RST_CAUSE_CAUSE : Fld := ⟨0x0004C, 0, 8⟩
def SYS.SRST_KEY : Fld := ⟨0x00050, 0, 32⟩
def SYS.CTRL : Fld := ⟨0x00054, 0, 32⟩
def SYS.CTRL_SRESET : Fld := ⟨0x00054, 0, 1⟩
def SYS.RECOV : Fld := ⟨0x00058, 0, 32⟩
def SYS.RECOV_REV : Fld := ⟨0x00058, 0, 4⟩
def SYS.RECOV_UNITSEL_CLASH : Fld := ⟨0x00058, 4, 1⟩
def SYS.FW_CTRL : Fld := ⟨0x00060, 0, 32⟩
def SYS.FW_CTRL_ERASE : Fld := ⟨0x00060, 0, 1⟩
def SYS.FW_CTRL_VERIFY : Fld := ⟨0x00060, 1, 1⟩
def SYS.FW_CTRL_ACTIVATE : Fld := ⟨0x00060, 2, 1⟩
def SYS.FW_CTRL_CONFIRM : Fld := ⟨0x00060, 3, 1⟩
def SYS.FW_STAT : Fld := ⟨0x00064, 0, 32⟩
def SYS.FW_STAT_STATE : Fld := ⟨0x00064, 0, 3⟩
def SYS.FW_STAT_BUSY : Fld := ⟨0x00064, 3, 1⟩
def SYS.FW_STAT_TRIAL : Fld := ⟨0x00064, 4, 1⟩
def SYS.FW_STAT_ERR : Fld := ⟨0x00064, 5, 3⟩
def SYS.FW_STAT_TRIAL_LEFT : Fld := ⟨0x00064, 16, 16⟩
def SYS.FW_ADDR : Fld := ⟨0x00068, 0, 32⟩
def SYS.FW_ADDR_ADDR : Fld := ⟨0x00068, 0, 22⟩
def SYS.FW_WIN : Fld := ⟨0x0006C, 0, 32⟩
def SYS.FW_VER_A : Fld := ⟨0x00070, 0, 32⟩
def SYS.FW_VER_B : Fld := ⟨0x00074, 0, 32⟩
def SYS.FW_MIN : Fld := ⟨0x00078, 0, 32⟩
def SYS.ECC_CNT : Fld := ⟨0x0007C, 0, 32⟩

/-! The HIF page (R64). -/

def HIF.HOST_CFG : Fld := ⟨0x01040, 0, 32⟩
def HIF.HOST_CFG_HOSTSEL : Fld := ⟨0x01040, 0, 2⟩
def HIF.QS_CTRL : Fld := ⟨0x01044, 0, 32⟩
def HIF.QS_CTRL_QUAD : Fld := ⟨0x01044, 0, 1⟩
def HIF.ERR_ADDR : Fld := ⟨0x01048, 0, 32⟩
def HIF.ERR_ADDR_ADDR : Fld := ⟨0x01048, 0, 20⟩
def HIF.ERR_INFO : Fld := ⟨0x0104C, 0, 32⟩
def HIF.ERR_INFO_CAUSE : Fld := ⟨0x0104C, 0, 4⟩
def HIF.ERR_INFO_WRITE : Fld := ⟨0x0104C, 4, 1⟩
def HIF.ERR_CNT : Fld := ⟨0x01050, 0, 32⟩
def HIF.ECC_CNT : Fld := ⟨0x01054, 0, 32⟩
def HIF.WD_CTRL : Fld := ⟨0x01060, 0, 32⟩
def HIF.WD_CTRL_REARM : Fld := ⟨0x01060, 0, 1⟩
def HIF.WD_KEY : Fld := ⟨0x01064, 0, 32⟩
def HIF.WD_MIN : Fld := ⟨0x01068, 0, 32⟩
def HIF.WD_MIN_MIN : Fld := ⟨0x01068, 0, 10⟩
def HIF.WD_MAX : Fld := ⟨0x0106C, 0, 32⟩
def HIF.WD_MAX_MAX : Fld := ⟨0x0106C, 0, 10⟩
def HIF.WD_BOOT : Fld := ⟨0x01070, 0, 32⟩
def HIF.WD_BOOT_BOOT : Fld := ⟨0x01070, 0, 16⟩
def HIF.WD_STAT : Fld := ⟨0x01074, 0, 32⟩
def HIF.WD_STAT_STATE : Fld := ⟨0x01074, 0, 3⟩
def HIF.WD_STAT_CAUSE : Fld := ⟨0x01074, 3, 3⟩
def HIF.WD_STAT_NEXT : Fld := ⟨0x01074, 6, 1⟩
def HIF.WD_STAT_ELAPSED : Fld := ⟨0x01074, 16, 16⟩
def HIF.WD_EXP_CNT : Fld := ⟨0x01078, 0, 32⟩
def HIF.WD_EXP_CNT_COUNT : Fld := ⟨0x01078, 0, 16⟩
def HIF.PE_STAT : Fld := ⟨0x01080, 0, 32⟩
def HIF.PE_STAT_LINK_UP : Fld := ⟨0x01080, 0, 1⟩
def HIF.PE_STAT_SPEED : Fld := ⟨0x01080, 1, 2⟩
def HIF.PE_STAT_GRANTED : Fld := ⟨0x01080, 3, 5⟩

/-! The EVA page (R65). -/

def EVA.EVT_SUM0 : Fld := ⟨0x02040, 0, 32⟩
def EVA.EVT_SUM1 : Fld := ⟨0x02044, 0, 32⟩
def EVA.EVT_SUM2 : Fld := ⟨0x02048, 0, 32⟩
def EVA.LINE_STAT : Fld := ⟨0x0204C, 0, 32⟩
def EVA.LINE_STAT_INT : Fld := ⟨0x0204C, 0, 1⟩
def EVA.LINE_STAT_SINT : Fld := ⟨0x0204C, 1, 1⟩
def EVA.MSI_EOI : Fld := ⟨0x02050, 0, 32⟩
def EVA.MSI_EOI_VEC : Fld := ⟨0x02050, 0, 4⟩
def EVA.MSI_PEND : Fld := ⟨0x02054, 0, 32⟩
def EVA.MSI_PEND_PEND : Fld := ⟨0x02054, 0, 16⟩
def EVA.ROUTE (i : Nat) : Fld := ⟨0x02080 + 4 * i, 0, 32⟩
def EVA.ROUTE_ROUTE (i : Nat) : Fld := ⟨0x02080 + 4 * (i / 4), 8 * (i % 4), 8⟩

/-! The CEL page (R337). -/

def CEL.WAKE_EN : Fld := ⟨0x03040, 0, 32⟩
def CEL.WAKE_EN_EN : Fld := ⟨0x03040, 0, 8⟩
def CEL.WAKE_EN_CAN_WAKE : Fld := ⟨0x03040, 16, 4⟩
def CEL.DI_WAKE0 : Fld := ⟨0x03044, 0, 32⟩
def CEL.DI_WAKE1 : Fld := ⟨0x03048, 0, 32⟩
def CEL.WAKE_SRC : Fld := ⟨0x0304C, 0, 32⟩
def CEL.WAKE_SRC_SRC : Fld := ⟨0x0304C, 0, 8⟩
def CEL.RST_CAUSE : Fld := ⟨0x03050, 0, 32⟩
def CEL.RST_CAUSE_CAUSE : Fld := ⟨0x03050, 0, 8⟩
def CEL.RSTK_LO : Fld := ⟨0x03054, 0, 32⟩
def CEL.RSTK_HI : Fld := ⟨0x03058, 0, 32⟩
def CEL.RSTK_HI_TIME : Fld := ⟨0x03058, 0, 16⟩
def CEL.SESSION : Fld := ⟨0x0305C, 0, 32⟩
def CEL.SESSION_SESSION : Fld := ⟨0x0305C, 0, 16⟩
def CEL.STAT : Fld := ⟨0x03060, 0, 32⟩
def CEL.STAT_CEL_LOST : Fld := ⟨0x03060, 0, 1⟩
def CEL.STAT_XTAL32 : Fld := ⟨0x03060, 1, 1⟩
def CEL.ON_H : Fld := ⟨0x03080, 0, 32⟩
def CEL.SERVICE_H : Fld := ⟨0x03084, 0, 32⟩
def CEL.WATCH_H : Fld := ⟨0x03088, 0, 32⟩
def CEL.BOOT_CNT : Fld := ⟨0x0308C, 0, 32⟩
def CEL.PF_CNT : Fld := ⟨0x03090, 0, 32⟩
def CEL.RSTK_CNT : Fld := ⟨0x03094, 0, 32⟩
def CEL.T_WARN_M : Fld := ⟨0x03098, 0, 32⟩
def CEL.T_HOT_M : Fld := ⟨0x0309C, 0, 32⟩
def CEL.T_OVER_M : Fld := ⟨0x030A0, 0, 32⟩
def CEL.TJ_PEAK : Fld := ⟨0x030A4, 0, 32⟩
def CEL.TJ_PEAK_T : Fld := ⟨0x030A4, 0, 16⟩

/-! The TMR page (R338). -/

def TMR.RTC_LO : Fld := ⟨0x04040, 0, 32⟩
def TMR.RTC_HI : Fld := ⟨0x04044, 0, 32⟩
def TMR.RTC_HI_RTC : Fld := ⟨0x04044, 0, 16⟩
def TMR.SET_LO : Fld := ⟨0x04048, 0, 32⟩
def TMR.SET_HI : Fld := ⟨0x0404C, 0, 32⟩
def TMR.SET_HI_SET : Fld := ⟨0x0404C, 0, 16⟩
def TMR.CTRL : Fld := ⟨0x04050, 0, 32⟩
def TMR.CTRL_SET : Fld := ⟨0x04050, 0, 1⟩
def TMR.CTRL_ALARM_EN : Fld := ⟨0x04050, 1, 1⟩
def TMR.ALARM_LO : Fld := ⟨0x04054, 0, 32⟩
def TMR.ALARM_HI : Fld := ⟨0x04058, 0, 32⟩
def TMR.ALARM_HI_ALARM : Fld := ⟨0x04058, 0, 16⟩
def TMR.TRIM : Fld := ⟨0x0405C, 0, 32⟩
def TMR.TRIM_TRIM : Fld := ⟨0x0405C, 0, 16⟩
def TMR.STAT : Fld := ⟨0x04060, 0, 32⟩
def TMR.STAT_RTC_VALID : Fld := ⟨0x04060, 0, 1⟩
def TMR.STAT_RC_SRC : Fld := ⟨0x04060, 1, 1⟩
def TMR.LAST_STEP : Fld := ⟨0x04064, 0, 32⟩
def TMR.SYNC_LOG : Fld := ⟨0x04068, 0, 32⟩
def TMR.SYNC_LOG_T : Fld := ⟨0x04068, 0, 16⟩

/-! The PWR page (R336). -/

def PWR.CFG : Fld := ⟨0x05040, 0, 32⟩
def PWR.CFG_VBAT_SYS : Fld := ⟨0x05040, 0, 2⟩
def PWR.CFG_PF_T : Fld := ⟨0x05040, 8, 8⟩
def PWR.CFG_PF_TH : Fld := ⟨0x05040, 16, 16⟩
def PWR.VBAT_AB : Fld := ⟨0x05044, 0, 32⟩
def PWR.VBAT_AB_VBAT0 : Fld := ⟨0x05044, 0, 16⟩
def PWR.VBAT_AB_VBAT1 : Fld := ⟨0x05044, 16, 16⟩
def PWR.VBAT_CD : Fld := ⟨0x05048, 0, 32⟩
def PWR.VBAT_CD_VBAT0 : Fld := ⟨0x05048, 0, 16⟩
def PWR.VBAT_CD_VBAT1 : Fld := ⟨0x05048, 16, 16⟩
def PWR.VDD_A : Fld := ⟨0x0504C, 0, 32⟩
def PWR.VDD_A_VDD08 : Fld := ⟨0x0504C, 0, 16⟩
def PWR.VDD_A_VDD11 : Fld := ⟨0x0504C, 16, 16⟩
def PWR.VDD_B : Fld := ⟨0x05050, 0, 32⟩
def PWR.VDD_B_VDD33 : Fld := ⟨0x05050, 0, 16⟩
def PWR.VDD_B_VGD : Fld := ⟨0x05050, 16, 16⟩
def PWR.VHOLD_VCEL : Fld := ⟨0x05054, 0, 32⟩
def PWR.VHOLD_VCEL_VHOLD : Fld := ⟨0x05054, 0, 16⟩
def PWR.VHOLD_VCEL_VCEL : Fld := ⟨0x05054, 16, 16⟩
def PWR.TEMP_A : Fld := ⟨0x05058, 0, 32⟩
def PWR.TEMP_A_TJ0 : Fld := ⟨0x05058, 0, 16⟩
def PWR.TEMP_A_TJ1 : Fld := ⟨0x05058, 16, 16⟩
def PWR.TEMP_B : Fld := ⟨0x0505C, 0, 32⟩
def PWR.TEMP_B_TJ0 : Fld := ⟨0x0505C, 0, 16⟩
def PWR.TEMP_B_TJ1 : Fld := ⟨0x0505C, 16, 16⟩
def PWR.TEMP_C : Fld := ⟨0x05060, 0, 32⟩
def PWR.TEMP_C_TJ0 : Fld := ⟨0x05060, 0, 16⟩
def PWR.TEMP_C_TJ1 : Fld := ⟨0x05060, 16, 16⟩
def PWR.TEMP_D : Fld := ⟨0x05064, 0, 32⟩
def PWR.TEMP_D_TJ0 : Fld := ⟨0x05064, 0, 16⟩
def PWR.TEMP_D_TJ1 : Fld := ⟨0x05064, 16, 16⟩
def PWR.PKG : Fld := ⟨0x05068, 0, 32⟩
def PWR.PKG_PKG_P : Fld := ⟨0x05068, 0, 16⟩
def PWR.PKG_PKG_PEAK : Fld := ⟨0x05068, 16, 16⟩
def PWR.SUP_STAT : Fld := ⟨0x0506C, 0, 32⟩
def PWR.SUP_STAT_UV : Fld := ⟨0x0506C, 0, 8⟩
def PWR.SUP_STAT_OV : Fld := ⟨0x0506C, 8, 8⟩
def PWR.SUP_STAT_SURGE : Fld := ⟨0x0506C, 16, 4⟩
def PWR.SUP_CNT : Fld := ⟨0x05070, 0, 32⟩
def PWR.CTRL : Fld := ⟨0x05800, 0, 32⟩
def PWR.CTRL_REQ : Fld := ⟨0x05800, 0, 2⟩
def PWR.CTRL_GO : Fld := ⟨0x05800, 8, 1⟩
def PWR.STATE : Fld := ⟨0x05804, 0, 32⟩
def PWR.STATE_STATE : Fld := ⟨0x05804, 0, 2⟩
def PWR.STATE_REJ : Fld := ⟨0x05804, 4, 3⟩
def PWR.STATE_WAKE : Fld := ⟨0x05804, 8, 8⟩
def PWR.WATCH_CFG : Fld := ⟨0x05808, 0, 32⟩
def PWR.WATCH_CFG_WATCH_P : Fld := ⟨0x05808, 0, 10⟩

/-! The PBS page (R335). -/

def PBS.CFG : Fld := ⟨0x06040, 0, 32⟩
def PBS.CFG_BUDGET : Fld := ⟨0x06040, 0, 16⟩
def PBS.CFG_P_FIXED : Fld := ⟨0x06040, 16, 16⟩
def PBS.ADMIT : Fld := ⟨0x06044, 0, 32⟩
def PBS.ADMIT_DEFER_MAX : Fld := ⟨0x06044, 0, 10⟩
def PBS.ADMIT_STAGGER_T : Fld := ⟨0x06044, 16, 8⟩
def PBS.ADMIT_START_MAX : Fld := ⟨0x06044, 24, 4⟩
def PBS.P2_MASK0 : Fld := ⟨0x06048, 0, 32⟩
def PBS.P2_MASK1 : Fld := ⟨0x0604C, 0, 32⟩
def PBS.P2_MASK1_LS : Fld := ⟨0x0604C, 0, 16⟩
def PBS.ROT : Fld := ⟨0x06050, 0, 32⟩
def PBS.ROT_ROT_T : Fld := ⟨0x06050, 0, 16⟩
def PBS.ROT_MIN_OFF : Fld := ⟨0x06050, 16, 16⟩
def PBS.E_ALLOW : Fld := ⟨0x06054, 0, 32⟩
def PBS.ENERGY : Fld := ⟨0x06058, 0, 32⟩
def PBS.ENERGY_E_LOW : Fld := ⟨0x06058, 0, 7⟩
def PBS.ENERGY_AUTO_CELLAR : Fld := ⟨0x06058, 8, 1⟩
def PBS.ENERGY_STABLED : Fld := ⟨0x06058, 16, 1⟩
def PBS.THERM : Fld := ⟨0x0605C, 0, 32⟩
def PBS.THERM_PKG_MAX : Fld := ⟨0x0605C, 0, 8⟩
def PBS.THERM_ETA : Fld := ⟨0x0605C, 8, 8⟩
def PBS.STAT : Fld := ⟨0x06080, 0, 32⟩
def PBS.STAT_P_NOW : Fld := ⟨0x06080, 0, 16⟩
def PBS.STAT_HEADROOM : Fld := ⟨0x06080, 16, 16⟩
def PBS.LOAD : Fld := ⟨0x06084, 0, 32⟩
def PBS.LOAD_P_LOADS : Fld := ⟨0x06084, 0, 16⟩
def PBS.LOAD_P_MOTION : Fld := ⟨0x06084, 16, 16⟩
def PBS.HEAT : Fld := ⟨0x06088, 0, 32⟩
def PBS.HEAT_HEAT_STAGE : Fld := ⟨0x06088, 0, 2⟩
def PBS.HEAT_PKG_STAGE : Fld := ⟨0x06088, 2, 2⟩
def PBS.HEAT_E_STAGE : Fld := ⟨0x06088, 4, 2⟩
def PBS.HEAT_RATE_LIM : Fld := ⟨0x06088, 6, 2⟩
def PBS.PENDING : Fld := ⟨0x0608C, 0, 32⟩
def PBS.PENDING_DEFERRED : Fld := ⟨0x0608C, 0, 8⟩
def PBS.PENDING_RESERVED : Fld := ⟨0x0608C, 8, 8⟩
def PBS.PRED (i : Nat) : Fld := ⟨0x06090 + 4 * i, 0, 32⟩
def PBS.PRED_DOOR (i : Nat) : Fld := ⟨0x06090 + 4 * i, 0, 16⟩
def PBS.PRED_STEP (i : Nat) : Fld := ⟨0x06090 + 4 * i, 16, 16⟩
def PBS.SHED0 : Fld := ⟨0x060B0, 0, 32⟩
def PBS.SHED1 : Fld := ⟨0x060B4, 0, 32⟩
def PBS.SHED1_LS : Fld := ⟨0x060B4, 0, 16⟩
def PBS.E_LEFT : Fld := ⟨0x060B8, 0, 32⟩
def PBS.P3_STAT : Fld := ⟨0x060BC, 0, 32⟩
def PBS.P3_STAT_DUE : Fld := ⟨0x060BC, 0, 4⟩
def PBS.P3_STAT_RUN : Fld := ⟨0x060BC, 4, 4⟩
def PBS.P3_STAT_ESC : Fld := ⟨0x060BC, 8, 1⟩
def PBS.P3_STAT_P_TASK : Fld := ⟨0x060BC, 16, 16⟩
def PBS.DEFER_CNT : Fld := ⟨0x060C0, 0, 32⟩
def PBS.OVERRUN_CNT : Fld := ⟨0x060C4, 0, 32⟩
def PBS.SHED_CNT : Fld := ⟨0x060C8, 0, 32⟩
def PBS.MAX_DEFER : Fld := ⟨0x060CC, 0, 32⟩
def PBS.MAX_DEFER_T : Fld := ⟨0x060CC, 0, 16⟩

/-! The VLT page (R396). -/

def VLT.STAT : Fld := ⟨0x07040, 0, 32⟩
def VLT.STAT_SESSION : Fld := ⟨0x07040, 0, 1⟩
def VLT.STAT_LOCKOUT : Fld := ⟨0x07040, 1, 1⟩
def VLT.STAT_BANK : Fld := ⟨0x07040, 2, 1⟩
def VLT.STAT_A_VALID : Fld := ⟨0x07040, 3, 1⟩
def VLT.STAT_B_VALID : Fld := ⟨0x07040, 4, 1⟩
def VLT.STAT_DELIVERY : Fld := ⟨0x07040, 5, 1⟩
def VLT.STAT_COMMITTING : Fld := ⟨0x07040, 6, 1⟩
def VLT.STAT_FS_UNCONF : Fld := ⟨0x07040, 8, 4⟩
def VLT.STAT_FAIL_CNT : Fld := ⟨0x07040, 16, 3⟩
def VLT.SESSION_LEFT : Fld := ⟨0x07044, 0, 32⟩
def VLT.SESSION_LEFT_S : Fld := ⟨0x07044, 0, 10⟩
def VLT.LOCK_LEFT : Fld := ⟨0x07048, 0, 32⟩
def VLT.LOCK_LEFT_S : Fld := ⟨0x07048, 0, 6⟩
def VLT.GEN : Fld := ⟨0x0704C, 0, 32⟩
def VLT.HASH (i : Nat) : Fld := ⟨0x07050 + 4 * i, 0, 32⟩
def VLT.PW_LEN : Fld := ⟨0x07070, 0, 32⟩
def VLT.PW_LEN_LEN : Fld := ⟨0x07070, 0, 6⟩
def VLT.PW_WIN : Fld := ⟨0x07074, 0, 32⟩
def VLT.CTRL : Fld := ⟨0x07078, 0, 32⟩
def VLT.CTRL_UNLOCK : Fld := ⟨0x07078, 0, 1⟩
def VLT.CTRL_COMMIT : Fld := ⟨0x07078, 1, 1⟩
def VLT.CTRL_ABORT : Fld := ⟨0x07078, 2, 1⟩
def VLT.CTRL_NEWPW : Fld := ⟨0x07078, 3, 1⟩
def VLT.CMT_STAT : Fld := ⟨0x07080, 0, 32⟩
def VLT.CMT_REASON : Fld := ⟨0x07084, 0, 32⟩
def VLT.CMT_REASON_REASON : Fld := ⟨0x07084, 0, 4⟩
def VLT.COMMIT_CNT : Fld := ⟨0x07088, 0, 32⟩
def VLT.FAIL_TOTAL : Fld := ⟨0x0708C, 0, 32⟩
def VLT.LOCKOUT_CNT : Fld := ⟨0x07090, 0, 32⟩
def VLT.SUBSYS_ID : Fld := ⟨0x07094, 0, 32⟩
def VLT.SUBSYS_ID_SVID : Fld := ⟨0x07094, 0, 16⟩
def VLT.SUBSYS_ID_SSID : Fld := ⟨0x07094, 16, 16⟩
def VLT.ECC_CNT : Fld := ⟨0x07098, 0, 32⟩
def VLT.FAULT : Fld := ⟨0x070A0, 0, 32⟩
def VLT.FAULT_CAUSE : Fld := ⟨0x070A0, 0, 8⟩
def VLT.FAULT_ACTIVE : Fld := ⟨0x070A0, 8, 1⟩
def VLT.FAULT_LOC : Fld := ⟨0x070A4, 0, 32⟩
def VLT.LOG_SEL : Fld := ⟨0x070A8, 0, 32⟩
def VLT.LOG_SEL_BACK : Fld := ⟨0x070A8, 0, 8⟩
def VLT.LOG_HEAD : Fld := ⟨0x070AC, 0, 32⟩
def VLT.LOG_HEAD_COUNT : Fld := ⟨0x070AC, 0, 9⟩
def VLT.LOG_ENTRY (i : Nat) : Fld := ⟨0x07100 + 4 * i, 0, 32⟩

/-! The SAF page (R464). -/

def SAF.CFG : Fld := ⟨0x08040, 0, 32⟩
def SAF.CFG_DEGR_TMAX : Fld := ⟨0x08040, 0, 16⟩
def SAF.CFG_EGR_UNLOCK : Fld := ⟨0x08040, 16, 1⟩
def SAF.CFG_DW_USED : Fld := ⟨0x08040, 24, 8⟩
def SAF.TP : Fld := ⟨0x08044, 0, 32⟩
def SAF.TP_TP_W : Fld := ⟨0x08044, 0, 16⟩
def SAF.TP_TP_P : Fld := ⟨0x08044, 16, 16⟩
def SAF.BRIGHT0 : Fld := ⟨0x08048, 0, 32⟩
def SAF.BRIGHT1 : Fld := ⟨0x0804C, 0, 32⟩
def SAF.BRIGHT1_LS : Fld := ⟨0x0804C, 0, 16⟩
def SAF.CFG_CRC : Fld := ⟨0x08050, 0, 32⟩
def SAF.EGR : Fld := ⟨0x08054, 0, 32⟩
def SAF.EGR_EGR_STOP_T : Fld := ⟨0x08054, 0, 16⟩
def SAF.STAT : Fld := ⟨0x08060, 0, 32⟩
def SAF.STAT_SC_STATE : Fld := ⟨0x08060, 0, 2⟩
def SAF.STAT_DEGR_ANY : Fld := ⟨0x08060, 2, 1⟩
def SAF.STAT_TP_RUN : Fld := ⟨0x08060, 3, 1⟩
def SAF.STAT_CFG_PENDING : Fld := ⟨0x08060, 4, 1⟩
def SAF.DEGR_SUM : Fld := ⟨0x08064, 0, 32⟩
def SAF.DEGR_SUM_DEGR : Fld := ⟨0x08064, 0, 8⟩
def SAF.DEGR_SUM_EXPIRED : Fld := ⟨0x08064, 8, 8⟩
def SAF.DEGR (i : Nat) : Fld := ⟨0x08080 + 4 * i, 0, 32⟩
def SAF.DEGR_CAUSE (i : Nat) : Fld := ⟨0x08080 + 4 * i, 0, 3⟩
def SAF.DEGR_EXPIRED (i : Nat) : Fld := ⟨0x08080 + 4 * i, 3, 1⟩
def SAF.DEGR_LEFT (i : Nat) : Fld := ⟨0x08080 + 4 * i, 16, 16⟩
def SAF.TP_FAIL0 : Fld := ⟨0x080A0, 0, 32⟩
def SAF.TP_FAIL1 : Fld := ⟨0x080A4, 0, 32⟩
def SAF.TP_FAIL1_LS : Fld := ⟨0x080A4, 0, 16⟩
def SAF.TP_FAIL1_SA : Fld := ⟨0x080A4, 16, 4⟩
def SAF.SELFTEST : Fld := ⟨0x080A8, 0, 32⟩
def SAF.SELFTEST_PASS : Fld := ⟨0x080A8, 0, 10⟩
def SAF.TRIP_CNT : Fld := ⟨0x080B0, 0, 32⟩
def SAF.SRESET_CNT : Fld := ⟨0x080B4, 0, 32⟩
def SAF.TP_FAIL_CNT : Fld := ⟨0x080B8, 0, 32⟩
def SAF.DEGR_CNT : Fld := ⟨0x080BC, 0, 32⟩
def SAF.FAULT : Fld := ⟨0x080C0, 0, 32⟩
def SAF.FAULT_CAUSE : Fld := ⟨0x080C0, 0, 8⟩
def SAF.FAULT_ACTIVE : Fld := ⟨0x080C0, 8, 1⟩
def SAF.FAULT_LEVEL : Fld := ⟨0x080C0, 9, 1⟩
def SAF.FAULT_DOORWAY : Fld := ⟨0x080C0, 16, 3⟩
def SAF.FAULT_LOC : Fld := ⟨0x080C4, 0, 32⟩
def SAF.CTRL : Fld := ⟨0x080C8, 0, 32⟩
def SAF.CTRL_CLR : Fld := ⟨0x080C8, 0, 1⟩

/-! The TIL page (R270). -/

def TIL.CFG : Fld := ⟨0x09040, 0, 32⟩
def TIL.CFG_LOOP_MODE : Fld := ⟨0x09040, 0, 2⟩
def TIL.CFG_TRAC_LOOP : Fld := ⟨0x09040, 2, 1⟩
def TIL.CFG_BOTH_SIDES : Fld := ⟨0x09040, 3, 1⟩
def TIL.CFG_TL_THR : Fld := ⟨0x09040, 4, 2⟩
def TIL.CFG_FB_POL : Fld := ⟨0x09040, 6, 1⟩
def TIL.CFG_FB_EN : Fld := ⟨0x09040, 7, 1⟩
def TIL.CFG_TL_FILT : Fld := ⟨0x09040, 8, 8⟩
def TIL.TIMING : Fld := ⟨0x09044, 0, 32⟩
def TIL.TIMING_ZSP_DISC : Fld := ⟨0x09044, 0, 16⟩
def TIL.TIMING_TRAC_SETTLE : Fld := ⟨0x09044, 16, 16⟩
def TIL.TRAC_FB_T : Fld := ⟨0x09048, 0, 32⟩
def TIL.TRAC_FB_T_T : Fld := ⟨0x09048, 0, 16⟩
def TIL.LOOP_CFG : Fld := ⟨0x0904C, 0, 32⟩
def TIL.LOOP_CFG_LOOP_FILT : Fld := ⟨0x0904C, 0, 8⟩
def TIL.LOOP_CFG_LOOP_TP_W : Fld := ⟨0x0904C, 8, 8⟩
def TIL.LOOP_CFG_LOOP_TP_P : Fld := ⟨0x0904C, 16, 16⟩
def TIL.STAT : Fld := ⟨0x09060, 0, 32⟩
def TIL.STAT_ZSP_A : Fld := ⟨0x09060, 0, 1⟩
def TIL.STAT_ZSP_B : Fld := ⟨0x09060, 1, 1⟩
def TIL.STAT_ZERO_SPEED : Fld := ⟨0x09060, 2, 1⟩
def TIL.STAT_ZSP_DISC : Fld := ⟨0x09060, 3, 1⟩
def TIL.STAT_DREL_L : Fld := ⟨0x09060, 4, 1⟩
def TIL.STAT_DREL_R : Fld := ⟨0x09060, 5, 1⟩
def TIL.STAT_REL_L : Fld := ⟨0x09060, 6, 1⟩
def TIL.STAT_REL_R : Fld := ⟨0x09060, 7, 1⟩
def TIL.STAT_REL_CONFLICT : Fld := ⟨0x09060, 8, 1⟩
def TIL.STAT_DCL : Fld := ⟨0x09060, 9, 1⟩
def TIL.STAT_TRAC_REL : Fld := ⟨0x09060, 10, 1⟩
def TIL.STAT_TRAC_PIN : Fld := ⟨0x09060, 11, 1⟩
def TIL.STAT_TRAC_FB : Fld := ⟨0x09060, 12, 1⟩
def TIL.STAT_CAR_PROVEN : Fld := ⟨0x09060, 13, 1⟩
def TIL.STAT_ELEM_CLOSED : Fld := ⟨0x09060, 14, 1⟩
def TIL.STAT_IN_PRESENT : Fld := ⟨0x09060, 15, 1⟩
def TIL.STAT_IN_CODED : Fld := ⟨0x09060, 16, 1⟩
def TIL.STAT_TRAIN_LOOP : Fld := ⟨0x09060, 17, 1⟩
def TIL.PROVEN : Fld := ⟨0x09064, 0, 32⟩
def TIL.PROVEN_DOOR : Fld := ⟨0x09064, 0, 8⟩
def TIL.PROVEN_ISOL : Fld := ⟨0x09064, 8, 8⟩
def TIL.BLOCK : Fld := ⟨0x09068, 0, 32⟩
def TIL.BLOCK_WHY : Fld := ⟨0x09068, 0, 8⟩
def TIL.TRAC_DROP_CNT : Fld := ⟨0x09070, 0, 32⟩
def TIL.ZSP_DISC_CNT : Fld := ⟨0x09074, 0, 32⟩
def TIL.LOOP_OPEN_CNT : Fld := ⟨0x09078, 0, 32⟩
def TIL.FAULT : Fld := ⟨0x0907C, 0, 32⟩
def TIL.FAULT_CAUSE : Fld := ⟨0x0907C, 0, 8⟩
def TIL.FAULT_ACTIVE : Fld := ⟨0x0907C, 8, 1⟩
def TIL.FAULT_LOC : Fld := ⟨0x09080, 0, 32⟩
def TIL.CTRL : Fld := ⟨0x09084, 0, 32⟩
def TIL.CTRL_CLR : Fld := ⟨0x09084, 0, 1⟩

/-! The STL page (R289). -/

def STL.NODE : Fld := ⟨0x0A040, 0, 32⟩
def STL.NODE_OWN_ID : Fld := ⟨0x0A040, 0, 16⟩
def STL.STAT : Fld := ⟨0x0A044, 0, 32⟩
def STL.STAT_CONN (i : Nat) : Fld := ⟨0x0A044, 2 * i, 2⟩
def STL.RX_WIN : Fld := ⟨0x0A048, 0, 32⟩
def STL.RX_STAT : Fld := ⟨0x0A04C, 0, 32⟩
def STL.RX_STAT_FREE : Fld := ⟨0x0A04C, 0, 4⟩
def STL.RX_STAT_WORDS : Fld := ⟨0x0A04C, 4, 4⟩
def STL.RX_STAT_PARTIAL_LOST : Fld := ⟨0x0A04C, 8, 1⟩
def STL.RX_CTRL : Fld := ⟨0x0A050, 0, 32⟩
def STL.RX_CTRL_FLUSH : Fld := ⟨0x0A050, 0, 1⟩
def STL.TX_WIN : Fld := ⟨0x0A054, 0, 32⟩
def STL.TX_STAT : Fld := ⟨0x0A058, 0, 32⟩
def STL.TX_STAT_COUNT : Fld := ⟨0x0A058, 0, 4⟩
def STL.TX_STAT_WORD : Fld := ⟨0x0A058, 4, 4⟩
def STL.TX_STAT_VALID : Fld := ⟨0x0A058, 8, 1⟩
def STL.TX_STAT_CONN : Fld := ⟨0x0A058, 16, 3⟩
def STL.RX_OVF_CNT : Fld := ⟨0x0A05C, 0, 32⟩
def STL.TX_OVF_CNT : Fld := ⟨0x0A060, 0, 32⟩
def STL.SESSION : Fld := ⟨0x0A064, 0, 32⟩
def STL.SESSION_SESSION : Fld := ⟨0x0A064, 0, 16⟩
def STL.TMO_CNT : Fld := ⟨0x0A068, 0, 32⟩
def STL.CONN_CFG (i : Nat) : Fld := ⟨0x0A100 + 32 * i, 0, 32⟩
def STL.CONN_CFG_EN (i : Nat) : Fld := ⟨0x0A100 + 32 * i, 0, 1⟩
def STL.CONN_CFG_CARRIER (i : Nat) : Fld := ⟨0x0A100 + 32 * i, 1, 2⟩
def STL.CONN_CFG_CAN (i : Nat) : Fld := ⟨0x0A100 + 32 * i, 3, 2⟩
def STL.CONN_CFG_DW_MASK (i : Nat) : Fld := ⟨0x0A100 + 32 * i, 8, 8⟩
def STL.CONN_CFG_PEER_ID (i : Nat) : Fld := ⟨0x0A100 + 32 * i, 16, 16⟩
def STL.CONN_ID (i : Nat) : Fld := ⟨0x0A104 + 32 * i, 0, 32⟩
def STL.CONN_TIME (i : Nat) : Fld := ⟨0x0A108 + 32 * i, 0, 32⟩
def STL.CONN_TIME_T_EXP (i : Nat) : Fld := ⟨0x0A108 + 32 * i, 0, 16⟩
def STL.CONN_TIME_T_TX (i : Nat) : Fld := ⟨0x0A108 + 32 * i, 16, 16⟩
def STL.CONN_LIM (i : Nat) : Fld := ⟨0x0A10C + 32 * i, 0, 32⟩
def STL.CONN_LIM_CMD_MASK (i : Nat) : Fld := ⟨0x0A10C + 32 * i, 0, 9⟩
def STL.CONN_LIM_SEQ_WIN (i : Nat) : Fld := ⟨0x0A10C + 32 * i, 16, 8⟩
def STL.CONN_STAT (i : Nat) : Fld := ⟨0x0A110 + 32 * i, 0, 32⟩
def STL.CONN_STAT_STATE (i : Nat) : Fld := ⟨0x0A110 + 32 * i, 0, 2⟩
def STL.CONN_STAT_LAST_ERR (i : Nat) : Fld := ⟨0x0A110 + 32 * i, 4, 4⟩
def STL.CONN_STAT_AGE (i : Nat) : Fld := ⟨0x0A110 + 32 * i, 16, 16⟩
def STL.CONN_TX_SEQ (i : Nat) : Fld := ⟨0x0A114 + 32 * i, 0, 32⟩
def STL.CONN_RX_SEQ (i : Nat) : Fld := ⟨0x0A118 + 32 * i, 0, 32⟩
def STL.CONN_ERR_CNT (i : Nat) : Fld := ⟨0x0A11C + 32 * i, 0, 32⟩
def STL.CONN_LOST_CNT (i : Nat) : Fld := ⟨0x0A200 + 4 * i, 0, 32⟩
def STL.CONN_SEQ_CEIL (i : Nat) : Fld := ⟨0x0A220 + 4 * i, 0, 32⟩

/-! The BRV page (R361). -/

def BRV.CFG : Fld := ⟨0x0B040, 0, 32⟩
def BRV.CFG_PAIR : Fld := ⟨0x0B040, 0, 1⟩
def BRV.CFG_COMPAT : Fld := ⟨0x0B040, 1, 1⟩
def BRV.CFG_WD_HO : Fld := ⟨0x0B040, 2, 1⟩
def BRV.TIMING : Fld := ⟨0x0B044, 0, 32⟩
def BRV.TIMING_PARTNER_WAIT : Fld := ⟨0x0B044, 0, 16⟩
def BRV.TIMING_OVERLAP : Fld := ⟨0x0B044, 16, 8⟩
def BRV.HO_CFG : Fld := ⟨0x0B048, 0, 32⟩
def BRV.HO_CFG_HO_MARGIN : Fld := ⟨0x0B048, 0, 4⟩
def BRV.HO_CFG_HO_T : Fld := ⟨0x0B048, 16, 16⟩
def BRV.CTRL : Fld := ⟨0x0B04C, 0, 32⟩
def BRV.CTRL_HANDOVER : Fld := ⟨0x0B04C, 0, 1⟩
def BRV.CTRL_RESYNC : Fld := ⟨0x0B04C, 1, 1⟩
def BRV.CTRL_CLR : Fld := ⟨0x0B04C, 2, 1⟩
def BRV.CTRL_STBY_TEST : Fld := ⟨0x0B04C, 3, 1⟩
def BRV.STAT : Fld := ⟨0x0B050, 0, 32⟩
def BRV.STAT_ROLE : Fld := ⟨0x0B050, 0, 2⟩
def BRV.STAT_PART_ROLE : Fld := ⟨0x0B050, 2, 2⟩
def BRV.STAT_PART_SEEN : Fld := ⟨0x0B050, 4, 1⟩
def BRV.STAT_MIRROR_STALE : Fld := ⟨0x0B050, 5, 1⟩
def BRV.STAT_PWM_LOCK : Fld := ⟨0x0B050, 6, 1⟩
def BRV.STAT_HASH_MATCH : Fld := ⟨0x0B050, 7, 1⟩
def BRV.STAT_UNITSEL : Fld := ⟨0x0B050, 8, 1⟩
def BRV.STAT_OWN_ALIVE : Fld := ⟨0x0B050, 9, 1⟩
def BRV.STAT_OOS_WHY : Fld := ⟨0x0B050, 12, 2⟩
def BRV.STAT_CLAIM : Fld := ⟨0x0B050, 16, 4⟩
def BRV.LINK_STAT : Fld := ⟨0x0B054, 0, 32⟩
def BRV.LINK_STAT_TX_UP : Fld := ⟨0x0B054, 0, 2⟩
def BRV.LINK_STAT_RX_UP : Fld := ⟨0x0B054, 2, 2⟩
def BRV.LINK_STAT_LOST : Fld := ⟨0x0B054, 4, 1⟩
def BRV.HEALTH_OWN : Fld := ⟨0x0B058, 0, 32⟩
def BRV.HEALTH_PART : Fld := ⟨0x0B05C, 0, 32⟩
def BRV.GRADE : Fld := ⟨0x0B060, 0, 32⟩
def BRV.GRADE_OWN : Fld := ⟨0x0B060, 0, 4⟩
def BRV.GRADE_PART : Fld := ⟨0x0B060, 8, 4⟩
def BRV.LINK_DELAY : Fld := ⟨0x0B064, 0, 32⟩
def BRV.LINK_DELAY_T : Fld := ⟨0x0B064, 0, 16⟩
def BRV.LAST_HO : Fld := ⟨0x0B068, 0, 32⟩
def BRV.LAST_HO_CAUSE : Fld := ⟨0x0B068, 0, 4⟩
def BRV.LAST_HO_PREV_ROLE : Fld := ⟨0x0B068, 4, 4⟩
def BRV.LDG_BEHIND : Fld := ⟨0x0B06C, 0, 32⟩
def BRV.HO_CNT : Fld := ⟨0x0B070, 0, 32⟩
def BRV.ALIVE_LOSS_CNT : Fld := ⟨0x0B074, 0, 32⟩
def BRV.CRC_CNT : Fld := ⟨0x0B078, 0, 32⟩
def BRV.RETX_CNT : Fld := ⟨0x0B07C, 0, 32⟩
def BRV.FAULT : Fld := ⟨0x0B080, 0, 32⟩
def BRV.FAULT_CAUSE : Fld := ⟨0x0B080, 0, 8⟩
def BRV.FAULT_ACTIVE : Fld := ⟨0x0B080, 8, 1⟩
def BRV.FAULT_LOC : Fld := ⟨0x0B084, 0, 32⟩

/-! The LDG page (R382). -/

def LDG.CFG : Fld := ⟨0x0C040, 0, 32⟩
def LDG.CFG_REFRESH_DUE : Fld := ⟨0x0C040, 0, 9⟩
def LDG.CFG_WARN_PCT : Fld := ⟨0x0C040, 16, 7⟩
def LDG.CFG_ECC_TH : Fld := ⟨0x0C040, 24, 6⟩
def LDG.STAT : Fld := ⟨0x0C044, 0, 32⟩
def LDG.STAT_READY : Fld := ⟨0x0C044, 0, 1⟩
def LDG.STAT_WRAPPED : Fld := ⟨0x0C044, 1, 1⟩
def LDG.STAT_FLUSHING : Fld := ⟨0x0C044, 2, 1⟩
def LDG.STAT_REFRESHING : Fld := ⟨0x0C044, 3, 1⟩
def LDG.STAT_CHECKING : Fld := ⟨0x0C044, 4, 1⟩
def LDG.STAT_CATCHUP : Fld := ⟨0x0C044, 5, 1⟩
def LDG.STAT_WARN : Fld := ⟨0x0C044, 8, 6⟩
def LDG.JRNL : Fld := ⟨0x0C048, 0, 32⟩
def LDG.JRNL_USED : Fld := ⟨0x0C048, 0, 11⟩
def LDG.JRNL_VOLATILE : Fld := ⟨0x0C048, 16, 11⟩
def LDG.NEXT_RSEQ : Fld := ⟨0x0C04C, 0, 32⟩
def LDG.FILL : Fld := ⟨0x0C050, 0, 32⟩
def LDG.FILL_DATA : Fld := ⟨0x0C050, 0, 14⟩
def LDG.FILL_SPARES : Fld := ⟨0x0C050, 16, 9⟩
def LDG.SEG_BAD : Fld := ⟨0x0C054, 0, 32⟩
def LDG.OLDEST_LO : Fld := ⟨0x0C058, 0, 32⟩
def LDG.OLDEST_HI : Fld := ⟨0x0C05C, 0, 32⟩
def LDG.OLDEST_HI_TIME : Fld := ⟨0x0C05C, 0, 16⟩
def LDG.REFRESH : Fld := ⟨0x0C060, 0, 32⟩
def LDG.REFRESH_DUE : Fld := ⟨0x0C060, 0, 16⟩
def LDG.REFRESH_OVERDUE : Fld := ⟨0x0C060, 16, 16⟩
def LDG.FLUSH_CNT : Fld := ⟨0x0C064, 0, 32⟩
def LDG.DROP_CNT : Fld := ⟨0x0C068, 0, 32⟩
def LDG.ECC_CNT : Fld := ⟨0x0C06C, 0, 32⟩
def LDG.GAP_CNT : Fld := ⟨0x0C070, 0, 32⟩
def LDG.QRY_CTRL : Fld := ⟨0x0C080, 0, 32⟩
def LDG.QRY_CTRL_REQ : Fld := ⟨0x0C080, 0, 1⟩
def LDG.QRY_CTRL_NEXT : Fld := ⟨0x0C080, 1, 1⟩
def LDG.QRY_SEL : Fld := ⟨0x0C084, 0, 32⟩
def LDG.QRY_SEL_DW : Fld := ⟨0x0C084, 0, 9⟩
def LDG.QRY_SEL_UNIT : Fld := ⟨0x0C084, 16, 2⟩
def LDG.QRY_SEL_TYPES : Fld := ⟨0x0C084, 24, 6⟩
def LDG.QRY_FROM_LO : Fld := ⟨0x0C088, 0, 32⟩
def LDG.QRY_FROM_HI : Fld := ⟨0x0C08C, 0, 32⟩
def LDG.QRY_FROM_HI_FROM : Fld := ⟨0x0C08C, 0, 16⟩
def LDG.QRY_TO_LO : Fld := ⟨0x0C090, 0, 32⟩
def LDG.QRY_TO_HI : Fld := ⟨0x0C094, 0, 32⟩
def LDG.QRY_TO_HI_TO : Fld := ⟨0x0C094, 0, 16⟩
def LDG.QRY_MAX : Fld := ⟨0x0C098, 0, 32⟩
def LDG.QRY_MAX_MAX : Fld := ⟨0x0C098, 0, 22⟩
def LDG.QRY_STAT : Fld := ⟨0x0C09C, 0, 32⟩
def LDG.QRY_COUNT : Fld := ⟨0x0C0A0, 0, 32⟩
def LDG.QRY_SLOTS : Fld := ⟨0x0C0A4, 0, 32⟩
def LDG.QRY_MORE : Fld := ⟨0x0C0A8, 0, 32⟩
def LDG.QRY_MORE_MORE : Fld := ⟨0x0C0A8, 0, 1⟩
def LDG.QRY_UNREL : Fld := ⟨0x0C0AC, 0, 32⟩
def LDG.RD_WIN : Fld := ⟨0x0C0B0, 0, 32⟩
def LDG.RD_STAT : Fld := ⟨0x0C0B4, 0, 32⟩
def LDG.RD_STAT_LEFT : Fld := ⟨0x0C0B4, 0, 22⟩
def LDG.RD_STAT_WORD : Fld := ⟨0x0C0B4, 24, 4⟩
def LDG.DMA_ADDR_LO : Fld := ⟨0x0C0C0, 0, 32⟩
def LDG.DMA_ADDR_HI : Fld := ⟨0x0C0C4, 0, 32⟩
def LDG.DMA_CTRL : Fld := ⟨0x0C0C8, 0, 32⟩
def LDG.DMA_CTRL_GO : Fld := ⟨0x0C0C8, 0, 1⟩
def LDG.DMA_CTRL_ABORT : Fld := ⟨0x0C0C8, 1, 1⟩
def LDG.DMA_STAT : Fld := ⟨0x0C0CC, 0, 32⟩
def LDG.DMA_BYTES : Fld := ⟨0x0C0D0, 0, 32⟩
def LDG.FAULT : Fld := ⟨0x0C0E0, 0, 32⟩
def LDG.FAULT_CAUSE : Fld := ⟨0x0C0E0, 0, 8⟩
def LDG.FAULT_ACTIVE : Fld := ⟨0x0C0E0, 8, 1⟩
def LDG.FAULT_LOC : Fld := ⟨0x0C0E4, 0, 32⟩
def LDG.CTRL : Fld := ⟨0x0C0E8, 0, 32⟩
def LDG.CTRL_CLR : Fld := ⟨0x0C0E8, 0, 1⟩
def LDG.CTRL_FLUSH : Fld := ⟨0x0C0E8, 1, 1⟩
def LDG.CTRL_CHECK : Fld := ⟨0x0C0E8, 2, 1⟩

/-! The OCC page (R225). -/

def OCC.CFG : Fld := ⟨0x0D040, 0, 32⟩
def OCC.CFG_RATE_REQ : Fld := ⟨0x0D040, 0, 2⟩
def OCC.CFG_PORCH_PRE : Fld := ⟨0x0D040, 16, 16⟩
def OCC.RATE : Fld := ⟨0x0D044, 0, 32⟩
def OCC.RATE_RATE : Fld := ⟨0x0D044, 0, 2⟩
def OCC.RATE_RATE_LIM : Fld := ⟨0x0D044, 2, 2⟩
def OCC.RATE_PENDING : Fld := ⟨0x0D044, 4, 1⟩
def OCC.EPOCH_LO : Fld := ⟨0x0D048, 0, 32⟩
def OCC.EPOCH_HI : Fld := ⟨0x0D04C, 0, 32⟩
def OCC.TIME_LO : Fld := ⟨0x0D050, 0, 32⟩
def OCC.TIME_HI : Fld := ⟨0x0D054, 0, 32⟩
def OCC.PRE_REL : Fld := ⟨0x0D058, 0, 32⟩
def OCC.PRE_REL_LEFT : Fld := ⟨0x0D058, 0, 1⟩
def OCC.PRE_REL_RIGHT : Fld := ⟨0x0D058, 1, 1⟩
def OCC.PRE_REL_ETA : Fld := ⟨0x0D058, 16, 16⟩
def OCC.LOAD : Fld := ⟨0x0D05C, 0, 32⟩
def OCC.LOAD_NOW : Fld := ⟨0x0D05C, 0, 16⟩
def OCC.LOAD_PEAK : Fld := ⟨0x0D05C, 16, 16⟩
def OCC.PASS_CNT : Fld := ⟨0x0D060, 0, 32⟩
def OCC.OVERLOAD_CNT : Fld := ⟨0x0D064, 0, 32⟩
def OCC.OE_RST_CNT : Fld := ⟨0x0D068, 0, 32⟩
def OCC.FAULT : Fld := ⟨0x0D06C, 0, 32⟩
def OCC.FAULT_CAUSE : Fld := ⟨0x0D06C, 0, 8⟩
def OCC.FAULT_ACTIVE : Fld := ⟨0x0D06C, 8, 1⟩
def OCC.FAULT_LOC : Fld := ⟨0x0D070, 0, 32⟩
def OCC.CTRL : Fld := ⟨0x0D074, 0, 32⟩
def OCC.CTRL_CLR : Fld := ⟨0x0D074, 0, 1⟩

/-! The DIN page (R271). -/

def DIN.GRP_CFG (i : Nat) : Fld := ⟨0x0E040 + 4 * i, 0, 32⟩
def DIN.GRP_CFG_THR (i : Nat) : Fld := ⟨0x0E040 + 4 * i, 0, 2⟩
def DIN.GRP_CFG_WET_I (i : Nat) : Fld := ⟨0x0E040 + 4 * i, 4, 2⟩
def DIN.GRP_CFG_WET_T (i : Nat) : Fld := ⟨0x0E040 + 4 * i, 8, 8⟩
def DIN.GRP_CFG_WET_P (i : Nat) : Fld := ⟨0x0E040 + 4 * i, 16, 16⟩
def DIN.FILT (i : Nat) : Fld := ⟨0x0E050 + 4 * i, 0, 32⟩
def DIN.FILT_FILT (i : Nat) : Fld := ⟨0x0E050 + 4 * (i / 4), 8 * (i % 4), 8⟩
def DIN.INV (i : Nat) : Fld := ⟨0x0E090 + 4 * i, 0, 32⟩
def DIN.SAFE (i : Nat) : Fld := ⟨0x0E098 + 4 * i, 0, 32⟩
def DIN.LEVEL (i : Nat) : Fld := ⟨0x0E0A0 + 4 * i, 0, 32⟩
def DIN.RAW (i : Nat) : Fld := ⟨0x0E0A8 + 4 * i, 0, 32⟩
def DIN.CHG (i : Nat) : Fld := ⟨0x0E0B0 + 4 * i, 0, 32⟩
def DIN.CHG_EN (i : Nat) : Fld := ⟨0x0E0B8 + 4 * i, 0, 32⟩
def DIN.WET_FAIL (i : Nat) : Fld := ⟨0x0E0C0 + 4 * i, 0, 32⟩
def DIN.WET_FAIL_CNT : Fld := ⟨0x0E0C8, 0, 32⟩

/-! The ENC page (R159). -/

def ENC.CFG (i : Nat) : Fld := ⟨0x0F040 + 16 * i, 0, 32⟩
def ENC.CFG_SRC (i : Nat) : Fld := ⟨0x0F040 + 16 * i, 0, 4⟩
def ENC.CFG_EN (i : Nat) : Fld := ⟨0x0F040 + 16 * i, 4, 1⟩
def ENC.CFG_EN_Z (i : Nat) : Fld := ⟨0x0F040 + 16 * i, 5, 1⟩
def ENC.CFG_INV_DIR (i : Nat) : Fld := ⟨0x0F040 + 16 * i, 6, 1⟩
def ENC.CFG_SHARED (i : Nat) : Fld := ⟨0x0F040 + 16 * i, 7, 1⟩
def ENC.RATIO (i : Nat) : Fld := ⟨0x0F044 + 16 * i, 0, 32⟩
def ENC.RATIO_N (i : Nat) : Fld := ⟨0x0F044 + 16 * i, 0, 16⟩
def ENC.RATIO_M (i : Nat) : Fld := ⟨0x0F044 + 16 * i, 16, 16⟩
def ENC.TIMING (i : Nat) : Fld := ⟨0x0F048 + 16 * i, 0, 32⟩
def ENC.TIMING_TMIN (i : Nat) : Fld := ⟨0x0F048 + 16 * i, 0, 8⟩
def ENC.STAT (i : Nat) : Fld := ⟨0x0F04C + 16 * i, 0, 32⟩
def ENC.STAT_BACKLOG (i : Nat) : Fld := ⟨0x0F04C + 16 * i, 0, 9⟩
def ENC.STAT_OVERRUN (i : Nat) : Fld := ⟨0x0F04C + 16 * i, 9, 1⟩
def ENC.STAT_ACC (i : Nat) : Fld := ⟨0x0F04C + 16 * i, 16, 16⟩
def ENC.OVR_CNT (i : Nat) : Fld := ⟨0x0F080 + 4 * i, 0, 32⟩

/-! The DW pages (R93, R187). -/

def DW.CMD (n : Nat) : Fld := ⟨0x10040 + 4096 * n, 0, 32⟩
def DW.CMD_OP (n : Nat) : Fld := ⟨0x10040 + 4096 * n, 0, 4⟩
def DW.CMD_AXSEL (n : Nat) : Fld := ⟨0x10040 + 4096 * n, 4, 2⟩
def DW.CMD_GO (n : Nat) : Fld := ⟨0x10040 + 4096 * n, 31, 1⟩
def DW.CMD_STAT (n : Nat) : Fld := ⟨0x10044 + 4096 * n, 0, 32⟩
def DW.CMD_STAT_SEQ (n : Nat) : Fld := ⟨0x10044 + 4096 * n, 0, 16⟩
def DW.CMD_STAT_OP (n : Nat) : Fld := ⟨0x10044 + 4096 * n, 16, 4⟩
def DW.CMD_STAT_REASON (n : Nat) : Fld := ⟨0x10044 + 4096 * n, 20, 4⟩
def DW.LAST_CMD (n : Nat) : Fld := ⟨0x10048 + 4096 * n, 0, 32⟩
def DW.LAST_CMD_OP (n : Nat) : Fld := ⟨0x10048 + 4096 * n, 0, 4⟩
def DW.LAST_CMD_SRC (n : Nat) : Fld := ⟨0x10048 + 4096 * n, 4, 3⟩
def DW.LAST_CMD_COUNT (n : Nat) : Fld := ⟨0x10048 + 4096 * n, 16, 16⟩
def DW.STATE (n : Nat) : Fld := ⟨0x1004C + 4096 * n, 0, 32⟩
def DW.STATE_DW_STATE (n : Nat) : Fld := ⟨0x1004C + 4096 * n, 0, 4⟩
def DW.STATE_STEP_STATE (n : Nat) : Fld := ⟨0x1004C + 4096 * n, 4, 3⟩
def DW.STATE_DEGRADED (n : Nat) : Fld := ⟨0x1004C + 4096 * n, 7, 1⟩
def DW.STATE_SIDE_REL (n : Nat) : Fld := ⟨0x1004C + 4096 * n, 8, 1⟩
def DW.STATE_CLOSE_PEND (n : Nat) : Fld := ⟨0x1004C + 4096 * n, 9, 1⟩
def DW.STATE_RESUME_PEND (n : Nat) : Fld := ⟨0x1004C + 4096 * n, 10, 1⟩
def DW.STATE_WAITING (n : Nat) : Fld := ⟨0x1004C + 4096 * n, 11, 1⟩
def DW.STATE_POS_VALID (n : Nat) : Fld := ⟨0x1004C + 4096 * n, 12, 1⟩
def DW.STATE_REOPEN_EXH (n : Nat) : Fld := ⟨0x1004C + 4096 * n, 13, 1⟩
def DW.STATE_HOST_BLOCK (n : Nat) : Fld := ⟨0x1004C + 4096 * n, 14, 1⟩
def DW.STATE_STEP_SHORT (n : Nat) : Fld := ⟨0x1004C + 4096 * n, 15, 1⟩
def DW.STATE_STEP_NOCONTACT (n : Nat) : Fld := ⟨0x1004C + 4096 * n, 16, 1⟩
def DW.STATE_PREV_STATE (n : Nat) : Fld := ⟨0x1004C + 4096 * n, 20, 4⟩
def DW.DEGR (n : Nat) : Fld := ⟨0x10050 + 4096 * n, 0, 32⟩
def DW.DEGR_CAUSE (n : Nat) : Fld := ⟨0x10050 + 4096 * n, 0, 6⟩
def DW.SECT (n : Nat) : Fld := ⟨0x10054 + 4096 * n, 0, 32⟩
def DW.SECT_STEP (n : Nat) : Fld := ⟨0x10054 + 4096 * n, 0, 6⟩
def DW.SECT_SECTION (n : Nat) : Fld := ⟨0x10054 + 4096 * n, 6, 3⟩
def DW.SECT_TIMEOUT (n : Nat) : Fld := ⟨0x10054 + 4096 * n, 9, 1⟩
def DW.CFG (n : Nat) : Fld := ⟨0x10058 + 4096 * n, 0, 32⟩
def DW.CFG_SIDE (n : Nat) : Fld := ⟨0x10058 + 4096 * n, 0, 1⟩
def DW.CFG_STEP_EN (n : Nat) : Fld := ⟨0x10058 + 4096 * n, 1, 1⟩
def DW.CFG_AUTO_OPEN (n : Nat) : Fld := ⟨0x10058 + 4096 * n, 2, 1⟩
def DW.CFG_LOCK_WHILE_REL (n : Nat) : Fld := ⟨0x10058 + 4096 * n, 3, 1⟩
def DW.CFG_OBST_REACT (n : Nat) : Fld := ⟨0x10058 + 4096 * n, 4, 1⟩
def DW.CFG_BTN_EN (n : Nat) : Fld := ⟨0x10058 + 4096 * n, 5, 1⟩
def DW.LSMAP (n i : Nat) : Fld := ⟨0x1005C + 4096 * n + 4 * i, 0, 32⟩
def DW.LSMAP_L (n i : Nat) : Fld := ⟨0x1005C + 4096 * n + 4 * (i / 4), 8 * (i % 4), 8⟩
def DW.DIMAP (n i : Nat) : Fld := ⟨0x10064 + 4096 * n + 4 * i, 0, 32⟩
def DW.DIMAP_D (n i : Nat) : Fld := ⟨0x10064 + 4096 * n + 4 * (i / 4), 8 * (i % 4), 8⟩
def DW.RCP_ENTRY (n : Nat) : Fld := ⟨0x10074 + 4096 * n, 0, 32⟩
def DW.RCP_ENTRY_OPEN (n : Nat) : Fld := ⟨0x10074 + 4096 * n, 0, 6⟩
def DW.RCP_ENTRY_CLOSE (n : Nat) : Fld := ⟨0x10074 + 4096 * n, 8, 6⟩
def DW.RCP_ENTRY_REOPEN (n : Nat) : Fld := ⟨0x10074 + 4096 * n, 16, 6⟩
def DW.RCP_ENTRY_HOME (n : Nat) : Fld := ⟨0x10074 + 4096 * n, 24, 6⟩
def DW.RCP_CTRL (n : Nat) : Fld := ⟨0x10078 + 4096 * n, 0, 32⟩
def DW.RCP_CTRL_LOAD_REF (n : Nat) : Fld := ⟨0x10078 + 4096 * n, 0, 1⟩
def DW.RCP_CTRL_REF_SEL (n : Nat) : Fld := ⟨0x10078 + 4096 * n, 1, 2⟩
def DW.RCP_CTRL_RCP_ERR (n : Nat) : Fld := ⟨0x10078 + 4096 * n, 8, 1⟩
def DW.RCP_CTRL_ERR_STEP (n : Nat) : Fld := ⟨0x10078 + 4096 * n, 16, 6⟩
def DW.RCP_CTRL_ERR_CODE (n : Nat) : Fld := ⟨0x10078 + 4096 * n, 24, 4⟩
def DW.DOOR_OPEN_POS (n : Nat) : Fld := ⟨0x1007C + 4096 * n, 0, 32⟩
def DW.DOOR_CLOSED_POS (n : Nat) : Fld := ⟨0x10080 + 4096 * n, 0, 32⟩
def DW.STEP_EXT_POS (n : Nat) : Fld := ⟨0x10084 + 4096 * n, 0, 32⟩
def DW.STEP_RET_POS (n : Nat) : Fld := ⟨0x10088 + 4096 * n, 0, 32⟩
def DW.STEP_GAP (n : Nat) : Fld := ⟨0x1008C + 4096 * n, 0, 32⟩
def DW.STEP_GAP_EDGE_OFFS (n : Nat) : Fld := ⟨0x1008C + 4096 * n, 0, 8⟩
def DW.STEP_GAP_OVERTRAVEL (n : Nat) : Fld := ⟨0x1008C + 4096 * n, 8, 8⟩
def DW.STEP_GAP_CONTACT_WIN (n : Nat) : Fld := ⟨0x1008C + 4096 * n, 16, 8⟩
def DW.PORCH_WAIT_MAX (n : Nat) : Fld := ⟨0x10090 + 4096 * n, 0, 32⟩
def DW.PORCH_WAIT_MAX_WAIT (n : Nat) : Fld := ⟨0x10090 + 4096 * n, 0, 16⟩
def DW.V_WAIT (n : Nat) : Fld := ⟨0x10094 + 4096 * n, 0, 32⟩
def DW.V_WAIT_SPEED (n : Nat) : Fld := ⟨0x10094 + 4096 * n, 0, 16⟩
def DW.D_MARGIN (n : Nat) : Fld := ⟨0x10098 + 4096 * n, 0, 32⟩
def DW.D_MARGIN_MARGIN (n : Nat) : Fld := ⟨0x10098 + 4096 * n, 0, 8⟩
def DW.REOPEN (n : Nat) : Fld := ⟨0x1009C + 4096 * n, 0, 32⟩
def DW.REOPEN_REOPEN_MAX (n : Nat) : Fld := ⟨0x1009C + 4096 * n, 0, 4⟩
def DW.REOPEN_REOPEN_DWELL (n : Nat) : Fld := ⟨0x1009C + 4096 * n, 16, 16⟩
def DW.TIMEOUTS (n : Nat) : Fld := ⟨0x100A0 + 4096 * n, 0, 32⟩
def DW.TIMEOUTS_T_UNLOCK (n : Nat) : Fld := ⟨0x100A0 + 4096 * n, 0, 16⟩
def DW.TIMEOUTS_T_LOCK (n : Nat) : Fld := ⟨0x100A0 + 4096 * n, 16, 16⟩
def DW.MANUAL (n : Nat) : Fld := ⟨0x100A4 + 4096 * n, 0, 32⟩
def DW.MANUAL_MANUAL_DIST (n : Nat) : Fld := ⟨0x100A4 + 4096 * n, 0, 16⟩
def DW.MANUAL_MANUAL_STILL (n : Nat) : Fld := ⟨0x100A4 + 4096 * n, 16, 16⟩
def DW.TEST_DWELL (n : Nat) : Fld := ⟨0x100A8 + 4096 * n, 0, 32⟩
def DW.TEST_DWELL_DWELL (n : Nat) : Fld := ⟨0x100A8 + 4096 * n, 0, 16⟩
def DW.DOOR_POS (n : Nat) : Fld := ⟨0x100AC + 4096 * n, 0, 32⟩
def DW.STEP_POS (n : Nat) : Fld := ⟨0x100B0 + 4096 * n, 0, 32⟩
def DW.V_CAP (n : Nat) : Fld := ⟨0x100B4 + 4096 * n, 0, 32⟩
def DW.V_CAP_CAP (n : Nat) : Fld := ⟨0x100B4 + 4096 * n, 0, 16⟩
def DW.WAIT_LEFT (n : Nat) : Fld := ⟨0x100B8 + 4096 * n, 0, 32⟩
def DW.WAIT_LEFT_LEFT (n : Nat) : Fld := ⟨0x100B8 + 4096 * n, 0, 16⟩
def DW.CYCLE_CNT (n : Nat) : Fld := ⟨0x100BC + 4096 * n, 0, 32⟩
def DW.OBST_CNT (n : Nat) : Fld := ⟨0x100C0 + 4096 * n, 0, 32⟩
def DW.PORCH_HOLD_CNT (n : Nat) : Fld := ⟨0x100C4 + 4096 * n, 0, 32⟩
def DW.FAULT_CAUSE (n : Nat) : Fld := ⟨0x100C8 + 4096 * n, 0, 32⟩
def DW.FAULT_CAUSE_CAUSE (n : Nat) : Fld := ⟨0x100C8 + 4096 * n, 0, 8⟩
def DW.FAULT_CAUSE_ACTIVE (n : Nat) : Fld := ⟨0x100C8 + 4096 * n, 8, 1⟩
def DW.FAULT_LOC (n : Nat) : Fld := ⟨0x100CC + 4096 * n, 0, 32⟩
def DW.RECIPE (n i : Nat) : Fld := ⟨0x10400 + 4096 * n + 4 * i, 0, 32⟩
def DW.EDGE_CFG (n : Nat) : Fld := ⟨0x10100 + 4096 * n, 0, 32⟩
def DW.EDGE_CFG_MODE (n : Nat) : Fld := ⟨0x10100 + 4096 * n, 0, 2⟩
def DW.EDGE_CFG_EDGE_DISC (n : Nat) : Fld := ⟨0x10100 + 4096 * n, 8, 8⟩
def DW.F_LIMIT (n : Nat) : Fld := ⟨0x10104 + 4096 * n, 0, 32⟩
def DW.F_LIMIT_F_CLOSE (n : Nat) : Fld := ⟨0x10104 + 4096 * n, 0, 16⟩
def DW.F_LIMIT_F_END (n : Nat) : Fld := ⟨0x10104 + 4096 * n, 16, 16⟩
def DW.F_LIMIT2 (n : Nat) : Fld := ⟨0x10108 + 4096 * n, 0, 32⟩
def DW.F_LIMIT2_F_OPEN (n : Nat) : Fld := ⟨0x10108 + 4096 * n, 0, 16⟩
def DW.F_LIMIT2_DRAG_F (n : Nat) : Fld := ⟨0x10108 + 4096 * n, 16, 16⟩
def DW.F_TIME (n : Nat) : Fld := ⟨0x1010C + 4096 * n, 0, 32⟩
def DW.F_TIME_T_FORCE (n : Nat) : Fld := ⟨0x1010C + 4096 * n, 0, 8⟩
def DW.END_ZONE (n : Nat) : Fld := ⟨0x10110 + 4096 * n, 0, 32⟩
def DW.END_ZONE_END_ZONE (n : Nat) : Fld := ⟨0x10110 + 4096 * n, 0, 16⟩
def DW.END_ZONE_EDGE_MUTE (n : Nat) : Fld := ⟨0x10110 + 4096 * n, 16, 16⟩
def DW.SEAM (n : Nat) : Fld := ⟨0x10114 + 4096 * n, 0, 32⟩
def DW.SEAM_SEAM_TOL (n : Nat) : Fld := ⟨0x10114 + 4096 * n, 0, 16⟩
def DW.REVERSE (n : Nat) : Fld := ⟨0x10118 + 4096 * n, 0, 32⟩
def DW.REVERSE_REV_DIST (n : Nat) : Fld := ⟨0x10118 + 4096 * n, 0, 16⟩
def DW.REVERSE_RELIEF_DIST (n : Nat) : Fld := ⟨0x10118 + 4096 * n, 16, 16⟩
def DW.KF (n : Nat) : Fld := ⟨0x1011C + 4096 * n, 0, 32⟩
def DW.KF_DOOR (n : Nat) : Fld := ⟨0x1011C + 4096 * n, 0, 16⟩
def DW.KF_STEP (n : Nat) : Fld := ⟨0x1011C + 4096 * n, 16, 16⟩
def DW.SC_FORCE (n : Nat) : Fld := ⟨0x10120 + 4096 * n, 0, 32⟩
def DW.SC_FORCE_F_ASSIST (n : Nat) : Fld := ⟨0x10120 + 4096 * n, 0, 16⟩
def DW.SC_FORCE_F_CB_LIMIT (n : Nat) : Fld := ⟨0x10120 + 4096 * n, 16, 16⟩
def DW.LEARN_V (n : Nat) : Fld := ⟨0x10124 + 4096 * n, 0, 32⟩
def DW.LEARN_V_V1 (n : Nat) : Fld := ⟨0x10124 + 4096 * n, 0, 16⟩
def DW.LEARN_V_V2 (n : Nat) : Fld := ⟨0x10124 + 4096 * n, 16, 16⟩
def DW.LEARN_LIM (n : Nat) : Fld := ⟨0x10128 + 4096 * n, 0, 32⟩
def DW.LEARN_LIM_PASSES (n : Nat) : Fld := ⟨0x10128 + 4096 * n, 0, 4⟩
def DW.LEARN_LIM_REP (n : Nat) : Fld := ⟨0x10128 + 4096 * n, 8, 8⟩
def DW.LEARN_LIM_SPRING_MAX (n : Nat) : Fld := ⟨0x10128 + 4096 * n, 16, 16⟩
def DW.DRIFT (n : Nat) : Fld := ⟨0x1012C + 4096 * n, 0, 32⟩
def DW.DRIFT_DRIFT_MAX (n : Nat) : Fld := ⟨0x1012C + 4096 * n, 0, 16⟩
def DW.DRIFT_ADAPT_N (n : Nat) : Fld := ⟨0x1012C + 4096 * n, 16, 8⟩
def DW.DRIFT_SAT_MAX (n : Nat) : Fld := ⟨0x1012C + 4096 * n, 24, 8⟩
def DW.M_C_DOOR (n : Nat) : Fld := ⟨0x10130 + 4096 * n, 0, 32⟩
def DW.M_C_DOOR_M_EQ (n : Nat) : Fld := ⟨0x10130 + 4096 * n, 0, 16⟩
def DW.M_C_DOOR_C_VISC (n : Nat) : Fld := ⟨0x10130 + 4096 * n, 16, 16⟩
def DW.M_C_STEP (n : Nat) : Fld := ⟨0x10134 + 4096 * n, 0, 32⟩
def DW.M_C_STEP_M_EQ (n : Nat) : Fld := ⟨0x10134 + 4096 * n, 0, 16⟩
def DW.M_C_STEP_C_VISC (n : Nat) : Fld := ⟨0x10134 + 4096 * n, 16, 16⟩
def DW.EFF_STAT (n : Nat) : Fld := ⟨0x10138 + 4096 * n, 0, 32⟩
def DW.EFF_STAT_D_VALID (n : Nat) : Fld := ⟨0x10138 + 4096 * n, 0, 1⟩
def DW.EFF_STAT_S_VALID (n : Nat) : Fld := ⟨0x10138 + 4096 * n, 1, 1⟩
def DW.EFF_STAT_LEARN_RUN (n : Nat) : Fld := ⟨0x10138 + 4096 * n, 2, 1⟩
def DW.EFF_STAT_LEARN_RESULT (n : Nat) : Fld := ⟨0x10138 + 4096 * n, 4, 4⟩
def DW.EFF_STAT_LAST_CAUSE (n : Nat) : Fld := ⟨0x10138 + 4096 * n, 8, 4⟩
def DW.EFF_STAT_SAT_D (n : Nat) : Fld := ⟨0x10138 + 4096 * n, 16, 8⟩
def DW.EFF_STAT_SAT_S (n : Nat) : Fld := ⟨0x10138 + 4096 * n, 24, 8⟩
def DW.CRC_DOOR (n : Nat) : Fld := ⟨0x1013C + 4096 * n, 0, 32⟩
def DW.CRC_STEP (n : Nat) : Fld := ⟨0x10140 + 4096 * n, 0, 32⟩
def DW.LEARN_AGE (n : Nat) : Fld := ⟨0x10144 + 4096 * n, 0, 32⟩
def DW.LEARN_AGE_DOOR (n : Nat) : Fld := ⟨0x10144 + 4096 * n, 0, 16⟩
def DW.LEARN_AGE_STEP (n : Nat) : Fld := ⟨0x10144 + 4096 * n, 16, 16⟩
def DW.EFF_CTRL (n : Nat) : Fld := ⟨0x10148 + 4096 * n, 0, 32⟩
def DW.EFF_CTRL_SNAP (n : Nat) : Fld := ⟨0x10148 + 4096 * n, 0, 1⟩
def DW.EFF_CTRL_SNAP_AX (n : Nat) : Fld := ⟨0x10148 + 4096 * n, 1, 1⟩
def DW.EFF_CTRL_CLR_MODEL (n : Nat) : Fld := ⟨0x10148 + 4096 * n, 2, 1⟩
def DW.EFF_CTRL_RESET_ADAPT (n : Nat) : Fld := ⟨0x10148 + 4096 * n, 3, 1⟩
def DW.PEAK (n : Nat) : Fld := ⟨0x1014C + 4096 * n, 0, 32⟩
def DW.PEAK_F (n : Nat) : Fld := ⟨0x1014C + 4096 * n, 0, 16⟩
def DW.PEAK_POS (n : Nat) : Fld := ⟨0x1014C + 4096 * n, 16, 16⟩
def DW.SNAP_STAT (n : Nat) : Fld := ⟨0x10150 + 4096 * n, 0, 32⟩
def DW.SNAP_POS (n : Nat) : Fld := ⟨0x10154 + 4096 * n, 0, 32⟩
def DW.SNAP_IQ (n : Nat) : Fld := ⟨0x10158 + 4096 * n, 0, 32⟩
def DW.SNAP_F (n : Nat) : Fld := ⟨0x1015C + 4096 * n, 0, 32⟩
def DW.SNAP_F_F_EST (n : Nat) : Fld := ⟨0x1015C + 4096 * n, 0, 16⟩
def DW.SNAP_F_F_INERT (n : Nat) : Fld := ⟨0x1015C + 4096 * n, 16, 16⟩
def DW.SNAP_FCB (n : Nat) : Fld := ⟨0x10160 + 4096 * n, 0, 32⟩
def DW.SNAP_FCB_F_CB (n : Nat) : Fld := ⟨0x10160 + 4096 * n, 0, 16⟩
def DW.SNAP_FCB_LIMIT (n : Nat) : Fld := ⟨0x10160 + 4096 * n, 16, 16⟩
def DW.SNAP_BIN (n : Nat) : Fld := ⟨0x10164 + 4096 * n, 0, 32⟩
def DW.SNAP_BIN_BIN (n : Nat) : Fld := ⟨0x10164 + 4096 * n, 0, 7⟩
def DW.SNAP_BIN_BOUND (n : Nat) : Fld := ⟨0x10164 + 4096 * n, 8, 1⟩
def DW.SNAP_MODEL (n : Nat) : Fld := ⟨0x10168 + 4096 * n, 0, 32⟩
def DW.SNAP_MODEL_FRIC (n : Nat) : Fld := ⟨0x10168 + 4096 * n, 0, 16⟩
def DW.SNAP_MODEL_SPRING (n : Nat) : Fld := ⟨0x10168 + 4096 * n, 16, 16⟩
def DW.ADAPT_DOOR (n i : Nat) : Fld := ⟨0x10800 + 4096 * n + 4 * i, 0, 32⟩
def DW.ADAPT_DOOR_FRIC (n i : Nat) : Fld := ⟨0x10800 + 4096 * n + 4 * i, 0, 16⟩
def DW.ADAPT_DOOR_SPRING (n i : Nat) : Fld := ⟨0x10800 + 4096 * n + 4 * i, 16, 16⟩
def DW.ADAPT_STEP (n i : Nat) : Fld := ⟨0x10A00 + 4096 * n + 4 * i, 0, 32⟩
def DW.ADAPT_STEP_FRIC (n i : Nat) : Fld := ⟨0x10A00 + 4096 * n + 4 * i, 0, 16⟩
def DW.ADAPT_STEP_SPRING (n i : Nat) : Fld := ⟨0x10A00 + 4096 * n + 4 * i, 16, 16⟩
def DW.BASE_DOOR (n i : Nat) : Fld := ⟨0x10C00 + 4096 * n + 4 * i, 0, 32⟩
def DW.BASE_DOOR_FRIC (n i : Nat) : Fld := ⟨0x10C00 + 4096 * n + 4 * i, 0, 16⟩
def DW.BASE_DOOR_SPRING (n i : Nat) : Fld := ⟨0x10C00 + 4096 * n + 4 * i, 16, 16⟩
def DW.BASE_STEP (n i : Nat) : Fld := ⟨0x10E00 + 4096 * n + 4 * i, 0, 32⟩
def DW.BASE_STEP_FRIC (n i : Nat) : Fld := ⟨0x10E00 + 4096 * n + 4 * i, 0, 16⟩
def DW.BASE_STEP_SPRING (n i : Nat) : Fld := ⟨0x10E00 + 4096 * n + 4 * i, 16, 16⟩

/-! The PZ pages (R226). -/

def PZ.CTRL (n : Nat) : Fld := ⟨0x18040 + 4096 * n, 0, 32⟩
def PZ.CTRL_FORCE_RUN (n : Nat) : Fld := ⟨0x18040 + 4096 * n, 0, 1⟩
def PZ.CTRL_FREEZE_GRID (n : Nat) : Fld := ⟨0x18040 + 4096 * n, 1, 1⟩
def PZ.STAT (n : Nat) : Fld := ⟨0x18044 + 4096 * n, 0, 32⟩
def PZ.STAT_VERDICT (n : Nat) : Fld := ⟨0x18044 + 4096 * n, 0, 3⟩
def PZ.STAT_INTRUSION (n : Nat) : Fld := ⟨0x18044 + 4096 * n, 3, 1⟩
def PZ.STAT_RUNNING (n : Nat) : Fld := ⟨0x18044 + 4096 * n, 4, 1⟩
def PZ.STAT_SV_ACTIVE (n : Nat) : Fld := ⟨0x18044 + 4096 * n, 5, 1⟩
def PZ.STAT_FROZEN (n : Nat) : Fld := ⟨0x18044 + 4096 * n, 6, 1⟩
def PZ.STAT_BUF (n : Nat) : Fld := ⟨0x18044 + 4096 * n, 7, 1⟩
def PZ.STAT_HEAD0 (n : Nat) : Fld := ⟨0x18044 + 4096 * n, 8, 1⟩
def PZ.STAT_HEAD1 (n : Nat) : Fld := ⟨0x18044 + 4096 * n, 9, 1⟩
def PZ.STAT_PASS_SEQ (n : Nat) : Fld := ⟨0x18044 + 4096 * n, 16, 16⟩
def PZ.ZONE_STAT (n : Nat) : Fld := ⟨0x18048 + 4096 * n, 0, 32⟩
def PZ.ZONE_STAT_ZONE (n i : Nat) : Fld := ⟨0x18048 + 4096 * n, 2 * i, 2⟩
def PZ.PASS_T_LO (n : Nat) : Fld := ⟨0x1804C + 4096 * n, 0, 32⟩
def PZ.PASS_T_HI (n : Nat) : Fld := ⟨0x18050 + 4096 * n, 0, 32⟩
def PZ.T_FRAME_EFF (n : Nat) : Fld := ⟨0x18054 + 4096 * n, 0, 32⟩
def PZ.T_FRAME_EFF_T (n : Nat) : Fld := ⟨0x18054 + 4096 * n, 0, 18⟩
def PZ.GRID_XY (n : Nat) : Fld := ⟨0x18058 + 4096 * n, 0, 32⟩
def PZ.GRID_XY_X0 (n : Nat) : Fld := ⟨0x18058 + 4096 * n, 0, 16⟩
def PZ.GRID_XY_Y0 (n : Nat) : Fld := ⟨0x18058 + 4096 * n, 16, 16⟩
def PZ.GRID_Z (n : Nat) : Fld := ⟨0x1805C + 4096 * n, 0, 32⟩
def PZ.GRID_Z_Z0 (n : Nat) : Fld := ⟨0x1805C + 4096 * n, 0, 16⟩
def PZ.FUSE (n : Nat) : Fld := ⟨0x18060 + 4096 * n, 0, 32⟩
def PZ.FUSE_CONF_MIN (n : Nat) : Fld := ⟨0x18060 + 4096 * n, 0, 8⟩
def PZ.FUSE_TRUNC (n : Nat) : Fld := ⟨0x18060 + 4096 * n, 8, 5⟩
def PZ.FUSE_HIT_MIN (n : Nat) : Fld := ⟨0x18060 + 4096 * n, 14, 2⟩
def PZ.FUSE_CARVE_VETO (n : Nat) : Fld := ⟨0x18060 + 4096 * n, 16, 4⟩
def PZ.FUSE_VALID_MIN (n : Nat) : Fld := ⟨0x18060 + 4096 * n, 24, 7⟩
def PZ.COVER (n : Nat) : Fld := ⟨0x18064 + 4096 * n, 0, 32⟩
def PZ.COVER_COVER_MIN (n : Nat) : Fld := ⟨0x18064 + 4096 * n, 0, 7⟩
def PZ.COVER_VERDICT_MASK (n : Nat) : Fld := ⟨0x18064 + 4096 * n, 8, 8⟩
def PZ.SV_CFG (n : Nat) : Fld := ⟨0x18068 + 4096 * n, 0, 32⟩
def PZ.SV_CFG_SV_MODE (n : Nat) : Fld := ⟨0x18068 + 4096 * n, 0, 2⟩
def PZ.SV_CFG_SV_OCC_MIN (n : Nat) : Fld := ⟨0x18068 + 4096 * n, 8, 8⟩
def PZ.SV_CFG_SV_PAD (n : Nat) : Fld := ⟨0x18068 + 4096 * n, 16, 16⟩
def PZ.SV_BAND (n : Nat) : Fld := ⟨0x1806C + 4096 * n, 0, 32⟩
def PZ.SV_BAND_J0 (n : Nat) : Fld := ⟨0x1806C + 4096 * n, 0, 8⟩
def PZ.SV_BAND_J1 (n : Nat) : Fld := ⟨0x1806C + 4096 * n, 8, 8⟩
def PZ.SV_BAND_K0 (n : Nat) : Fld := ⟨0x1806C + 4096 * n, 16, 8⟩
def PZ.SV_BAND_K1 (n : Nat) : Fld := ⟨0x1806C + 4096 * n, 24, 8⟩
def PZ.SV_XC (n : Nat) : Fld := ⟨0x18070 + 4096 * n, 0, 32⟩
def PZ.SV_POS (n : Nat) : Fld := ⟨0x18074 + 4096 * n, 0, 32⟩
def PZ.SV_LEN (n : Nat) : Fld := ⟨0x18078 + 4096 * n, 0, 32⟩
def PZ.SV_OCC (n : Nat) : Fld := ⟨0x1807C + 4096 * n, 0, 32⟩
def PZ.SV_OCC_COUNT (n : Nat) : Fld := ⟨0x1807C + 4096 * n, 0, 22⟩
def PZ.GAP_CFG (n : Nat) : Fld := ⟨0x18080 + 4096 * n, 0, 32⟩
def PZ.GAP_CFG_GAP_Q (n : Nat) : Fld := ⟨0x18080 + 4096 * n, 0, 5⟩
def PZ.GAP_CFG_COLS_MIN (n : Nat) : Fld := ⟨0x18080 + 4096 * n, 8, 8⟩
def PZ.GAP_CFG_GAP_N (n : Nat) : Fld := ⟨0x18080 + 4096 * n, 16, 4⟩
def PZ.GAP_CFG_SPREAD (n : Nat) : Fld := ⟨0x18080 + 4096 * n, 24, 8⟩
def PZ.GAP_YREF (n : Nat) : Fld := ⟨0x18084 + 4096 * n, 0, 32⟩
def PZ.GAP_BAND (n : Nat) : Fld := ⟨0x18088 + 4096 * n, 0, 32⟩
def PZ.GAP_BAND_I0 (n : Nat) : Fld := ⟨0x18088 + 4096 * n, 0, 8⟩
def PZ.GAP_BAND_I1 (n : Nat) : Fld := ⟨0x18088 + 4096 * n, 8, 8⟩
def PZ.GAP_BAND_K0 (n : Nat) : Fld := ⟨0x18088 + 4096 * n, 16, 8⟩
def PZ.GAP_BAND_K1 (n : Nat) : Fld := ⟨0x18088 + 4096 * n, 24, 8⟩
def PZ.GAP_MAX (n : Nat) : Fld := ⟨0x1808C + 4096 * n, 0, 32⟩
def PZ.GAP_STAT (n : Nat) : Fld := ⟨0x18090 + 4096 * n, 0, 32⟩
def PZ.GAP_STAT_VALID (n : Nat) : Fld := ⟨0x18090 + 4096 * n, 0, 1⟩
def PZ.GAP_STAT_FROZEN (n : Nat) : Fld := ⟨0x18090 + 4096 * n, 1, 1⟩
def PZ.GAP_STAT_COLS (n : Nat) : Fld := ⟨0x18090 + 4096 * n, 8, 8⟩
def PZ.GAP_STAT_CAUSE (n : Nat) : Fld := ⟨0x18090 + 4096 * n, 16, 4⟩
def PZ.GAP (n : Nat) : Fld := ⟨0x18094 + 4096 * n, 0, 32⟩
def PZ.GAP_Z (n : Nat) : Fld := ⟨0x18098 + 4096 * n, 0, 32⟩
def PZ.QRY_CTRL (n : Nat) : Fld := ⟨0x180A0 + 4096 * n, 0, 32⟩
def PZ.QRY_CTRL_REQ (n : Nat) : Fld := ⟨0x180A0 + 4096 * n, 0, 1⟩
def PZ.QRY_LO (n : Nat) : Fld := ⟨0x180A4 + 4096 * n, 0, 32⟩
def PZ.QRY_LO_I (n : Nat) : Fld := ⟨0x180A4 + 4096 * n, 0, 8⟩
def PZ.QRY_LO_J (n : Nat) : Fld := ⟨0x180A4 + 4096 * n, 8, 8⟩
def PZ.QRY_LO_K (n : Nat) : Fld := ⟨0x180A4 + 4096 * n, 16, 8⟩
def PZ.QRY_HI (n : Nat) : Fld := ⟨0x180A8 + 4096 * n, 0, 32⟩
def PZ.QRY_HI_I (n : Nat) : Fld := ⟨0x180A8 + 4096 * n, 0, 8⟩
def PZ.QRY_HI_J (n : Nat) : Fld := ⟨0x180A8 + 4096 * n, 8, 8⟩
def PZ.QRY_HI_K (n : Nat) : Fld := ⟨0x180A8 + 4096 * n, 16, 8⟩
def PZ.QRY_STAT (n : Nat) : Fld := ⟨0x180AC + 4096 * n, 0, 32⟩
def PZ.QRY_OCC (n : Nat) : Fld := ⟨0x180B0 + 4096 * n, 0, 32⟩
def PZ.QRY_FREE (n : Nat) : Fld := ⟨0x180B4 + 4096 * n, 0, 32⟩
def PZ.QRY_UNSEEN (n : Nat) : Fld := ⟨0x180B8 + 4096 * n, 0, 32⟩
def PZ.QRY_CONFLICT (n : Nat) : Fld := ⟨0x180BC + 4096 * n, 0, 32⟩
def PZ.PASS_CNT (n : Nat) : Fld := ⟨0x180C0 + 4096 * n, 0, 32⟩
def PZ.STALE_CNT (n : Nat) : Fld := ⟨0x180C4 + 4096 * n, 0, 32⟩
def PZ.ZONE_LO (n i : Nat) : Fld := ⟨0x18100 + 4096 * n + 8 * i, 0, 32⟩
def PZ.ZONE_LO_I0 (n i : Nat) : Fld := ⟨0x18100 + 4096 * n + 8 * i, 0, 8⟩
def PZ.ZONE_LO_J0 (n i : Nat) : Fld := ⟨0x18100 + 4096 * n + 8 * i, 8, 8⟩
def PZ.ZONE_LO_K0 (n i : Nat) : Fld := ⟨0x18100 + 4096 * n + 8 * i, 16, 8⟩
def PZ.ZONE_LO_EN (n i : Nat) : Fld := ⟨0x18100 + 4096 * n + 8 * i, 31, 1⟩
def PZ.ZONE_HI (n i : Nat) : Fld := ⟨0x18104 + 4096 * n + 8 * i, 0, 32⟩
def PZ.ZONE_HI_I1 (n i : Nat) : Fld := ⟨0x18104 + 4096 * n + 8 * i, 0, 8⟩
def PZ.ZONE_HI_J1 (n i : Nat) : Fld := ⟨0x18104 + 4096 * n + 8 * i, 8, 8⟩
def PZ.ZONE_HI_K1 (n i : Nat) : Fld := ⟨0x18104 + 4096 * n + 8 * i, 16, 8⟩
def PZ.ZONE_HI_OCC_MIN (n i : Nat) : Fld := ⟨0x18104 + 4096 * n + 8 * i, 24, 8⟩
def PZ.ZONE_OCC (n i : Nat) : Fld := ⟨0x18140 + 4096 * n + 4 * i, 0, 32⟩
def PZ.ZONE_OCC_COUNT (n i : Nat) : Fld := ⟨0x18140 + 4096 * n + 4 * i, 0, 22⟩
def PZ.ZONE_COV (n i : Nat) : Fld := ⟨0x18160 + 4096 * n + 4 * i, 0, 32⟩
def PZ.ZONE_COV_COV (n i : Nat) : Fld := ⟨0x18160 + 4096 * n + 4 * i, 0, 7⟩

/-! The AX pages (R130). -/

def AX.CFG (n : Nat) : Fld := ⟨0x20040 + 4096 * n, 0, 32⟩
def AX.CFG_MOTOR (n : Nat) : Fld := ⟨0x20040 + 4096 * n, 0, 2⟩
def AX.CFG_DIR_INV (n : Nat) : Fld := ⟨0x20040 + 4096 * n, 2, 1⟩
def AX.CFG_FB_SEL (n : Nat) : Fld := ⟨0x20040 + 4096 * n, 3, 5⟩
def AX.CFG_POLE_PAIRS (n : Nat) : Fld := ⟨0x20040 + 4096 * n, 8, 4⟩
def AX.CFG_IDRIVE (n : Nat) : Fld := ⟨0x20040 + 4096 * n, 12, 2⟩
def AX.CFG_SHUNT_GAIN (n : Nat) : Fld := ⟨0x20040 + 4096 * n, 14, 2⟩
def AX.CNT_PER_REV (n : Nat) : Fld := ⟨0x20044 + 4096 * n, 0, 32⟩
def AX.CNT_PER_REV_CPR (n : Nat) : Fld := ⟨0x20044 + 4096 * n, 0, 24⟩
def AX.SCALE (n : Nat) : Fld := ⟨0x20048 + 4096 * n, 0, 32⟩
def AX.SCALE_NUM (n : Nat) : Fld := ⟨0x20048 + 4096 * n, 0, 16⟩
def AX.SCALE_DEN (n : Nat) : Fld := ⟨0x20048 + 4096 * n, 16, 16⟩
def AX.PWM (n : Nat) : Fld := ⟨0x2004C + 4096 * n, 0, 32⟩
def AX.PWM_FREQ (n : Nat) : Fld := ⟨0x2004C + 4096 * n, 0, 16⟩
def AX.PWM_DEADTIME (n : Nat) : Fld := ⟨0x2004C + 4096 * n, 16, 10⟩
def AX.MOTOR_R (n : Nat) : Fld := ⟨0x20050 + 4096 * n, 0, 32⟩
def AX.MOTOR_R_R (n : Nat) : Fld := ⟨0x20050 + 4096 * n, 0, 16⟩
def AX.MOTOR_L (n : Nat) : Fld := ⟨0x20054 + 4096 * n, 0, 32⟩
def AX.MOTOR_L_L (n : Nat) : Fld := ⟨0x20054 + 4096 * n, 0, 16⟩
def AX.CUR_BW (n : Nat) : Fld := ⟨0x20058 + 4096 * n, 0, 32⟩
def AX.CUR_BW_BW (n : Nat) : Fld := ⟨0x20058 + 4096 * n, 0, 16⟩
def AX.SHUNT_R (n : Nat) : Fld := ⟨0x2005C + 4096 * n, 0, 32⟩
def AX.SHUNT_R_R (n : Nat) : Fld := ⟨0x2005C + 4096 * n, 0, 17⟩
def AX.I_LIMIT (n : Nat) : Fld := ⟨0x20060 + 4096 * n, 0, 32⟩
def AX.I_LIMIT_I_MAX (n : Nat) : Fld := ⟨0x20060 + 4096 * n, 0, 16⟩
def AX.I_LIMIT_I_CONT (n : Nat) : Fld := ⟨0x20060 + 4096 * n, 16, 16⟩
def AX.I_HOLD_HOME (n : Nat) : Fld := ⟨0x20064 + 4096 * n, 0, 32⟩
def AX.I_HOLD_HOME_I_HOLD (n : Nat) : Fld := ⟨0x20064 + 4096 * n, 0, 16⟩
def AX.I_HOLD_HOME_I_HOME (n : Nat) : Fld := ⟨0x20064 + 4096 * n, 16, 16⟩
def AX.STALL (n : Nat) : Fld := ⟨0x20068 + 4096 * n, 0, 32⟩
def AX.STALL_V_STALL (n : Nat) : Fld := ⟨0x20068 + 4096 * n, 0, 16⟩
def AX.STALL_I_STALL (n : Nat) : Fld := ⟨0x20068 + 4096 * n, 16, 8⟩
def AX.STALL_T_STALL (n : Nat) : Fld := ⟨0x20068 + 4096 * n, 24, 8⟩
def AX.V_HOME (n : Nat) : Fld := ⟨0x2006C + 4096 * n, 0, 32⟩
def AX.V_HOME_V_HOME (n : Nat) : Fld := ⟨0x2006C + 4096 * n, 0, 16⟩
def AX.FERR (n : Nat) : Fld := ⟨0x20070 + 4096 * n, 0, 32⟩
def AX.FERR_FERR_MAX (n : Nat) : Fld := ⟨0x20070 + 4096 * n, 0, 16⟩
def AX.FERR_FERR_T (n : Nat) : Fld := ⟨0x20070 + 4096 * n, 16, 16⟩
def AX.IN_POS (n : Nat) : Fld := ⟨0x20074 + 4096 * n, 0, 32⟩
def AX.IN_POS_WIN (n : Nat) : Fld := ⟨0x20074 + 4096 * n, 0, 16⟩
def AX.KP_POS (n : Nat) : Fld := ⟨0x20078 + 4096 * n, 0, 32⟩
def AX.KP_POS_KP (n : Nat) : Fld := ⟨0x20078 + 4096 * n, 0, 16⟩
def AX.KP_SPD (n : Nat) : Fld := ⟨0x2007C + 4096 * n, 0, 32⟩
def AX.KP_SPD_KP (n : Nat) : Fld := ⟨0x2007C + 4096 * n, 0, 16⟩
def AX.KI_SPD (n : Nat) : Fld := ⟨0x20080 + 4096 * n, 0, 32⟩
def AX.KI_SPD_KI (n : Nat) : Fld := ⟨0x20080 + 4096 * n, 0, 16⟩
def AX.DESAT (n : Nat) : Fld := ⟨0x20084 + 4096 * n, 0, 32⟩
def AX.DESAT_TH (n : Nat) : Fld := ⟨0x20084 + 4096 * n, 0, 4⟩
def AX.DESAT_BLANK (n : Nat) : Fld := ⟨0x20084 + 4096 * n, 4, 4⟩
def AX.DESAT_I_TRIP (n : Nat) : Fld := ⟨0x20084 + 4096 * n, 16, 16⟩
def AX.ELEC (n : Nat) : Fld := ⟨0x20088 + 4096 * n, 0, 32⟩
def AX.ELEC_ELEC_OFFS (n : Nat) : Fld := ⟨0x20088 + 4096 * n, 0, 16⟩
def AX.ELEC_ELEC_VALID (n : Nat) : Fld := ⟨0x20088 + 4096 * n, 31, 1⟩
def AX.PROF0_VSTART (n : Nat) : Fld := ⟨0x200A0 + 4096 * n, 0, 32⟩
def AX.PROF0_VSTART_VSTART (n : Nat) : Fld := ⟨0x200A0 + 4096 * n, 0, 16⟩
def AX.PROF0_VSTOP (n : Nat) : Fld := ⟨0x200A4 + 4096 * n, 0, 32⟩
def AX.PROF0_VSTOP_VSTOP (n : Nat) : Fld := ⟨0x200A4 + 4096 * n, 0, 16⟩
def AX.PROF0_VMAX (n : Nat) : Fld := ⟨0x200A8 + 4096 * n, 0, 32⟩
def AX.PROF0_VMAX_VMAX (n : Nat) : Fld := ⟨0x200A8 + 4096 * n, 0, 16⟩
def AX.PROF0_A_ACC (n : Nat) : Fld := ⟨0x200AC + 4096 * n, 0, 32⟩
def AX.PROF0_A_ACC_A (n : Nat) : Fld := ⟨0x200AC + 4096 * n, 0, 16⟩
def AX.PROF0_A_DEC (n : Nat) : Fld := ⟨0x200B0 + 4096 * n, 0, 32⟩
def AX.PROF0_A_DEC_A (n : Nat) : Fld := ⟨0x200B0 + 4096 * n, 0, 16⟩
def AX.PROF0_CREEP_DIST (n : Nat) : Fld := ⟨0x200B4 + 4096 * n, 0, 32⟩
def AX.PROF0_CREEP_DIST_CREEP (n : Nat) : Fld := ⟨0x200B4 + 4096 * n, 0, 16⟩
def AX.PROF1_VSTART (n : Nat) : Fld := ⟨0x200C0 + 4096 * n, 0, 32⟩
def AX.PROF1_VSTART_VSTART (n : Nat) : Fld := ⟨0x200C0 + 4096 * n, 0, 16⟩
def AX.PROF1_VSTOP (n : Nat) : Fld := ⟨0x200C4 + 4096 * n, 0, 32⟩
def AX.PROF1_VSTOP_VSTOP (n : Nat) : Fld := ⟨0x200C4 + 4096 * n, 0, 16⟩
def AX.PROF1_VMAX (n : Nat) : Fld := ⟨0x200C8 + 4096 * n, 0, 32⟩
def AX.PROF1_VMAX_VMAX (n : Nat) : Fld := ⟨0x200C8 + 4096 * n, 0, 16⟩
def AX.PROF1_A_ACC (n : Nat) : Fld := ⟨0x200CC + 4096 * n, 0, 32⟩
def AX.PROF1_A_ACC_A (n : Nat) : Fld := ⟨0x200CC + 4096 * n, 0, 16⟩
def AX.PROF1_A_DEC (n : Nat) : Fld := ⟨0x200D0 + 4096 * n, 0, 32⟩
def AX.PROF1_A_DEC_A (n : Nat) : Fld := ⟨0x200D0 + 4096 * n, 0, 16⟩
def AX.PROF1_CREEP_DIST (n : Nat) : Fld := ⟨0x200D4 + 4096 * n, 0, 32⟩
def AX.PROF1_CREEP_DIST_CREEP (n : Nat) : Fld := ⟨0x200D4 + 4096 * n, 0, 16⟩
def AX.A_STOP (n : Nat) : Fld := ⟨0x200D8 + 4096 * n, 0, 32⟩
def AX.A_STOP_A (n : Nat) : Fld := ⟨0x200D8 + 4096 * n, 0, 16⟩
def AX.PROF_CTRL (n : Nat) : Fld := ⟨0x200DC + 4096 * n, 0, 32⟩
def AX.PROF_CTRL_HOLD (n : Nat) : Fld := ⟨0x200DC + 4096 * n, 0, 1⟩
def AX.TARGET (n : Nat) : Fld := ⟨0x20100 + 4096 * n, 0, 32⟩
def AX.STAT (n : Nat) : Fld := ⟨0x20104 + 4096 * n, 0, 32⟩
def AX.STAT_AX_STATE (n : Nat) : Fld := ⟨0x20104 + 4096 * n, 0, 3⟩
def AX.STAT_GATE_EN (n : Nat) : Fld := ⟨0x20104 + 4096 * n, 3, 1⟩
def AX.STAT_STALL (n : Nat) : Fld := ⟨0x20104 + 4096 * n, 4, 1⟩
def AX.STAT_IN_POS (n : Nat) : Fld := ⟨0x20104 + 4096 * n, 5, 1⟩
def AX.STAT_LIMITED (n : Nat) : Fld := ⟨0x20104 + 4096 * n, 6, 1⟩
def AX.STAT_INPOS_FAIL (n : Nat) : Fld := ⟨0x20104 + 4096 * n, 7, 1⟩
def AX.STAT_I_LIMITED (n : Nat) : Fld := ⟨0x20104 + 4096 * n, 8, 1⟩
def AX.STAT_HOMED (n : Nat) : Fld := ⟨0x20104 + 4096 * n, 9, 1⟩
def AX.STAT_OWNED (n : Nat) : Fld := ⟨0x20104 + 4096 * n, 10, 1⟩
def AX.STAT_SETTLING (n : Nat) : Fld := ⟨0x20104 + 4096 * n, 11, 1⟩
def AX.STAT_ANGLE_OK (n : Nat) : Fld := ⟨0x20104 + 4096 * n, 12, 1⟩
def AX.POS (n : Nat) : Fld := ⟨0x20108 + 4096 * n, 0, 32⟩
def AX.POS_CMD (n : Nat) : Fld := ⟨0x2010C + 4096 * n, 0, 32⟩
def AX.SPEED (n : Nat) : Fld := ⟨0x20110 + 4096 * n, 0, 32⟩
def AX.SPEED_CMD (n : Nat) : Fld := ⟨0x20114 + 4096 * n, 0, 32⟩
def AX.IQ (n : Nat) : Fld := ⟨0x20118 + 4096 * n, 0, 32⟩
def AX.ID (n : Nat) : Fld := ⟨0x2011C + 4096 * n, 0, 32⟩
def AX.IQ_CMD (n : Nat) : Fld := ⟨0x20120 + 4096 * n, 0, 32⟩
def AX.POS_OFS (n : Nat) : Fld := ⟨0x20124 + 4096 * n, 0, 32⟩
def AX.FAULT (n : Nat) : Fld := ⟨0x20128 + 4096 * n, 0, 32⟩
def AX.FAULT_CAUSE (n : Nat) : Fld := ⟨0x20128 + 4096 * n, 0, 8⟩
def AX.FAULT_ACTIVE (n : Nat) : Fld := ⟨0x20128 + 4096 * n, 8, 1⟩
def AX.FAULT_LOC (n : Nat) : Fld := ⟨0x2012C + 4096 * n, 0, 32⟩
def AX.CTRL (n : Nat) : Fld := ⟨0x20130 + 4096 * n, 0, 32⟩
def AX.CTRL_CLR (n : Nat) : Fld := ⟨0x20130 + 4096 * n, 0, 1⟩
def AX.DESAT_CNT (n : Nat) : Fld := ⟨0x20134 + 4096 * n, 0, 32⟩
def AX.OC_CNT (n : Nat) : Fld := ⟨0x20138 + 4096 * n, 0, 32⟩

/-! The FB pages (R158). -/

def FB.CFG (n : Nat) : Fld := ⟨0x30040 + 4096 * n, 0, 32⟩
def FB.CFG_TYPE (n : Nat) : Fld := ⟨0x30040 + 4096 * n, 0, 2⟩
def FB.CFG_IDX_EN (n : Nat) : Fld := ⟨0x30040 + 4096 * n, 2, 1⟩
def FB.CFG_TERM (n : Nat) : Fld := ⟨0x30040 + 4096 * n, 3, 1⟩
def FB.CFG_IDX_QUAL (n : Nat) : Fld := ⟨0x30040 + 4096 * n, 4, 1⟩
def FB.CFG_IDX_AB (n : Nat) : Fld := ⟨0x30040 + 4096 * n, 5, 2⟩
def FB.CFG_HALL_INV (n : Nat) : Fld := ⟨0x30040 + 4096 * n, 7, 1⟩
def FB.CFG_SSI_SHARE (n : Nat) : Fld := ⟨0x30040 + 4096 * n, 8, 1⟩
def FB.FILT (n : Nat) : Fld := ⟨0x30044 + 4096 * n, 0, 32⟩
def FB.FILT_N (n : Nat) : Fld := ⟨0x30044 + 4096 * n, 0, 6⟩
def FB.FILT_PRESC (n : Nat) : Fld := ⟨0x30044 + 4096 * n, 8, 3⟩
def FB.SSI_CFG (n : Nat) : Fld := ⟨0x30048 + 4096 * n, 0, 32⟩
def FB.SSI_CFG_BITS (n : Nat) : Fld := ⟨0x30048 + 4096 * n, 0, 6⟩
def FB.SSI_CFG_CODE (n : Nat) : Fld := ⟨0x30048 + 4096 * n, 6, 1⟩
def FB.SSI_CFG_PAR (n : Nat) : Fld := ⟨0x30048 + 4096 * n, 7, 2⟩
def FB.SSI_CFG_ERRBIT (n : Nat) : Fld := ⟨0x30048 + 4096 * n, 9, 1⟩
def FB.SSI_CFG_ERRPOL (n : Nat) : Fld := ⟨0x30048 + 4096 * n, 10, 1⟩
def FB.SSI_CFG_FREQ (n : Nat) : Fld := ⟨0x30048 + 4096 * n, 16, 11⟩
def FB.SSI_TIM (n : Nat) : Fld := ⟨0x3004C + 4096 * n, 0, 32⟩
def FB.SSI_TIM_MONO (n : Nat) : Fld := ⟨0x3004C + 4096 * n, 0, 8⟩
def FB.SSI_TIM_DELAY (n : Nat) : Fld := ⟨0x3004C + 4096 * n, 8, 8⟩
def FB.SSI_TIM_JUMP_MAX (n : Nat) : Fld := ⟨0x3004C + 4096 * n, 16, 16⟩
def FB.OBS (n : Nat) : Fld := ⟨0x30050 + 4096 * n, 0, 32⟩
def FB.OBS_BW (n : Nat) : Fld := ⟨0x30050 + 4096 * n, 0, 12⟩
def FB.OBS_T_STILL (n : Nat) : Fld := ⟨0x30050 + 4096 * n, 16, 10⟩
def FB.QERR (n : Nat) : Fld := ⟨0x30054 + 4096 * n, 0, 32⟩
def FB.QERR_LIMIT (n : Nat) : Fld := ⟨0x30054 + 4096 * n, 0, 10⟩
def FB.IDX_CFG (n : Nat) : Fld := ⟨0x30058 + 4096 * n, 0, 32⟩
def FB.IDX_CFG_IDX_PERIOD (n : Nat) : Fld := ⟨0x30058 + 4096 * n, 0, 21⟩
def FB.IDX_CFG_IDX_TOL (n : Nat) : Fld := ⟨0x30058 + 4096 * n, 24, 5⟩
def FB.COUNT (n : Nat) : Fld := ⟨0x30060 + 4096 * n, 0, 32⟩
def FB.SPEED (n : Nat) : Fld := ⟨0x30064 + 4096 * n, 0, 32⟩
def FB.STAT (n : Nat) : Fld := ⟨0x30068 + 4096 * n, 0, 32⟩
def FB.STAT_STILL (n : Nat) : Fld := ⟨0x30068 + 4096 * n, 0, 1⟩
def FB.STAT_SETTLING (n : Nat) : Fld := ⟨0x30068 + 4096 * n, 1, 1⟩
def FB.STAT_POS_UNCERT (n : Nat) : Fld := ⟨0x30068 + 4096 * n, 2, 1⟩
def FB.STAT_IDX_SEEN (n : Nat) : Fld := ⟨0x30068 + 4096 * n, 3, 1⟩
def FB.STAT_DIR (n : Nat) : Fld := ⟨0x30068 + 4096 * n, 4, 1⟩
def FB.STAT_WB_A (n : Nat) : Fld := ⟨0x30068 + 4096 * n, 5, 1⟩
def FB.STAT_WB_B (n : Nat) : Fld := ⟨0x30068 + 4096 * n, 6, 1⟩
def FB.STAT_WB_I (n : Nat) : Fld := ⟨0x30068 + 4096 * n, 7, 1⟩
def FB.STAT_LISTEN (n : Nat) : Fld := ⟨0x30068 + 4096 * n, 8, 1⟩
def FB.STAT_SSI_DIV (n : Nat) : Fld := ⟨0x30068 + 4096 * n, 16, 3⟩
def FB.IDX_POS (n : Nat) : Fld := ⟨0x3006C + 4096 * n, 0, 32⟩
def FB.IDX_REF (n : Nat) : Fld := ⟨0x30070 + 4096 * n, 0, 32⟩
def FB.IDX_DRIFT (n : Nat) : Fld := ⟨0x30074 + 4096 * n, 0, 32⟩
def FB.EDGE_T (n : Nat) : Fld := ⟨0x30078 + 4096 * n, 0, 32⟩
def FB.HALL (n : Nat) : Fld := ⟨0x3007C + 4096 * n, 0, 32⟩
def FB.HALL_CODE (n : Nat) : Fld := ⟨0x3007C + 4096 * n, 0, 3⟩
def FB.HALL_SECTOR (n : Nat) : Fld := ⟨0x3007C + 4096 * n, 4, 3⟩
def FB.SSI_RAW (n : Nat) : Fld := ⟨0x30080 + 4096 * n, 0, 32⟩
def FB.QERR_CNT (n : Nat) : Fld := ⟨0x30084 + 4096 * n, 0, 32⟩
def FB.IDX_CNT (n : Nat) : Fld := ⟨0x30088 + 4096 * n, 0, 32⟩
def FB.IDX_CORR_CNT (n : Nat) : Fld := ⟨0x3008C + 4096 * n, 0, 32⟩
def FB.SSI_ERR_CNT (n : Nat) : Fld := ⟨0x30090 + 4096 * n, 0, 32⟩
def FB.FAULT (n : Nat) : Fld := ⟨0x30094 + 4096 * n, 0, 32⟩
def FB.FAULT_CAUSE (n : Nat) : Fld := ⟨0x30094 + 4096 * n, 0, 8⟩
def FB.FAULT_ACTIVE (n : Nat) : Fld := ⟨0x30094 + 4096 * n, 8, 1⟩
def FB.FAULT_LOC (n : Nat) : Fld := ⟨0x30098 + 4096 * n, 0, 32⟩
def FB.CTRL (n : Nat) : Fld := ⟨0x3009C + 4096 * n, 0, 32⟩
def FB.CTRL_CLR (n : Nat) : Fld := ⟨0x3009C + 4096 * n, 0, 1⟩
def FB.CTRL_IDX_REARM (n : Nat) : Fld := ⟨0x3009C + 4096 * n, 1, 1⟩

/-! The LSG pages (R315). -/

def LSG.GRP_CFG (n : Nat) : Fld := ⟨0x40040 + 4096 * n, 0, 32⟩
def LSG.GRP_CFG_SSEL_SRC (n : Nat) : Fld := ⟨0x40040 + 4096 * n, 0, 1⟩
def LSG.GRP_CFG_HOLD_TMAX (n : Nat) : Fld := ⟨0x40040 + 4096 * n, 2, 10⟩
def LSG.GRP_CFG_OL_OFF_P (n : Nat) : Fld := ⟨0x40040 + 4096 * n, 16, 16⟩
def LSG.SENSE_SEL (n : Nat) : Fld := ⟨0x40044 + 4096 * n, 0, 32⟩
def LSG.SENSE_SEL_SEL (n : Nat) : Fld := ⟨0x40044 + 4096 * n, 0, 4⟩
def LSG.GRP_STAT (n : Nat) : Fld := ⟨0x40048 + 4096 * n, 0, 32⟩
def LSG.GRP_STAT_SSEL_PIN (n : Nat) : Fld := ⟨0x40048 + 4096 * n, 0, 4⟩
def LSG.GRP_STAT_SEL_USED (n : Nat) : Fld := ⟨0x40048 + 4096 * n, 4, 4⟩
def LSG.GRP_STAT_GRP_OVER (n : Nat) : Fld := ⟨0x40048 + 4096 * n, 8, 1⟩
def LSG.GRP_STAT_UV (n : Nat) : Fld := ⟨0x40048 + 4096 * n, 9, 1⟩
def LSG.GRP_STAT_I_GRP (n : Nat) : Fld := ⟨0x40048 + 4096 * n, 16, 16⟩
def LSG.DIE_MEAS (n : Nat) : Fld := ⟨0x4004C + 4096 * n, 0, 32⟩
def LSG.DIE_MEAS_TEMP (n : Nat) : Fld := ⟨0x4004C + 4096 * n, 0, 16⟩
def LSG.DIE_MEAS_VBAT (n : Nat) : Fld := ⟨0x4004C + 4096 * n, 16, 16⟩
def LSG.ON (n : Nat) : Fld := ⟨0x40050 + 4096 * n, 0, 32⟩
def LSG.ON_ON (n : Nat) : Fld := ⟨0x40050 + 4096 * n, 0, 12⟩
def LSG.SRC (n : Nat) : Fld := ⟨0x40054 + 4096 * n, 0, 32⟩
def LSG.SRC_SRC (n i : Nat) : Fld := ⟨0x40054 + 4096 * n, 2 * i, 2⟩
def LSG.SAFE (n : Nat) : Fld := ⟨0x40058 + 4096 * n, 0, 32⟩
def LSG.SAFE_SAFE (n : Nat) : Fld := ⟨0x40058 + 4096 * n, 0, 12⟩
def LSG.FS (n : Nat) : Fld := ⟨0x4005C + 4096 * n, 0, 32⟩
def LSG.FS_FS (n i : Nat) : Fld := ⟨0x4005C + 4096 * n, 2 * i, 2⟩
def LSG.LED (n : Nat) : Fld := ⟨0x40060 + 4096 * n, 0, 32⟩
def LSG.LED_LED (n : Nat) : Fld := ⟨0x40060 + 4096 * n, 0, 12⟩
def LSG.CLR (n : Nat) : Fld := ⟨0x40064 + 4096 * n, 0, 32⟩
def LSG.CLR_CLR (n : Nat) : Fld := ⟨0x40064 + 4096 * n, 0, 12⟩
def LSG.FAULT_LOC (n : Nat) : Fld := ⟨0x40068 + 4096 * n, 0, 32⟩
def LSG.SNAP_CTRL (n : Nat) : Fld := ⟨0x40070 + 4096 * n, 0, 32⟩
def LSG.SNAP_CTRL_REQ (n : Nat) : Fld := ⟨0x40070 + 4096 * n, 0, 1⟩
def LSG.SNAP_STAT (n : Nat) : Fld := ⟨0x40074 + 4096 * n, 0, 32⟩
def LSG.SNAP_I (n i : Nat) : Fld := ⟨0x40078 + 4096 * n + 4 * i, 0, 32⟩
def LSG.SNAP_I_I (n i : Nat) : Fld := ⟨0x40078 + 4096 * n + 4 * i, 0, 16⟩
def LSG.SNAP_I_T (n i : Nat) : Fld := ⟨0x40078 + 4096 * n + 4 * i, 16, 16⟩
def LSG.SNAP_DIE (n : Nat) : Fld := ⟨0x400A8 + 4096 * n, 0, 32⟩
def LSG.SNAP_DIE_TEMP (n : Nat) : Fld := ⟨0x400A8 + 4096 * n, 0, 16⟩
def LSG.SNAP_DIE_VBAT (n : Nat) : Fld := ⟨0x400A8 + 4096 * n, 16, 16⟩
def LSG.CH_CFG (n i : Nat) : Fld := ⟨0x40100 + 4096 * n + 16 * i, 0, 32⟩
def LSG.CH_CFG_PROF (n i : Nat) : Fld := ⟨0x40100 + 4096 * n + 16 * i, 0, 3⟩
def LSG.CH_CFG_OL_ON_EN (n i : Nat) : Fld := ⟨0x40100 + 4096 * n + 16 * i, 3, 1⟩
def LSG.CH_CFG_OL_OFF_EN (n i : Nat) : Fld := ⟨0x40100 + 4096 * n + 16 * i, 4, 1⟩
def LSG.CH_CFG_RETRY_MAX (n i : Nat) : Fld := ⟨0x40100 + 4096 * n + 16 * i, 8, 4⟩
def LSG.CH_CFG_I_NOM (n i : Nat) : Fld := ⟨0x40100 + 4096 * n + 16 * i, 16, 16⟩
def LSG.CH_OL (n i : Nat) : Fld := ⟨0x40104 + 4096 * n + 16 * i, 0, 32⟩
def LSG.CH_OL_LED_TH (n i : Nat) : Fld := ⟨0x40104 + 4096 * n + 16 * i, 0, 6⟩
def LSG.CH_OL_OL_T (n i : Nat) : Fld := ⟨0x40104 + 4096 * n + 16 * i, 8, 8⟩
def LSG.CH_OL_RETRY_T (n i : Nat) : Fld := ⟨0x40104 + 4096 * n + 16 * i, 16, 16⟩
def LSG.CH_STAT (n i : Nat) : Fld := ⟨0x40108 + 4096 * n + 16 * i, 0, 32⟩
def LSG.CH_STAT_CH_STATE (n i : Nat) : Fld := ⟨0x40108 + 4096 * n + 16 * i, 0, 3⟩
def LSG.CH_STAT_OUT (n i : Nat) : Fld := ⟨0x40108 + 4096 * n + 16 * i, 3, 1⟩
def LSG.CH_STAT_LIMITING (n i : Nat) : Fld := ⟨0x40108 + 4096 * n + 16 * i, 4, 1⟩
def LSG.CH_STAT_OL_ON (n i : Nat) : Fld := ⟨0x40108 + 4096 * n + 16 * i, 5, 1⟩
def LSG.CH_STAT_OL_OFF (n i : Nat) : Fld := ⟨0x40108 + 4096 * n + 16 * i, 6, 1⟩
def LSG.CH_STAT_SHORT_BAT (n i : Nat) : Fld := ⟨0x40108 + 4096 * n + 16 * i, 7, 1⟩
def LSG.CH_STAT_FW_MISSING (n i : Nat) : Fld := ⟨0x40108 + 4096 * n + 16 * i, 8, 1⟩
def LSG.CH_STAT_FS_APPLIED (n i : Nat) : Fld := ⟨0x40108 + 4096 * n + 16 * i, 9, 1⟩
def LSG.CH_STAT_LSIN (n i : Nat) : Fld := ⟨0x40108 + 4096 * n + 16 * i, 10, 1⟩
def LSG.CH_STAT_RETRY_LEFT (n i : Nat) : Fld := ⟨0x40108 + 4096 * n + 16 * i, 12, 4⟩
def LSG.CH_STAT_CAUSE (n i : Nat) : Fld := ⟨0x40108 + 4096 * n + 16 * i, 16, 8⟩
def LSG.CH_STAT_ACTIVE (n i : Nat) : Fld := ⟨0x40108 + 4096 * n + 16 * i, 24, 1⟩
def LSG.CH_MEAS (n i : Nat) : Fld := ⟨0x4010C + 4096 * n + 16 * i, 0, 32⟩
def LSG.CH_MEAS_I (n i : Nat) : Fld := ⟨0x4010C + 4096 * n + 16 * i, 0, 16⟩
def LSG.CH_MEAS_T (n i : Nat) : Fld := ⟨0x4010C + 4096 * n + 16 * i, 16, 16⟩
def LSG.TRIP_CNT (n i : Nat) : Fld := ⟨0x401C0 + 4096 * n + 4 * i, 0, 32⟩
def LSG.PROF_A (n i : Nat) : Fld := ⟨0x40300 + 4096 * n + 8 * i, 0, 32⟩
def LSG.PROF_A_ILIM_IN (n i : Nat) : Fld := ⟨0x40300 + 4096 * n + 8 * i, 0, 2⟩
def LSG.PROF_A_ILIM_RUN (n i : Nat) : Fld := ⟨0x40300 + 4096 * n + 8 * i, 2, 2⟩
def LSG.PROF_A_T_LIMMAX (n i : Nat) : Fld := ⟨0x40300 + 4096 * n + 8 * i, 8, 8⟩
def LSG.PROF_A_T_IN (n i : Nat) : Fld := ⟨0x40300 + 4096 * n + 8 * i, 16, 16⟩
def LSG.PROF_B (n i : Nat) : Fld := ⟨0x40304 + 4096 * n + 8 * i, 0, 32⟩
def LSG.PROF_B_RUN_PCT (n i : Nat) : Fld := ⟨0x40304 + 4096 * n + 8 * i, 0, 16⟩
def LSG.PROF_B_T_OVL (n i : Nat) : Fld := ⟨0x40304 + 4096 * n + 8 * i, 16, 8⟩
def LSG.PROF_B_OL_BLANK (n i : Nat) : Fld := ⟨0x40304 + 4096 * n + 8 * i, 24, 8⟩

/-! The CAN pages (R417). -/

def CAN.CFG (n : Nat) : Fld := ⟨0x44040 + 4096 * n, 0, 32⟩
def CAN.CFG_MODE (n : Nat) : Fld := ⟨0x44040 + 4096 * n, 0, 2⟩
def CAN.CFG_OPMODE (n : Nat) : Fld := ⟨0x44040 + 4096 * n, 2, 2⟩
def CAN.CFG_TRIPLE (n : Nat) : Fld := ⟨0x44040 + 4096 * n, 4, 1⟩
def CAN.CFG_BO_AUTO (n : Nat) : Fld := ⟨0x44040 + 4096 * n, 5, 1⟩
def CAN.CFG_PXHD (n : Nat) : Fld := ⟨0x44040 + 4096 * n, 6, 1⟩
def CAN.CFG_RETRY_MAX (n : Nat) : Fld := ⟨0x44040 + 4096 * n, 8, 4⟩
def CAN.CFG_NOMATCH (n : Nat) : Fld := ⟨0x44040 + 4096 * n, 12, 3⟩
def CAN.CFG_BO_DELAY (n : Nat) : Fld := ⟨0x44040 + 4096 * n, 16, 16⟩
def CAN.NBT (n : Nat) : Fld := ⟨0x44044 + 4096 * n, 0, 32⟩
def CAN.NBT_BRP (n : Nat) : Fld := ⟨0x44044 + 4096 * n, 0, 6⟩
def CAN.NBT_TSEG1 (n : Nat) : Fld := ⟨0x44044 + 4096 * n, 6, 9⟩
def CAN.NBT_TSEG2 (n : Nat) : Fld := ⟨0x44044 + 4096 * n, 15, 8⟩
def CAN.NBT_SJW (n : Nat) : Fld := ⟨0x44044 + 4096 * n, 23, 8⟩
def CAN.DBT (n : Nat) : Fld := ⟨0x44048 + 4096 * n, 0, 32⟩
def CAN.DBT_BRP (n : Nat) : Fld := ⟨0x44048 + 4096 * n, 0, 6⟩
def CAN.DBT_TSEG1 (n : Nat) : Fld := ⟨0x44048 + 4096 * n, 6, 6⟩
def CAN.DBT_TSEG2 (n : Nat) : Fld := ⟨0x44048 + 4096 * n, 12, 5⟩
def CAN.DBT_SJW (n : Nat) : Fld := ⟨0x44048 + 4096 * n, 17, 5⟩
def CAN.XBT (n : Nat) : Fld := ⟨0x4404C + 4096 * n, 0, 32⟩
def CAN.XBT_BRP (n : Nat) : Fld := ⟨0x4404C + 4096 * n, 0, 6⟩
def CAN.XBT_TSEG1 (n : Nat) : Fld := ⟨0x4404C + 4096 * n, 6, 6⟩
def CAN.XBT_TSEG2 (n : Nat) : Fld := ⟨0x4404C + 4096 * n, 12, 5⟩
def CAN.XBT_SJW (n : Nat) : Fld := ⟨0x4404C + 4096 * n, 17, 5⟩
def CAN.TDC (n : Nat) : Fld := ⟨0x44050 + 4096 * n, 0, 32⟩
def CAN.TDC_EN (n : Nat) : Fld := ⟨0x44050 + 4096 * n, 0, 1⟩
def CAN.TDC_TDCO (n : Nat) : Fld := ⟨0x44050 + 4096 * n, 8, 7⟩
def CAN.TDC_TDCF (n : Nat) : Fld := ⟨0x44050 + 4096 * n, 16, 7⟩
def CAN.TDC_XTDCO (n : Nat) : Fld := ⟨0x44050 + 4096 * n, 24, 7⟩
def CAN.LIMITS (n : Nat) : Fld := ⟨0x44054 + 4096 * n, 0, 32⟩
def CAN.LIMITS_WARN_TH (n : Nat) : Fld := ⟨0x44054 + 4096 * n, 0, 8⟩
def CAN.RULES (n : Nat) : Fld := ⟨0x44058 + 4096 * n, 0, 32⟩
def CAN.RULES_COUNT (n : Nat) : Fld := ⟨0x44058 + 4096 * n, 0, 9⟩
def CAN.RAM_MAP (n i : Nat) : Fld := ⟨0x44060 + 4096 * n + 4 * i, 0, 32⟩
def CAN.RAM_MAP_ROLE (n i : Nat) : Fld := ⟨0x44060 + 4096 * n + 4 * i, 0, 3⟩
def CAN.RAM_MAP_ELEM (n i : Nat) : Fld := ⟨0x44060 + 4096 * n + 4 * i, 4, 2⟩
def CAN.RAM_MAP_QUEUE (n i : Nat) : Fld := ⟨0x44060 + 4096 * n + 4 * i, 8, 2⟩
def CAN.STLBUF (n i : Nat) : Fld := ⟨0x440A0 + 4096 * n + 4 * i, 0, 32⟩
def CAN.STLBUF_BUF (n i : Nat) : Fld := ⟨0x440A0 + 4096 * n + 4 * i, 0, 6⟩
def CAN.STLBUF_EN (n i : Nat) : Fld := ⟨0x440A0 + 4096 * n + 4 * i, 7, 1⟩
def CAN.STAT (n : Nat) : Fld := ⟨0x440C0 + 4096 * n, 0, 32⟩
def CAN.STAT_BUS (n : Nat) : Fld := ⟨0x440C0 + 4096 * n, 0, 3⟩
def CAN.STAT_EW (n : Nat) : Fld := ⟨0x440C0 + 4096 * n, 3, 1⟩
def CAN.STAT_ALONE (n : Nat) : Fld := ⟨0x440C0 + 4096 * n, 4, 1⟩
def CAN.STAT_MONITOR (n : Nat) : Fld := ⟨0x440C0 + 4096 * n, 5, 1⟩
def CAN.STAT_TDC_SAT (n : Nat) : Fld := ⟨0x440C0 + 4096 * n, 6, 1⟩
def CAN.STAT_TDC_ACT (n : Nat) : Fld := ⟨0x440C0 + 4096 * n, 7, 1⟩
def CAN.STAT_LAST_ERR (n : Nat) : Fld := ⟨0x440C0 + 4096 * n, 8, 4⟩
def CAN.STAT_LAST_DERR (n : Nat) : Fld := ⟨0x440C0 + 4096 * n, 12, 4⟩
def CAN.STAT_TDCV (n : Nat) : Fld := ⟨0x440C0 + 4096 * n, 16, 7⟩
def CAN.ERR_CNT (n : Nat) : Fld := ⟨0x440C4 + 4096 * n, 0, 32⟩
def CAN.ERR_CNT_TEC (n : Nat) : Fld := ⟨0x440C4 + 4096 * n, 0, 9⟩
def CAN.ERR_CNT_REC (n : Nat) : Fld := ⟨0x440C4 + 4096 * n, 16, 9⟩
def CAN.ACK_RUN (n : Nat) : Fld := ⟨0x440C8 + 4096 * n, 0, 32⟩
def CAN.ACK_RUN_RUN (n : Nat) : Fld := ⟨0x440C8 + 4096 * n, 0, 8⟩
def CAN.CTRL (n : Nat) : Fld := ⟨0x440CC + 4096 * n, 0, 32⟩
def CAN.CTRL_BO_RECOVER (n : Nat) : Fld := ⟨0x440CC + 4096 * n, 0, 1⟩
def CAN.CTRL_CLR (n : Nat) : Fld := ⟨0x440CC + 4096 * n, 1, 1⟩
def CAN.TX_REQ (n i : Nat) : Fld := ⟨0x440D0 + 4096 * n + 4 * i, 0, 32⟩
def CAN.TX_CANCEL (n i : Nat) : Fld := ⟨0x440D8 + 4096 * n + 4 * i, 0, 32⟩
def CAN.TX_DONE (n i : Nat) : Fld := ⟨0x440E0 + 4096 * n + 4 * i, 0, 32⟩
def CAN.TX_FAIL (n i : Nat) : Fld := ⟨0x440E8 + 4096 * n + 4 * i, 0, 32⟩
def CAN.CANCEL_LATE (n i : Nat) : Fld := ⟨0x440F0 + 4096 * n + 4 * i, 0, 32⟩
def CAN.CANCELLED (n i : Nat) : Fld := ⟨0x440F8 + 4096 * n + 4 * i, 0, 32⟩
def CAN.ND (n i : Nat) : Fld := ⟨0x44100 + 4096 * n + 4 * i, 0, 32⟩
def CAN.QUEUE_STAT (n i : Nat) : Fld := ⟨0x44108 + 4096 * n + 8 * i, 0, 32⟩
def CAN.QUEUE_STAT_COUNT (n i : Nat) : Fld := ⟨0x44108 + 4096 * n + 8 * i, 0, 11⟩
def CAN.QUEUE_STAT_HEAD (n i : Nat) : Fld := ⟨0x44108 + 4096 * n + 8 * i, 16, 11⟩
def CAN.QUEUE_STAT_FULL (n i : Nat) : Fld := ⟨0x44108 + 4096 * n + 8 * i, 31, 1⟩
def CAN.QUEUE_REL (n i : Nat) : Fld := ⟨0x4410C + 4096 * n + 8 * i, 0, 32⟩
def CAN.QUEUE_REL_COUNT (n i : Nat) : Fld := ⟨0x4410C + 4096 * n + 8 * i, 0, 11⟩
def CAN.TLOG_STAT (n : Nat) : Fld := ⟨0x44128 + 4096 * n, 0, 32⟩
def CAN.TLOG_STAT_COUNT (n : Nat) : Fld := ⟨0x44128 + 4096 * n, 0, 11⟩
def CAN.TLOG_STAT_HEAD (n : Nat) : Fld := ⟨0x44128 + 4096 * n, 16, 11⟩
def CAN.TLOG_STAT_FULL (n : Nat) : Fld := ⟨0x44128 + 4096 * n, 31, 1⟩
def CAN.TLOG_REL (n : Nat) : Fld := ⟨0x4412C + 4096 * n, 0, 32⟩
def CAN.TLOG_REL_COUNT (n : Nat) : Fld := ⟨0x4412C + 4096 * n, 0, 11⟩
def CAN.RX_CNT (n : Nat) : Fld := ⟨0x44130 + 4096 * n, 0, 32⟩
def CAN.TX_CNT (n : Nat) : Fld := ⟨0x44134 + 4096 * n, 0, 32⟩
def CAN.LOST_CNT (n : Nat) : Fld := ⟨0x44138 + 4096 * n, 0, 32⟩
def CAN.PXE_CNT (n : Nat) : Fld := ⟨0x4413C + 4096 * n, 0, 32⟩
def CAN.BO_CNT (n : Nat) : Fld := ⟨0x44140 + 4096 * n, 0, 32⟩
def CAN.RAM_ECC_CNT (n : Nat) : Fld := ⟨0x44144 + 4096 * n, 0, 32⟩
def CAN.FAULT (n : Nat) : Fld := ⟨0x44148 + 4096 * n, 0, 32⟩
def CAN.FAULT_CAUSE (n : Nat) : Fld := ⟨0x44148 + 4096 * n, 0, 8⟩
def CAN.FAULT_ACTIVE (n : Nat) : Fld := ⟨0x44148 + 4096 * n, 8, 1⟩
def CAN.FAULT_LOC (n : Nat) : Fld := ⟨0x4414C + 4096 * n, 0, 32⟩

/-! The MVB page (R424). -/

def MVB.CFG : Fld := ⟨0x48040, 0, 32⟩
def MVB.CFG_DEV_ADDR : Fld := ⟨0x48040, 0, 12⟩
def MVB.CFG_LINE_A_EN : Fld := ⟨0x48040, 12, 1⟩
def MVB.CFG_LINE_B_EN : Fld := ⟨0x48040, 13, 1⟩
def MVB.CFG_MEDIUM : Fld := ⟨0x48040, 14, 1⟩
def MVB.DS_USER : Fld := ⟨0x48044, 0, 32⟩
def MVB.DS_USER_CLASS : Fld := ⟨0x48044, 0, 4⟩
def MVB.DS_USER_SDD : Fld := ⟨0x48044, 4, 1⟩
def MVB.DS_USER_SSD : Fld := ⟨0x48044, 5, 1⟩
def MVB.STAT : Fld := ⟨0x48048, 0, 32⟩
def MVB.STAT_TRUSTED : Fld := ⟨0x48048, 0, 1⟩
def MVB.STAT_A_OK : Fld := ⟨0x48048, 1, 1⟩
def MVB.STAT_B_OK : Fld := ⟨0x48048, 2, 1⟩
def MVB.STAT_DNR : Fld := ⟨0x48048, 3, 1⟩
def MVB.STAT_TX_ON : Fld := ⟨0x48048, 4, 1⟩
def MVB.ERR_A : Fld := ⟨0x4804C, 0, 32⟩
def MVB.ERR_B : Fld := ⟨0x48050, 0, 32⟩
def MVB.SWITCH_CNT : Fld := ⟨0x48054, 0, 32⟩
def MVB.FRAME_CNT : Fld := ⟨0x48058, 0, 32⟩
def MVB.FAULT : Fld := ⟨0x4805C, 0, 32⟩
def MVB.FAULT_CAUSE : Fld := ⟨0x4805C, 0, 8⟩
def MVB.FAULT_ACTIVE : Fld := ⟨0x4805C, 8, 1⟩
def MVB.PORT_SEL : Fld := ⟨0x48060, 0, 32⟩
def MVB.PORT_SEL_PORT : Fld := ⟨0x48060, 0, 8⟩
def MVB.PORT_CTRL : Fld := ⟨0x48064, 0, 32⟩
def MVB.PORT_CTRL_SNAP : Fld := ⟨0x48064, 0, 1⟩
def MVB.PORT_CTRL_COMMIT : Fld := ⟨0x48064, 1, 1⟩
def MVB.PORT_STAT : Fld := ⟨0x48068, 0, 32⟩
def MVB.PORT_FRESH : Fld := ⟨0x4806C, 0, 32⟩
def MVB.PORT_FRESH_T : Fld := ⟨0x4806C, 0, 16⟩
def MVB.PORT_DATA (i : Nat) : Fld := ⟨0x48070 + 4 * i, 0, 32⟩
def MVB.FRESH (i : Nat) : Fld := ⟨0x48090 + 4 * i, 0, 32⟩
def MVB.UPD (i : Nat) : Fld := ⟨0x480B0 + 4 * i, 0, 32⟩
def MVB.FAULT_LOC : Fld := ⟨0x480D0, 0, 32⟩
def MVB.PORT_CFG (i : Nat) : Fld := ⟨0x48400 + 4 * i, 0, 32⟩
def MVB.PORT_CFG_PORT_ADDR (i : Nat) : Fld := ⟨0x48400 + 4 * i, 0, 12⟩
def MVB.PORT_CFG_FCODE (i : Nat) : Fld := ⟨0x48400 + 4 * i, 12, 3⟩
def MVB.PORT_CFG_DIR (i : Nat) : Fld := ⟨0x48400 + 4 * i, 16, 2⟩
def MVB.PORT_CFG_NOTIFY (i : Nat) : Fld := ⟨0x48400 + 4 * i, 18, 1⟩
def MVB.PORT_CFG_FRESH_MAX (i : Nat) : Fld := ⟨0x48400 + 4 * i, 20, 12⟩

/-! The SL pages (R227). -/

def SL.CFG (n : Nat) : Fld := ⟨0x50040 + 4096 * n, 0, 32⟩
def SL.CFG_PRESENT (n : Nat) : Fld := ⟨0x50040 + 4096 * n, 0, 1⟩
def SL.CFG_PWR_MODE (n : Nat) : Fld := ⟨0x50040 + 4096 * n, 1, 2⟩
def SL.CFG_EXP_MAX (n : Nat) : Fld := ⟨0x50040 + 4096 * n, 16, 16⟩
def SL.HEAD_ID_EXP (n : Nat) : Fld := ⟨0x50044 + 4096 * n, 0, 32⟩
def SL.ROT0 (n : Nat) : Fld := ⟨0x50048 + 4096 * n, 0, 32⟩
def SL.ROT0_R11 (n : Nat) : Fld := ⟨0x50048 + 4096 * n, 0, 16⟩
def SL.ROT0_R12 (n : Nat) : Fld := ⟨0x50048 + 4096 * n, 16, 16⟩
def SL.ROT1 (n : Nat) : Fld := ⟨0x5004C + 4096 * n, 0, 32⟩
def SL.ROT1_R13 (n : Nat) : Fld := ⟨0x5004C + 4096 * n, 0, 16⟩
def SL.ROT1_R21 (n : Nat) : Fld := ⟨0x5004C + 4096 * n, 16, 16⟩
def SL.ROT2 (n : Nat) : Fld := ⟨0x50050 + 4096 * n, 0, 32⟩
def SL.ROT2_R22 (n : Nat) : Fld := ⟨0x50050 + 4096 * n, 0, 16⟩
def SL.ROT2_R23 (n : Nat) : Fld := ⟨0x50050 + 4096 * n, 16, 16⟩
def SL.ROT3 (n : Nat) : Fld := ⟨0x50054 + 4096 * n, 0, 32⟩
def SL.ROT3_R31 (n : Nat) : Fld := ⟨0x50054 + 4096 * n, 0, 16⟩
def SL.ROT3_R32 (n : Nat) : Fld := ⟨0x50054 + 4096 * n, 16, 16⟩
def SL.ROT4 (n : Nat) : Fld := ⟨0x50058 + 4096 * n, 0, 32⟩
def SL.ROT4_R33 (n : Nat) : Fld := ⟨0x50058 + 4096 * n, 0, 16⟩
def SL.TRX (n : Nat) : Fld := ⟨0x5005C + 4096 * n, 0, 32⟩
def SL.TRY (n : Nat) : Fld := ⟨0x50060 + 4096 * n, 0, 32⟩
def SL.TRZ (n : Nat) : Fld := ⟨0x50064 + 4096 * n, 0, 32⟩
def SL.LINK_STAT (n : Nat) : Fld := ⟨0x50068 + 4096 * n, 0, 32⟩
def SL.LINK_STAT_LINK (n : Nat) : Fld := ⟨0x50068 + 4096 * n, 0, 3⟩
def SL.LINK_STAT_POL_INV (n : Nat) : Fld := ⟨0x50068 + 4096 * n, 3, 1⟩
def SL.LINK_STAT_PWREN (n : Nat) : Fld := ⟨0x50068 + 4096 * n, 4, 1⟩
def SL.LINK_STAT_PWRFLT (n : Nat) : Fld := ⟨0x50068 + 4096 * n, 5, 1⟩
def SL.LINK_STAT_PWR_LATCHED (n : Nat) : Fld := ⟨0x50068 + 4096 * n, 6, 1⟩
def SL.LINK_STAT_CAL_OK (n : Nat) : Fld := ⟨0x50068 + 4096 * n, 7, 1⟩
def SL.HEAD_ID (n : Nat) : Fld := ⟨0x5006C + 4096 * n, 0, 32⟩
def SL.FX (n : Nat) : Fld := ⟨0x50070 + 4096 * n, 0, 32⟩
def SL.FY (n : Nat) : Fld := ⟨0x50074 + 4096 * n, 0, 32⟩
def SL.CX (n : Nat) : Fld := ⟨0x50078 + 4096 * n, 0, 32⟩
def SL.CY (n : Nat) : Fld := ⟨0x5007C + 4096 * n, 0, 32⟩
def SL.RANGE (n : Nat) : Fld := ⟨0x50080 + 4096 * n, 0, 32⟩
def SL.RANGE_MIN (n : Nat) : Fld := ⟨0x50080 + 4096 * n, 0, 16⟩
def SL.RANGE_MAX (n : Nat) : Fld := ⟨0x50080 + 4096 * n, 16, 16⟩
def SL.SYNC_ERR (n : Nat) : Fld := ⟨0x50084 + 4096 * n, 0, 32⟩
def SL.SYNC_ERR_ERR (n : Nat) : Fld := ⟨0x50084 + 4096 * n, 0, 16⟩
def SL.FRAME_CNT (n : Nat) : Fld := ⟨0x50088 + 4096 * n, 0, 32⟩
def SL.DROP_CNT (n : Nat) : Fld := ⟨0x5008C + 4096 * n, 0, 32⟩
def SL.FCS_CNT (n : Nat) : Fld := ⟨0x50090 + 4096 * n, 0, 32⟩
def SL.DROP_CAUSE (n : Nat) : Fld := ⟨0x50094 + 4096 * n, 0, 32⟩
def SL.DROP_CAUSE_CAUSE (n : Nat) : Fld := ⟨0x50094 + 4096 * n, 0, 4⟩
def SL.FAULT (n : Nat) : Fld := ⟨0x50098 + 4096 * n, 0, 32⟩
def SL.FAULT_CAUSE (n : Nat) : Fld := ⟨0x50098 + 4096 * n, 0, 8⟩
def SL.FAULT_ACTIVE (n : Nat) : Fld := ⟨0x50098 + 4096 * n, 8, 1⟩
def SL.FAULT_LOC (n : Nat) : Fld := ⟨0x5009C + 4096 * n, 0, 32⟩
def SL.CTRL (n : Nat) : Fld := ⟨0x500A0 + 4096 * n, 0, 32⟩
def SL.CTRL_CLR (n : Nat) : Fld := ⟨0x500A0 + 4096 * n, 0, 1⟩
def SL.CTRL_CAL_REQ (n : Nat) : Fld := ⟨0x500A0 + 4096 * n, 1, 1⟩

/-! The CM pages (R404). -/

def CM.WORD (n i : Nat) : Fld := ⟨0x80040 + 4096 * n + 4 * i, 0, 32⟩

end Sys2Proof.Machine
end

