-- ==== Sys2Proof/Machine/RegMap.lean ====
section
/-! DEFINITION. The register map as data: for every page of R42 its registers, and for every register its fields with
their access class (R4, R43 to R55), Range (R52), and where its reset value comes from (R427, R383, R465), written out from the
same tables as RegNames. A `reset` word is what the register holds when nothing has changed it; a field the spec resets to
"vault" carries the value of the image this model takes as delivered (assumption 2), one it resets to "cellar" the value 0 of a
cellar that has just got its supply (R334). -/

namespace Sys2Proof.Machine

/-- The access classes of the spec's register tables (R4). -/
inductive Access where
  | rw | ro | wo | w1c | w1s | cnt | rwh | rws | rwp
deriving DecidableEq, Repr

/-- Where the value of a field comes from at a reset: its Reset column, the configuration image, the record section, the
cellar, or the vault's own bank headers (R383, R427, R465). -/
inductive Origin where
  | plain | image | record | cellar | bank
deriving DecidableEq, Repr

/-- A limit of a Range that another field gives (R52), named after the field it limits. -/
inductive DynLimit where
  | wdMin | iCont | iHold | iHome | curBw | ferrT | iTrip | encN | dragF | edgeMute | learnV2 | tTx
  | sjw (tseg2Lo tseg2Width : Nat) | filt | iNom | routeTarget
deriving DecidableEq, Repr

/-- What a host write of a numeric or enumerated field may store (R52). -/
inductive Limit where
  | any
  | range (lo hi : Int)
  | codes (ok : List (Nat × Nat))
  | entry
  | dyn (d : DynLimit)
deriving DecidableEq, Repr

structure FieldRow where
  lo     : Nat
  width  : Nat
  access : Access
  origin : Origin
  limit  : Limit
deriving DecidableEq, Repr

structure RegRow where
  off    : Nat
  count  : Nat
  stride : Nat
  reset  : Nat
  fields : List FieldRow
deriving DecidableEq, Repr

/-- The kinds of page of R42. -/
inductive PageKind where
  | sys | hif | eva | cel | tmr | pwr | pbs | vlt | saf | til | stl | brv | ldg | occ | din | enc | dw | pz | ax | fb | lsg | can | mvb | sl | cm
deriving DecidableEq, Repr

def regsSys : List RegRow :=
  [
   ⟨0x040, 1, 4, 0x28D16, [⟨0, 16, .ro, .plain, .any⟩, ⟨16, 8, .ro, .plain, .any⟩]⟩,  -- CHIP_ID
   ⟨0x044, 1, 4, 0x0, [⟨0, 4, .ro, .plain, .any⟩, ⟨4, 1, .ro, .plain, .any⟩, ⟨5, 1, .ro, .plain, .any⟩, ⟨8, 4, .ro, .plain, .any⟩]⟩,  -- BOOT_STAT
   ⟨0x048, 1, 4, 0x0, [⟨0, 16, .ro, .plain, .any⟩]⟩,  -- BOOT_T
   ⟨0x04C, 1, 4, 0x0, [⟨0, 8, .ro, .cellar, .any⟩]⟩,  -- RST_CAUSE
   ⟨0x050, 1, 4, 0x0, [⟨0, 32, .wo, .plain, .any⟩]⟩,  -- SRST_KEY
   ⟨0x054, 1, 4, 0x0, [⟨0, 1, .w1s, .plain, .any⟩]⟩,  -- CTRL
   ⟨0x058, 1, 4, 0x0, [⟨0, 4, .w1c, .plain, .any⟩, ⟨4, 1, .w1c, .plain, .any⟩]⟩,  -- RECOV
   ⟨0x060, 1, 4, 0x0, [⟨0, 1, .w1s, .plain, .any⟩, ⟨1, 1, .w1s, .plain, .any⟩, ⟨2, 1, .w1s, .plain, .any⟩, ⟨3, 1, .w1s, .plain, .any⟩]⟩,  -- FW_CTRL
   ⟨0x064, 1, 4, 0x0, [⟨0, 3, .ro, .plain, .any⟩, ⟨3, 1, .ro, .plain, .any⟩, ⟨4, 1, .ro, .plain, .any⟩, ⟨5, 3, .ro, .plain, .any⟩, ⟨16, 16, .ro, .plain, .any⟩]⟩,  -- FW_STAT
   ⟨0x068, 1, 4, 0x0, [⟨0, 22, .rw, .plain, .range 0 4194300⟩]⟩,  -- FW_ADDR
   ⟨0x06C, 1, 4, 0x0, [⟨0, 32, .wo, .plain, .any⟩]⟩,  -- FW_WIN
   ⟨0x070, 1, 4, 0x0, [⟨0, 32, .ro, .plain, .any⟩]⟩,  -- FW_VER_A
   ⟨0x074, 1, 4, 0x0, [⟨0, 32, .ro, .plain, .any⟩]⟩,  -- FW_VER_B
   ⟨0x078, 1, 4, 0x0, [⟨0, 32, .ro, .plain, .any⟩]⟩,  -- FW_MIN
   ⟨0x07C, 1, 4, 0x0, [⟨0, 32, .cnt, .plain, .any⟩]⟩]  -- ECC_CNT

def regsHif : List RegRow :=
  [
   ⟨0x040, 1, 4, 0x0, [⟨0, 2, .ro, .plain, .any⟩]⟩,  -- HOST_CFG
   ⟨0x044, 1, 4, 0x0, [⟨0, 1, .rw, .plain, .any⟩]⟩,  -- QS_CTRL
   ⟨0x048, 1, 4, 0x0, [⟨0, 20, .ro, .plain, .any⟩]⟩,  -- ERR_ADDR
   ⟨0x04C, 1, 4, 0x0, [⟨0, 4, .ro, .plain, .any⟩, ⟨4, 1, .ro, .plain, .any⟩]⟩,  -- ERR_INFO
   ⟨0x050, 1, 4, 0x0, [⟨0, 32, .cnt, .plain, .any⟩]⟩,  -- ERR_CNT
   ⟨0x054, 1, 4, 0x0, [⟨0, 32, .cnt, .plain, .any⟩]⟩,  -- ECC_CNT
   ⟨0x060, 1, 4, 0x0, [⟨0, 1, .w1s, .plain, .any⟩]⟩,  -- WD_CTRL
   ⟨0x064, 1, 4, 0x0, [⟨0, 32, .wo, .plain, .any⟩]⟩,  -- WD_KEY
   ⟨0x068, 1, 4, 0x0, [⟨0, 10, .rw, .image, .dyn .wdMin⟩]⟩,  -- WD_MIN
   ⟨0x06C, 1, 4, 0x1, [⟨0, 10, .rw, .image, .range 1 1000⟩]⟩,  -- WD_MAX
   ⟨0x070, 1, 4, 0x64, [⟨0, 16, .rw, .image, .range 100 60000⟩]⟩,  -- WD_BOOT
   ⟨0x074, 1, 4, 0x0, [⟨0, 3, .ro, .plain, .any⟩, ⟨3, 3, .ro, .plain, .any⟩, ⟨6, 1, .ro, .plain, .any⟩, ⟨16, 16, .ro, .plain, .any⟩]⟩,  -- WD_STAT
   ⟨0x078, 1, 4, 0x0, [⟨0, 16, .cnt, .plain, .any⟩]⟩,  -- WD_EXP_CNT
   ⟨0x080, 1, 4, 0x0, [⟨0, 1, .ro, .plain, .any⟩, ⟨1, 2, .ro, .plain, .any⟩, ⟨3, 5, .ro, .plain, .any⟩]⟩]  -- PE_STAT

/-- ROUTE: R65 gives one 8-bit field a source. The model judges its target and its vector as two fields: without PCIe a write of target
code 3 leaves the target and stores the vector bits of the same byte (DESIGN CHOICE, log entry 135). -/
def regsEva : List RegRow :=
  [
   ⟨0x040, 1, 4, 0x0, [⟨0, 32, .ro, .plain, .any⟩]⟩,  -- EVT_SUM0
   ⟨0x044, 1, 4, 0x0, [⟨0, 32, .ro, .plain, .any⟩]⟩,  -- EVT_SUM1
   ⟨0x048, 1, 4, 0x0, [⟨0, 32, .ro, .plain, .any⟩]⟩,  -- EVT_SUM2
   ⟨0x04C, 1, 4, 0x0, [⟨0, 1, .ro, .plain, .any⟩, ⟨1, 1, .ro, .plain, .any⟩]⟩,  -- LINE_STAT
   ⟨0x050, 1, 4, 0x0, [⟨0, 4, .wo, .plain, .any⟩]⟩,  -- MSI_EOI
   ⟨0x054, 1, 4, 0x0, [⟨0, 16, .ro, .plain, .any⟩]⟩,  -- MSI_PEND
   ⟨0x080, 16, 4, 0x1010101, [⟨0, 2, .rw, .plain, .dyn .routeTarget⟩, ⟨4, 4, .rw, .plain, .any⟩, ⟨8, 2, .rw, .plain, .dyn .routeTarget⟩, ⟨12, 4, .rw, .plain, .any⟩, ⟨16, 2, .rw, .plain, .dyn .routeTarget⟩, ⟨20, 4, .rw, .plain, .any⟩, ⟨24, 2, .rw, .plain, .dyn .routeTarget⟩, ⟨28, 4, .rw, .plain, .any⟩]⟩,  -- ROUTE0–ROUTE23
   ⟨0x0C0, 1, 4, 0x2010102, [⟨0, 2, .rw, .plain, .dyn .routeTarget⟩, ⟨4, 4, .rw, .plain, .any⟩, ⟨8, 2, .rw, .plain, .dyn .routeTarget⟩, ⟨12, 4, .rw, .plain, .any⟩, ⟨16, 2, .rw, .plain, .dyn .routeTarget⟩, ⟨20, 4, .rw, .plain, .any⟩, ⟨24, 2, .rw, .plain, .dyn .routeTarget⟩, ⟨28, 4, .rw, .plain, .any⟩]⟩,  -- ROUTE0–ROUTE23
   ⟨0x0C4, 1, 4, 0x2010101, [⟨0, 2, .rw, .plain, .dyn .routeTarget⟩, ⟨4, 4, .rw, .plain, .any⟩, ⟨8, 2, .rw, .plain, .dyn .routeTarget⟩, ⟨12, 4, .rw, .plain, .any⟩, ⟨16, 2, .rw, .plain, .dyn .routeTarget⟩, ⟨20, 4, .rw, .plain, .any⟩, ⟨24, 2, .rw, .plain, .dyn .routeTarget⟩, ⟨28, 4, .rw, .plain, .any⟩]⟩,  -- ROUTE0–ROUTE23
   ⟨0x0C8, 5, 4, 0x1010101, [⟨0, 2, .rw, .plain, .dyn .routeTarget⟩, ⟨4, 4, .rw, .plain, .any⟩, ⟨8, 2, .rw, .plain, .dyn .routeTarget⟩, ⟨12, 4, .rw, .plain, .any⟩, ⟨16, 2, .rw, .plain, .dyn .routeTarget⟩, ⟨20, 4, .rw, .plain, .any⟩, ⟨24, 2, .rw, .plain, .dyn .routeTarget⟩, ⟨28, 4, .rw, .plain, .any⟩]⟩,  -- ROUTE0–ROUTE23
   ⟨0x0DC, 1, 4, 0x2010101, [⟨0, 2, .rw, .plain, .dyn .routeTarget⟩, ⟨4, 4, .rw, .plain, .any⟩, ⟨8, 2, .rw, .plain, .dyn .routeTarget⟩, ⟨12, 4, .rw, .plain, .any⟩, ⟨16, 2, .rw, .plain, .dyn .routeTarget⟩, ⟨20, 4, .rw, .plain, .any⟩, ⟨24, 2, .rw, .plain, .dyn .routeTarget⟩, ⟨28, 4, .rw, .plain, .any⟩]⟩]  -- ROUTE0–ROUTE23

def regsCel : List RegRow :=
  [
   ⟨0x040, 1, 4, 0x0, [⟨0, 8, .rwp, .cellar, .any⟩, ⟨16, 4, .rwp, .cellar, .any⟩]⟩,  -- WAKE_EN
   ⟨0x044, 1, 4, 0x0, [⟨0, 32, .rwp, .cellar, .any⟩]⟩,  -- DI_WAKE0
   ⟨0x048, 1, 4, 0x0, [⟨0, 32, .rwp, .cellar, .any⟩]⟩,  -- DI_WAKE1
   ⟨0x04C, 1, 4, 0x0, [⟨0, 8, .ro, .cellar, .any⟩]⟩,  -- WAKE_SRC
   ⟨0x050, 1, 4, 0x0, [⟨0, 8, .ro, .cellar, .any⟩]⟩,  -- RST_CAUSE
   ⟨0x054, 1, 4, 0x0, [⟨0, 32, .ro, .cellar, .any⟩]⟩,  -- RSTK_LO
   ⟨0x058, 1, 4, 0x0, [⟨0, 16, .ro, .cellar, .any⟩]⟩,  -- RSTK_HI
   ⟨0x05C, 1, 4, 0x0, [⟨0, 16, .ro, .cellar, .any⟩]⟩,  -- SESSION
   ⟨0x060, 1, 4, 0x0, [⟨0, 1, .ro, .cellar, .any⟩, ⟨1, 1, .ro, .cellar, .any⟩]⟩,  -- STAT
   ⟨0x080, 1, 4, 0x0, [⟨0, 32, .ro, .cellar, .any⟩]⟩,  -- ON_H
   ⟨0x084, 1, 4, 0x0, [⟨0, 32, .ro, .cellar, .any⟩]⟩,  -- SERVICE_H
   ⟨0x088, 1, 4, 0x0, [⟨0, 32, .ro, .cellar, .any⟩]⟩,  -- WATCH_H
   ⟨0x08C, 1, 4, 0x0, [⟨0, 32, .ro, .cellar, .any⟩]⟩,  -- BOOT_CNT
   ⟨0x090, 1, 4, 0x0, [⟨0, 32, .ro, .cellar, .any⟩]⟩,  -- PF_CNT
   ⟨0x094, 1, 4, 0x0, [⟨0, 32, .ro, .cellar, .any⟩]⟩,  -- RSTK_CNT
   ⟨0x098, 1, 4, 0x0, [⟨0, 32, .ro, .cellar, .any⟩]⟩,  -- T_WARN_M
   ⟨0x09C, 1, 4, 0x0, [⟨0, 32, .ro, .cellar, .any⟩]⟩,  -- T_HOT_M
   ⟨0x0A0, 1, 4, 0x0, [⟨0, 32, .ro, .cellar, .any⟩]⟩,  -- T_OVER_M
   ⟨0x0A4, 1, 4, 0x0, [⟨0, 16, .ro, .cellar, .any⟩]⟩]  -- TJ_PEAK

def regsTmr : List RegRow :=
  [
   ⟨0x040, 1, 4, 0x0, [⟨0, 32, .ro, .cellar, .any⟩]⟩,  -- RTC_LO
   ⟨0x044, 1, 4, 0x0, [⟨0, 16, .ro, .cellar, .any⟩]⟩,  -- RTC_HI
   ⟨0x048, 1, 4, 0x0, [⟨0, 32, .rwp, .plain, .any⟩]⟩,  -- SET_LO
   ⟨0x04C, 1, 4, 0x0, [⟨0, 16, .rwp, .plain, .any⟩]⟩,  -- SET_HI
   ⟨0x050, 1, 4, 0x0, [⟨0, 1, .rwp, .plain, .any⟩, ⟨1, 1, .rwp, .plain, .any⟩]⟩,  -- CTRL
   ⟨0x054, 1, 4, 0x0, [⟨0, 32, .rwp, .cellar, .any⟩]⟩,  -- ALARM_LO
   ⟨0x058, 1, 4, 0x0, [⟨0, 16, .rwp, .cellar, .any⟩]⟩,  -- ALARM_HI
   ⟨0x05C, 1, 4, 0x0, [⟨0, 16, .rwp, .cellar, .range (-2000) 2000⟩]⟩,  -- TRIM
   ⟨0x060, 1, 4, 0x0, [⟨0, 1, .ro, .plain, .any⟩, ⟨1, 1, .ro, .cellar, .any⟩]⟩,  -- STAT
   ⟨0x064, 1, 4, 0x0, [⟨0, 32, .ro, .plain, .any⟩]⟩,  -- LAST_STEP
   ⟨0x068, 1, 4, 0x0, [⟨0, 16, .rwp, .cellar, .range 1 60000⟩]⟩]  -- SYNC_LOG

def regsPwr : List RegRow :=
  [
   ⟨0x040, 1, 4, 0x3E80100, [⟨0, 2, .rws, .image, .codes [(0, 2)]⟩, ⟨8, 8, .rws, .image, .range 1 100⟩, ⟨16, 16, .rws, .image, .range 1000 15400⟩]⟩,  -- CFG
   ⟨0x044, 1, 4, 0x0, [⟨0, 16, .ro, .plain, .any⟩, ⟨16, 16, .ro, .plain, .any⟩]⟩,  -- VBAT_AB
   ⟨0x048, 1, 4, 0x0, [⟨0, 16, .ro, .plain, .any⟩, ⟨16, 16, .ro, .plain, .any⟩]⟩,  -- VBAT_CD
   ⟨0x04C, 1, 4, 0x0, [⟨0, 16, .ro, .plain, .any⟩, ⟨16, 16, .ro, .plain, .any⟩]⟩,  -- VDD_A
   ⟨0x050, 1, 4, 0x0, [⟨0, 16, .ro, .plain, .any⟩, ⟨16, 16, .ro, .plain, .any⟩]⟩,  -- VDD_B
   ⟨0x054, 1, 4, 0x0, [⟨0, 16, .ro, .plain, .any⟩, ⟨16, 16, .ro, .plain, .any⟩]⟩,  -- VHOLD_VCEL
   ⟨0x058, 1, 4, 0x0, [⟨0, 16, .ro, .plain, .any⟩, ⟨16, 16, .ro, .plain, .any⟩]⟩,  -- TEMP_A
   ⟨0x05C, 1, 4, 0x0, [⟨0, 16, .ro, .plain, .any⟩, ⟨16, 16, .ro, .plain, .any⟩]⟩,  -- TEMP_B
   ⟨0x060, 1, 4, 0x0, [⟨0, 16, .ro, .plain, .any⟩, ⟨16, 16, .ro, .plain, .any⟩]⟩,  -- TEMP_C
   ⟨0x064, 1, 4, 0x0, [⟨0, 16, .ro, .plain, .any⟩, ⟨16, 16, .ro, .plain, .any⟩]⟩,  -- TEMP_D
   ⟨0x068, 1, 4, 0x0, [⟨0, 16, .ro, .plain, .any⟩, ⟨16, 16, .ro, .plain, .any⟩]⟩,  -- PKG
   ⟨0x06C, 1, 4, 0x0, [⟨0, 8, .ro, .plain, .any⟩, ⟨8, 8, .ro, .plain, .any⟩, ⟨16, 4, .ro, .plain, .any⟩]⟩,  -- SUP_STAT
   ⟨0x070, 1, 4, 0x0, [⟨0, 32, .cnt, .plain, .any⟩]⟩,  -- SUP_CNT
   ⟨0x800, 1, 4, 0x0, [⟨0, 2, .rwp, .plain, .any⟩, ⟨8, 1, .rwp, .plain, .any⟩]⟩,  -- CTRL
   ⟨0x804, 1, 4, 0x3, [⟨0, 2, .ro, .plain, .any⟩, ⟨4, 3, .ro, .plain, .any⟩, ⟨8, 8, .ro, .plain, .any⟩]⟩,  -- STATE
   ⟨0x808, 1, 4, 0x0, [⟨0, 10, .rwp, .cellar, .range 10 1000⟩]⟩]  -- WATCH_CFG

def regsPbs : List RegRow :=
  [
   ⟨0x040, 1, 4, 0x64, [⟨0, 16, .rw, .image, .range 100 10000⟩, ⟨16, 16, .rw, .image, .range 0 2000⟩]⟩,  -- CFG
   ⟨0x044, 1, 4, 0x2640096, [⟨0, 10, .rw, .image, .range 0 500⟩, ⟨16, 8, .rw, .image, .range 0 250⟩, ⟨24, 4, .rw, .image, .range 1 15⟩]⟩,  -- ADMIT
   ⟨0x048, 1, 4, 0x0, [⟨0, 32, .rw, .image, .any⟩]⟩,  -- P2_MASK0
   ⟨0x04C, 1, 4, 0x0, [⟨0, 16, .rw, .image, .any⟩]⟩,  -- P2_MASK1
   ⟨0x050, 1, 4, 0x5000A, [⟨0, 16, .rw, .image, .range 10 3600⟩, ⟨16, 16, .rw, .image, .range 5 600⟩]⟩,  -- ROT
   ⟨0x054, 1, 4, 0x0, [⟨0, 32, .rw, .image, .range 0 4000000000⟩]⟩,  -- E_ALLOW
   ⟨0x058, 1, 4, 0x1, [⟨0, 7, .rw, .image, .range 1 99⟩, ⟨8, 1, .rw, .image, .any⟩, ⟨16, 1, .rw, .plain, .any⟩]⟩,  -- ENERGY
   ⟨0x05C, 1, 4, 0x3208, [⟨0, 8, .rw, .image, .range 8 24⟩, ⟨8, 8, .rw, .image, .range 50 100⟩]⟩,  -- THERM
   ⟨0x080, 1, 4, 0x0, [⟨0, 16, .ro, .plain, .any⟩, ⟨16, 16, .ro, .plain, .any⟩]⟩,  -- STAT
   ⟨0x084, 1, 4, 0x0, [⟨0, 16, .ro, .plain, .any⟩, ⟨16, 16, .ro, .plain, .any⟩]⟩,  -- LOAD
   ⟨0x088, 1, 4, 0x0, [⟨0, 2, .ro, .plain, .any⟩, ⟨2, 2, .ro, .plain, .any⟩, ⟨4, 2, .ro, .plain, .any⟩, ⟨6, 2, .ro, .plain, .any⟩]⟩,  -- HEAT
   ⟨0x08C, 1, 4, 0x0, [⟨0, 8, .ro, .plain, .any⟩, ⟨8, 8, .ro, .plain, .any⟩]⟩,  -- PENDING
   ⟨0x090, 8, 4, 0x0, [⟨0, 16, .ro, .plain, .any⟩, ⟨16, 16, .ro, .plain, .any⟩]⟩,  -- PRED0–PRED7
   ⟨0x0B0, 1, 4, 0x0, [⟨0, 32, .ro, .plain, .any⟩]⟩,  -- SHED0
   ⟨0x0B4, 1, 4, 0x0, [⟨0, 16, .ro, .plain, .any⟩]⟩,  -- SHED1
   ⟨0x0B8, 1, 4, 0x0, [⟨0, 32, .ro, .plain, .any⟩]⟩,  -- E_LEFT
   ⟨0x0BC, 1, 4, 0x0, [⟨0, 4, .ro, .plain, .any⟩, ⟨4, 4, .ro, .plain, .any⟩, ⟨8, 1, .ro, .plain, .any⟩, ⟨16, 16, .ro, .plain, .any⟩]⟩,  -- P3_STAT
   ⟨0x0C0, 1, 4, 0x0, [⟨0, 32, .cnt, .plain, .any⟩]⟩,  -- DEFER_CNT
   ⟨0x0C4, 1, 4, 0x0, [⟨0, 32, .cnt, .record, .any⟩]⟩,  -- OVERRUN_CNT
   ⟨0x0C8, 1, 4, 0x0, [⟨0, 32, .cnt, .plain, .any⟩]⟩,  -- SHED_CNT
   ⟨0x0CC, 1, 4, 0x0, [⟨0, 16, .ro, .plain, .any⟩]⟩]  -- MAX_DEFER

def regsVlt : List RegRow :=
  [
   ⟨0x040, 1, 4, 0x0, [⟨0, 1, .ro, .plain, .any⟩, ⟨1, 1, .ro, .cellar, .any⟩, ⟨2, 1, .ro, .bank, .any⟩, ⟨3, 1, .ro, .plain, .any⟩, ⟨4, 1, .ro, .plain, .any⟩, ⟨5, 1, .ro, .plain, .any⟩, ⟨6, 1, .ro, .plain, .any⟩, ⟨8, 4, .ro, .plain, .any⟩, ⟨16, 3, .ro, .cellar, .any⟩]⟩,  -- STAT
   ⟨0x044, 1, 4, 0x0, [⟨0, 10, .ro, .plain, .any⟩]⟩,  -- SESSION_LEFT
   ⟨0x048, 1, 4, 0x0, [⟨0, 6, .ro, .cellar, .any⟩]⟩,  -- LOCK_LEFT
   ⟨0x04C, 1, 4, 0x0, [⟨0, 32, .ro, .bank, .any⟩]⟩,  -- GEN
   ⟨0x050, 8, 4, 0x0, [⟨0, 32, .ro, .bank, .any⟩]⟩,  -- HASH0–HASH7
   ⟨0x070, 1, 4, 0x8, [⟨0, 6, .rw, .plain, .range 8 32⟩]⟩,  -- PW_LEN
   ⟨0x074, 1, 4, 0x0, [⟨0, 32, .wo, .plain, .any⟩]⟩,  -- PW_WIN
   ⟨0x078, 1, 4, 0x0, [⟨0, 1, .w1s, .plain, .any⟩, ⟨1, 1, .w1s, .plain, .any⟩, ⟨2, 1, .w1s, .plain, .any⟩, ⟨3, 1, .w1s, .plain, .any⟩]⟩,  -- CTRL
   ⟨0x080, 1, 4, 0x0, [⟨0, 32, .ro, .plain, .any⟩]⟩,  -- CMT_STAT
   ⟨0x084, 1, 4, 0x0, [⟨0, 4, .ro, .plain, .any⟩]⟩,  -- CMT_REASON
   ⟨0x088, 1, 4, 0x0, [⟨0, 32, .cnt, .record, .any⟩]⟩,  -- COMMIT_CNT
   ⟨0x08C, 1, 4, 0x0, [⟨0, 32, .cnt, .record, .any⟩]⟩,  -- FAIL_TOTAL
   ⟨0x090, 1, 4, 0x0, [⟨0, 32, .cnt, .record, .any⟩]⟩,  -- LOCKOUT_CNT
   ⟨0x094, 1, 4, 0x11F6E, [⟨0, 16, .rw, .image, .any⟩, ⟨16, 16, .rw, .image, .any⟩]⟩,  -- SUBSYS_ID
   ⟨0x098, 1, 4, 0x0, [⟨0, 32, .cnt, .plain, .any⟩]⟩,  -- ECC_CNT
   ⟨0x0A0, 1, 4, 0x0, [⟨0, 8, .ro, .plain, .any⟩, ⟨8, 1, .ro, .plain, .any⟩]⟩,  -- FAULT
   ⟨0x0A4, 1, 4, 0x0, [⟨0, 32, .ro, .plain, .any⟩]⟩,  -- FAULT_LOC
   ⟨0x0A8, 1, 4, 0x0, [⟨0, 8, .rw, .plain, .any⟩]⟩,  -- LOG_SEL
   ⟨0x0AC, 1, 4, 0x0, [⟨0, 9, .ro, .bank, .any⟩]⟩,  -- LOG_HEAD
   ⟨0x100, 16, 4, 0x0, [⟨0, 32, .ro, .plain, .any⟩]⟩]  -- LOG_ENTRY0–LOG_ENTRY15

def regsSaf : List RegRow :=
  [
   ⟨0x040, 1, 4, 0x1, [⟨0, 16, .rw, .image, .range 1 65535⟩, ⟨16, 1, .rw, .image, .any⟩, ⟨24, 8, .rw, .image, .any⟩]⟩,  -- CFG
   ⟨0x044, 1, 4, 0xC80190, [⟨0, 16, .rw, .image, .range 200 800⟩, ⟨16, 16, .rw, .image, .range 20 1000⟩]⟩,  -- TP
   ⟨0x048, 1, 4, 0x0, [⟨0, 32, .rw, .image, .any⟩]⟩,  -- BRIGHT0
   ⟨0x04C, 1, 4, 0x0, [⟨0, 16, .rw, .image, .any⟩]⟩,  -- BRIGHT1
   ⟨0x050, 1, 4, 0x0, [⟨0, 32, .ro, .bank, .any⟩]⟩,  -- CFG_CRC
   ⟨0x054, 1, 4, 0x64, [⟨0, 16, .rw, .image, .range 100 2000⟩]⟩,  -- EGR
   ⟨0x060, 1, 4, 0x0, [⟨0, 2, .ro, .plain, .any⟩, ⟨2, 1, .ro, .plain, .any⟩, ⟨3, 1, .ro, .plain, .any⟩, ⟨4, 1, .ro, .plain, .any⟩]⟩,  -- STAT
   ⟨0x064, 1, 4, 0x0, [⟨0, 8, .ro, .plain, .any⟩, ⟨8, 8, .ro, .plain, .any⟩]⟩,  -- DEGR_SUM
   ⟨0x080, 8, 4, 0x0, [⟨0, 3, .ro, .plain, .any⟩, ⟨3, 1, .ro, .plain, .any⟩, ⟨16, 16, .ro, .plain, .any⟩]⟩,  -- DEGR0–DEGR7
   ⟨0x0A0, 1, 4, 0x0, [⟨0, 32, .ro, .plain, .any⟩]⟩,  -- TP_FAIL0
   ⟨0x0A4, 1, 4, 0x0, [⟨0, 16, .ro, .plain, .any⟩, ⟨16, 4, .ro, .plain, .any⟩]⟩,  -- TP_FAIL1
   ⟨0x0A8, 1, 4, 0x0, [⟨0, 10, .ro, .plain, .any⟩]⟩,  -- SELFTEST
   ⟨0x0B0, 1, 4, 0x0, [⟨0, 32, .cnt, .record, .any⟩]⟩,  -- TRIP_CNT
   ⟨0x0B4, 1, 4, 0x0, [⟨0, 32, .cnt, .record, .any⟩]⟩,  -- SRESET_CNT
   ⟨0x0B8, 1, 4, 0x0, [⟨0, 32, .cnt, .plain, .any⟩]⟩,  -- TP_FAIL_CNT
   ⟨0x0BC, 1, 4, 0x0, [⟨0, 32, .cnt, .record, .any⟩]⟩,  -- DEGR_CNT
   ⟨0x0C0, 1, 4, 0x0, [⟨0, 8, .ro, .plain, .any⟩, ⟨8, 1, .ro, .plain, .any⟩, ⟨9, 1, .ro, .plain, .any⟩, ⟨16, 3, .ro, .plain, .any⟩]⟩,  -- FAULT
   ⟨0x0C4, 1, 4, 0x0, [⟨0, 32, .ro, .plain, .any⟩]⟩,  -- FAULT_LOC
   ⟨0x0C8, 1, 4, 0x0, [⟨0, 1, .w1s, .plain, .any⟩]⟩]  -- CTRL

def regsTil : List RegRow :=
  [
   ⟨0x040, 1, 4, 0x100, [⟨0, 2, .rws, .image, .any⟩, ⟨2, 1, .rws, .image, .any⟩, ⟨3, 1, .rws, .image, .any⟩, ⟨4, 2, .rws, .image, .codes [(0, 2)]⟩, ⟨6, 1, .rws, .image, .any⟩, ⟨7, 1, .rws, .image, .any⟩, ⟨8, 8, .rws, .image, .range 1 50⟩]⟩,  -- CFG
   ⟨0x044, 1, 4, 0xA, [⟨0, 16, .rws, .image, .range 10 2000⟩, ⟨16, 16, .rws, .image, .range 0 5000⟩]⟩,  -- TIMING
   ⟨0x048, 1, 4, 0x5, [⟨0, 16, .rws, .image, .range 5 500⟩]⟩,  -- TRAC_FB_T
   ⟨0x04C, 1, 4, 0x141402, [⟨0, 8, .rws, .image, .range 2 20⟩, ⟨8, 8, .rws, .image, .range 20 80⟩, ⟨16, 16, .rws, .image, .range 20 1000⟩]⟩,  -- LOOP_CFG
   ⟨0x060, 1, 4, 0x0, [⟨0, 1, .ro, .plain, .any⟩, ⟨1, 1, .ro, .plain, .any⟩, ⟨2, 1, .ro, .plain, .any⟩, ⟨3, 1, .ro, .plain, .any⟩, ⟨4, 1, .ro, .plain, .any⟩, ⟨5, 1, .ro, .plain, .any⟩, ⟨6, 1, .ro, .plain, .any⟩, ⟨7, 1, .ro, .plain, .any⟩, ⟨8, 1, .ro, .plain, .any⟩, ⟨9, 1, .ro, .plain, .any⟩, ⟨10, 1, .ro, .plain, .any⟩, ⟨11, 1, .ro, .plain, .any⟩, ⟨12, 1, .ro, .plain, .any⟩, ⟨13, 1, .ro, .plain, .any⟩, ⟨14, 1, .ro, .plain, .any⟩, ⟨15, 1, .ro, .plain, .any⟩, ⟨16, 1, .ro, .plain, .any⟩, ⟨17, 1, .ro, .plain, .any⟩]⟩,  -- STAT
   ⟨0x064, 1, 4, 0x0, [⟨0, 8, .ro, .plain, .any⟩, ⟨8, 8, .ro, .plain, .any⟩]⟩,  -- PROVEN
   ⟨0x068, 1, 4, 0x1, [⟨0, 8, .ro, .plain, .any⟩]⟩,  -- BLOCK
   ⟨0x070, 1, 4, 0x0, [⟨0, 32, .cnt, .plain, .any⟩]⟩,  -- TRAC_DROP_CNT
   ⟨0x074, 1, 4, 0x0, [⟨0, 32, .cnt, .plain, .any⟩]⟩,  -- ZSP_DISC_CNT
   ⟨0x078, 1, 4, 0x0, [⟨0, 32, .cnt, .plain, .any⟩]⟩,  -- LOOP_OPEN_CNT
   ⟨0x07C, 1, 4, 0x0, [⟨0, 8, .ro, .plain, .any⟩, ⟨8, 1, .ro, .plain, .any⟩]⟩,  -- FAULT
   ⟨0x080, 1, 4, 0x0, [⟨0, 32, .ro, .plain, .any⟩]⟩,  -- FAULT_LOC
   ⟨0x084, 1, 4, 0x0, [⟨0, 1, .w1s, .plain, .any⟩]⟩]  -- CTRL

def regsStl : List RegRow :=
  [
   ⟨0x040, 1, 4, 0x1, [⟨0, 16, .rws, .image, .range 1 65535⟩]⟩,  -- NODE
   ⟨0x044, 1, 4, 0x0, [⟨0, 2, .ro, .plain, .any⟩, ⟨2, 2, .ro, .plain, .any⟩, ⟨4, 2, .ro, .plain, .any⟩, ⟨6, 2, .ro, .plain, .any⟩, ⟨8, 2, .ro, .plain, .any⟩, ⟨10, 2, .ro, .plain, .any⟩, ⟨12, 2, .ro, .plain, .any⟩, ⟨14, 2, .ro, .plain, .any⟩]⟩,  -- STAT
   ⟨0x048, 1, 4, 0x0, [⟨0, 32, .wo, .plain, .any⟩]⟩,  -- RX_WIN
   ⟨0x04C, 1, 4, 0x8, [⟨0, 4, .ro, .plain, .any⟩, ⟨4, 4, .ro, .plain, .any⟩, ⟨8, 1, .ro, .plain, .any⟩]⟩,  -- RX_STAT
   ⟨0x050, 1, 4, 0x0, [⟨0, 1, .w1s, .plain, .any⟩]⟩,  -- RX_CTRL
   ⟨0x054, 1, 4, 0x0, [⟨0, 32, .ro, .plain, .any⟩]⟩,  -- TX_WIN
   ⟨0x058, 1, 4, 0x0, [⟨0, 4, .ro, .plain, .any⟩, ⟨4, 4, .ro, .plain, .any⟩, ⟨8, 1, .ro, .plain, .any⟩, ⟨16, 3, .ro, .plain, .any⟩]⟩,  -- TX_STAT
   ⟨0x05C, 1, 4, 0x0, [⟨0, 32, .cnt, .plain, .any⟩]⟩,  -- RX_OVF_CNT
   ⟨0x060, 1, 4, 0x0, [⟨0, 32, .cnt, .plain, .any⟩]⟩,  -- TX_OVF_CNT
   ⟨0x064, 1, 4, 0x0, [⟨0, 16, .ro, .cellar, .any⟩]⟩,  -- SESSION
   ⟨0x068, 1, 4, 0x0, [⟨0, 32, .cnt, .plain, .any⟩]⟩,  -- TMO_CNT
   ⟨0x100, 8, 32, 0x10000, [⟨0, 1, .rws, .image, .any⟩, ⟨1, 2, .rws, .image, .codes [(0, 2)]⟩, ⟨3, 2, .rws, .image, .any⟩, ⟨8, 8, .rws, .image, .any⟩, ⟨16, 16, .rws, .image, .range 1 65535⟩]⟩,  -- CONNj_CFG
   ⟨0x104, 8, 32, 0x0, [⟨0, 32, .rws, .image, .any⟩]⟩,  -- CONNj_ID
   ⟨0x108, 8, 32, 0x5000A, [⟨0, 16, .rws, .image, .range 10 2000⟩, ⟨16, 16, .rws, .image, .dyn .tTx⟩]⟩,  -- CONNj_TIME
   ⟨0x10C, 8, 32, 0x10000, [⟨0, 9, .rws, .image, .any⟩, ⟨16, 8, .rws, .image, .range 1 255⟩]⟩,  -- CONNj_LIM
   ⟨0x110, 8, 32, 0x0, [⟨0, 2, .ro, .plain, .any⟩, ⟨4, 4, .ro, .plain, .any⟩, ⟨16, 16, .ro, .plain, .any⟩]⟩,  -- CONNj_STAT
   ⟨0x114, 8, 32, 0x0, [⟨0, 32, .ro, .plain, .any⟩]⟩,  -- CONNj_TX_SEQ
   ⟨0x118, 8, 32, 0x0, [⟨0, 32, .ro, .plain, .any⟩]⟩,  -- CONNj_RX_SEQ
   ⟨0x11C, 8, 32, 0x0, [⟨0, 32, .cnt, .plain, .any⟩]⟩,  -- CONNj_ERR_CNT
   ⟨0x200, 8, 4, 0x0, [⟨0, 32, .cnt, .plain, .any⟩]⟩,  -- CONNj_LOST_CNT
   ⟨0x220, 8, 4, 0x0, [⟨0, 32, .ro, .cellar, .any⟩]⟩]  -- CONNj_SEQ_CEIL

def regsBrv : List RegRow :=
  [
   ⟨0x040, 1, 4, 0x0, [⟨0, 1, .rws, .image, .any⟩, ⟨1, 1, .rws, .image, .any⟩, ⟨2, 1, .rws, .image, .any⟩]⟩,  -- CFG
   ⟨0x044, 1, 4, 0x201F4, [⟨0, 16, .rws, .image, .range 500 10000⟩, ⟨16, 8, .rws, .image, .range 2 19⟩]⟩,  -- TIMING
   ⟨0x048, 1, 4, 0x640000, [⟨0, 4, .rw, .image, .range 0 15⟩, ⟨16, 16, .rw, .image, .range 100 60000⟩]⟩,  -- HO_CFG
   ⟨0x04C, 1, 4, 0x0, [⟨0, 1, .w1s, .plain, .any⟩, ⟨1, 1, .w1s, .plain, .any⟩, ⟨2, 1, .w1s, .plain, .any⟩, ⟨3, 1, .w1s, .plain, .any⟩]⟩,  -- CTRL
   ⟨0x050, 1, 4, 0x0, [⟨0, 2, .ro, .plain, .any⟩, ⟨2, 2, .ro, .plain, .any⟩, ⟨4, 1, .ro, .plain, .any⟩, ⟨5, 1, .ro, .plain, .any⟩, ⟨6, 1, .ro, .plain, .any⟩, ⟨7, 1, .ro, .plain, .any⟩, ⟨8, 1, .ro, .plain, .any⟩, ⟨9, 1, .ro, .plain, .any⟩, ⟨12, 2, .ro, .plain, .any⟩, ⟨16, 4, .ro, .plain, .any⟩]⟩,  -- STAT
   ⟨0x054, 1, 4, 0x0, [⟨0, 2, .ro, .plain, .any⟩, ⟨2, 2, .ro, .plain, .any⟩, ⟨4, 1, .ro, .plain, .any⟩]⟩,  -- LINK_STAT
   ⟨0x058, 1, 4, 0x0, [⟨0, 32, .ro, .plain, .any⟩]⟩,  -- HEALTH_OWN
   ⟨0x05C, 1, 4, 0x0, [⟨0, 32, .ro, .plain, .any⟩]⟩,  -- HEALTH_PART
   ⟨0x060, 1, 4, 0x0, [⟨0, 4, .ro, .plain, .any⟩, ⟨8, 4, .ro, .plain, .any⟩]⟩,  -- GRADE
   ⟨0x064, 1, 4, 0x0, [⟨0, 16, .ro, .plain, .any⟩]⟩,  -- LINK_DELAY
   ⟨0x068, 1, 4, 0x0, [⟨0, 4, .ro, .plain, .any⟩, ⟨4, 4, .ro, .plain, .any⟩]⟩,  -- LAST_HO
   ⟨0x06C, 1, 4, 0x0, [⟨0, 32, .ro, .plain, .any⟩]⟩,  -- LDG_BEHIND
   ⟨0x070, 1, 4, 0x0, [⟨0, 32, .cnt, .record, .any⟩]⟩,  -- HO_CNT
   ⟨0x074, 1, 4, 0x0, [⟨0, 32, .cnt, .record, .any⟩]⟩,  -- ALIVE_LOSS_CNT
   ⟨0x078, 1, 4, 0x0, [⟨0, 32, .cnt, .plain, .any⟩]⟩,  -- CRC_CNT
   ⟨0x07C, 1, 4, 0x0, [⟨0, 32, .cnt, .plain, .any⟩]⟩,  -- RETX_CNT
   ⟨0x080, 1, 4, 0x0, [⟨0, 8, .ro, .plain, .any⟩, ⟨8, 1, .ro, .plain, .any⟩]⟩,  -- FAULT
   ⟨0x084, 1, 4, 0x0, [⟨0, 32, .ro, .plain, .any⟩]⟩]  -- FAULT_LOC

def regsLdgA : List RegRow :=
  [
   ⟨0x040, 1, 4, 0x185A016D, [⟨0, 9, .rw, .image, .range 180 450⟩, ⟨16, 7, .rw, .image, .range 50 99⟩, ⟨24, 6, .rw, .image, .range 8 40⟩]⟩,  -- CFG
   ⟨0x044, 1, 4, 0x0, [⟨0, 1, .ro, .plain, .any⟩, ⟨1, 1, .ro, .plain, .any⟩, ⟨2, 1, .ro, .plain, .any⟩, ⟨3, 1, .ro, .plain, .any⟩, ⟨4, 1, .ro, .plain, .any⟩, ⟨5, 1, .ro, .plain, .any⟩, ⟨8, 6, .ro, .plain, .any⟩]⟩,  -- STAT
   ⟨0x048, 1, 4, 0x0, [⟨0, 11, .ro, .plain, .any⟩, ⟨16, 11, .ro, .plain, .any⟩]⟩,  -- JRNL
   ⟨0x04C, 1, 4, 0x0, [⟨0, 32, .ro, .cellar, .any⟩]⟩,  -- NEXT_RSEQ
   ⟨0x050, 1, 4, 0x0, [⟨0, 14, .ro, .plain, .any⟩, ⟨16, 9, .ro, .plain, .any⟩]⟩,  -- FILL
   ⟨0x054, 1, 4, 0x0, [⟨0, 32, .ro, .plain, .any⟩]⟩,  -- SEG_BAD
   ⟨0x058, 1, 4, 0x0, [⟨0, 32, .ro, .plain, .any⟩]⟩,  -- OLDEST_LO
   ⟨0x05C, 1, 4, 0x0, [⟨0, 16, .ro, .plain, .any⟩]⟩,  -- OLDEST_HI
   ⟨0x060, 1, 4, 0x0, [⟨0, 16, .ro, .plain, .any⟩, ⟨16, 16, .ro, .plain, .any⟩]⟩,  -- REFRESH
   ⟨0x064, 1, 4, 0x0, [⟨0, 32, .cnt, .plain, .any⟩]⟩,  -- FLUSH_CNT
   ⟨0x068, 1, 4, 0x0, [⟨0, 32, .cnt, .plain, .any⟩]⟩,  -- DROP_CNT
   ⟨0x06C, 1, 4, 0x0, [⟨0, 32, .cnt, .plain, .any⟩]⟩,  -- ECC_CNT
   ⟨0x070, 1, 4, 0x0, [⟨0, 32, .cnt, .record, .any⟩]⟩,  -- GAP_CNT
   ⟨0x080, 1, 4, 0x0, [⟨0, 1, .w1s, .plain, .any⟩, ⟨1, 1, .w1s, .plain, .any⟩]⟩,  -- QRY_CTRL
   ⟨0x084, 1, 4, 0x0, [⟨0, 9, .rw, .plain, .any⟩, ⟨16, 2, .rw, .plain, .any⟩, ⟨24, 6, .rw, .plain, .any⟩]⟩,  -- QRY_SEL
   ⟨0x088, 1, 4, 0x0, [⟨0, 32, .rw, .plain, .any⟩]⟩,  -- QRY_FROM_LO
   ⟨0x08C, 1, 4, 0x0, [⟨0, 16, .rw, .plain, .any⟩]⟩,  -- QRY_FROM_HI
   ⟨0x090, 1, 4, 0x0, [⟨0, 32, .rw, .plain, .any⟩]⟩,  -- QRY_TO_LO
   ⟨0x094, 1, 4, 0x0, [⟨0, 16, .rw, .plain, .any⟩]⟩,  -- QRY_TO_HI
   ⟨0x098, 1, 4, 0x200000, [⟨0, 22, .rw, .plain, .range 1 2097152⟩]⟩,  -- QRY_MAX
   ⟨0x09C, 1, 4, 0x0, [⟨0, 32, .ro, .plain, .any⟩]⟩,  -- QRY_STAT
   ⟨0x0A0, 1, 4, 0x0, [⟨0, 32, .ro, .plain, .any⟩]⟩,  -- QRY_COUNT
   ⟨0x0A4, 1, 4, 0x0, [⟨0, 32, .ro, .plain, .any⟩]⟩,  -- QRY_SLOTS
   ⟨0x0A8, 1, 4, 0x0, [⟨0, 1, .ro, .plain, .any⟩]⟩]  -- QRY_MORE

def regsLdgB : List RegRow :=
  [
   ⟨0x0AC, 1, 4, 0x0, [⟨0, 32, .ro, .plain, .any⟩]⟩,  -- QRY_UNREL
   ⟨0x0B0, 1, 4, 0x0, [⟨0, 32, .ro, .plain, .any⟩]⟩,  -- RD_WIN
   ⟨0x0B4, 1, 4, 0x0, [⟨0, 22, .ro, .plain, .any⟩, ⟨24, 4, .ro, .plain, .any⟩]⟩,  -- RD_STAT
   ⟨0x0C0, 1, 4, 0x0, [⟨0, 32, .rw, .plain, .any⟩]⟩,  -- DMA_ADDR_LO
   ⟨0x0C4, 1, 4, 0x0, [⟨0, 32, .rw, .plain, .any⟩]⟩,  -- DMA_ADDR_HI
   ⟨0x0C8, 1, 4, 0x0, [⟨0, 1, .w1s, .plain, .any⟩, ⟨1, 1, .w1s, .plain, .any⟩]⟩,  -- DMA_CTRL
   ⟨0x0CC, 1, 4, 0x0, [⟨0, 32, .ro, .plain, .any⟩]⟩,  -- DMA_STAT
   ⟨0x0D0, 1, 4, 0x0, [⟨0, 32, .ro, .plain, .any⟩]⟩,  -- DMA_BYTES
   ⟨0x0E0, 1, 4, 0x0, [⟨0, 8, .ro, .plain, .any⟩, ⟨8, 1, .ro, .plain, .any⟩]⟩,  -- FAULT
   ⟨0x0E4, 1, 4, 0x0, [⟨0, 32, .ro, .plain, .any⟩]⟩,  -- FAULT_LOC
   ⟨0x0E8, 1, 4, 0x0, [⟨0, 1, .w1s, .plain, .any⟩, ⟨1, 1, .w1s, .plain, .any⟩, ⟨2, 1, .w1s, .plain, .any⟩]⟩]  -- CTRL

def regsLdg : List RegRow := regsLdgA ++ regsLdgB

def regsOcc : List RegRow :=
  [
   ⟨0x040, 1, 4, 0x0, [⟨0, 2, .rw, .image, .codes [(0, 2)]⟩, ⟨16, 16, .rw, .image, .range 0 60000⟩]⟩,  -- CFG
   ⟨0x044, 1, 4, 0x0, [⟨0, 2, .ro, .plain, .any⟩, ⟨2, 2, .ro, .plain, .any⟩, ⟨4, 1, .ro, .plain, .any⟩]⟩,  -- RATE
   ⟨0x048, 1, 4, 0x0, [⟨0, 32, .ro, .plain, .any⟩]⟩,  -- EPOCH_LO
   ⟨0x04C, 1, 4, 0x0, [⟨0, 32, .ro, .plain, .any⟩]⟩,  -- EPOCH_HI
   ⟨0x050, 1, 4, 0x0, [⟨0, 32, .ro, .plain, .any⟩]⟩,  -- TIME_LO
   ⟨0x054, 1, 4, 0x0, [⟨0, 32, .ro, .plain, .any⟩]⟩,  -- TIME_HI
   ⟨0x058, 1, 4, 0x0, [⟨0, 1, .rw, .plain, .any⟩, ⟨1, 1, .rw, .plain, .any⟩, ⟨16, 16, .rw, .plain, .range 0 65535⟩]⟩,  -- PRE_REL
   ⟨0x05C, 1, 4, 0x0, [⟨0, 16, .ro, .plain, .any⟩, ⟨16, 16, .ro, .plain, .any⟩]⟩,  -- LOAD
   ⟨0x060, 1, 4, 0x0, [⟨0, 32, .cnt, .plain, .any⟩]⟩,  -- PASS_CNT
   ⟨0x064, 1, 4, 0x0, [⟨0, 32, .cnt, .plain, .any⟩]⟩,  -- OVERLOAD_CNT
   ⟨0x068, 1, 4, 0x0, [⟨0, 32, .cnt, .plain, .any⟩]⟩,  -- OE_RST_CNT
   ⟨0x06C, 1, 4, 0x0, [⟨0, 8, .ro, .plain, .any⟩, ⟨8, 1, .ro, .plain, .any⟩]⟩,  -- FAULT
   ⟨0x070, 1, 4, 0x0, [⟨0, 32, .ro, .plain, .any⟩]⟩,  -- FAULT_LOC
   ⟨0x074, 1, 4, 0x0, [⟨0, 1, .w1s, .plain, .any⟩]⟩]  -- CTRL

def regsDin : List RegRow :=
  [
   ⟨0x040, 4, 4, 0xA0500, [⟨0, 2, .rws, .image, .codes [(0, 2)]⟩, ⟨4, 2, .rws, .image, .any⟩, ⟨8, 8, .rws, .image, .range 5 100⟩, ⟨16, 16, .rws, .image, .range 10 10000⟩]⟩,  -- GRP_CFG0–GRP_CFG3
   ⟨0x050, 16, 4, 0x1010101, [⟨0, 8, .rws, .image, .dyn .filt⟩, ⟨8, 8, .rws, .image, .dyn .filt⟩, ⟨16, 8, .rws, .image, .dyn .filt⟩, ⟨24, 8, .rws, .image, .dyn .filt⟩]⟩,  -- FILT0–FILT15
   ⟨0x090, 2, 4, 0x0, [⟨0, 32, .rws, .image, .any⟩]⟩,  -- INV0, INV1
   ⟨0x098, 2, 4, 0x0, [⟨0, 32, .rws, .image, .any⟩]⟩,  -- SAFE0, SAFE1
   ⟨0x0A0, 2, 4, 0x0, [⟨0, 32, .ro, .plain, .any⟩]⟩,  -- LEVEL0, LEVEL1
   ⟨0x0A8, 2, 4, 0x0, [⟨0, 32, .ro, .plain, .any⟩]⟩,  -- RAW0, RAW1
   ⟨0x0B0, 2, 4, 0x0, [⟨0, 32, .w1c, .plain, .any⟩]⟩,  -- CHG0, CHG1
   ⟨0x0B8, 2, 4, 0x0, [⟨0, 32, .rw, .plain, .any⟩]⟩,  -- CHG_EN0, CHG_EN1
   ⟨0x0C0, 2, 4, 0x0, [⟨0, 32, .ro, .plain, .any⟩]⟩,  -- WET_FAIL0, WET_FAIL1
   ⟨0x0C8, 1, 4, 0x0, [⟨0, 32, .cnt, .plain, .any⟩]⟩]  -- WET_FAIL_CNT

def regsEnc : List RegRow :=
  [
   ⟨0x040, 4, 16, 0x0, [⟨0, 4, .rws, .image, .any⟩, ⟨4, 1, .rws, .image, .any⟩, ⟨5, 1, .rws, .image, .any⟩, ⟨6, 1, .rws, .image, .any⟩, ⟨7, 1, .rws, .image, .any⟩]⟩,  -- CFGm
   ⟨0x044, 4, 16, 0x10001, [⟨0, 16, .rws, .image, .dyn .encN⟩, ⟨16, 16, .rws, .image, .range 1 65535⟩]⟩,  -- RATIOm
   ⟨0x048, 4, 16, 0x3, [⟨0, 8, .rws, .image, .range 3 255⟩]⟩,  -- TIMINGm
   ⟨0x04C, 4, 16, 0x0, [⟨0, 9, .ro, .plain, .any⟩, ⟨9, 1, .ro, .plain, .any⟩, ⟨16, 16, .ro, .plain, .any⟩]⟩,  -- STATm
   ⟨0x080, 4, 4, 0x0, [⟨0, 32, .cnt, .plain, .any⟩]⟩]  -- OVR_CNTm

/-- The doorway engine's registers (R93). LSMAP, DIMAP and RCP_ENTRY are delivered as absent, the positions as 0 (DESIGN CHOICE, log
entry 2). -/
def regsDwA : List RegRow :=
  [
   ⟨0x040, 1, 4, 0x0, [⟨0, 4, .rw, .plain, .codes [(1, 9)]⟩, ⟨4, 2, .rw, .plain, .codes [(0, 2)]⟩, ⟨31, 1, .w1s, .plain, .any⟩]⟩,  -- CMD
   ⟨0x044, 1, 4, 0x0, [⟨0, 16, .ro, .plain, .any⟩, ⟨16, 4, .ro, .plain, .any⟩, ⟨20, 4, .ro, .plain, .any⟩]⟩,  -- CMD_STAT
   ⟨0x048, 1, 4, 0x0, [⟨0, 4, .ro, .plain, .any⟩, ⟨4, 3, .ro, .plain, .any⟩, ⟨16, 16, .ro, .plain, .any⟩]⟩,  -- LAST_CMD
   ⟨0x04C, 1, 4, 0x0, [⟨0, 4, .ro, .plain, .any⟩, ⟨4, 3, .ro, .plain, .any⟩, ⟨7, 1, .ro, .plain, .any⟩, ⟨8, 1, .ro, .plain, .any⟩, ⟨9, 1, .ro, .plain, .any⟩, ⟨10, 1, .ro, .plain, .any⟩, ⟨11, 1, .ro, .plain, .any⟩, ⟨12, 1, .ro, .plain, .any⟩, ⟨13, 1, .ro, .plain, .any⟩, ⟨14, 1, .ro, .plain, .any⟩, ⟨15, 1, .ro, .plain, .any⟩, ⟨16, 1, .ro, .plain, .any⟩, ⟨20, 4, .ro, .plain, .any⟩]⟩,  -- STATE
   ⟨0x050, 1, 4, 0x0, [⟨0, 6, .ro, .plain, .any⟩]⟩,  -- DEGR
   ⟨0x054, 1, 4, 0x0, [⟨0, 6, .ro, .plain, .any⟩, ⟨6, 3, .ro, .plain, .any⟩, ⟨9, 1, .ro, .plain, .any⟩]⟩,  -- SECT
   ⟨0x058, 1, 4, 0x0, [⟨0, 1, .rws, .image, .any⟩, ⟨1, 1, .rws, .image, .any⟩, ⟨2, 1, .rws, .image, .any⟩, ⟨3, 1, .rws, .image, .any⟩, ⟨4, 1, .rws, .image, .any⟩, ⟨5, 1, .rws, .image, .any⟩]⟩,  -- CFG
   ⟨0x05C, 2, 4, 0xFFFFFFFF, [⟨0, 8, .rws, .image, .codes [(0, 47), (255, 255)]⟩, ⟨8, 8, .rws, .image, .codes [(0, 47), (255, 255)]⟩, ⟨16, 8, .rws, .image, .codes [(0, 47), (255, 255)]⟩, ⟨24, 8, .rws, .image, .codes [(0, 47), (255, 255)]⟩]⟩,  -- LSMAP0–LSMAP1
   ⟨0x064, 4, 4, 0xFFFFFFFF, [⟨0, 8, .rws, .image, .codes [(0, 63), (255, 255)]⟩, ⟨8, 8, .rws, .image, .codes [(0, 63), (255, 255)]⟩, ⟨16, 8, .rws, .image, .codes [(0, 63), (255, 255)]⟩, ⟨24, 8, .rws, .image, .codes [(0, 63), (255, 255)]⟩]⟩,  -- DIMAP0–DIMAP3
   ⟨0x074, 1, 4, 0x3F3F3F3F, [⟨0, 6, .rws, .image, .entry⟩, ⟨8, 6, .rws, .image, .entry⟩, ⟨16, 6, .rws, .image, .entry⟩, ⟨24, 6, .rws, .image, .entry⟩]⟩,  -- RCP_ENTRY
   ⟨0x078, 1, 4, 0x0, [⟨0, 1, .w1s, .plain, .any⟩, ⟨1, 2, .rw, .plain, .any⟩, ⟨8, 1, .ro, .plain, .any⟩, ⟨16, 6, .ro, .plain, .any⟩, ⟨24, 4, .ro, .plain, .any⟩]⟩,  -- RCP_CTRL
   ⟨0x07C, 1, 4, 0x0, [⟨0, 32, .rw, .image, .range (-1000000) 1000000⟩]⟩,  -- DOOR_OPEN_POS
   ⟨0x080, 1, 4, 0x0, [⟨0, 32, .rw, .image, .range (-1000000) 1000000⟩]⟩,  -- DOOR_CLOSED_POS
   ⟨0x084, 1, 4, 0x0, [⟨0, 32, .rw, .image, .range (-1000000) 1000000⟩]⟩,  -- STEP_EXT_POS
   ⟨0x088, 1, 4, 0x0, [⟨0, 32, .rw, .image, .range (-1000000) 1000000⟩]⟩,  -- STEP_RET_POS
   ⟨0x08C, 1, 4, 0x10000, [⟨0, 8, .rw, .image, .range 0 255⟩, ⟨8, 8, .rw, .image, .range 0 50⟩, ⟨16, 8, .rw, .image, .range 1 100⟩]⟩,  -- STEP_GAP
   ⟨0x090, 1, 4, 0x0, [⟨0, 16, .rw, .image, .range 0 60000⟩]⟩,  -- PORCH_WAIT_MAX
   ⟨0x094, 1, 4, 0xA, [⟨0, 16, .rw, .image, .range 10 1000⟩]⟩,  -- V_WAIT
   ⟨0x098, 1, 4, 0x1E, [⟨0, 8, .rw, .image, .range 10 100⟩]⟩,  -- D_MARGIN
   ⟨0x09C, 1, 4, 0x1F40000, [⟨0, 4, .rw, .image, .range 0 15⟩, ⟨16, 16, .rw, .image, .range 500 30000⟩]⟩,  -- REOPEN
   ⟨0x0A0, 1, 4, 0x320032, [⟨0, 16, .rw, .image, .range 50 5000⟩, ⟨16, 16, .rw, .image, .range 50 5000⟩]⟩,  -- TIMEOUTS
   ⟨0x0A4, 1, 4, 0x3E80064, [⟨0, 16, .rw, .image, .range 100 10000⟩, ⟨16, 16, .rw, .image, .range 1000 60000⟩]⟩,  -- MANUAL
   ⟨0x0A8, 1, 4, 0x1F4, [⟨0, 16, .rw, .image, .range 500 60000⟩]⟩,  -- TEST_DWELL
   ⟨0x0AC, 1, 4, 0x0, [⟨0, 32, .ro, .plain, .any⟩]⟩]  -- DOOR_POS

def regsDwB : List RegRow :=
  [
   ⟨0x0B0, 1, 4, 0x0, [⟨0, 32, .ro, .plain, .any⟩]⟩,  -- STEP_POS
   ⟨0x0B4, 1, 4, 0x0, [⟨0, 16, .ro, .plain, .any⟩]⟩,  -- V_CAP
   ⟨0x0B8, 1, 4, 0x0, [⟨0, 16, .ro, .plain, .any⟩]⟩,  -- WAIT_LEFT
   ⟨0x0BC, 1, 4, 0x0, [⟨0, 32, .cnt, .record, .any⟩]⟩,  -- CYCLE_CNT
   ⟨0x0C0, 1, 4, 0x0, [⟨0, 32, .cnt, .record, .any⟩]⟩,  -- OBST_CNT
   ⟨0x0C4, 1, 4, 0x0, [⟨0, 32, .cnt, .record, .any⟩]⟩,  -- PORCH_HOLD_CNT
   ⟨0x0C8, 1, 4, 0x0, [⟨0, 8, .ro, .plain, .any⟩, ⟨8, 1, .ro, .plain, .any⟩]⟩,  -- FAULT_CAUSE
   ⟨0x0CC, 1, 4, 0x0, [⟨0, 32, .ro, .plain, .any⟩]⟩,  -- FAULT_LOC
   ⟨0x400, 96, 4, 0x0, [⟨0, 32, .rws, .image, .any⟩]⟩,  -- RECIPE
   ⟨0x100, 1, 4, 0x500, [⟨0, 2, .rws, .image, .any⟩, ⟨8, 8, .rws, .image, .range 5 250⟩]⟩,  -- EDGE_CFG
   ⟨0x104, 1, 4, 0x640064, [⟨0, 16, .rw, .image, .range 100 10000⟩, ⟨16, 16, .rw, .image, .range 100 20000⟩]⟩,  -- F_LIMIT
   ⟨0x108, 1, 4, 0xA0064, [⟨0, 16, .rw, .image, .range 100 10000⟩, ⟨16, 16, .rw, .image, .dyn .dragF⟩]⟩,  -- F_LIMIT2
   ⟨0x10C, 1, 4, 0x1, [⟨0, 8, .rw, .image, .range 1 50⟩]⟩,  -- F_TIME
   ⟨0x110, 1, 4, 0x64, [⟨0, 16, .rw, .image, .range 100 10000⟩, ⟨16, 16, .rw, .image, .dyn .edgeMute⟩]⟩,  -- END_ZONE
   ⟨0x114, 1, 4, 0xA, [⟨0, 16, .rw, .image, .range 10 1000⟩]⟩,  -- SEAM
   ⟨0x118, 1, 4, 0x0, [⟨0, 16, .rw, .image, .range 0 65535⟩, ⟨16, 16, .rw, .image, .range 0 5000⟩]⟩,  -- REVERSE
   ⟨0x11C, 1, 4, 0x10001, [⟨0, 16, .rws, .image, .range 1 10000⟩, ⟨16, 16, .rws, .image, .range 1 10000⟩]⟩,  -- KF
   ⟨0x120, 1, 4, 0x640000, [⟨0, 16, .rws, .image, .range 0 5000⟩, ⟨16, 16, .rws, .image, .range 100 20000⟩]⟩,  -- SC_FORCE
   ⟨0x124, 1, 4, 0xC80064, [⟨0, 16, .rw, .image, .range 100 1000⟩, ⟨16, 16, .rw, .image, .dyn .learnV2⟩]⟩,  -- LEARN_V
   ⟨0x128, 1, 4, 0xA0102, [⟨0, 4, .rw, .image, .range 2 8⟩, ⟨8, 8, .rw, .image, .range 1 255⟩, ⟨16, 16, .rw, .image, .range 10 20000⟩]⟩,  -- LEARN_LIM
   ⟨0x12C, 1, 4, 0x110000A, [⟨0, 16, .rw, .image, .range 10 5000⟩, ⟨16, 8, .rw, .image, .range 16 255⟩, ⟨24, 8, .rw, .image, .range 1 128⟩]⟩,  -- DRIFT
   ⟨0x130, 1, 4, 0x0, [⟨0, 16, .ro, .image, .any⟩, ⟨16, 16, .ro, .image, .range 0 10000⟩]⟩,  -- M_C_DOOR
   ⟨0x134, 1, 4, 0x0, [⟨0, 16, .ro, .image, .any⟩, ⟨16, 16, .ro, .image, .range 0 10000⟩]⟩,  -- M_C_STEP
   ⟨0x138, 1, 4, 0x0, [⟨0, 1, .ro, .plain, .any⟩, ⟨1, 1, .ro, .plain, .any⟩, ⟨2, 1, .ro, .plain, .any⟩, ⟨4, 4, .ro, .plain, .any⟩, ⟨8, 4, .ro, .plain, .any⟩, ⟨16, 8, .ro, .plain, .any⟩, ⟨24, 8, .ro, .plain, .any⟩]⟩]  -- EFF_STAT

def regsDwC : List RegRow :=
  [
   ⟨0x13C, 1, 4, 0x0, [⟨0, 32, .ro, .image, .any⟩]⟩,  -- CRC_DOOR
   ⟨0x140, 1, 4, 0x0, [⟨0, 32, .ro, .image, .any⟩]⟩,  -- CRC_STEP
   ⟨0x144, 1, 4, 0x0, [⟨0, 16, .ro, .record, .any⟩, ⟨16, 16, .ro, .record, .any⟩]⟩,  -- LEARN_AGE
   ⟨0x148, 1, 4, 0x0, [⟨0, 1, .w1s, .plain, .any⟩, ⟨1, 1, .rw, .plain, .any⟩, ⟨2, 1, .w1s, .plain, .any⟩, ⟨3, 1, .w1s, .plain, .any⟩]⟩,  -- EFF_CTRL
   ⟨0x14C, 1, 4, 0x0, [⟨0, 16, .ro, .plain, .any⟩, ⟨16, 16, .ro, .plain, .any⟩]⟩,  -- PEAK
   ⟨0x150, 1, 4, 0x0, [⟨0, 32, .ro, .plain, .any⟩]⟩,  -- SNAP_STAT
   ⟨0x154, 1, 4, 0x0, [⟨0, 32, .ro, .plain, .any⟩]⟩,  -- SNAP_POS
   ⟨0x158, 1, 4, 0x0, [⟨0, 32, .ro, .plain, .any⟩]⟩,  -- SNAP_IQ
   ⟨0x15C, 1, 4, 0x0, [⟨0, 16, .ro, .plain, .any⟩, ⟨16, 16, .ro, .plain, .any⟩]⟩,  -- SNAP_F
   ⟨0x160, 1, 4, 0x0, [⟨0, 16, .ro, .plain, .any⟩, ⟨16, 16, .ro, .plain, .any⟩]⟩,  -- SNAP_FCB
   ⟨0x164, 1, 4, 0x0, [⟨0, 7, .ro, .plain, .any⟩, ⟨8, 1, .ro, .plain, .any⟩]⟩,  -- SNAP_BIN
   ⟨0x168, 1, 4, 0x0, [⟨0, 16, .ro, .plain, .any⟩, ⟨16, 16, .ro, .plain, .any⟩]⟩,  -- SNAP_MODEL
   ⟨0x800, 128, 4, 0x0, [⟨0, 16, .ro, .record, .any⟩, ⟨16, 16, .ro, .record, .any⟩]⟩,  -- ADAPT_DOOR
   ⟨0xA00, 128, 4, 0x0, [⟨0, 16, .ro, .record, .any⟩, ⟨16, 16, .ro, .record, .any⟩]⟩,  -- ADAPT_STEP
   ⟨0xC00, 128, 4, 0x0, [⟨0, 16, .ro, .image, .any⟩, ⟨16, 16, .ro, .image, .any⟩]⟩,  -- BASE_DOOR
   ⟨0xE00, 128, 4, 0x0, [⟨0, 16, .ro, .image, .any⟩, ⟨16, 16, .ro, .image, .any⟩]⟩]  -- BASE_STEP

def regsDw : List RegRow := regsDwA ++ regsDwB ++ regsDwC

def regsPzA : List RegRow :=
  [
   ⟨0x040, 1, 4, 0x0, [⟨0, 1, .rw, .plain, .any⟩, ⟨1, 1, .rw, .plain, .any⟩]⟩,  -- CTRL
   ⟨0x044, 1, 4, 0x0, [⟨0, 3, .ro, .plain, .any⟩, ⟨3, 1, .ro, .plain, .any⟩, ⟨4, 1, .ro, .plain, .any⟩, ⟨5, 1, .ro, .plain, .any⟩, ⟨6, 1, .ro, .plain, .any⟩, ⟨7, 1, .ro, .plain, .any⟩, ⟨8, 1, .ro, .plain, .any⟩, ⟨9, 1, .ro, .plain, .any⟩, ⟨16, 16, .ro, .plain, .any⟩]⟩,  -- STAT
   ⟨0x048, 1, 4, 0x0, [⟨0, 2, .ro, .plain, .any⟩, ⟨2, 2, .ro, .plain, .any⟩, ⟨4, 2, .ro, .plain, .any⟩, ⟨6, 2, .ro, .plain, .any⟩, ⟨8, 2, .ro, .plain, .any⟩, ⟨10, 2, .ro, .plain, .any⟩, ⟨12, 2, .ro, .plain, .any⟩, ⟨14, 2, .ro, .plain, .any⟩]⟩,  -- ZONE_STAT
   ⟨0x04C, 1, 4, 0x0, [⟨0, 32, .ro, .plain, .any⟩]⟩,  -- PASS_T_LO
   ⟨0x050, 1, 4, 0x0, [⟨0, 32, .ro, .plain, .any⟩]⟩,  -- PASS_T_HI
   ⟨0x054, 1, 4, 0x8235, [⟨0, 18, .ro, .plain, .any⟩]⟩,  -- T_FRAME_EFF
   ⟨0x058, 1, 4, 0x0, [⟨0, 16, .rws, .image, .range (-2000) 0⟩, ⟨16, 16, .rws, .image, .range (-1920) 0⟩]⟩,  -- GRID_XY
   ⟨0x05C, 1, 4, 0x0, [⟨0, 16, .rws, .image, .range (-1000) 0⟩]⟩,  -- GRID_Z
   ⟨0x060, 1, 4, 0x1014000, [⟨0, 8, .rws, .image, .range 0 255⟩, ⟨8, 5, .rws, .image, .range 0 24⟩, ⟨14, 2, .rws, .image, .range 1 3⟩, ⟨16, 4, .rws, .image, .range 1 15⟩, ⟨24, 7, .rws, .image, .range 1 100⟩]⟩,  -- FUSE
   ⟨0x064, 1, 4, 0x0, [⟨0, 7, .rws, .image, .range 0 100⟩, ⟨8, 8, .rws, .image, .any⟩]⟩,  -- COVER
   ⟨0x068, 1, 4, 0x100, [⟨0, 2, .rws, .image, .any⟩, ⟨8, 8, .rws, .image, .range 1 255⟩, ⟨16, 16, .rws, .image, .range 0 500⟩]⟩,  -- SV_CFG
   ⟨0x06C, 1, 4, 0x0, [⟨0, 8, .rws, .image, .range 0 127⟩, ⟨8, 8, .rws, .image, .range 0 127⟩, ⟨16, 8, .rws, .image, .range 0 159⟩, ⟨24, 8, .rws, .image, .range 0 159⟩]⟩,  -- SV_BAND
   ⟨0x070, 1, 4, 0x0, [⟨0, 32, .rws, .image, .range (-144000) 144000⟩]⟩,  -- SV_XC
   ⟨0x074, 1, 4, 0x0, [⟨0, 32, .ro, .plain, .any⟩]⟩,  -- SV_POS
   ⟨0x078, 1, 4, 0x0, [⟨0, 32, .ro, .plain, .any⟩]⟩,  -- SV_LEN
   ⟨0x07C, 1, 4, 0x0, [⟨0, 22, .ro, .plain, .any⟩]⟩,  -- SV_OCC
   ⟨0x080, 1, 4, 0x1010101, [⟨0, 5, .rws, .image, .range 1 16⟩, ⟨8, 8, .rws, .image, .range 1 192⟩, ⟨16, 4, .rws, .image, .range 1 8⟩, ⟨24, 8, .rws, .image, .range 1 255⟩]⟩,  -- GAP_CFG
   ⟨0x084, 1, 4, 0x0, [⟨0, 32, .rws, .image, .range (-96000) 96000⟩]⟩,  -- GAP_YREF
   ⟨0x088, 1, 4, 0x0, [⟨0, 8, .rws, .image, .range 0 191⟩, ⟨8, 8, .rws, .image, .range 0 191⟩, ⟨16, 8, .rws, .image, .range 0 159⟩, ⟨24, 8, .rws, .image, .range 0 159⟩]⟩,  -- GAP_BAND
   ⟨0x08C, 1, 4, 0x3E8, [⟨0, 32, .rws, .image, .range 1000 100000⟩]⟩,  -- GAP_MAX
   ⟨0x090, 1, 4, 0x0, [⟨0, 1, .ro, .plain, .any⟩, ⟨1, 1, .ro, .plain, .any⟩, ⟨8, 8, .ro, .plain, .any⟩, ⟨16, 4, .ro, .plain, .any⟩]⟩,  -- GAP_STAT
   ⟨0x094, 1, 4, 0x0, [⟨0, 32, .ro, .plain, .any⟩]⟩,  -- GAP
   ⟨0x098, 1, 4, 0x0, [⟨0, 32, .ro, .plain, .any⟩]⟩,  -- GAP_Z
   ⟨0x0A0, 1, 4, 0x0, [⟨0, 1, .w1s, .plain, .any⟩]⟩]  -- QRY_CTRL

def regsPzB : List RegRow :=
  [
   ⟨0x0A4, 1, 4, 0x0, [⟨0, 8, .rw, .plain, .range 0 191⟩, ⟨8, 8, .rw, .plain, .range 0 127⟩, ⟨16, 8, .rw, .plain, .range 0 159⟩]⟩,  -- QRY_LO
   ⟨0x0A8, 1, 4, 0x0, [⟨0, 8, .rw, .plain, .range 0 191⟩, ⟨8, 8, .rw, .plain, .range 0 127⟩, ⟨16, 8, .rw, .plain, .range 0 159⟩]⟩,  -- QRY_HI
   ⟨0x0AC, 1, 4, 0x0, [⟨0, 32, .ro, .plain, .any⟩]⟩,  -- QRY_STAT
   ⟨0x0B0, 1, 4, 0x0, [⟨0, 32, .ro, .plain, .any⟩]⟩,  -- QRY_OCC
   ⟨0x0B4, 1, 4, 0x0, [⟨0, 32, .ro, .plain, .any⟩]⟩,  -- QRY_FREE
   ⟨0x0B8, 1, 4, 0x0, [⟨0, 32, .ro, .plain, .any⟩]⟩,  -- QRY_UNSEEN
   ⟨0x0BC, 1, 4, 0x0, [⟨0, 32, .ro, .plain, .any⟩]⟩,  -- QRY_CONFLICT
   ⟨0x0C0, 1, 4, 0x0, [⟨0, 32, .cnt, .plain, .any⟩]⟩,  -- PASS_CNT
   ⟨0x0C4, 1, 4, 0x0, [⟨0, 32, .cnt, .plain, .any⟩]⟩,  -- STALE_CNT
   ⟨0x100, 8, 8, 0x0, [⟨0, 8, .rws, .image, .range 0 191⟩, ⟨8, 8, .rws, .image, .range 0 127⟩, ⟨16, 8, .rws, .image, .range 0 159⟩, ⟨31, 1, .rws, .image, .any⟩]⟩,  -- ZONEz_LO
   ⟨0x104, 8, 8, 0x1000000, [⟨0, 8, .rws, .image, .range 0 191⟩, ⟨8, 8, .rws, .image, .range 0 127⟩, ⟨16, 8, .rws, .image, .range 0 159⟩, ⟨24, 8, .rws, .image, .range 1 255⟩]⟩,  -- ZONEz_HI
   ⟨0x140, 8, 4, 0x0, [⟨0, 22, .ro, .plain, .any⟩]⟩,  -- ZONE_OCCz
   ⟨0x160, 8, 4, 0x0, [⟨0, 7, .ro, .plain, .any⟩]⟩]  -- ZONE_COVz

def regsPz : List RegRow := regsPzA ++ regsPzB

def regsAxA : List RegRow :=
  [
   ⟨0x040, 1, 4, 0x100, [⟨0, 2, .rws, .image, .codes [(0, 2)]⟩, ⟨2, 1, .rws, .image, .any⟩, ⟨3, 5, .rws, .image, .codes [(0, 15)]⟩, ⟨8, 4, .rws, .image, .range 1 15⟩, ⟨12, 2, .rws, .image, .any⟩, ⟨14, 2, .rws, .image, .any⟩]⟩,  -- CFG
   ⟨0x044, 1, 4, 0x4, [⟨0, 24, .rws, .image, .range 4 1048576⟩]⟩,  -- CNT_PER_REV
   ⟨0x048, 1, 4, 0x10001, [⟨0, 16, .rws, .image, .range 1 65535⟩, ⟨16, 16, .rws, .image, .range 1 65535⟩]⟩,  -- SCALE
   ⟨0x04C, 1, 4, 0xA4E20, [⟨0, 16, .rws, .image, .range 16000 40000⟩, ⟨16, 10, .rws, .image, .range 10 200⟩]⟩,  -- PWM
   ⟨0x050, 1, 4, 0x1, [⟨0, 16, .rws, .image, .range 1 65535⟩]⟩,  -- MOTOR_R
   ⟨0x054, 1, 4, 0x1, [⟨0, 16, .rws, .image, .range 1 65535⟩]⟩,  -- MOTOR_L
   ⟨0x058, 1, 4, 0x64, [⟨0, 16, .rws, .image, .dyn .curBw⟩]⟩,  -- CUR_BW
   ⟨0x05C, 1, 4, 0x64, [⟨0, 17, .rws, .image, .range 100 100000⟩]⟩,  -- SHUNT_R
   ⟨0x060, 1, 4, 0x640064, [⟨0, 16, .rw, .image, .range 100 30000⟩, ⟨16, 16, .rw, .image, .dyn .iCont⟩]⟩,  -- I_LIMIT
   ⟨0x064, 1, 4, 0x640000, [⟨0, 16, .rw, .image, .dyn .iHold⟩, ⟨16, 16, .rw, .image, .dyn .iHome⟩]⟩,  -- I_HOLD_HOME
   ⟨0x068, 1, 4, 0xA320001, [⟨0, 16, .rw, .image, .range 1 1000⟩, ⟨16, 8, .rw, .image, .range 50 100⟩, ⟨24, 8, .rw, .image, .range 10 250⟩]⟩,  -- STALL
   ⟨0x06C, 1, 4, 0xA, [⟨0, 16, .rw, .image, .range 10 1000⟩]⟩,  -- V_HOME
   ⟨0x070, 1, 4, 0x1E0064, [⟨0, 16, .rw, .image, .range 100 65535⟩, ⟨16, 16, .rw, .image, .dyn .ferrT⟩]⟩,  -- FERR
   ⟨0x074, 1, 4, 0x1, [⟨0, 16, .rw, .image, .range 1 10000⟩]⟩,  -- IN_POS
   ⟨0x078, 1, 4, 0xA, [⟨0, 16, .rw, .image, .range 10 20000⟩]⟩,  -- KP_POS
   ⟨0x07C, 1, 4, 0x1, [⟨0, 16, .rw, .image, .range 1 65535⟩]⟩,  -- KP_SPD
   ⟨0x080, 1, 4, 0x0, [⟨0, 16, .rw, .image, .range 0 2000⟩]⟩,  -- KI_SPD
   ⟨0x084, 1, 4, 0x640011, [⟨0, 4, .rws, .image, .range 1 8⟩, ⟨4, 4, .rws, .image, .range 1 8⟩, ⟨16, 16, .rws, .image, .dyn .iTrip⟩]⟩,  -- DESAT
   ⟨0x088, 1, 4, 0x0, [⟨0, 16, .rwh, .image, .any⟩, ⟨31, 1, .ro, .image, .any⟩]⟩,  -- ELEC
   ⟨0x0A0, 1, 4, 0x0, [⟨0, 16, .rw, .image, .range 0 2000⟩]⟩,  -- PROF0_VSTART
   ⟨0x0A4, 1, 4, 0x1, [⟨0, 16, .rw, .image, .range 1 2000⟩]⟩,  -- PROF0_VSTOP
   ⟨0x0A8, 1, 4, 0x1, [⟨0, 16, .rw, .image, .range 1 20000⟩]⟩,  -- PROF0_VMAX
   ⟨0x0AC, 1, 4, 0xA, [⟨0, 16, .rw, .image, .range 10 20000⟩]⟩,  -- PROF0_A_ACC
   ⟨0x0B0, 1, 4, 0xA, [⟨0, 16, .rw, .image, .range 10 20000⟩]⟩]  -- PROF0_A_DEC

def regsAxB : List RegRow :=
  [
   ⟨0x0B4, 1, 4, 0x0, [⟨0, 16, .rw, .image, .range 0 50000⟩]⟩,  -- PROF0_CREEP_DIST
   ⟨0x0C0, 1, 4, 0x0, [⟨0, 16, .rw, .image, .range 0 2000⟩]⟩,  -- PROF1_VSTART
   ⟨0x0C4, 1, 4, 0x1, [⟨0, 16, .rw, .image, .range 1 2000⟩]⟩,  -- PROF1_VSTOP
   ⟨0x0C8, 1, 4, 0x1, [⟨0, 16, .rw, .image, .range 1 20000⟩]⟩,  -- PROF1_VMAX
   ⟨0x0CC, 1, 4, 0xA, [⟨0, 16, .rw, .image, .range 10 20000⟩]⟩,  -- PROF1_A_ACC
   ⟨0x0D0, 1, 4, 0xA, [⟨0, 16, .rw, .image, .range 10 20000⟩]⟩,  -- PROF1_A_DEC
   ⟨0x0D4, 1, 4, 0x0, [⟨0, 16, .rw, .image, .range 0 50000⟩]⟩,  -- PROF1_CREEP_DIST
   ⟨0x0D8, 1, 4, 0x64, [⟨0, 16, .rw, .image, .range 100 50000⟩]⟩,  -- A_STOP
   ⟨0x0DC, 1, 4, 0x0, [⟨0, 1, .rw, .plain, .any⟩]⟩,  -- PROF_CTRL
   ⟨0x100, 1, 4, 0x0, [⟨0, 32, .ro, .plain, .any⟩]⟩,  -- TARGET
   ⟨0x104, 1, 4, 0x0, [⟨0, 3, .ro, .plain, .any⟩, ⟨3, 1, .ro, .plain, .any⟩, ⟨4, 1, .ro, .plain, .any⟩, ⟨5, 1, .ro, .plain, .any⟩, ⟨6, 1, .ro, .plain, .any⟩, ⟨7, 1, .ro, .plain, .any⟩, ⟨8, 1, .ro, .plain, .any⟩, ⟨9, 1, .ro, .plain, .any⟩, ⟨10, 1, .ro, .plain, .any⟩, ⟨11, 1, .ro, .plain, .any⟩, ⟨12, 1, .ro, .plain, .any⟩]⟩,  -- STAT
   ⟨0x108, 1, 4, 0x0, [⟨0, 32, .ro, .plain, .any⟩]⟩,  -- POS
   ⟨0x10C, 1, 4, 0x0, [⟨0, 32, .ro, .plain, .any⟩]⟩,  -- POS_CMD
   ⟨0x110, 1, 4, 0x0, [⟨0, 32, .ro, .plain, .any⟩]⟩,  -- SPEED
   ⟨0x114, 1, 4, 0x0, [⟨0, 32, .ro, .plain, .any⟩]⟩,  -- SPEED_CMD
   ⟨0x118, 1, 4, 0x0, [⟨0, 32, .ro, .plain, .any⟩]⟩,  -- IQ
   ⟨0x11C, 1, 4, 0x0, [⟨0, 32, .ro, .plain, .any⟩]⟩,  -- ID
   ⟨0x120, 1, 4, 0x0, [⟨0, 32, .ro, .plain, .any⟩]⟩,  -- IQ_CMD
   ⟨0x124, 1, 4, 0x0, [⟨0, 32, .ro, .plain, .any⟩]⟩,  -- POS_OFS
   ⟨0x128, 1, 4, 0x0, [⟨0, 8, .ro, .plain, .any⟩, ⟨8, 1, .ro, .plain, .any⟩]⟩,  -- FAULT
   ⟨0x12C, 1, 4, 0x0, [⟨0, 32, .ro, .plain, .any⟩]⟩,  -- FAULT_LOC
   ⟨0x130, 1, 4, 0x0, [⟨0, 1, .w1s, .plain, .any⟩]⟩,  -- CTRL
   ⟨0x134, 1, 4, 0x0, [⟨0, 32, .cnt, .record, .any⟩]⟩,  -- DESAT_CNT
   ⟨0x138, 1, 4, 0x0, [⟨0, 32, .cnt, .record, .any⟩]⟩]  -- OC_CNT

def regsAx : List RegRow := regsAxA ++ regsAxB

def regsFb : List RegRow :=
  [
   ⟨0x040, 1, 4, 0x0, [⟨0, 2, .rws, .image, .any⟩, ⟨2, 1, .rws, .image, .any⟩, ⟨3, 1, .rws, .image, .any⟩, ⟨4, 1, .rws, .image, .any⟩, ⟨5, 2, .rws, .image, .any⟩, ⟨7, 1, .rws, .image, .any⟩, ⟨8, 1, .rws, .image, .any⟩]⟩,  -- CFG
   ⟨0x044, 1, 4, 0x208, [⟨0, 6, .rws, .image, .range 3 63⟩, ⟨8, 3, .rws, .image, .range 0 7⟩]⟩,  -- FILT
   ⟨0x048, 1, 4, 0xA000A, [⟨0, 6, .rws, .image, .range 10 32⟩, ⟨6, 1, .rws, .image, .any⟩, ⟨7, 2, .rws, .image, .codes [(0, 2)]⟩, ⟨9, 1, .rws, .image, .any⟩, ⟨10, 1, .rws, .image, .any⟩, ⟨16, 11, .rws, .image, .range 10 200⟩]⟩,  -- SSI_CFG
   ⟨0x04C, 1, 4, 0x1000A, [⟨0, 8, .rws, .image, .range 10 60⟩, ⟨8, 8, .rws, .image, .range 0 200⟩, ⟨16, 16, .rws, .image, .range 1 65535⟩]⟩,  -- SSI_TIM
   ⟨0x050, 1, 4, 0x320190, [⟨0, 12, .rw, .image, .range 50 2000⟩, ⟨16, 10, .rw, .image, .range 1 1000⟩]⟩,  -- OBS
   ⟨0x054, 1, 4, 0x1, [⟨0, 10, .rw, .image, .range 1 1000⟩]⟩,  -- QERR
   ⟨0x058, 1, 4, 0x4, [⟨0, 21, .rws, .image, .range 4 1048575⟩, ⟨24, 5, .rws, .image, .range 0 16⟩]⟩,  -- IDX_CFG
   ⟨0x060, 1, 4, 0x0, [⟨0, 32, .ro, .plain, .any⟩]⟩,  -- COUNT
   ⟨0x064, 1, 4, 0x0, [⟨0, 32, .ro, .plain, .any⟩]⟩,  -- SPEED
   ⟨0x068, 1, 4, 0x1, [⟨0, 1, .ro, .plain, .any⟩, ⟨1, 1, .ro, .plain, .any⟩, ⟨2, 1, .ro, .plain, .any⟩, ⟨3, 1, .ro, .plain, .any⟩, ⟨4, 1, .ro, .plain, .any⟩, ⟨5, 1, .ro, .plain, .any⟩, ⟨6, 1, .ro, .plain, .any⟩, ⟨7, 1, .ro, .plain, .any⟩, ⟨8, 1, .ro, .plain, .any⟩, ⟨16, 3, .ro, .plain, .any⟩]⟩,  -- STAT
   ⟨0x06C, 1, 4, 0x0, [⟨0, 32, .ro, .plain, .any⟩]⟩,  -- IDX_POS
   ⟨0x070, 1, 4, 0x0, [⟨0, 32, .ro, .plain, .any⟩]⟩,  -- IDX_REF
   ⟨0x074, 1, 4, 0x0, [⟨0, 32, .ro, .plain, .any⟩]⟩,  -- IDX_DRIFT
   ⟨0x078, 1, 4, 0xFFFFFFFF, [⟨0, 32, .ro, .plain, .any⟩]⟩,  -- EDGE_T
   ⟨0x07C, 1, 4, 0x0, [⟨0, 3, .ro, .plain, .any⟩, ⟨4, 3, .ro, .plain, .any⟩]⟩,  -- HALL
   ⟨0x080, 1, 4, 0x0, [⟨0, 32, .ro, .plain, .any⟩]⟩,  -- SSI_RAW
   ⟨0x084, 1, 4, 0x0, [⟨0, 32, .cnt, .plain, .any⟩]⟩,  -- QERR_CNT
   ⟨0x088, 1, 4, 0x0, [⟨0, 32, .cnt, .plain, .any⟩]⟩,  -- IDX_CNT
   ⟨0x08C, 1, 4, 0x0, [⟨0, 32, .cnt, .plain, .any⟩]⟩,  -- IDX_CORR_CNT
   ⟨0x090, 1, 4, 0x0, [⟨0, 32, .cnt, .plain, .any⟩]⟩,  -- SSI_ERR_CNT
   ⟨0x094, 1, 4, 0x0, [⟨0, 8, .ro, .plain, .any⟩, ⟨8, 1, .ro, .plain, .any⟩]⟩,  -- FAULT
   ⟨0x098, 1, 4, 0x0, [⟨0, 32, .ro, .plain, .any⟩]⟩,  -- FAULT_LOC
   ⟨0x09C, 1, 4, 0x0, [⟨0, 1, .w1s, .plain, .any⟩, ⟨1, 1, .w1s, .plain, .any⟩]⟩]  -- CTRL

def regsLsgA : List RegRow :=
  [
   ⟨0x040, 1, 4, 0x640004, [⟨0, 1, .rws, .image, .any⟩, ⟨2, 10, .rws, .image, .range 1 600⟩, ⟨16, 16, .rws, .image, .range 100 60000⟩]⟩,  -- GRP_CFG
   ⟨0x044, 1, 4, 0xE, [⟨0, 4, .rw, .plain, .any⟩]⟩,  -- SENSE_SEL
   ⟨0x048, 1, 4, 0x0, [⟨0, 4, .ro, .plain, .any⟩, ⟨4, 4, .ro, .plain, .any⟩, ⟨8, 1, .ro, .plain, .any⟩, ⟨9, 1, .ro, .plain, .any⟩, ⟨16, 16, .ro, .plain, .any⟩]⟩,  -- GRP_STAT
   ⟨0x04C, 1, 4, 0x0, [⟨0, 16, .ro, .plain, .any⟩, ⟨16, 16, .ro, .plain, .any⟩]⟩,  -- DIE_MEAS
   ⟨0x050, 1, 4, 0x0, [⟨0, 12, .rwh, .image, .any⟩]⟩,  -- ON
   ⟨0x054, 1, 4, 0x0, [⟨0, 2, .rws, .image, .codes [(0, 2)]⟩, ⟨2, 2, .rws, .image, .codes [(0, 2)]⟩, ⟨4, 2, .rws, .image, .codes [(0, 2)]⟩, ⟨6, 2, .rws, .image, .codes [(0, 2)]⟩, ⟨8, 2, .rws, .image, .codes [(0, 2)]⟩, ⟨10, 2, .rws, .image, .codes [(0, 2)]⟩, ⟨12, 2, .rws, .image, .codes [(0, 2)]⟩, ⟨14, 2, .rws, .image, .codes [(0, 2)]⟩, ⟨16, 2, .rws, .image, .codes [(0, 2)]⟩, ⟨18, 2, .rws, .image, .codes [(0, 2)]⟩, ⟨20, 2, .rws, .image, .codes [(0, 2)]⟩, ⟨22, 2, .rws, .image, .codes [(0, 2)]⟩]⟩,  -- SRC
   ⟨0x058, 1, 4, 0x0, [⟨0, 12, .rws, .image, .any⟩]⟩,  -- SAFE
   ⟨0x05C, 1, 4, 0x0, [⟨0, 2, .rws, .image, .codes [(0, 2)]⟩, ⟨2, 2, .rws, .image, .codes [(0, 2)]⟩, ⟨4, 2, .rws, .image, .codes [(0, 2)]⟩, ⟨6, 2, .rws, .image, .codes [(0, 2)]⟩, ⟨8, 2, .rws, .image, .codes [(0, 2)]⟩, ⟨10, 2, .rws, .image, .codes [(0, 2)]⟩, ⟨12, 2, .rws, .image, .codes [(0, 2)]⟩, ⟨14, 2, .rws, .image, .codes [(0, 2)]⟩, ⟨16, 2, .rws, .image, .codes [(0, 2)]⟩, ⟨18, 2, .rws, .image, .codes [(0, 2)]⟩, ⟨20, 2, .rws, .image, .codes [(0, 2)]⟩, ⟨22, 2, .rws, .image, .codes [(0, 2)]⟩]⟩,  -- FS
   ⟨0x060, 1, 4, 0x0, [⟨0, 12, .rws, .image, .any⟩]⟩,  -- LED
   ⟨0x064, 1, 4, 0x0, [⟨0, 12, .w1s, .plain, .any⟩]⟩,  -- CLR
   ⟨0x068, 1, 4, 0x0, [⟨0, 32, .ro, .plain, .any⟩]⟩,  -- FAULT_LOC
   ⟨0x070, 1, 4, 0x0, [⟨0, 1, .w1s, .plain, .any⟩]⟩,  -- SNAP_CTRL
   ⟨0x074, 1, 4, 0x0, [⟨0, 32, .ro, .plain, .any⟩]⟩,  -- SNAP_STAT
   ⟨0x078, 12, 4, 0x0, [⟨0, 16, .ro, .plain, .any⟩, ⟨16, 16, .ro, .plain, .any⟩]⟩,  -- SNAP_I0–SNAP_I11
   ⟨0x0A8, 1, 4, 0x0, [⟨0, 16, .ro, .plain, .any⟩, ⟨16, 16, .ro, .plain, .any⟩]⟩,  -- SNAP_DIE
   ⟨0x100, 12, 16, 0x10000, [⟨0, 3, .rws, .image, .any⟩, ⟨3, 1, .rws, .image, .any⟩, ⟨4, 1, .rws, .image, .any⟩, ⟨8, 4, .rws, .image, .range 0 15⟩, ⟨16, 16, .rws, .image, .dyn .iNom⟩]⟩,  -- CHc_CFG
   ⟨0x104, 12, 16, 0xA0102, [⟨0, 6, .rws, .image, .range 2 32⟩, ⟨8, 8, .rws, .image, .range 1 255⟩, ⟨16, 16, .rws, .image, .range 10 60000⟩]⟩,  -- CHc_OL
   ⟨0x108, 12, 16, 0x0, [⟨0, 3, .ro, .plain, .any⟩, ⟨3, 1, .ro, .plain, .any⟩, ⟨4, 1, .ro, .plain, .any⟩, ⟨5, 1, .ro, .plain, .any⟩, ⟨6, 1, .ro, .plain, .any⟩, ⟨7, 1, .ro, .plain, .any⟩, ⟨8, 1, .ro, .plain, .any⟩, ⟨9, 1, .ro, .plain, .any⟩, ⟨10, 1, .ro, .plain, .any⟩, ⟨12, 4, .ro, .plain, .any⟩, ⟨16, 8, .ro, .plain, .any⟩, ⟨24, 1, .ro, .plain, .any⟩]⟩,  -- CHc_STAT
   ⟨0x10C, 12, 16, 0x0, [⟨0, 16, .ro, .plain, .any⟩, ⟨16, 16, .ro, .plain, .any⟩]⟩,  -- CHc_MEAS
   ⟨0x1C0, 12, 4, 0x0, [⟨0, 32, .cnt, .record, .any⟩]⟩,  -- TRIP_CNTc
   ⟨0x300, 1, 8, 0x641406, [⟨0, 2, .rws, .image, .codes [(0, 2)]⟩, ⟨2, 2, .rws, .image, .codes [(0, 2)]⟩, ⟨8, 8, .rws, .image, .range 1 255⟩, ⟨16, 16, .rws, .image, .range 0 10000⟩]⟩,  -- PROFp_A
   ⟨0x308, 1, 8, 0x7D03201, [⟨0, 2, .rws, .image, .codes [(0, 2)]⟩, ⟨2, 2, .rws, .image, .codes [(0, 2)]⟩, ⟨8, 8, .rws, .image, .range 1 255⟩, ⟨16, 16, .rws, .image, .range 0 10000⟩]⟩,  -- PROFp_A
   ⟨0x310, 1, 8, 0x961401, [⟨0, 2, .rws, .image, .codes [(0, 2)]⟩, ⟨2, 2, .rws, .image, .codes [(0, 2)]⟩, ⟨8, 8, .rws, .image, .range 1 255⟩, ⟨16, 16, .rws, .image, .range 0 10000⟩]⟩,  -- PROFp_A
   ⟨0x318, 1, 8, 0x322801, [⟨0, 2, .rws, .image, .codes [(0, 2)]⟩, ⟨2, 2, .rws, .image, .codes [(0, 2)]⟩, ⟨8, 8, .rws, .image, .range 1 255⟩, ⟨16, 16, .rws, .image, .range 0 10000⟩]⟩]  -- PROFp_A

def regsLsgB : List RegRow :=
  [
   ⟨0x320, 1, 8, 0x1F46406, [⟨0, 2, .rws, .image, .codes [(0, 2)]⟩, ⟨2, 2, .rws, .image, .codes [(0, 2)]⟩, ⟨8, 8, .rws, .image, .range 1 255⟩, ⟨16, 16, .rws, .image, .range 0 10000⟩]⟩,  -- PROFp_A
   ⟨0x328, 1, 8, 0x641406, [⟨0, 2, .rws, .image, .codes [(0, 2)]⟩, ⟨2, 2, .rws, .image, .codes [(0, 2)]⟩, ⟨8, 8, .rws, .image, .range 1 255⟩, ⟨16, 16, .rws, .image, .range 0 10000⟩]⟩,  -- PROFp_A
   ⟨0x330, 1, 8, 0x641406, [⟨0, 2, .rws, .image, .codes [(0, 2)]⟩, ⟨2, 2, .rws, .image, .codes [(0, 2)]⟩, ⟨8, 8, .rws, .image, .range 1 255⟩, ⟨16, 16, .rws, .image, .range 0 10000⟩]⟩,  -- PROFp_A
   ⟨0x338, 1, 8, 0x641406, [⟨0, 2, .rws, .image, .codes [(0, 2)]⟩, ⟨2, 2, .rws, .image, .codes [(0, 2)]⟩, ⟨8, 8, .rws, .image, .range 1 255⟩, ⟨16, 16, .rws, .image, .range 0 10000⟩]⟩,  -- PROFp_A
   ⟨0x304, 1, 8, 0xA3200C8, [⟨0, 16, .rws, .image, .range 100 1000⟩, ⟨16, 8, .rws, .image, .range 1 255⟩, ⟨24, 8, .rws, .image, .range 0 255⟩]⟩,  -- PROFp_B
   ⟨0x30C, 1, 8, 0x32640082, [⟨0, 16, .rws, .image, .range 100 1000⟩, ⟨16, 8, .rws, .image, .range 1 255⟩, ⟨24, 8, .rws, .image, .range 0 255⟩]⟩,  -- PROFp_B
   ⟨0x314, 1, 8, 0x2140096, [⟨0, 16, .rws, .image, .range 100 1000⟩, ⟨16, 8, .rws, .image, .range 1 255⟩, ⟨24, 8, .rws, .image, .range 0 255⟩]⟩,  -- PROFp_B
   ⟨0x31C, 1, 8, 0xA320096, [⟨0, 16, .rws, .image, .range 100 1000⟩, ⟨16, 8, .rws, .image, .range 1 255⟩, ⟨24, 8, .rws, .image, .range 0 255⟩]⟩,  -- PROFp_B
   ⟨0x324, 1, 8, 0x3CC80096, [⟨0, 16, .rws, .image, .range 100 1000⟩, ⟨16, 8, .rws, .image, .range 1 255⟩, ⟨24, 8, .rws, .image, .range 0 255⟩]⟩,  -- PROFp_B
   ⟨0x32C, 1, 8, 0xA3200C8, [⟨0, 16, .rws, .image, .range 100 1000⟩, ⟨16, 8, .rws, .image, .range 1 255⟩, ⟨24, 8, .rws, .image, .range 0 255⟩]⟩,  -- PROFp_B
   ⟨0x334, 1, 8, 0xA3200C8, [⟨0, 16, .rws, .image, .range 100 1000⟩, ⟨16, 8, .rws, .image, .range 1 255⟩, ⟨24, 8, .rws, .image, .range 0 255⟩]⟩,  -- PROFp_B
   ⟨0x33C, 1, 8, 0xA3200C8, [⟨0, 16, .rws, .image, .range 100 1000⟩, ⟨16, 8, .rws, .image, .range 1 255⟩, ⟨24, 8, .rws, .image, .range 0 255⟩]⟩]  -- PROFp_B

def regsLsg : List RegRow := regsLsgA ++ regsLsgB

def regsCanA : List RegRow :=
  [
   ⟨0x040, 1, 4, 0x0, [⟨0, 2, .rws, .image, .codes [(0, 2)]⟩, ⟨2, 2, .rws, .image, .any⟩, ⟨4, 1, .rws, .image, .any⟩, ⟨5, 1, .rws, .image, .any⟩, ⟨6, 1, .rws, .image, .any⟩, ⟨8, 4, .rws, .image, .range 0 15⟩, ⟨12, 3, .rws, .image, .codes [(0, 4)]⟩, ⟨16, 16, .rws, .image, .range 0 60000⟩]⟩,  -- CFG
   ⟨0x044, 1, 4, 0x808081, [⟨0, 6, .rws, .image, .range 1 32⟩, ⟨6, 9, .rws, .image, .range 2 256⟩, ⟨15, 8, .rws, .image, .range 1 128⟩, ⟨23, 8, .rws, .image, .dyn (.sjw 15 8)⟩]⟩,  -- NBT
   ⟨0x048, 1, 4, 0x21041, [⟨0, 6, .rws, .image, .range 1 32⟩, ⟨6, 6, .rws, .image, .range 1 32⟩, ⟨12, 5, .rws, .image, .range 1 16⟩, ⟨17, 5, .rws, .image, .dyn (.sjw 12 5)⟩]⟩,  -- DBT
   ⟨0x04C, 1, 4, 0x21041, [⟨0, 6, .rws, .image, .range 1 32⟩, ⟨6, 6, .rws, .image, .range 1 32⟩, ⟨12, 5, .rws, .image, .range 1 16⟩, ⟨17, 5, .rws, .image, .dyn (.sjw 12 5)⟩]⟩,  -- XBT
   ⟨0x050, 1, 4, 0x0, [⟨0, 1, .rws, .image, .any⟩, ⟨8, 7, .rws, .image, .range 0 127⟩, ⟨16, 7, .rws, .image, .range 0 127⟩, ⟨24, 7, .rws, .image, .range 0 127⟩]⟩,  -- TDC
   ⟨0x054, 1, 4, 0x60, [⟨0, 8, .rw, .image, .range 1 255⟩]⟩,  -- LIMITS
   ⟨0x058, 1, 4, 0x0, [⟨0, 9, .rws, .image, .range 0 256⟩]⟩,  -- RULES
   ⟨0x060, 16, 4, 0x0, [⟨0, 3, .rws, .image, .codes [(0, 5)]⟩, ⟨4, 2, .rws, .image, .codes [(0, 2)]⟩, ⟨8, 2, .rws, .image, .any⟩]⟩,  -- RAM_MAP0–RAM_MAP15
   ⟨0x0A0, 8, 4, 0x0, [⟨0, 6, .rws, .image, .range 0 63⟩, ⟨7, 1, .rws, .image, .any⟩]⟩,  -- STLBUF0–STLBUF7
   ⟨0x0C0, 1, 4, 0x0, [⟨0, 3, .ro, .plain, .any⟩, ⟨3, 1, .ro, .plain, .any⟩, ⟨4, 1, .ro, .plain, .any⟩, ⟨5, 1, .ro, .plain, .any⟩, ⟨6, 1, .ro, .plain, .any⟩, ⟨7, 1, .ro, .plain, .any⟩, ⟨8, 4, .ro, .plain, .any⟩, ⟨12, 4, .ro, .plain, .any⟩, ⟨16, 7, .ro, .plain, .any⟩]⟩,  -- STAT
   ⟨0x0C4, 1, 4, 0x0, [⟨0, 9, .ro, .plain, .any⟩, ⟨16, 9, .ro, .plain, .any⟩]⟩,  -- ERR_CNT
   ⟨0x0C8, 1, 4, 0x0, [⟨0, 8, .ro, .plain, .any⟩]⟩,  -- ACK_RUN
   ⟨0x0CC, 1, 4, 0x0, [⟨0, 1, .w1s, .plain, .any⟩, ⟨1, 1, .w1s, .plain, .any⟩]⟩,  -- CTRL
   ⟨0x0D0, 2, 4, 0x0, [⟨0, 32, .w1s, .plain, .any⟩]⟩,  -- TX_REQ0, TX_REQ1
   ⟨0x0D8, 2, 4, 0x0, [⟨0, 32, .w1s, .plain, .any⟩]⟩,  -- TX_CANCEL0, TX_CANCEL1
   ⟨0x0E0, 2, 4, 0x0, [⟨0, 32, .w1c, .plain, .any⟩]⟩,  -- TX_DONE0, TX_DONE1
   ⟨0x0E8, 2, 4, 0x0, [⟨0, 32, .w1c, .plain, .any⟩]⟩,  -- TX_FAIL0, TX_FAIL1
   ⟨0x0F0, 2, 4, 0x0, [⟨0, 32, .w1c, .plain, .any⟩]⟩,  -- CANCEL_LATE0, CANCEL_LATE1
   ⟨0x0F8, 2, 4, 0x0, [⟨0, 32, .w1c, .plain, .any⟩]⟩,  -- CANCELLED0, CANCELLED1
   ⟨0x100, 2, 4, 0x0, [⟨0, 32, .w1c, .plain, .any⟩]⟩,  -- ND0, ND1
   ⟨0x108, 4, 8, 0x0, [⟨0, 11, .ro, .plain, .any⟩, ⟨16, 11, .ro, .plain, .any⟩, ⟨31, 1, .ro, .plain, .any⟩]⟩,  -- QUEUEq_STAT
   ⟨0x10C, 4, 8, 0x0, [⟨0, 11, .wo, .plain, .any⟩]⟩,  -- QUEUEq_REL
   ⟨0x128, 1, 4, 0x0, [⟨0, 11, .ro, .plain, .any⟩, ⟨16, 11, .ro, .plain, .any⟩, ⟨31, 1, .ro, .plain, .any⟩]⟩,  -- TLOG_STAT
   ⟨0x12C, 1, 4, 0x0, [⟨0, 11, .wo, .plain, .any⟩]⟩]  -- TLOG_REL

def regsCanB : List RegRow :=
  [
   ⟨0x130, 1, 4, 0x0, [⟨0, 32, .cnt, .plain, .any⟩]⟩,  -- RX_CNT
   ⟨0x134, 1, 4, 0x0, [⟨0, 32, .cnt, .plain, .any⟩]⟩,  -- TX_CNT
   ⟨0x138, 1, 4, 0x0, [⟨0, 32, .cnt, .plain, .any⟩]⟩,  -- LOST_CNT
   ⟨0x13C, 1, 4, 0x0, [⟨0, 32, .cnt, .plain, .any⟩]⟩,  -- PXE_CNT
   ⟨0x140, 1, 4, 0x0, [⟨0, 32, .cnt, .plain, .any⟩]⟩,  -- BO_CNT
   ⟨0x144, 1, 4, 0x0, [⟨0, 32, .cnt, .plain, .any⟩]⟩,  -- RAM_ECC_CNT
   ⟨0x148, 1, 4, 0x0, [⟨0, 8, .ro, .plain, .any⟩, ⟨8, 1, .ro, .plain, .any⟩]⟩,  -- FAULT
   ⟨0x14C, 1, 4, 0x0, [⟨0, 32, .ro, .plain, .any⟩]⟩]  -- FAULT_LOC

def regsCan : List RegRow := regsCanA ++ regsCanB

def regsMvb : List RegRow :=
  [
   ⟨0x040, 1, 4, 0x0, [⟨0, 12, .rws, .image, .range 0 4095⟩, ⟨12, 1, .rws, .image, .any⟩, ⟨13, 1, .rws, .image, .any⟩, ⟨14, 1, .rws, .image, .any⟩]⟩,  -- CFG
   ⟨0x044, 1, 4, 0x0, [⟨0, 4, .rw, .image, .any⟩, ⟨4, 1, .rw, .image, .any⟩, ⟨5, 1, .rw, .image, .any⟩]⟩,  -- DS_USER
   ⟨0x048, 1, 4, 0x0, [⟨0, 1, .ro, .plain, .any⟩, ⟨1, 1, .ro, .plain, .any⟩, ⟨2, 1, .ro, .plain, .any⟩, ⟨3, 1, .ro, .plain, .any⟩, ⟨4, 1, .ro, .plain, .any⟩]⟩,  -- STAT
   ⟨0x04C, 1, 4, 0x0, [⟨0, 32, .cnt, .plain, .any⟩]⟩,  -- ERR_A
   ⟨0x050, 1, 4, 0x0, [⟨0, 32, .cnt, .plain, .any⟩]⟩,  -- ERR_B
   ⟨0x054, 1, 4, 0x0, [⟨0, 32, .cnt, .plain, .any⟩]⟩,  -- SWITCH_CNT
   ⟨0x058, 1, 4, 0x0, [⟨0, 32, .cnt, .plain, .any⟩]⟩,  -- FRAME_CNT
   ⟨0x05C, 1, 4, 0x0, [⟨0, 8, .ro, .plain, .any⟩, ⟨8, 1, .ro, .plain, .any⟩]⟩,  -- FAULT
   ⟨0x060, 1, 4, 0x0, [⟨0, 8, .rw, .plain, .any⟩]⟩,  -- PORT_SEL
   ⟨0x064, 1, 4, 0x0, [⟨0, 1, .w1s, .plain, .any⟩, ⟨1, 1, .w1s, .plain, .any⟩]⟩,  -- PORT_CTRL
   ⟨0x068, 1, 4, 0x0, [⟨0, 32, .ro, .plain, .any⟩]⟩,  -- PORT_STAT
   ⟨0x06C, 1, 4, 0x0, [⟨0, 16, .ro, .plain, .any⟩]⟩,  -- PORT_FRESH
   ⟨0x070, 8, 4, 0x0, [⟨0, 32, .rw, .plain, .any⟩]⟩,  -- PORT_DATA0–PORT_DATA7
   ⟨0x090, 8, 4, 0x0, [⟨0, 32, .w1c, .plain, .any⟩]⟩,  -- FRESH0–FRESH7
   ⟨0x0B0, 8, 4, 0x0, [⟨0, 32, .w1c, .plain, .any⟩]⟩,  -- UPD0–UPD7
   ⟨0x0D0, 1, 4, 0x0, [⟨0, 32, .ro, .plain, .any⟩]⟩,  -- FAULT_LOC
   ⟨0x400, 256, 4, 0x0, [⟨0, 12, .rws, .image, .range 0 4095⟩, ⟨12, 3, .rws, .image, .codes [(0, 4)]⟩, ⟨16, 2, .rws, .image, .codes [(0, 2)]⟩, ⟨18, 1, .rws, .image, .any⟩, ⟨20, 12, .rws, .image, .range 0 4095⟩]⟩]  -- PORTk_CFG

def regsSlA : List RegRow :=
  [
   ⟨0x040, 1, 4, 0x640000, [⟨0, 1, .rws, .image, .any⟩, ⟨1, 2, .rws, .image, .codes [(0, 2)]⟩, ⟨16, 16, .rws, .image, .range 100 20000⟩]⟩,  -- CFG
   ⟨0x044, 1, 4, 0x0, [⟨0, 32, .rws, .image, .any⟩]⟩,  -- HEAD_ID_EXP
   ⟨0x048, 1, 4, 0x0, [⟨0, 16, .rws, .image, .any⟩, ⟨16, 16, .rws, .image, .any⟩]⟩,  -- ROT0–ROT4
   ⟨0x04C, 1, 4, 0x0, [⟨0, 16, .rws, .image, .any⟩, ⟨16, 16, .rws, .image, .any⟩]⟩,  -- ROT0–ROT4
   ⟨0x050, 1, 4, 0x0, [⟨0, 16, .rws, .image, .any⟩, ⟨16, 16, .rws, .image, .any⟩]⟩,  -- ROT0–ROT4
   ⟨0x054, 1, 4, 0x0, [⟨0, 16, .rws, .image, .any⟩, ⟨16, 16, .rws, .image, .any⟩]⟩,  -- ROT0–ROT4
   ⟨0x058, 1, 4, 0x0, [⟨0, 16, .rws, .image, .any⟩]⟩,  -- ROT0–ROT4
   ⟨0x05C, 1, 4, 0x0, [⟨0, 32, .rws, .image, .range (-500000) 500000⟩]⟩,  -- TRX
   ⟨0x060, 1, 4, 0x0, [⟨0, 32, .rws, .image, .range (-500000) 500000⟩]⟩,  -- TRY
   ⟨0x064, 1, 4, 0x0, [⟨0, 32, .rws, .image, .range (-500000) 500000⟩]⟩,  -- TRZ
   ⟨0x068, 1, 4, 0x0, [⟨0, 3, .ro, .plain, .any⟩, ⟨3, 1, .ro, .plain, .any⟩, ⟨4, 1, .ro, .plain, .any⟩, ⟨5, 1, .ro, .plain, .any⟩, ⟨6, 1, .ro, .plain, .any⟩, ⟨7, 1, .ro, .plain, .any⟩]⟩,  -- LINK_STAT
   ⟨0x06C, 1, 4, 0x0, [⟨0, 32, .ro, .plain, .any⟩]⟩,  -- HEAD_ID
   ⟨0x070, 1, 4, 0x0, [⟨0, 32, .ro, .plain, .any⟩]⟩,  -- FX
   ⟨0x074, 1, 4, 0x0, [⟨0, 32, .ro, .plain, .any⟩]⟩,  -- FY
   ⟨0x078, 1, 4, 0x0, [⟨0, 32, .ro, .plain, .any⟩]⟩,  -- CX
   ⟨0x07C, 1, 4, 0x0, [⟨0, 32, .ro, .plain, .any⟩]⟩,  -- CY
   ⟨0x080, 1, 4, 0x0, [⟨0, 16, .ro, .plain, .any⟩, ⟨16, 16, .ro, .plain, .any⟩]⟩,  -- RANGE
   ⟨0x084, 1, 4, 0x0, [⟨0, 16, .ro, .plain, .any⟩]⟩,  -- SYNC_ERR
   ⟨0x088, 1, 4, 0x0, [⟨0, 32, .cnt, .plain, .any⟩]⟩,  -- FRAME_CNT
   ⟨0x08C, 1, 4, 0x0, [⟨0, 32, .cnt, .plain, .any⟩]⟩,  -- DROP_CNT
   ⟨0x090, 1, 4, 0x0, [⟨0, 32, .cnt, .plain, .any⟩]⟩,  -- FCS_CNT
   ⟨0x094, 1, 4, 0x0, [⟨0, 4, .ro, .plain, .any⟩]⟩,  -- DROP_CAUSE
   ⟨0x098, 1, 4, 0x0, [⟨0, 8, .ro, .plain, .any⟩, ⟨8, 1, .ro, .plain, .any⟩]⟩,  -- FAULT
   ⟨0x09C, 1, 4, 0x0, [⟨0, 32, .ro, .plain, .any⟩]⟩]  -- FAULT_LOC

def regsSlB : List RegRow :=
  [
   ⟨0x0A0, 1, 4, 0x0, [⟨0, 1, .w1s, .plain, .any⟩, ⟨1, 1, .w1s, .plain, .any⟩]⟩]  -- CTRL

def regsSl : List RegRow := regsSlA ++ regsSlB

def regsCm : List RegRow :=
  [
   ⟨0x040, 1008, 4, 0x0, [⟨0, 32, .rw, .plain, .any⟩]⟩]  -- WORD

/-- The page kind and instance of a page number, none where the page is unmapped (R42). -/
def pageOf (page : Nat) : Option (PageKind × Nat) :=
  if page = 0x00 then some (.sys, 0)
  else if page = 0x01 then some (.hif, 0)
  else if page = 0x02 then some (.eva, 0)
  else if page = 0x03 then some (.cel, 0)
  else if page = 0x04 then some (.tmr, 0)
  else if page = 0x05 then some (.pwr, 0)
  else if page = 0x06 then some (.pbs, 0)
  else if page = 0x07 then some (.vlt, 0)
  else if page = 0x08 then some (.saf, 0)
  else if page = 0x09 then some (.til, 0)
  else if page = 0x0A then some (.stl, 0)
  else if page = 0x0B then some (.brv, 0)
  else if page = 0x0C then some (.ldg, 0)
  else if page = 0x0D then some (.occ, 0)
  else if page = 0x0E then some (.din, 0)
  else if page = 0x0F then some (.enc, 0)
  else if 0x10 ≤ page ∧ page < 0x18 then some (.dw, page - 0x10)
  else if 0x18 ≤ page ∧ page < 0x20 then some (.pz, page - 0x18)
  else if 0x20 ≤ page ∧ page < 0x30 then some (.ax, page - 0x20)
  else if 0x30 ≤ page ∧ page < 0x40 then some (.fb, page - 0x30)
  else if 0x40 ≤ page ∧ page < 0x44 then some (.lsg, page - 0x40)
  else if 0x44 ≤ page ∧ page < 0x48 then some (.can, page - 0x44)
  else if page = 0x48 then some (.mvb, 0)
  else if 0x50 ≤ page ∧ page < 0x60 then some (.sl, page - 0x50)
  else if 0x80 ≤ page ∧ page < 0xC0 then some (.cm, page - 0x80)
  else none

/-- The two-letter code of PAGE_ID (R42). -/
def PageKind.code : PageKind → Nat
  | .sys => 0x5359
  | .hif => 0x4849
  | .eva => 0x4556
  | .cel => 0x4345
  | .tmr => 0x544D
  | .pwr => 0x5057
  | .pbs => 0x5042
  | .vlt => 0x564C
  | .saf => 0x5341
  | .til => 0x5449
  | .stl => 0x5354
  | .brv => 0x4252
  | .ldg => 0x4C44
  | .occ => 0x4F43
  | .din => 0x4449
  | .enc => 0x454E
  | .dw => 0x4457
  | .pz => 0x505A
  | .ax => 0x4158
  | .fb => 0x4642
  | .lsg => 0x4C53
  | .can => 0x4341
  | .mvb => 0x4D56
  | .sl => 0x534C
  | .cm => 0x434D

/-- The registers from offset 0x040 of a page. -/
def PageKind.regs : PageKind → List RegRow
  | .sys => regsSys
  | .hif => regsHif
  | .eva => regsEva
  | .cel => regsCel
  | .tmr => regsTmr
  | .pwr => regsPwr
  | .pbs => regsPbs
  | .vlt => regsVlt
  | .saf => regsSaf
  | .til => regsTil
  | .stl => regsStl
  | .brv => regsBrv
  | .ldg => regsLdg
  | .occ => regsOcc
  | .din => regsDin
  | .enc => regsEnc
  | .dw => regsDw
  | .pz => regsPz
  | .ax => regsAx
  | .fb => regsFb
  | .lsg => regsLsg
  | .can => regsCan
  | .mvb => regsMvb
  | .sl => regsSl
  | .cm => regsCm

end Sys2Proof.Machine
end

