-- ==== Sys2Proof/Config.lean ====
section
/-! DEFINITION. The free values: results that the spec makes happen and does not state to the bit. Each is an opaque constant
with no body, applied to a counter of State (`State.free`, which the meaning reads and advances) or to the operands the value
depends on, so that no proof can rest on a number. The log entry that names each one is given beside it. -/

namespace Sys2Proof.Config

/-- A 32-bit result the spec leaves to the implementation: the offset that an alignment computes (R97), the motion energy of a
DOOR_CYCLE record (R365). Log entry 3. -/
opaque freeWord : Nat → BitVec 32



/-- The bridge supply in mV at a PWM period: the modulation turns voltages into duties with it, and no command carries it (R113, R116).
Log entry 110. -/
opaque bridgeVolts : Nat → BitVec 20

/-- The bytes of a DRAM region whose contents the spec does not lay out for the host (R209). Log entry 4. -/
opaque dramByte : Nat → BitVec 8

/-- Whether Evohorn's signature of a firmware image holds (R432): ECDSA P-384 with a key in ROM that the spec does not give. Log entry 5. -/
opaque signatureGood : List (Nat × BitVec 32) → Bool

/-- The VERSION an image carries (R434): the spec does not place it in the image. Log entry 5. -/
opaque imageVersion : List (Nat × BitVec 32) → BitVec 32

/-- The VERSION of the firmware image that the part is delivered with (R434). Log entry 5. -/
opaque shippedVersion : BitVec 32

/-- The salt bytes of a new password (R387): random, not given by the spec. Log entry 6. -/
opaque saltByte : Nat → Nat → BitVec 8

/-- The password hash of the delivery image, supplied with the part's provisioning data (R384). Log entry 6. -/
opaque deliveryHash : List (BitVec 8)

/-- The salt of the delivery image (R384). Log entry 6. -/
opaque deliverySalt : List (BitVec 8)

/-- The axis that a ray crosses first where it leaves a voxel through an edge or a corner (R204 names the next voxel only): from the
axes that tie, bit 0 for x. Log entry 7. -/
opaque ddaTie : BitVec 3 → BitVec 2

/-- The quartiles of the column edges of a gap sample (R219 names the interquartile spread and no rule for the quartiles).
Log entry 7. -/
opaque quartiles : List Int → Int × Int

/-- The power of the housekeeping tasks in W (R323 shows it in P3_STAT.P_TASK and states none). Log entry 54. -/
opaque taskPower : Nat → BitVec 16

/-- Whether the NAND scrub (1) or the vault scrub (2) falls due on a ledger day, and the ms that one runs: R317 names both and states
neither. Log entry 152. -/
opaque scrubDue : Nat → Nat → Bool
opaque scrubTime : Nat → BitVec 32

/-- The GEN of the delivery image (R384), which the spec does not state. Log entry 6. -/
opaque deliveryGen : BitVec 32

/-- The ms that a rebuild of the block index runs (R381): the spec states none. Log entry 158. -/
opaque rebuildTime : BitVec 32

/-- The values of the PCIe configuration space that R38 does not state. Log entry 8. -/
opaque pcieConfigWord : BitVec 12 → BitVec 32

end Sys2Proof.Config
end

