-- ==== Sys2Proof/Machine/State.lean ====
section
/-! DEFINITION. The state of the block as plain data: its register window in one list of cells, and beside it the engines, queues,
journals, dies and buffers that the spec gives it and that no register shows. A quantity that a register shows lives in that
register only. -/

namespace Sys2Proof.Machine

/-- Register cells: (byte address of the word, word), addresses strictly rising, no cell equal to what the register holds when
nothing has changed it. -/
abbrev Cells := List (Nat × Word)

/-- What the block gives to the outside, oldest first in `State.out`: an MSI message (R63), the data of a served read (R39, R32 to
R37), a telegram (R276, R288), a Jubido message (R194), a Bruvan frame (R342), a CAN request or log, an MVB slave frame (R418), a
DMA write (R380), a push of a pattern to a switch die (R390), an encoder output edge (R155). -/
inductive Emission where
  | msi (vector : Nat)
  | readData (bytes : List Byte)
  | configRetry
  | telegram (conn : Nat) (carrier : Nat) (bytes : List Byte)
  | jubido (link : Nat) (bytes : List Byte)
  | heartbeat (die : Die)
  | bruvan (lane seq : Nat) (f : BruvanFrame)
  /-- the comma K28.1 on lane 0 of the Bruvan link (R344) -/
  | comma
  | canFrame (ctrl : Nat) (f : CanFrame)
  | mvbSlave (bytes : List Byte)
  | dmaWrite (addr : Nat) (words : List Word)
  | diePush (group : Nat)
  /-- the levels of A and B; Z rises with it for `zTime` × 20 ns, 0 where it does not rise -/
  | encEdge (output : Nat) (a b : Bool) (zTime : Nat)
  | encHighZ (output : Nat)
  | testPulse (o : TestOutput) (bright : Bool)
  | loopPulse (us : Nat)
  | wetPulse (group : Nat) (current : Nat) (tenthMs : Nat)
  | ssiFrame (port : Nat)
  /-- RSTOUT_N (R329, R430, R433) -/
  | rstout (high : Bool)
deriving DecidableEq, Repr

/-- A journal slot entry: the record, whether it is durable in the NAND journal area, the CLK32 edge of its acceptance, and its first
slot (R367, R368). -/
structure JEntry where
  entry   : Record
  durable : Bool
  since   : Nat
  slot    : Nat
deriving DecidableEq, Repr

/-! ### Doorway engines, axes, feedback ports (R66 to R159, R160 to R186) -/

/-- A doorway command placed in an engine's mailbox for its next tick (R77). `axsel` is CMD.AXSEL; `conn` and `seq` name the
telegram it came from (R278). -/
structure Offer where
  op    : DwOp
  src   : CmdSrc
  axsel : Nat
  conn  : Nat
  seq   : Nat
deriving DecidableEq, Repr

/-- What a DOOR_CYCLE record gathers while a cycle runs (R72, R365); times in engine ticks. -/
structure CycleAcc where
  start      : Nat
  opened     : Option Nat
  closeStart : Option Nat
  closeTicks : Nat
  openSrc    : Nat
  test       : Bool
  waited     : Bool
  degraded   : Bool
  stepUsed   : Bool
  gapValid   : Bool
  expired    : Bool
  obst       : Nat
  /-- an OBSTACLE event has been raised in the cycle (R183) -/
  obstEv     : Bool
  holds      : Nat
  reopens    : Nat
  cause      : Nat
  fPeak      : Nat
  fPos       : Nat
  iPeak      : Nat
  waitTicks  : Nat
  deferMs    : Nat
  vCapMin    : Nat
  gap        : Nat
  stepPos    : Nat
  energy     : Nat
  unlockT    : Nat
  lockT      : Nat
deriving DecidableEq, Repr

/-- A sample of a V2 ramp of a learn run (R180): the axis, the drive force, the speed, the acceleration, the sign s, the bin. -/
structure RampSample where
  step  : Bool
  force : Int
  v     : Int
  a     : Int
  sign  : Int
  bin   : Nat
deriving DecidableEq, Repr

/-- A doorway engine beyond its registers. Its times are counts of its own 200 µs ticks (R67). -/
structure DwEng where
  /-- trajectory ticks since reset -/
  tick       : Nat
  /-- the commands offered for the next tick (R77) -/
  offers     : List Offer
  /-- the tick of the last change of DW_STATE, and of STEP_STATE -/
  since      : Nat
  stepSince  : Nat
  /-- the command that UNLOCKING serves, and its AXSEL -/
  purpose    : DwOp
  axsel      : Nat
  /-- the tick at which the CLOSE_WAIT now running was accepted (R81) -/
  closeWait  : Option Nat
  /-- PORCH_WAIT_MAX of that CLOSE_WAIT has run out -/
  waitOver   : Bool
  /-- the tick at which the present recipe step entered its wait (R85) -/
  waitFrom   : Option Nat
  /-- consecutive steps run without a wait (R86) -/
  run        : Nat
  /-- the tick at which a reopening ended with a re-close to follow (R85) -/
  reclose    : Option Nat
  /-- a close command taken in REOPENING, which starts its section when REOPENING ends (R78) -/
  closeAfter : Bool
  reopenings : Nat
  /-- the tick at which TEST_DWELL began (R78) -/
  testFrom   : Option Nat
  /-- the engine asks SC to energise L2 (R71) -/
  lockAsk    : Bool
  /-- the engine asks SC for the gate enables of its axes -/
  driveAsk   : Bool
  /-- an obstacle stop runs, and holds back new targets of the door axis (R175) -/
  obstStop   : Bool
  /-- detections raise no further OBSTACLE event until a new door motion (R161) -/
  obstMute   : Bool
  /-- the relief motion of R176 follows the stop -/
  relief     : Bool
  /-- the stopping position of a detection in REOPENING, the reopen target from then on (R174) -/
  reopenTo   : Option Int
  /-- stalls of the present retraction, and the tick of the last one (R75) -/
  stepStalls : Nat
  stepRetry  : Option Nat
  /-- the tick from which STEP_RET and STEP_LOCKED are awaited (R75) -/
  latchFrom  : Option Nat
  /-- a reload of R88 waits for the next entry into CLOSED_LOCKED -/
  reload     : Bool
  /-- a cycle runs, and what its record gathers (R72) -/
  inCycle    : Bool
  cyc        : CycleAcc
  /-- the tick since which the leaves have been still, in MANUAL (R71) -/
  stillFrom  : Nat
  /-- consecutive ticks with F_EST above its limit (R172) -/
  forceT     : Nat
  /-- sum and count of F_EST over the end-zone ticks of the closing MOVE (R177) -/
  dragSum    : Int
  dragN      : Nat
  /-- the learn run: tick of entering LEARNING, motions done by each axis (R179) -/
  learnFrom  : Nat
  learnDone  : Nat × Nat
  /-- the model tables gathered by the learn run, per axis: per bin and direction sum and count at V1 and at V2 (R180) -/
  learnSum   : List (Nat × Int × Nat)
  ramps      : List RampSample
  /-- the residual sums of the cycle for the adaptation (R183): key, sum, count -/
  resid      : List (Nat × Int × Nat)
  /-- detections placed for the engine since its last tick: SC's mailbox, stalls, the seam (R161, R170) -/
  dets       : List Nat
  /-- a check of R171 has failed: DEGR.EFFORT stays until an accepted learn run or the next power-on -/
  modelFail  : Bool
  /-- the snapshot that waits for the next tick: whether it is of the step axis (R186) -/
  snap       : Option Bool
deriving DecidableEq, Repr

/-- What an axis motion is for. -/
inductive MotionKind where
  | move | home (dir1 : Bool) | align | learn
deriving DecidableEq, Repr

/-- How a motion ended: in its window (R105), outside it after 500 ms, by a stall (R108). -/
inductive HowEnded where
  | reached | failed | stalled
deriving DecidableEq, Repr

/-- An end of a motion that the doorway's engine has still to judge (R67 step 3, R75, R173, R177). -/
structure Ended where
  how     : HowEnded
  kind    : MotionKind
  closing : Bool
  target  : Int
  /-- the speed limit of the motion, which a retried retraction keeps -/
  limit   : Nat
deriving DecidableEq, Repr

/-- A motion that waits for its start: for the porch (R81), the pantry (R318), the end of an obstacle stop (R175). `free` is a P0
motion, which asks for no admission; `reopen` takes the target of operand A = 5 at its start; `resumed` continues a closing MOVE
held by the porch. -/
structure Want where
  target  : Int
  limit   : Nat
  closing : Bool
  free    : Bool
  reopen  : Bool
  home    : Option (Bool × Nat)
  learn   : Bool
  resumed : Bool
deriving DecidableEq, Repr

/-- The pantry's answer to an axis (R318). -/
inductive Admission where
  | none | asked | granted
deriving DecidableEq, Repr

/-- What the generator plans with in one direction (R98, R99): VM, VSTART′ and VSTOP′ in 0.1 mm/s, A_ACC and A_DEC in mm/s²,
CREEP_DIST in 0.01 mm. -/
structure Plan where
  vm     : Nat
  vstart : Nat
  vstop  : Nat
  acc    : Nat
  dec    : Nat
  creep  : Nat
deriving DecidableEq, Repr

/-- VGD as a gate die's comparators see it: above 10.5 V, below its falling threshold of 10.0 V, below 5 V (R118). -/
inductive Vgd where
  | good | low | dead
deriving DecidableEq, Repr

/-- The six gate lines of an axis (R126): at high impedance, all driven low, the low sides of the precharge on (R127), or switching. -/
inductive GateOut where
  | highZ | low | lowSides | driven
deriving DecidableEq, Repr

/-- The start sequence of an axis (R127). -/
inductive AxisStart where
  | off | measuring | precharge | ready
deriving DecidableEq, Repr

/-- An axis beyond its registers. -/
structure AxEng where
  /-- commanded position in 1/256 count, commanded speed in 1/256 of 0.1 mm/s, signed (R100) -/
  posQ      : Int
  velQ      : Int
  /-- what the rounding of the path and of the speed left for the next tick, in 1/(1,000 × NUM) and 1/125 (R100) -/
  posR      : Nat
  velR      : Nat
  /-- a motion runs (until its end under R105 or R108), and its trajectory has ended -/
  moving    : Bool
  trajDone  : Bool
  kind      : MotionKind
  /-- a stop at this deceleration is planned, and it was requested since the last tick (R102) -/
  stopAt    : Option Nat
  stopNow   : Bool
  /-- what the present plan was made with, none where a replan is due; it brings the axis to rest before it plans anew (R101) -/
  plan      : Option Plan
  beyond    : Bool
  /-- a HOME has come to its travel limit (R110) -/
  travelOut : Bool
  /-- speed limit of the MOVE, 0.1 mm/s, 0 = none (R99) -/
  limit     : Nat
  closing   : Bool
  adm       : Admission
  /-- ticks in the position window, since the trajectory ended, in stall, in following error -/
  inPosT    : Nat
  endT      : Nat
  stallT    : Nat
  ferrT     : Nat
  /-- speed-loop integrator, in mA / 1,280,000,000 (R112) -/
  integ     : Int
  /-- the current loop (R113 to R116): integrators of its d and q controllers in nV, the duties of the three phases in 1/65,536 -/
  dInt      : Int
  qInt      : Int
  duty      : Vector Nat 3
  /-- the squares of IQ at the ticks of the last 10 s, in runs of equal values, newest first (R114) -/
  iqSq      : List (Nat × Nat)
  /-- PWM periods in succession that the sum check and the open-phase check of R121 have failed; the last offset measurement did -/
  sumT      : Nat
  openT     : Nat
  offsetBad : Bool
  /-- the measured speeds of the last six ticks, newest first (R166) -/
  speeds    : List Int
  /-- the sign s of R166, 0 before the first motion after reset -/
  sign      : Int
  /-- the twelve profile words in use while PROF_CTRL.HOLD = 1 (R103) -/
  held      : List Word
  /-- the I_CONT limit of R114 applies -/
  i2tOn     : Bool
  /-- times (CLK32 edges) of the causes 1 to 3 of the last 24 h, and the latch of R124 -/
  hits      : List Nat
  latched   : Bool
  start     : AxisStart
  posValid  : Bool
  /-- the motion waiting for the alignment of R97 -/
  parked    : Option (Int × MotionKind)
  /-- the motion that waits for its start, and the end of the last one while the engine has not judged it -/
  want      : Option Want
  ended     : Option Ended
  /-- the first motion after enable or CLR: its ticks so far and the count at the last of them; the counts against it (R151) -/
  firstFrom : Option (Nat × Int)
  against   : Nat
  /-- ELEC_OFFS of an alignment waits for the first index crossing; the angle at count 0 that the alignment found, in 1/65,536
  revolution; the ticks of the alignment under way (R97) -/
  elecPend  : Bool
  angle0    : Nat
  alignT    : Nat
deriving DecidableEq, Repr

/-- A feedback port beyond its registers. -/
structure FbEng where
  a         : Bool
  b         : Bool
  idx       : Bool
  /-- times in 10 ns of the illegal transitions of the last second, newest first, and the port's own edge clock (R136) -/
  now       : Nat
  illegal   : List Nat
  /-- count at the last edge direction change or index, for IDX_MISS and the stuck index (R145) -/
  idxFrom   : Int
  idxHigh   : Option Int
  missed    : Bool
  /-- SSI: a frame has been accepted since reset or enable, and COUNT was loaded from one; the last value; rejections in succession
  (R139) -/
  ssiSeen   : Bool
  ssiLoaded : Bool
  ssiLast   : Nat
  ssiBad    : Nat
  /-- SSI: the port drives its clock (R140) -/
  clocking  : Bool
  /-- the last valid Hall sector (R137) -/
  hallSec   : Option Nat
  /-- the observer's position, in 1/256 count from COUNT, at its last input, the time since then in 10 ns, and the time since the last
  edge, counted by ticks (R146, R147) -/
  obsOff    : Int
  obsAge    : Nat
  age       : Nat
  /-- 10 ns gone in samples since the last accepted edge (R148) -/
  gap       : Nat
  /-- an illegal transition has come before the first index (R143) -/
  early     : Bool
deriving DecidableEq, Repr

/-- An encoder output beyond its registers: output quadrature state, backlog, whether an index has been latched since the last edge,
and the time in 20 ns that Z was raised for since SC's last tick (R155 to R157). -/
structure EncEng where
  phase     : Nat
  back      : Int
  zDue      : Bool
  zLeft     : Nat
deriving DecidableEq, Repr

def CycleAcc.zero : CycleAcc where
  start := 0
  opened := none
  closeStart := none
  closeTicks := 0
  openSrc := 0
  test := false
  waited := false
  degraded := false
  stepUsed := false
  gapValid := false
  expired := false
  obst := 0
  obstEv := false
  holds := 0
  reopens := 0
  cause := 0
  fPeak := 0
  fPos := 0
  iPeak := 0
  waitTicks := 0
  deferMs := 0
  vCapMin := 65535
  gap := 65535
  stepPos := 0
  energy := 0
  unlockT := 0
  lockT := 0

def DwEng.reset : DwEng where
  tick := 0
  offers := []
  since := 0
  stepSince := 0
  purpose := .opn
  axsel := 0
  closeWait := none
  waitOver := false
  waitFrom := none
  run := 0
  reclose := none
  closeAfter := false
  reopenings := 0
  testFrom := none
  lockAsk := false
  driveAsk := false
  obstStop := false
  obstMute := false
  relief := false
  reopenTo := none
  stepStalls := 0
  stepRetry := none
  latchFrom := none
  reload := false
  inCycle := false
  cyc := CycleAcc.zero
  stillFrom := 0
  forceT := 0
  dragSum := 0
  dragN := 0
  learnFrom := 0
  learnDone := (0, 0)
  learnSum := []
  ramps := []
  resid := []
  dets := []
  modelFail := false
  snap := none

def AxEng.reset : AxEng where
  posQ := 0
  velQ := 0
  posR := 0
  velR := 0
  moving := false
  trajDone := false
  kind := .move
  stopAt := none
  stopNow := false
  plan := none
  beyond := false
  travelOut := false
  limit := 0
  closing := false
  adm := .none
  inPosT := 0
  endT := 0
  stallT := 0
  ferrT := 0
  integ := 0
  dInt := 0
  qInt := 0
  duty := Vector.replicate 3 0
  iqSq := []
  sumT := 0
  openT := 0
  offsetBad := false
  speeds := []
  sign := 0
  held := []
  i2tOn := false
  hits := []
  latched := false
  start := .off
  posValid := false
  parked := none
  want := none
  ended := none
  firstFrom := none
  against := 0
  elecPend := false
  angle0 := 0
  alignT := 0

def FbEng.reset : FbEng where
  a := false
  b := false
  idx := false
  now := 0
  illegal := []
  idxFrom := 0
  idxHigh := none
  missed := false
  ssiSeen := false
  ssiLoaded := false
  ssiLast := 0
  ssiBad := 0
  clocking := false
  hallSec := none
  obsOff := 0
  obsAge := 0
  age := 0
  gap := 0
  early := false

def EncEng.reset : EncEng where
  phase := 0
  back := 0
  zDue := false
  zLeft := 0

/-! ### Load channels and switch dies (R290 to R315) -/

/-- A load channel beyond its CHc_STAT register. Times are CLK32 edges. -/
structure Ch where
  /-- the inrush window of the last turn-on runs (R296) -/
  window  : Bool
  /-- the edge at which the switch went off, none = long ago; and at which it last went on -/
  offAt   : Option Nat
  onAt    : Nat
  /-- RETRY_T has elapsed in RETRY_WAIT (R301) -/
  retried : Bool
  /-- the demand that the fail-safe pattern set, and the edge at which a running HOLD was applied (R310, R311) -/
  pat     : Option Bool
  hold    : Option Nat
  /-- the edge of the last EVENT record of a trip (R304) -/
  evAt    : Option Nat
deriving DecidableEq, Repr

/-- The configuration copy of a switch die, which its channel rules follow (R310), with the sixteen words of the inrush profiles (R315),
and what its link last told it (R20, R312). -/
structure DieCopy where
  src       : Nat
  safe      : Nat
  fs        : Nat
  holdT     : Nat
  prof      : List Word
  alive     : Bool
  active    : Bool
  /-- it has applied its pattern after a heartbeat loss, until the end of the next boot (R310) -/
  lost      : Bool
deriving DecidableEq, Repr

def Ch.reset : Ch where
  window := false
  offAt := none
  onAt := 0
  retried := false
  pat := none
  hold := none
  evAt := none

def DieCopy.reset : DieCopy where
  src := 0
  safe := 0
  fs := 0
  holdT := 0
  prof := []
  alive := false
  active := false
  lost := false


/-! ### The pantry (R316 to R327) -/

/-- An admission request (R318): the axis, the first pantry tick that finds it, its P_pred, and whether PBS.EVT bit 0 has been raised
for it. -/
structure AdmReq where
  ax     : Nat
  since  : Nat
  pred   : Nat
  noted  : Bool
deriving DecidableEq, Repr

/-- The pantry beyond its registers. Its times are its own 1 ms ticks. -/
structure Pantry where
  ms       : Nat
  reqs     : List AdmReq
  /-- reservations: axis, W (R319) -/
  resv     : List (Nat × Nat)
  /-- ticks of the admissions of the last STAGGER_T (R318) -/
  starts   : List Nat
  /-- shed channels and the tick of the shed, longest shed first (R322) -/
  shed     : List (Nat × Nat)
  /-- the ticks since which TJ_MAX has been below the release temperatures of stages 2 and 1, and PKG_P below 90 % (R324, R325) -/
  below2   : Option Nat
  below1   : Option Nat
  pkgBelow : Option Nat
  /-- energy not yet a whole joule, mJ (R326), and whether the accounting runs -/
  mJ       : Nat
  account  : Bool
  /-- ms that the NAND scrub and the vault scrub under way have run (R317) -/
  scrubMs  : Vector Nat 2
deriving DecidableEq, Repr

def Pantry.reset : Pantry where
  ms := 0
  reqs := []
  resv := []
  starts := []
  shed := []
  below2 := none
  below1 := none
  pkgBelow := none
  mJ := 0
  account := false
  scrubMs := Vector.replicate 2 0

/-! ### The porch (R188 to R227) -/

/-- A frame slot (R209): the FRAME_START, the rows received so far, oldest first, and the status word's COMPLETE, ACCEPTED and drop
cause. -/
structure FrameSlot where
  start    : FrameStartMsg
  rows     : List RowMsg
  complete : Bool
  accepted : Bool
  cause    : Nat
deriving DecidableEq, Repr

/-- A sensor link beyond its registers. `slots` holds frame slots 0 to 3; `frame` is the open frame's slot, and `ek` the scheduled
exposure end it belongs to; `rest` says that the open frame has been dropped and its further rows are ignored. -/
structure SlEng where
  slots   : Vector (Option FrameSlot) 4
  frame   : Option (Fin 4)
  ek      : Nat
  rest    : Bool
  seq     : Nat
  calCrc  : Option Word
  /-- CAL_REQ messages sent since the link came up or the last valid CAL, at most 3 (R222, cause 4) -/
  calTries : Nat
  /-- CLK32 edges of the PoDL faults of the last 60 s (R193), and an enable taken low by one -/
  podl    : List Nat
  podlOff : Bool
  /-- the causes of link faults whose conditions persist; FAULT names the latest fault only (R222) -/
  present : List Nat
deriving DecidableEq, Repr

/-- A grid buffer: the AGE of every voxel that is not listed, all of them UNSEEN, and the bytes of the others by their offset in
the buffer (R205, R208), offsets strictly rising. -/
structure Grid where
  age   : Nat
  cells : List (Nat × Byte)
deriving DecidableEq, Repr

/-- A pass that has closed and is not yet published (R203): its scheduled exposure end, the deliveries of the two links, the
swept-volume test, the zones (state, OCC count, coverage), and the gap sample with the count of its valid columns, the cause where
it is not valid, and the median z. -/
structure ClosedPass where
  ek     : Nat
  head0  : Bool
  head1  : Bool
  buf    : Bool
  svOcc  : Nat
  svOn   : Bool
  zones  : List (Nat × Nat × Nat)
  sample : Option Int
  cols   : Nat
  cause  : Nat
  gapZ   : Int
deriving DecidableEq, Repr

/-- A porch beyond its registers. -/
structure PzEng where
  /-- the run conditions of R190, enables aside, hold or ended less than 2 s ago -/
  due    : Bool
  /-- the scheduled exposure end of the pass being collected, µs of porch time -/
  ek     : Nat
  /-- frames accepted and not yet fused: exposure end, link of the doorway, frame -/
  got    : List (Nat × Bool × FrameSlot)
  /-- the two grid buffers (R208) -/
  bufs   : Vector Grid 2
  /-- the buffers of the last pass closed and of the last pass published (R208) -/
  last   : Bool
  shown  : Bool
  /-- passes closed and not yet published, oldest first (R203, R207) -/
  closed : List ClosedPass
  /-- exposures in succession that the links have not delivered (R213, R214) -/
  miss0  : Nat
  miss1  : Nat
  stale  : Bool
  query  : Bool
  /-- gap samples of the last passes, newest first (R220) -/
  gaps   : List (Option Int)
deriving DecidableEq, Repr

/-- OE and the porch clock beyond their registers. -/
structure Oe where
  /-- CLK32 edge at which porch time was 0 (R201) -/
  origin   : Nat
  /-- the schedule in force: its EPOCH (its rate is OCC.RATE); the one before it, as EPOCH and rate, and the one that a decided change
  brings (R202) -/
  epoch    : Nat
  old      : Option (Nat × Nat)
  next     : Option (Nat × Nat)
  /-- OE is faulted or restarting; it has stopped after the third fault in 1 h; CLK32 edges of its faults (R223) -/
  down     : Bool
  stopped  : Bool
  faults   : List Nat
  /-- pre-release windows (R190): set and not yet closed, and open -/
  preSet   : Bool × Bool
  preOpen  : Bool × Bool
  /-- voxel updates of the last second: CLK32 edge, count (OCC.LOAD) -/
  work     : List (Nat × Nat)
deriving DecidableEq, Repr

def SlEng.reset : SlEng where
  slots := Vector.replicate 4 none
  frame := none
  ek := 0
  rest := false
  seq := 0
  calCrc := none
  calTries := 0
  podl := []
  podlOff := false
  present := []

def Grid.empty : Grid where
  age := 0
  cells := []

def PzEng.reset : PzEng where
  due := false
  ek := 0
  got := []
  bufs := Vector.replicate 2 Grid.empty
  last := false
  shown := false
  closed := []
  miss0 := 0
  miss1 := 0
  stale := true
  query := false
  gaps := []

def Oe.reset : Oe where
  origin := 0
  epoch := 0
  old := none
  next := none
  down := false
  stopped := false
  faults := []
  preSet := (false, false)
  preOpen := (false, false)
  work := []

/-! ### The safety core (R228 to R270) -/

/-- SC's view of a doorway. Times are counts of SC's own 200 µs ticks. -/
structure ScDoor where
  /-- the tick since which EGRESS has been active, and SC's removal of the gate enables for it, until RESTORE (R241) -/
  egrFrom  : Option Nat
  egrStop  : Bool
  /-- SC energises the lock for EGR_UNLOCK alone (R242) -/
  egrLock  : Bool
  /-- the reaction check of R170: the tick of SC's detection, the magnitude of the commanded speed seen last -/
  react    : Option (Nat × Nat)
  /-- ticks of an outward step command that did not start under a grant; whether the present one did (R240) -/
  outT     : Nat
  outOk    : Bool
  /-- ticks of a disagreement, and whether the lock request of this tick is refused (R244) -/
  badT     : Nat
  refused  : Bool
  /-- ticks of F_CB above its limit, of the divergence of check 3 (R170, R171), of edge discrepancy, of agreement (R164, R259) -/
  cbT      : Nat
  divT     : Nat
  edgeT    : Nat
  agreeT   : Nat
  /-- ticks of the running second of DEGRn.LEFT, and the tick at which all causes ended (R260) -/
  degrT    : Nat
  degrHold : Option Nat
deriving DecidableEq, Repr

/-- A running test pulse (R250): the output, its kind, whether a demand changed during it (R252), the tick of its start. -/
structure Pulse where
  out     : TestOutput
  bright  : Bool
  changed : Bool
  start   : Nat
deriving DecidableEq, Repr

/-- A train-line input ahead of its filter (R254): its comparator, the voltage in 0.1 V where a sample has given it, and the samples that
have shown a level other than the filtered one. -/
structure LineIn where
  raw  : Bool
  volt : Option Nat
  cnt  : Nat
deriving DecidableEq, Repr

def LineIn.reset : LineIn where
  raw := false
  volt := none
  cnt := 0

/-- SC beyond its registers. -/
structure Sc where
  tick    : Nat
  dw      : Vector ScDoor 8
  /-- ticks since which the conditions of R232 hold, TRAC_FB mismatches (R234), the ZSP lines differ and agree (R237) -/
  settle  : Option Nat
  fbFrom  : Option Nat
  zspDiff : Option Nat
  zspSame : Option Nat
  /-- the train-line inputs in the order of `TrainLine` (R254); the tick of the last wetting pulse of each group (R255) -/
  line    : Vector LineIn 7
  wetAt   : Vector (Option Nat) 4
  /-- the loop input (R247): low since this tick; the tick of its last coded interval. LOOP_SRC on, and tripped (R249) -/
  lowFrom : Option Nat
  codedAt : Option Nat
  srcOn   : Bool
  srcTrip : Bool
  /-- active TIL fault causes (R270), and active doorway-level SAF faults as doorway, cause (R261) -/
  tilAct  : List Nat
  safAct  : List (Nat × Nat)
  /-- pulses under way, the switch that the next pulse of TRAC_REL and of the element opens (false: SA, EA), outputs whose last
  pulse failed, and the pause of a handover (R250 to R253) -/
  pulses  : List Pulse
  altTrac : Bool
  altElem : Bool
  failed  : List Nat
  paused  : Bool
  /-- the tick of the last pulse of each switch die (R250), and of the last dark pulse of LOOP_SRC (R247) -/
  pulseAt : Vector (Option Nat) 4
  loopAt  : Option Nat
  /-- SAFCLK is lost: SC sends no heartbeat (R25) -/
  clkLost : Bool
  /-- inputs that count as inactive for SC (R256, R259); inputs whose last wetting pulse was bad; good pulses in succession (R255) -/
  diag    : BitVec 64
  wetBad  : BitVec 64
  wetGood : Vector Nat 64
deriving DecidableEq, Repr

def ScDoor.reset : ScDoor where
  egrFrom := none
  egrStop := false
  egrLock := false
  react := none
  outT := 0
  outOk := false
  badT := 0
  refused := false
  cbT := 0
  divT := 0
  edgeT := 0
  agreeT := 0
  degrT := 0
  degrHold := none

def Sc.reset : Sc where
  tick := 0
  dw := Vector.replicate 8 ScDoor.reset
  settle := none
  fbFrom := none
  zspDiff := none
  zspSame := none
  line := Vector.replicate 7 LineIn.reset
  wetAt := Vector.replicate 4 none
  lowFrom := none
  codedAt := none
  srcOn := false
  srcTrip := false
  tilAct := []
  safAct := []
  pulses := []
  altTrac := false
  altElem := false
  failed := []
  paused := false
  pulseAt := Vector.replicate 4 none
  loopAt := none
  clkLost := false
  diag := 0
  wetBad := 0
  wetGood := Vector.replicate 64 0

/-! ### The configuration vault (R383 to R396, R465) -/

/-- A bank of the eNVM (R383): the register section of the image (unlisted words 0), unit B's copy of the per-unit fields, the password
section; the header's constant, GEN, LEN, CRC and commit word; `good`: what the bank reads as is what was written, so the CRC matches. -/
structure Bank where
  cells  : Cells
  unitB  : Cells
  salt   : List Byte
  hash   : List Byte
  gen    : Nat
  good   : Bool
  magic  : Word
  len    : Nat
  crc    : Word
  commit : Word
deriving DecidableEq, Repr

/-- A copy of the record section. -/
structure RecCopy where
  seq   : Nat
  cells : Cells
deriving DecidableEq, Repr

/-- The vault beyond its registers. -/
structure Vault where
  a        : Bank
  b        : Bank
  inB      : Bool
  /-- the change log, newest first, at most 256 entries (R394) -/
  log      : List Record
  /-- the two copies of the record section (R393) -/
  rec0     : Option RecCopy
  rec1     : Option RecCopy
  /-- sessions opened (R387), kept with the cellar -/
  sessions : Nat
  /-- the password window, the password that NEWPW has taken, with its salt, and a check under way (R385 to R387) -/
  pw       : List Word
  newPw    : Option (List Byte × List Byte)
  checking : Bool
  /-- the image of a running host commit (R389) -/
  building : Option Bank
  /-- pushes of the fail-safe copy left without confirmation, per die (R390) -/
  pushes   : Vector Nat 4
  /-- what each die held before the last push -/
  before   : Vector DieCopy 4
  /-- CLK32 edge of the last commit of either unit (R391) -/
  changed  : Nat
  /-- CLK32 edges at which the session opened, and the lockout began (R385) -/
  sessAt   : Nat
  lockAt   : Nat
  /-- a session that a reset ended, for LE to record at the next boot (R387); one without a commit under way (R388) -/
  cut      : Bool
  dropped  : Bool
deriving DecidableEq, Repr

def Bank.empty : Bank where
  cells := []
  unitB := []
  salt := []
  hash := []
  gen := 0
  good := false
  magic := 0
  len := 0
  crc := 0
  commit := 0

def Vault.reset : Vault where
  a := Bank.empty
  b := Bank.empty
  inB := false
  log := []
  rec0 := none
  rec1 := none
  sessions := 0
  pw := []
  newPw := none
  checking := false
  building := none
  pushes := Vector.replicate 4 0
  before := Vector.replicate 4 DieCopy.reset
  changed := 0
  sessAt := 0
  lockAt := 0
  cut := false
  dropped := false


/-! ### Telegrams and buses (R273 to R289, R397 to R424) -/

/-- A telegram connection beyond its registers. Times are SC's ticks. -/
structure Conn where
  /-- the SEQ that the next telegram carries (R276) -/
  next    : Nat
  /-- the last 64 SEQ values sent and their times, newest first; those that the partner sent (R280, R285) -/
  sent    : List (Nat × Nat)
  partner : List (Nat × Nat)
  /-- the start of the T_EXP supervision: the last accepted telegram or the entry to the state; the TIME of the last accepted telegram -/
  since   : Nat
  time    : Nat
  /-- the time of the last accepted telegram: AGE and check 7 (R280, R289) -/
  heard   : Option Nat
  /-- discards of class 5 in succession (R281) -/
  jumps   : Nat
  /-- the tick in which the last COMMAND was accepted (R284) -/
  taken   : Option Nat
  /-- CMD_SEQ and RESULT as STATUS shows them; the SEQ, RESULT and doorways still open of the COMMAND under way (R278) -/
  cmdSeq  : Nat
  result  : Nat
  newSeq  : Nat
  newRes  : Nat
  waits   : Nat
deriving DecidableEq, Repr

/-- The telegram windows and receive buffers (R284, R288). -/
structure Stl where
  conn   : Vector Conn 8
  /-- words of the telegram that the host is writing; telegrams that wait for SC, oldest first; telegrams for the host -/
  words  : List Word
  rx     : List (List Byte × Carrier)
  tx     : List (Nat × List Byte)
deriving DecidableEq, Repr

/-- A CAN controller beyond its registers (R409 to R411): the buffer on offer, the failed attempts of each pending buffer, cancels that
came too late. -/
structure CanEng where
  cur   : Option Nat
  fails : List (Nat × Nat)
  late  : List Nat
  /-- the buffer on offer is on the bus and completes although the unit has left ACTIVE or the page is disabled (R402) -/
  last  : Bool
deriving DecidableEq, Repr

/-- The MVB device beyond its registers (R418 to R421): port data and the CLK32 edge of the last update, the master frame that waits
for its slave frame, and master frames in succession that the trusted line missed. -/
structure Mvb where
  ports  : List (Nat × List Byte)
  fresh  : List (Nat × Nat)
  master : Option (Nat × Nat)
  missed : Nat
  /-- the device's own slave frame was not observed on line A, on line B (R423) -/
  mute   : Bool × Bool
deriving DecidableEq, Repr

def Conn.reset : Conn where
  next := 0
  sent := []
  partner := []
  since := 0
  time := 0
  heard := none
  jumps := 0
  taken := none
  cmdSeq := 0
  result := 0xFFFFFFFF
  newSeq := 0
  newRes := 0xFFFFFFFF
  waits := 0

def Stl.reset : Stl where
  conn := Vector.replicate 8 Conn.reset
  words := []
  rx := []
  tx := []

def CanEng.reset : CanEng where
  cur := none
  fails := []
  late := []
  last := false

def Mvb.reset : Mvb where
  ports := []
  fresh := []
  master := none
  missed := 0
  mute := (false, false)

/-! ### The cycle ledger (R363 to R382) -/

/-- A data block (R371): its program date in ledger days, its data pages with their records, oldest first, which of them are unreadable
segments, and whether a read has made it due for refresh at once (R372); its die (true: N1), and the pages that ECC cannot recover, in
numbers of 0 to 255 that count the parity pages: data page i is page 16 (i / 15) + i mod 15. -/
structure DataBlock where
  date  : Nat
  pages : List (List Record)
  bad   : List Nat
  worn  : Bool
  die   : Bool
  lost  : List Nat
deriving DecidableEq, Repr

/-- What a query still has to give (R378): the matches not yet staged, in order. -/
structure Query where
  rest : List Record
deriving DecidableEq, Repr

/-- LE's request that waits or runs: REQ, NEXT (R378). -/
inductive QryReq where
  | first | next
deriving DecidableEq, Repr

/-- What a ledger day has gathered of a doorway's cycles (R366): times in ms, the reopenings, the highest F_EST of a closing without an
obstacle (R185). -/
structure DayAcc where
  opens    : Nat
  openSum  : Nat
  closes   : Nat
  closeSum : Nat
  closeMax : Nat
  waitSum  : Nat
  reopens  : Nat
  fPeak    : Nat
deriving DecidableEq, Repr

def DayAcc.zero : DayAcc := ⟨0, 0, 0, 0, 0, 0, 0, 0⟩

/-- The ledger beyond the journal and the registers. -/
structure Ledger where
  /-- the journal slot that the next record takes (R367, log entry 126) -/
  jnext     : Nat
  /-- blocks that hold records, oldest first; erased reserve blocks; spares left (R371) -/
  blocks    : List DataBlock
  reserve   : Nat
  spares    : Nat
  /-- the die that takes the next data page (true: N1), the dies that do not answer, the pages of the journal area's ring, oldest first,
  and the ms that a rebuild of the block index has run, if one is under way (R371, R381) -/
  turn      : Bool
  dead      : List Bool
  area      : List (List Record)
  rebuild   : Option Nat
  /-- a reset has cut a retention check, which restarts in full (R436) -/
  recheck   : Bool
  /-- the highest RSEQ of this unit that the partner has acknowledged, in the system area (R376) -/
  acked     : Option Nat
  /-- the query under way: the request that runs and the one held while a DMA transfer runs, matches left, the staged words, a transfer
  under way (R378 to R380) -/
  req       : Option QryReq
  held      : Option QryReq
  query     : Query
  staged    : List Word
  dma       : Bool
  /-- a power-fail flush was cut (R369) -/
  cut       : Bool
  /-- the ledger day last summarised, the registers at that boundary, and what the day has gathered (R366): minutes are kept in ms -/
  day       : Nat
  dayRegs   : Cells
  dayAcc    : Vector DayAcc 8
  heatMs    : Vector Nat 16
  sheds     : Vector Nat 48
  degrMs    : Vector Nat 8
  adapted   : Vector Nat 16
  inpos     : Vector Nat 16
  tjMax     : Int
  refreshed : Nat
  newBad    : Nat
  /-- ms in SERVICE or WATCH since the last summary, while the RTC is not valid (R366) -/
  runMs     : Nat
deriving DecidableEq, Repr

def Ledger.reset : Ledger where
  jnext := 0
  blocks := []
  reserve := 1580
  spares := 336
  turn := false
  dead := []
  area := []
  rebuild := none
  recheck := false
  acked := none
  req := none
  held := none
  query := ⟨[]⟩
  staged := []
  dma := false
  cut := false
  day := 0
  dayRegs := []
  dayAcc := Vector.replicate 8 DayAcc.zero
  heatMs := Vector.replicate 16 0
  sheds := Vector.replicate 48 0
  degrMs := Vector.replicate 8 0
  adapted := Vector.replicate 16 0
  inpos := Vector.replicate 16 0
  tjMax := 0
  refreshed := 0
  newBad := 0
  runMs := 0

/-! ### The partner (R339 to R362) -/

/-- The pair beyond the BRV registers. Times are CLK32 edges. -/
structure Partner where
  /-- the SEQ of the next frame of each lane, and lane-1 frames without acknowledgement, oldest first (R342) -/
  seq0     : Nat
  seq1     : Nat
  unacked  : List (Nat × BruvanFrame)
  /-- the latest complete mirror, and the arrivals of the last STATE and HEALTH frames -/
  mirror   : Option MirrorFrame
  stateAt  : Option Nat
  healthAt : Option Nat
  /-- since it entered SYNCING this unit has seen a partner, has seen an ACTIVE one (R348) -/
  seen     : Bool
  seenAct  : Bool
  /-- a loss of the partner's heartbeat has been detected and not acted on (R353) -/
  lost     : Bool
  /-- comma error within 50 ns for this many periods (R344) -/
  pwmGood  : Nat
  /-- the own handover decided: its T_H and cause; announced by the partner; the outgoing unit is in its overlap (R352) -/
  decided  : Option (Nat × Nat)
  incoming : Option (Nat × Nat)
  overlap  : Bool
  /-- the time since which the partner's grade leads by HO_MARGIN (R351) -/
  leadFrom : Option Nat
  /-- the catch-up has been requested (R360) -/
  asked    : Bool
  /-- a difference in GEN runs since (R391) -/
  diffFrom : Option Nat
  /-- the last standby self-test passed; this unit has been ACTIVE since boot (R350); a self-test runs; the start from which the next
  24 h count (R358) -/
  testOk   : Bool
  wasActive : Bool
  testing  : Bool
  testAt   : Option Nat
  /-- the records of a catch-up that are still to be sent (R360) -/
  owed     : List Record
deriving DecidableEq, Repr

def Partner.reset : Partner where
  seq0 := 0
  seq1 := 0
  unacked := []
  mirror := none
  stateAt := none
  healthAt := none
  seen := false
  seenAct := false
  lost := false
  pwmGood := 0
  decided := none
  incoming := none
  overlap := false
  leadFrom := none
  asked := false
  diffFrom := none
  testOk := false
  wasActive := false
  testing := false
  testAt := none
  owed := []

/-! ### Power states, boot, firmware (R316 to R338, R425 to R438) and the host interface (R30 to R65) -/

/-- The cellar beyond its registers: CLK32 edges of the hours under way with the cellar powered, in SERVICE, in WATCH; ms of the
minutes under way at or above 110, 120 and 125 °C (R334); whether its supply is up; the supplies of the core. -/
structure Cellar where
  onE     : Nat
  svcE    : Nat
  watchE  : Nat
  warnMs  : Nat
  hotMs   : Nat
  overMs  : Nat
  off     : Bool
  coreUp  : Bool
  /-- a wake is under way: the fast clocks start (R24, R328) -/
  waking  : Bool
  /-- the cellar has started from OFF and no boot has followed (R334, R427) -/
  cold    : Bool
  /-- a RESET_STUCK has been recorded and no boot has followed (R334, R428) -/
  stuck   : Bool
deriving DecidableEq, Repr

/-- A NOR slot (R434): the words written since its erase, whether it still holds the image of the delivery, its four flags (true:
programmed to 0), and whether a VERIFY has passed or failed since. -/
structure Slot where
  shipped   : Bool
  words     : Cells
  armed     : Bool
  started   : Bool
  confirmed : Bool
  revoked   : Bool
  checked   : Option Bool
deriving DecidableEq, Repr

/-- A firmware command that runs until FW_COMMAND_DONE (R434). -/
inductive FwCmd where
  | erase | verify
deriving DecidableEq, Repr

/-- Boot and reset beyond the registers. -/
structure Boot where
  slotA     : Slot
  slotB     : Slot
  fwMin     : Word
  cmd       : Option FwCmd
  /-- RESET_N is low; the core is held in reset (RESET_N, supplies) -/
  resetLow  : Bool
  held      : Bool
  /-- the CLK32 edges of the release of reset, of READY, of the last accepted SRST_KEY (R435) -/
  relAt     : Nat
  readyAt   : Nat
  srstAt    : Option Nat
  /-- the levels of the straps HOSTSEL and UNITSEL (R30, R339) -/
  hostsel   : Nat
  unitB     : Bool
  /-- flags of R428 for the boot under way: RESET_STUCK recorded, the reset ended a HALT -/
  stuck     : Bool
  fromHalt  : Bool
  /-- the boot has chosen its image and loaded the vault and the journal (R433); dies whose link did not come up in it -/
  loaded    : Bool
  linkBad   : List Die
  /-- the die links of G0 and G1 are alive (those of S0 to S3 are in `die`), and VGD as they see it (R118) -/
  gAlive    : Vector Bool 2
  vgd       : Vector Vgd 2
  /-- LE and XE have stopped after an uncorrectable error and restart (R27) -/
  leDown    : Bool
  xeDown    : Bool
deriving DecidableEq, Repr

/-- The host interface beyond its registers. -/
structure HostIf where
  /-- the write-hold register and the read latch of the parallel bus: word address, half-word (R32, R33) -/
  hold    : Option (Nat × BitVec 16)
  latch   : Option (Nat × BitVec 16)
  /-- quad SPI: 4-4-4 mode in use, ERR of the status byte (R35, R36) -/
  quad    : Bool
  qsErr   : Bool
  /-- CLK32 edge from which WD_STAT.ELAPSED counts; WD_MIN, WD_MAX and WD_BOOT in force; WD_WARN has been raised (R56, R57) -/
  wdAt    : Nat
  wdMin   : Nat
  wdMax   : Nat
  wdBoot  : Nat
  warned  : Bool
  /-- PCIe: PE_PERST_N low; words of the configuration space that have been written; the Subsystem IDs loaded (R38, R41) -/
  perst   : Bool
  pcie    : Cells
  subsys  : Word
  /-- MSI messages that wait for an unmasking or an enable, a bit per vector (R63) -/
  msiHeld : Nat
deriving DecidableEq, Repr

def Cellar.reset : Cellar where
  onE := 0
  svcE := 0
  watchE := 0
  warnMs := 0
  hotMs := 0
  overMs := 0
  off := false
  coreUp := true
  waking := false
  cold := true
  stuck := false

/-- The slot as delivered, and an erased one. -/
def Slot.factory : Slot where
  shipped := true
  words := []
  armed := true
  started := true
  confirmed := true
  revoked := false
  checked := none

def Slot.empty : Slot where
  shipped := false
  words := []
  armed := false
  started := false
  confirmed := false
  revoked := false
  checked := none

def Boot.reset : Boot where
  slotA := Slot.factory
  slotB := Slot.empty
  fwMin := 0
  cmd := none
  resetLow := false
  held := false
  relAt := 0
  readyAt := 0
  srstAt := none
  hostsel := 0
  unitB := false
  stuck := false
  fromHalt := false
  loaded := false
  linkBad := []
  gAlive := Vector.replicate 2 true
  vgd := Vector.replicate 2 .good
  leDown := false
  xeDown := false

def HostIf.reset : HostIf where
  hold := none
  latch := none
  quad := false
  qsErr := false
  wdAt := 0
  wdMin := 0
  wdMax := 0
  wdBoot := 0
  warned := false
  perst := false
  pcie := []
  subsys := 0
  msiHeld := 0

/-! ### The state -/

/-- The whole block. `pending` is the queue of commands that wait, first in, first out; `out` and `free` are the model's own: what
the block has given out, and the counter that the free values of Config are applied to (log entries 9 and 3). -/
structure State where
  pending  : List Instr
  out      : List Emission
  free     : Nat
  /-- CLK32 edges counted since the cellar started (R53); the model's time base (log entry 10) -/
  clk32    : Nat
  /-- the register window, the values that PAGE_CTRL.FREEZE holds (R43), and the frozen high words of 64-bit counters (R47) -/
  regs     : Cells
  frozen   : Cells
  hiFrozen : Cells
  dw       : Vector DwEng 8
  ax       : Vector AxEng 16
  fb       : Vector FbEng 16
  enc      : Vector EncEng 4
  journal  : List JEntry
  /-- occurrences of each fault cause on each page since reset: 256 × page + cause, count (R365) -/
  faultCnt : List (Nat × Nat)
  /-- what the host reads of the slow-domain pages: the copy that each CLK32 edge refreshes (R53) -/
  shadow : Cells
  /-- posted slow-domain writes: address, word, CLK32 edges seen since the post (R54) -/
  posted : List (Nat × Word × Nat)
  /-- the RTC, ms since 2000-01-01, and the fraction of a ms in 1/32,768,000,000 (R333) -/
  rtc : Nat
  rtcFrac : Nat
  /-- what the doorway engines answered to telegram commands: connection, SEQ, doorway, reason, for SC to report (R278, R281) -/
  answers : List (Nat × Nat × Nat × Nat)
  /-- the per-vector mask bits of the MSI capability; GRANTED is 0 while MSI is disabled (R38, R63) -/
  pcieMask : Nat
  ch : Vector Ch 48
  die : Vector DieCopy 4
  onBlocked : Bool
  pan : Pantry
  sl : Vector SlEng 16
  pz : Vector PzEng 8
  oe : Oe
  /-- the filtered pin levels of DI0 to DI63, which the switch dies hold (R254), and the DIN.INV in use -/
  diFilt : BitVec 64
  diInv : BitVec 64
  /-- the comparators of the discrete inputs ahead of the filters, the pin voltages in 0.1 V where a sample has given them, and the
  samples that have shown a level other than the filtered one (R254) -/
  diRaw : BitVec 64
  diPin : Vector (Option Nat) 64
  diCnt : Vector Nat 64
  sc : Sc
  /-- CLK32 edges of the controller-level safety faults of the last hour, kept through a safety reset (R262) -/
  trips : List Nat
  vlt : Vault
  stl : Stl
  can : Vector CanEng 4
  mvb : Mvb
  ldg : Ledger
  par : Partner
  cel : Cellar
  boot : Boot
  hif : HostIf
deriving DecidableEq, Repr

/-- The block right after the release of reset, before its boot (R3, R433). -/
def State.reset : State where
  pending  := []
  out      := []
  free     := 0
  clk32    := 0
  regs     := []
  frozen   := []
  hiFrozen := []
  dw       := Vector.replicate 8 DwEng.reset
  ax       := Vector.replicate 16 AxEng.reset
  fb       := Vector.replicate 16 FbEng.reset
  enc      := Vector.replicate 4 EncEng.reset
  journal  := []
  faultCnt := []
  shadow := []
  posted := []
  rtc := 0
  rtcFrac := 0
  answers := []
  pcieMask := 0
  ch := Vector.replicate 48 Ch.reset
  die := Vector.replicate 4 DieCopy.reset
  onBlocked := true
  pan := Pantry.reset
  sl := Vector.replicate 16 SlEng.reset
  pz := Vector.replicate 8 PzEng.reset
  oe := Oe.reset
  diFilt := 0
  diInv := 0
  diRaw := 0
  diPin := Vector.replicate 64 none
  diCnt := Vector.replicate 64 0
  sc := Sc.reset
  trips := []
  vlt := Vault.reset
  stl := Stl.reset
  can := Vector.replicate 4 CanEng.reset
  mvb := Mvb.reset
  ldg := Ledger.reset
  par := Partner.reset
  cel := Cellar.reset
  boot := Boot.reset
  hif := HostIf.reset

/-- No meaning of this model ends in a fault: the block has no access that the spec lets stop it (an unmapped page reads 0 and
raises S27, R42). The one constructor is never raised; safe. -/
inductive Fault where
  | none
deriving DecidableEq, Repr

/-- `notModelled`: raised by Dispatch.lean for a command that has no meaning yet; safe, the model stops where the block goes on. -/
inductive Refusal where
  | notModelled (mnemonic : String)
deriving DecidableEq, Repr

end Sys2Proof.Machine
end

