-- ==== Sys2Proof/Machine/Ops.lean ====
section
/-! DEFINITION. The named operations over the state that every meaning is made of: reading and writing registers and fields,
raising events and sending MSI messages, journalling records and reporting faults, clocks, and the small arithmetic the rules
use. -/

namespace Sys2Proof.Machine

/-! ### Cells -/

def cellGet (dflt : Nat → Word) : Cells → Nat → Word
  | [], k => dflt k
  | (k', v) :: t, k => if k' = k then v else cellGet dflt t k

def cellInsert (k : Nat) (v : Word) : Cells → Cells
  | [] => [(k, v)]
  | (k', v') :: t => if k < k' then (k, v) :: (k', v') :: t else (k', v') :: cellInsert k v t

/-- Writing keeps the canonical form: no second entry for an address, and none that equals the default. -/
def cellSet (dflt : Nat → Word) (m : Cells) (k : Nat) (v : Word) : Cells :=
  let rest := m.filter (fun c => decide (c.1 ≠ k))
  if v = dflt k then rest else cellInsert k v rest

/-- The canonical form: addresses strictly rising, no entry equal to its default. -/
def cellsWf (dflt : Nat → Word) : Cells → Bool
  | [] => true
  | (k, v) :: t => decide (v ≠ dflt k) && t.all (fun c => decide (k < c.1)) && cellsWf dflt t

/-! ### What a register holds when nothing has changed it -/

/-- The row of a page's table that an offset belongs to. -/
def rowAt (rows : List RegRow) (off : Nat) : Option RegRow :=
  rows.find? (fun r => r.off ≤ off && (off - r.off) % r.stride == 0 && decide ((off - r.off) / r.stride < r.count))

/-- The pages whose ENABLE reads 1 always (R43). -/
def alwaysEnabled : PageKind → Bool
  | .sys | .hif | .eva | .cel | .tmr | .pwr | .saf => true
  | _ => false

/-- PAGE_STAT.SLOW reads 1 on CEL, TMR and PWR (R43). -/
def slowPage : PageKind → Bool
  | .cel | .tmr | .pwr => true
  | _ => false

def headerReset (k : PageKind) (inst off : Nat) : Nat :=
  if off = 0 then k.code * 65536 + inst * 256 + 1
  else if off = 4 then (if alwaysEnabled k then 1 else 0)
  else if off = 8 then (if slowPage k then 16 else 0)
  else 0

/-- The reset word of the register at a byte address: the Reset column, PAGE_ID by R42, 0 where no register is. -/
def regReset (a : Nat) : Word :=
  match pageOf (a / 4096) with
  | none => 0
  | some (k, inst) =>
    let off := a % 4096
    if off < 0x40 then BitVec.ofNat 32 (headerReset k inst off)
    else match rowAt k.regs off with
      | none => 0
      | some r => BitVec.ofNat 32 r.reset

/-! ### Registers and fields -/

def fieldMask (lo width : Nat) : Word := BitVec.ofNat 32 (2 ^ width - 1) <<< lo

/-- The bits of a field in a word. -/
def fieldOf (w : Word) (lo width : Nat) : Nat := ((w >>> lo) &&& BitVec.ofNat 32 (2 ^ width - 1)).toNat

/-- A word with the bits of a field replaced. -/
def fieldPut (w : Word) (lo width v : Nat) : Word :=
  (w &&& ~~~ fieldMask lo width) ||| ((BitVec.ofNat 32 v &&& BitVec.ofNat 32 (2 ^ width - 1)) <<< lo)

/-- A field read as a two's complement number (R6). -/
def signedOf (v width : Nat) : Int := if 2 ^ (width - 1) ≤ v then (v : Int) - 2 ^ width else v

/-- The two's complement code of a number. -/
def codeOf (v : Int) (width : Nat) : Nat := (v % (2 ^ width : Int)).toNat

namespace State

def word (s : State) (a : Nat) : Word := cellGet regReset s.regs a
def setWord (s : State) (a : Nat) (w : Word) : State := { s with regs := cellSet regReset s.regs a w }

def get (s : State) (f : Fld) : Nat := fieldOf (s.word f.addr) f.lo f.width
def getI (s : State) (f : Fld) : Int := signedOf (s.get f) f.width
def on (s : State) (f : Fld) : Bool := decide (s.get f ≠ 0)
def set (s : State) (f : Fld) (v : Nat) : State := s.setWord f.addr (fieldPut (s.word f.addr) f.lo f.width v)
def setI (s : State) (f : Fld) (v : Int) : State := s.set f (codeOf v f.width)
def setB (s : State) (f : Fld) (b : Bool) : State := s.set f b.toNat

/-- A counter that saturates at its width (R5, CNT). -/
def add (s : State) (f : Fld) (n : Nat) : State := s.set f (min (s.get f + n) (2 ^ f.width - 1))
def inc (s : State) (f : Fld) : State := s.add f 1
/-- A sequence number that wraps. -/
def incWrap (s : State) (f : Fld) : State := s.set f ((s.get f + 1) % 2 ^ f.width)

def modDw (s : State) (n : Fin 8) (g : DwEng → DwEng) : State := { s with dw := s.dw.set n (g s.dw[n]) }
def modAx (s : State) (n : Fin 16) (g : AxEng → AxEng) : State := { s with ax := s.ax.set n (g s.ax[n]) }
def modFb (s : State) (n : Fin 16) (g : FbEng → FbEng) : State := { s with fb := s.fb.set n (g s.fb[n]) }
def modEnc (s : State) (n : Fin 4) (g : EncEng → EncEng) : State := { s with enc := s.enc.set n (g s.enc[n]) }

def modCh (s : State) (c : Fin 48) (g : Ch → Ch) : State := { s with ch := s.ch.set c (g s.ch[c]) }
def modDie (s : State) (g : Fin 4) (f : DieCopy → DieCopy) : State := { s with die := s.die.set g (f s.die[g]) }

def modSl (s : State) (l : Fin 16) (g : SlEng → SlEng) : State := { s with sl := s.sl.set l (g s.sl[l]) }
def modPz (s : State) (n : Fin 8) (g : PzEng → PzEng) : State := { s with pz := s.pz.set n (g s.pz[n]) }
def modOe (s : State) (g : Oe → Oe) : State := { s with oe := g s.oe }

def emit (s : State) (e : Emission) : State := { s with out := s.out ++ [e] }

/-- The lane that a Bruvan frame belongs to (R342): `true` for lane 1. -/
def lane1 : BruvanFrame → Bool
  | .state _ | .health _ | .handover _ _ => false
  | _ => true

/-- The lane that a frame of a lane goes on (R343): the other one where its own is down and the other is up. Emissions have no duration
here, so the precedence of lane-0 frames orders nothing further (log entry 153). -/
def txLane (s : State) (own : Bool) : Bool :=
  let up := s.get BRV.LINK_STAT_TX_UP
  if !up.testBit own.toNat && up.testBit (!own).toNat then !own else own

/-- The SEQ of a lane's next frame (R342). -/
def laneSeq (s : State) (lane : Bool) : Nat := if lane then s.par.seq1 else s.par.seq0

def countLane (s : State) (lane : Bool) : State :=
  let k := (s.laneSeq lane + 1) % 65536
  { s with par := if lane then { s.par with seq1 := k } else { s.par with seq0 := k } }

/-- The frames that wait for an acknowledgement (R342): lane-1 frames other than ACK. -/
def awaitsAck : BruvanFrame → Bool
  | .ack _ => false
  | f => lane1 f

/-- Sends a Bruvan frame with the SEQ of the lane it goes on (R342, R343). -/
def sendBruvan (s : State) (f : BruvanFrame) : State :=
  let lane := s.txLane (lane1 f)
  let seq := s.laneSeq lane
  let p := s.par
  let s := if awaitsAck f then { s with par := { p with unacked := p.unacked ++ [(seq, f)] } } else s
  (s.countLane lane).emit (.bruvan lane.toNat seq f)

/-- A free value and the state that has used it up (log entry 3). -/
def freeWord (s : State) : Word := Config.freeWord s.free
def bumpFree (s : State) : State := { s with free := s.free + 1 }

end State

/-! ### Indices (R7) -/

def doorAxis (n : Fin 8) : Fin 16 := ⟨2 * n, by omega⟩
def stepAxis (n : Fin 8) : Fin 16 := ⟨2 * n + 1, by omega⟩
def doorwayOf (ax : Fin 16) : Fin 8 := ⟨ax / 2, by omega⟩
def isStep (ax : Fin 16) : Bool := ax.val % 2 == 1
def fin64 (n : Nat) : Fin 64 := ⟨n % 64, by omega⟩
def fin48 (n : Nat) : Fin 48 := ⟨n % 48, by omega⟩
def fin16 (n : Nat) : Fin 16 := ⟨n % 16, by omega⟩
def fin8 (n : Nat) : Fin 8 := ⟨n % 8, by omega⟩
def fin4 (n : Nat) : Fin 4 := ⟨n % 4, by omega⟩
def groupOf (c : Fin 48) : Fin 4 := ⟨c / 12, by omega⟩
def inGroup (c : Fin 48) : Nat := c % 12

/-- Page numbers (R42). -/
def pgDW (n : Nat) : Nat := 0x10 + n
def pgPZ (n : Nat) : Nat := 0x18 + n
def pgAX (n : Nat) : Nat := 0x20 + n
def pgFB (n : Nat) : Nat := 0x30 + n
def pgLSG (n : Nat) : Nat := 0x40 + n
def pgCAN (n : Nat) : Nat := 0x44 + n
def pgSL (n : Nat) : Nat := 0x50 + n

/-! ### Modes of the whole block -/

namespace State

/-- BOOT_STAT.READY: before it no engine serves anything (R430, R431). -/
def ready (s : State) : Bool := s.on SYS.BOOT_STAT_READY
/-- The engines execute: boot complete, power state SERVICE, SC not in HALT (R24, R26, R262). -/
def running (s : State) : Bool := s.ready && s.get PWR.STATE_STATE == 3 && s.get SAF.STAT_SC_STATE != 3
/-- In WATCH: the core is on, its engines idle (R26, R329). -/
def watching (s : State) : Bool := s.ready && s.get PWR.STATE_STATE == 2 && s.get SAF.STAT_SC_STATE != 3
/-- The core domain runs its boot or is ready: SC works, and the host reaches the SYS page (R431). -/
def coreOn (s : State) : Bool := !s.boot.held && !s.boot.resetLow && !s.cel.off && s.get PWR.STATE_STATE != 1
/-- A primary host port is enabled (R30, R31). -/
def hostPort (s : State) : Bool := s.get HIF.HOST_CFG_HOSTSEL != 3
/-- What the engines do, only while they execute. -/
def whenRunning (s : State) (f : State → State) : State := if s.running then f s else s
/-- What a block of the core domain does from READY on. -/
def whenReady (s : State) (f : State → State) : State := if s.ready then f s else s
/-- What LE does: not while it restarts (R27). -/
def whenLe (s : State) (f : State → State) : State := if s.ready && !s.boot.leDown then f s else s
/-- The unit is ACTIVE: BRV.STAT.ROLE is 2, which a single unit takes at the end of boot (R347). -/
def active (s : State) : Bool := s.get BRV.STAT_ROLE == 2
/-- A vault edit session is open and no commit runs: the writes that need a session are accepted (R387, R389). -/
def editable (s : State) : Bool := s.on VLT.STAT_SESSION && !s.on VLT.STAT_COMMITTING
/-- What a doorway's engine does of itself: only on a unit that is ACTIVE, and not in the overlap of a handover (R349, R352). -/
def whenEngine (s : State) (f : State → State) : State :=
  s.whenRunning fun s => if s.active && !s.par.overlap then f s else s
def pair (s : State) : Bool := s.on BRV.CFG_PAIR
def pageOn (s : State) (page : Nat) : Bool := s.on (HDR.ENABLE page)
/-- What an engine completes of itself: while its page is enabled too (R89). -/
def whenDoor (s : State) (n : Fin 8) (f : State → State) : State :=
  s.whenEngine fun s => if s.pageOn (pgDW n) then f s else s

/-- Microseconds since the cellar started, from CLK32 edges (30.52 µs each). -/
def micros (s : State) : Nat := s.clk32 * 15625 / 512
def millis (s : State) : Nat := s.clk32 * 125 / 4096

/-- A wake from WATCH begins: its sources are recorded, the fast clocks start (R24, R329, R330). -/
def wakeWatch (s : State) (src : Nat) : State :=
  if !s.watching then s else
    let w := if s.cel.waking then s.get CEL.WAKE_SRC_SRC ||| src else src
    let s := (s.set CEL.WAKE_SRC_SRC w).set PWR.STATE_WAKE w
    { s with cel := { s.cel with waking := true } }

/-- What is done in SERVICE, and what wakes the controller from WATCH and is done for it. -/
def whenAwake (s : State) (src : Nat) (f : State → State) : State :=
  if s.running then f s else if s.watching then (f s).wakeWatch src else s

/-! ### Events (R59 to R63) -/

/-- The FB pages that the two axes of a doorway use (R133). -/
def portOf (s : State) (ax : Nat) : Option Nat :=
  if s.get (AX.CFG_MOTOR ax) = 2 then none else some (s.get (AX.CFG_FB_SEL ax))

/-- The EVT bits that feed a source: pairs of a page and a mask (R59). -/
def feeds (s : State) (src : Nat) : List (Nat × Nat) :=
  if src < 64 then
    let n := src / 8
    let k := src % 8
    if k < 7 then [(pgDW n, 2 ^ k)]
    else [(pgDW n, 128), (pgAX (2 * n), 0xFFFFFFFF), (pgAX (2 * n + 1), 0xFFFFFFFF)]
      ++ (s.portOf (2 * n)).toList.map (fun p => (pgFB p, 0xFFFFFFFF))
      ++ (s.portOf (2 * n + 1)).toList.map (fun p => (pgFB p, 0xFFFFFFFF))
  else match src - 64 with
    | 0 => [(0x08, 0xFFFFFFFF)]
    | 1 => [(0x09, 1)]
    | 2 => [(0x09, 2)]
    | 3 => [(0x09, 4)]
    | 4 => [(0x0A, 1)]
    | 5 => [(0x0A, 2)]
    | 6 => [(0x01, 2)]
    | 7 => [(0x01, 4)]
    | 8 => [(0x40, 1), (0x41, 1), (0x42, 1), (0x43, 1)]
    | 9 => [(0x40, 2), (0x41, 2), (0x42, 2), (0x43, 2)]
    | 10 => [(0x05, 1)]
    | 11 => [(0x05, 2)]
    | 12 => [(0x06, 1)]
    | 13 => [(0x06, 2)]
    | 14 => (0x0D, 0xFFFFFFFF) :: (List.range 8).map (fun n => (pgPZ n, 0xFFFFFFFF))
    | 15 => (List.range 16).map (fun n => (pgSL n, 0xFFFFFFFF))
    | 16 => (0x44, 0xFFFFFFFF) :: (List.range 16).map (fun p => (0x80 + p, 2))
    | 17 => (0x45, 0xFFFFFFFF) :: (List.range 16).map (fun p => (0x90 + p, 2))
    | 18 => (0x46, 0xFFFFFFFF) :: (List.range 16).map (fun p => (0xA0 + p, 2))
    | 19 => (0x47, 0xFFFFFFFF) :: (List.range 16).map (fun p => (0xB0 + p, 2))
    | 20 => [(0x48, 0xFFFFFFFF)]
    | 21 => [(0x0B, 1)]
    | 22 => [(0x0B, 2)]
    | 23 => [(0x0C, 1)]
    | 24 => [(0x0C, 2)]
    | 25 => [(0x07, 1)]
    | 26 => [(0x07, 2)]
    | 27 => [(0x01, 1)]
    | 28 => [(0x03, 0xFFFFFFFF)]
    | 29 => [(0x04, 0xFFFFFFFF)]
    | 30 => [(0x0E, 0xFFFFFFFF)]
    | 31 => (0x00, 0xFFFFFFFF) :: (0x01, 8) :: (List.range 64).map (fun p => (0x80 + p, 1))
    | _ => []

/-- A source is pending while any feeding bit is set with its enable (R59). -/
def srcPending (s : State) (src : Nat) : Bool :=
  (s.feeds src).any (fun (page, mask) =>
    decide ((s.word (HDR.EVT page).addr &&& s.word (HDR.EVT_EN page).addr &&& BitVec.ofNat 32 mask) ≠ 0))

/-- The route byte of a source: its target and its MSI vector (R61). -/
def route (s : State) (src : Nat) : Nat × Nat :=
  let b := s.get (EVA.ROUTE_ROUTE src)
  (b % 4, b / 16)

/-- The OR of the pending sources routed to an MSI vector (R63). -/
def vectorPending (s : State) (v : Nat) : Bool :=
  (List.range 96).any (fun src => s.route src == (3, v) && s.srcPending src)

/-- INT_N and SINT_N are asserted while a source routed to them is pending (R62): target 1 or 2. -/
def lineAsserted (s : State) (target : Nat) : Bool :=
  (List.range 96).any (fun src => (s.route src).1 == target && s.srcPending src)

/-- The three summary words EVT_SUM0 to EVT_SUM2 (R60). -/
def evtSum (s : State) (k : Nat) : Word :=
  (List.range 32).foldl (fun w i => if s.srcPending (32 * k + i) then w ||| (1#32 <<< i) else w) 0

/-- The message of a vector: sent, or held while MSI is disabled or the vector is masked (R63). The granted count
reduces the vector (PE_STAT.GRANTED). Which mask bit gates it where fewer than 16 vectors are granted R63 does not say; the model takes
the bit of the routed vector, before the reduction (DESIGN CHOICE, log entry 103). -/
def sendMsi (s : State) (v : Nat) : State :=
  let g := s.get HIF.PE_STAT_GRANTED
  if g = 0 || s.pcieMask.testBit v then { s with hif := { s.hif with msiHeld := s.hif.msiHeld ||| 2 ^ v } }
  else s.emit (.msi (v % g))

/-- Sends the message of every vector whose OR has gone from 0 to 1 between two states (R63). -/
def msiEdges (before after : State) : State :=
  (List.range 16).foldl (fun t v =>
    if !before.vectorPending v && after.vectorPending v then t.sendMsi v else t) after

/-- Whether any source routes to MSI; where none does, no message can follow a change. -/
def msiUsed (s : State) : Bool := (List.range 96).any (fun src => (s.route src).1 == 3)

/-- The hardware sets an EVT bit of a page (R59). -/
def raise (s : State) (page bit : Nat) : State :=
  let t := s.set (HDR.EVT_BIT page bit) 1
  if s.on (HDR.EVT_EN_BIT page bit) && !s.on (HDR.EVT_BIT page bit) && s.msiUsed then msiEdges s t else t

def raiseIf (s : State) (c : Bool) (page bit : Nat) : State := if c then s.raise page bit else s

end State

namespace State

/-- An access error (R42, R64): its address, cause and direction, the count, S27, and ERR of the quad SPI status byte (R35). -/
def accessErr (s : State) (addr cause : Nat) (write : Bool) : State :=
  let s := ((s.set HIF.ERR_ADDR_ADDR (addr % 2 ^ 20)).set HIF.ERR_INFO_CAUSE cause).setB HIF.ERR_INFO_WRITE write
  let s := (s.inc HIF.ERR_CNT).raise 0x01 0
  { s with hif := { s.hif with qsErr := true } }

/-- A rejected write or command: CFG_REJ and the offset (R43, R51). -/
def reject (s : State) (page offs : Nat) : State := (s.setB (HDR.CFG_REJ page) true).set (HDR.REJ_OFFS page) offs

end State

/-! ### Location codes (R21) -/

/-- `subsys` is the subsystem number; the code carries it minus 1. -/
def locCode (die subsys block macro_ cell bit : Nat) : Word :=
  BitVec.ofNat 32 (die * 2 ^ 28 + (subsys - 1) * 2 ^ 24 + block * 2 ^ 19 + macro_ * 2 ^ 14 + cell * 16 + bit)

/-- A fault that no macro or cell narrows down: macro 31, cell 1,023, bit 0. -/
def locBlock (die subsys block : Nat) : Word := locCode die subsys block 31 1023 0

/-! ### Records and the journal (R363 to R367) -/

/-- The slots a record takes (R365). -/
def Payload.slots : Payload → Nat
  | .summary _ => 2
  | _ => 1

namespace State

/-- Slots of the journal in use (R367): a slot is freed only once a data page holds it. -/
def journalUsed (s : State) : Nat := s.journal.foldl (fun k e => k + Payload.slots e.entry.payload) 0
def journalVolatile (s : State) : Nat :=
  s.journal.foldl (fun k e => if e.durable then k else k + Payload.slots e.entry.payload) 0

/-- A record of this unit. UNIT is the strap itself: the register that shows it is cleared by a reset until the next boot. -/
def mkRecord (s : State) (p : Payload) (dw : Nat) : Record where
  unitB := s.boot.unitB
  timeInvalid := !s.on TMR.STAT_RTC_VALID
  unreliable := false
  dw := dw
  time := s.rtc % 2 ^ 48
  rseq := s.get LDG.NEXT_RSEQ
  payload := p

/-- JRNL shows the slots in use and those not yet durable; STAT.FLUSHING that LE has a data page to write (R368, log entry 127). -/
def showJournal (s : State) : State :=
  ((s.set LDG.JRNL_USED s.journalUsed).set LDG.JRNL_VOLATILE s.journalVolatile).setB LDG.STAT_FLUSHING (decide (256 ≤ s.journalUsed))

/-- A record takes the next slots of the journal's ring. -/
def pushJournal (s : State) (r : Record) : State :=
  { s with journal := s.journal ++ [⟨r, false, s.clk32, s.ldg.jnext⟩],
           ldg := { s.ldg with jnext := (s.ldg.jnext + Payload.slots r.payload) % 1024 } }

/-- Accepts a record with the next RSEQ; in a pair it also goes to the partner (R376). -/
def accept (s : State) (p : Payload) (dw : Nat) : State :=
  let r := s.mkRecord p dw
  let s := s.pushJournal r
  let s := s.incWrap LDG.NEXT_RSEQ
  let s := s.showJournal
  if s.pair then s.sendBruvan (.records [r]) else s

/-- A ledger warning cause that newly arises raises LDG.EVT bit 1 and writes an EVENT of code 12 (R381). -/
def warn (s : State) (bit value : Nat) : State :=
  let w := s.get LDG.STAT_WARN
  if w.testBit bit then s else
    let s := s.set LDG.STAT_WARN (w ||| 2 ^ bit)
    let s := s.raise 0x0C 1
    if s.journalUsed + 1 ≤ 1024 then s.accept (.event 12 14 0 (s.get LDG.STAT_WARN) value 0) 8 else s.inc LDG.DROP_CNT

/-- The journal port (R367): a record that finds no free slot is dropped and counted, and the warning of R381 follows. -/
def submit (s : State) (p : Payload) (dw : Nat) : State :=
  if s.journalUsed + Payload.slots p ≤ 1024 then s.accept p dw
  else (s.inc LDG.DROP_CNT).warn 4 (s.get LDG.DROP_CNT + 1)

/-- Writes an EVENT record: code, subsystem number, instance and three arguments (R365). -/
def event (s : State) (code subsys inst a0 a1 a2 dw : Nat) : State := s.submit (.event code subsys inst a0 a1 a2) dw

/-! ### Faults (R21, R22, R365) -/

def faultCount (s : State) (page cause : Nat) : Nat :=
  ((s.faultCnt.find? (fun c => c.1 == 256 * page + cause)).map (·.2)).getD 0

def countFault (s : State) (page cause : Nat) : State :=
  let k := 256 * page + cause
  { s with faultCnt := (k, s.faultCount page cause + 1) :: s.faultCnt.filter (fun c => c.1 != k) }

/-- CTX0 to CTX7 of a FAULT record (R365): `faultReg` is the reporting page's FAULT register. -/
def faultCtx (s : State) (faultReg : Nat) (dw : Option Nat) : List Nat :=
  (match dw with
   | none => [faultReg, 0, 0, 0, 0, 0]
   | some n => [faultReg, s.get (DW.STATE n), s.get (AX.POS (2 * n)), s.get (AX.IQ (2 * n)), s.get (AX.POS (2 * n + 1)),
       s.get (AX.IQ (2 * n + 1))]) ++
  [s.get PWR.TEMP_D_TJ1 + 65536 * s.get PWR.VBAT_AB_VBAT0, s.get PWR.STATE_STATE + 256 * s.get BRV.STAT_ROLE]

/-- Writes a FAULT record and counts the cause on its page. -/
def logFault (s : State) (page cause : Nat) (loc : Word) (kind level faultReg : Nat) (dw : Option Nat) : State :=
  let s := s.countFault page cause
  s.submit (.fault loc kind level cause page (s.faultCount page cause) (s.faultCtx faultReg dw)) (dw.getD 8)

end State

/-- The per-unit bits of R340: SLn.CFG, HEAD_ID_EXP and the pose, FBn.CFG.TERM and SSI_SHARE. -/
def perUnit (w : Nat × Word) : Word :=
  let page := w.1 / 4096
  let off := w.1 % 4096
  if 0x50 ≤ page ∧ page < 0x60 ∧ 0x040 ≤ off ∧ off < 0x068 then w.2
  else if 0x30 ≤ page ∧ page < 0x40 ∧ off = 0x040 then w.2 &&& 0x108
  else 0

def zeroWord (_ : Nat) : Word := 0

/-! ### The committed copy (R228, R340, R383, R464) -/

/-- The constant and the commit word of a bank header (R383). -/
def bankMagic : Word := 0x4F564C54
def bankCommit : Word := 0xA5C3

/-- A bank is valid when the constant, the commit word and the CRC match. -/
def Bank.valid (b : Bank) : Bool := b.magic == bankMagic && b.commit == bankCommit && b.good

namespace State

/-- The bank that STAT.BANK names. -/
def bankHeld (s : State) : Bank := if s.vlt.inB then s.vlt.b else s.vlt.a

/-- The committed value of a word: of the bank in force, with unit B's copy of the per-unit fields on unit B (R340); with no valid bank, of
the delivery image. -/
def committedWord (s : State) (w : Nat × Word) : Word :=
  let b := s.bankHeld
  if !Bank.valid b then regReset w.1 &&& w.2 else
  let pu := perUnit w
  let v := cellGet zeroWord b.cells w.1
  if s.on BRV.STAT_UNITSEL then (v &&& ~~~ pu) ||| (cellGet zeroWord b.unitB w.1 &&& pu) else v

/-- A field of SC's own committed copy (R228). -/
def scGet (s : State) (f : Fld) : Nat := fieldOf (s.committedWord (f.addr, 0xFFFFFFFF)) f.lo f.width
def scGetI (s : State) (f : Fld) : Int := signedOf (s.scGet f) f.width
def scOn (s : State) (f : Fld) : Bool := decide (s.scGet f ≠ 0)

end State

/-! ### Arithmetic of the rules -/

def clampI (lo hi v : Int) : Int := if v < lo then lo else if hi < v then hi else v

/-- Division rounded to the nearest, halves away from zero (R95). -/
def roundDiv (a : Int) (b : Nat) : Int :=
  if 0 ≤ a then (2 * a + b) / (2 * b) else -((2 * (-a) + b) / (2 * b))

/-- Division rounded up. -/
def ceilDiv (a b : Nat) : Nat := (a + b - 1) / b

/-- Signed difference of two 32-bit counts that wrap. -/
def wrapDiff (a b : Nat) : Int := signedOf ((a + 2 ^ 32 - b % 2 ^ 32) % 2 ^ 32) 32

/-- Little-endian bytes of a number. -/
def leBytes : Nat → Nat → List Byte
  | 0, _ => []
  | k + 1, v => BitVec.ofNat 8 v :: leBytes k (v / 256)

def ofLeBytes : List Byte → Nat
  | [] => 0
  | b :: t => b.toNat + 256 * ofLeBytes t

end Sys2Proof.Machine
end

