-- ==== Sys2Proof/Machine/Operands.lean ====
section
/-! DEFINITION. How the rules read their operands: doorway roles and maps (R66), the fields of a recipe step (R84), the states that
registers code as numbers (R73, R93, R130), the positions and scalings of an axis (R95), and the shunt and unit conversions. -/

namespace Sys2Proof.Machine

/-! ### Codes -/

def DwOp.code : DwOp → Nat
  | .opn => 1
  | .close => 2
  | .closeWait => 3
  | .stop => 4
  | .isolate => 5
  | .restore => 6
  | .home => 7
  | .learn => 8
  | .testCycle => 9

def DwOp.ofCode : Nat → Option DwOp
  | 1 => some .opn
  | 2 => some .close
  | 3 => some .closeWait
  | 4 => some .stop
  | 5 => some .isolate
  | 6 => some .restore
  | 7 => some .home
  | 8 => some .learn
  | 9 => some .testCycle
  | _ => none

def CmdSrc.code : CmdSrc → Nat
  | .host => 0
  | .telegram => 1
  | .dcl => 2
  | .sideRel => 3
  | .button => 4
  | .internal => 5

/-- The ranking of R77; STOP from any source is 0. -/
def CmdSrc.rank : CmdSrc → Nat
  | .dcl => 1
  | .sideRel => 2
  | .telegram => 3
  | .button => 4
  | .host => 5
  | .internal => 6

/-- The doorway states (R73). -/
inductive DwState where
  | unknown | closedLocked | unlocking | opening | opn | closing | reopening | closedUnlocked
  | locking | held | isolated | egress | manual | fault | homing | learning
deriving DecidableEq, Repr

def DwState.code : DwState → Nat
  | .unknown => 0
  | .closedLocked => 1
  | .unlocking => 2
  | .opening => 3
  | .opn => 4
  | .closing => 5
  | .reopening => 6
  | .closedUnlocked => 7
  | .locking => 8
  | .held => 9
  | .isolated => 10
  | .egress => 11
  | .manual => 12
  | .fault => 13
  | .homing => 14
  | .learning => 15

def DwState.ofCode : Nat → DwState
  | 1 => .closedLocked
  | 2 => .unlocking
  | 3 => .opening
  | 4 => .opn
  | 5 => .closing
  | 6 => .reopening
  | 7 => .closedUnlocked
  | 8 => .locking
  | 9 => .held
  | 10 => .isolated
  | 11 => .egress
  | 12 => .manual
  | 13 => .fault
  | 14 => .homing
  | 15 => .learning
  | _ => .unknown

/-- The step states (R93). -/
inductive StepState where
  | retractedLocked | extending | extended | retracting | homing | isolated | fault
deriving DecidableEq, Repr

def StepState.code : StepState → Nat
  | .retractedLocked => 0
  | .extending => 1
  | .extended => 2
  | .retracting => 3
  | .homing => 4
  | .isolated => 5
  | .fault => 6

def StepState.ofCode : Nat → StepState
  | 1 => .extending
  | 2 => .extended
  | 3 => .retracting
  | 4 => .homing
  | 5 => .isolated
  | 6 => .fault
  | _ => .retractedLocked

/-- The sections of a recipe (SECT.SECTION). -/
inductive Section where
  | none | opn | close | reopen | home | testDwell
deriving DecidableEq, Repr

def Section.code : Section → Nat
  | .none => 0
  | .opn => 1
  | .close => 2
  | .reopen => 3
  | .home => 4
  | .testDwell => 5

def Section.ofCode : Nat → Section
  | 1 => .opn
  | 2 => .close
  | 3 => .reopen
  | 4 => .home
  | 5 => .testDwell
  | _ => .none

namespace State

def dwState (s : State) (n : Nat) : DwState := DwState.ofCode (s.get (DW.STATE_DW_STATE n))
def stepState (s : State) (n : Nat) : StepState := StepState.ofCode (s.get (DW.STATE_STEP_STATE n))
def sect (s : State) (n : Nat) : Section := Section.ofCode (s.get (DW.SECT_SECTION n))

/-! ### Inputs and loads by role (R66) -/

/-- The filtered level of a discrete input, after the DIN.INV in use (R254); it goes on while the DIN page is disabled (R271). -/
def diLevel (s : State) (di : Nat) : Bool := s.diFilt.getLsbD di != s.diInv.getLsbD di
def diSafe (s : State) (di : Nat) : Bool := (s.get (DIN.SAFE (di / 32))).testBit (di % 32)

/-- The input a role is mapped to; 0xFF is absent. -/
def roleDi (s : State) (n role : Nat) : Option Nat :=
  let v := s.get (DW.DIMAP_D n role)
  if v < 64 then some v else none

/-- An absent input is inactive (R66). -/
def role (s : State) (n r : Nat) : Bool := ((s.roleDi n r).map s.diLevel).getD false

def closedIn (s : State) (n : Nat) : Bool := s.role n 0
def lockedIn (s : State) (n : Nat) : Bool := s.role n 1

/-- The channel a load role is mapped to. -/
def roleLs (s : State) (n role : Nat) : Option Nat :=
  let v := s.get (DW.LSMAP_L n role)
  if v < 48 then some v else none

/-- The channel is the lock of a doorway in SC's committed copy, load role L2. -/
def isLock (s : State) (c : Nat) : Bool := (List.range 8).any (fun n => s.scGet (DW.LSMAP_L n 2) == c)

/-- SC alone drives the channel: the committed copy of the die says so (R294, R310), or it is a lock channel, which SC holds whether or
not it is so marked (R229, log entry 118). -/
def chSafe (s : State) (c : Nat) : Bool := (s.die[fin4 (c / 12)].safe).testBit (c % 12) || s.isLock c

/-! ### Positions of an axis (R95, R96) -/

/-- A quantity of the axis's port with the sign of DIR_INV (R95); 0 on an axis that uses no port (R133). -/
def axSigned (s : State) (ax : Nat) (f : Nat → Int) : Int :=
  match s.portOf ax with
  | none => 0
  | some p => if s.on (AX.CFG_DIR_INV ax) then -f p else f p

/-- The count of the axis's port with the sign of DIR_INV. -/
def axCount (s : State) (ax : Nat) : Int := s.axSigned ax (fun p => s.getI (FB.COUNT p))

def axNum (s : State) (ax : Nat) : Int := s.get (AX.SCALE_NUM ax)
def axDen (s : State) (ax : Nat) : Nat := s.get (AX.SCALE_DEN ax)

/-- The position of R95, in 0.01 mm. -/
def axPos (s : State) (ax : Nat) : Int :=
  s.getI (AX.POS_OFS ax) + roundDiv (s.axCount ax * s.axNum ax) (s.axDen ax)

/-- A commanded position in 1/256 count as a position, and back. -/
def ofQ (s : State) (ax : Nat) (q : Int) : Int :=
  s.getI (AX.POS_OFS ax) + roundDiv (q * s.axNum ax) (256 * s.axDen ax)
def toQ (s : State) (ax : Nat) (p : Int) : Int :=
  roundDiv ((p - s.getI (AX.POS_OFS ax)) * 256 * s.axDen ax) (s.get (AX.SCALE_NUM ax))

/-- The speed of the axis from the port's observer, 1/16 count/s to 0.1 mm/s (R95, R146). -/
def axSpeed (s : State) (ax : Nat) : Int :=
  roundDiv (s.axSigned ax (fun p => s.getI (FB.SPEED p)) * s.axNum ax) (160 * s.axDen ax)

/-- The observer's position between two inputs, in 1/256 count from COUNT: projected with its speed over the time that the ticks have
counted since the last input (R138, R146); COUNT itself while the port reports STILL or SETTLING. -/
def interp (s : State) (p : Nat) : Int :=
  if s.on (FB.STAT_STILL p) || s.on (FB.STAT_SETTLING p) then 0
  else s.fb[fin16 p].obsOff + roundDiv (s.getI (FB.SPEED p) * s.fb[fin16 p].obsAge) 6250000

/-- The measured position in 1/256 count and the measured speed in 1/256 of 0.1 mm/s, which the loops work with (R95). -/
def axPosQ (s : State) (ax : Nat) : Int := s.axSigned ax (fun p => 256 * s.getI (FB.COUNT p) + s.interp p)
def axSpeedQ (s : State) (ax : Nat) : Int :=
  roundDiv (s.axSigned ax (fun p => s.getI (FB.SPEED p)) * s.axNum ax * 8) (5 * s.axDen ax)

/-- A bit of a pair of registers with one bit per input. -/
def bitFld (base di : Nat) : Fld := ⟨base + 4 * (di / 32), di % 32, 1⟩

/-- LEVEL, RAW and CHG of an input take its present level; CHG raises CHANGE under CHG_EN (R271). -/
def showDi (s : State) (di : Fin 64) : State :=
  let lev := s.diLevel di
  let fl := bitFld (DIN.LEVEL 0).addr di
  let fc := bitFld (DIN.CHG 0).addr di
  let s := s.setB (bitFld (DIN.RAW 0).addr di) (s.diFilt.getLsbD di)
  if s.on fl == lev then s else
    let rise := !s.on fc && s.on (bitFld (DIN.CHG_EN 0).addr di)
    ((s.setB fl lev).setB fc true).raiseIf rise 0x0E 0

/-- The level of an input at its comparator. -/
def setRaw (s : State) (di : Fin 64) (b : Bool) : State :=
  { s with diRaw := if b then s.diRaw ||| (1#64 <<< di.val) else s.diRaw &&& ~~~ (1#64 <<< di.val) }

/-- The filtered level of an input (R254); LEVEL, RAW and CHG follow while DIN is enabled (R271). -/
def passLevel (s : State) (di : Fin 64) (level : Bool) : State :=
  let m := 1#64 <<< di.val
  let s := { s with diFilt := if level then s.diFilt ||| m else s.diFilt &&& ~~~ m, diCnt := s.diCnt.set di 0 }
  if s.ready && s.pageOn 0x0E then s.showDi di else s

/-- The filter of an input starts again from the raw level, as its switch die does (R254). -/
def restartFilter (s : State) (di : Fin 64) : State := s.passLevel di (s.diRaw.getLsbD di)
def restartFilters (s : State) (dis : List (Fin 64)) : State := dis.foldl (fun (s : State) (i : Fin 64) => s.restartFilter i) s

/-- The reference ends of an axis: the closed or retracted end, and the open or extended end (R110). -/
def endClosed (s : State) (ax : Fin 16) : Int :=
  if isStep ax then s.getI (DW.STEP_RET_POS (doorwayOf ax)) else s.getI (DW.DOOR_CLOSED_POS (doorwayOf ax))
def endOpen (s : State) (ax : Fin 16) : Int :=
  if isStep ax then s.getI (DW.STEP_EXT_POS (doorwayOf ax)) else s.getI (DW.DOOR_OPEN_POS (doorwayOf ax))

/-- The sign of the closing direction: towards the closed end, decreasing where the two ends are equal (R110). -/
def closeDir (s : State) (ax : Fin 16) : Int := if s.endOpen ax < s.endClosed ax then 1 else -1

/-- Counts per electrical revolution; none where it is not whole (R96). -/
def cpe (s : State) (ax : Nat) : Option Nat :=
  let pp := s.get (AX.CFG_POLE_PAIRS ax)
  let cpr := s.get (AX.CNT_PER_REV ax)
  if cpr % 2 ^ 24 % pp = 0 then some (cpr % 2 ^ 24 / pp) else none

/-- The angle in 1/65,536 revolution that a movement of the count stands for (R96). -/
def angleOf (s : State) (ax : Nat) (c : Int) : Int := c * 65536 / ((s.cpe ax).getD 1 : Int)

/-- The electrical angle of a brushless axis in 1/65,536 revolution (R96). Of a quadrature port ELEC_OFFS plus the count since the
index; before the first index the angle that an alignment found at count 0 (R97). Of a Hall port the centre of the sector, sectors
beginning at angle 0, plus the interpolation from the port's own speed within ±30°. Of an SSI port the absolute position and ELEC_OFFS.
Counts are taken with the sign of DIR_INV, a sector and the interpolation inside it are not (log entry 111). -/
def elecAngle (s : State) (ax : Fin 16) : Nat :=
  let offs : Int := s.get (AX.ELEC_ELEC_OFFS ax)
  let p := s.get (AX.CFG_FB_SEL ax)
  let a : Int := match s.get (FB.CFG_TYPE p) with
    | 0 =>
      if s.ax[ax].elecPend then s.ax[ax].angle0 + s.angleOf ax (s.axCount ax)
      else offs + s.angleOf ax (s.axCount ax - s.axSigned ax (fun p => s.getI (FB.IDX_POS p)))
    | 1 =>
      let i := clampI (-5461) 5461 (s.interp p * 65536 / 1536)
      (s.fb[fin16 p].hallSec.getD 0 : Int) * 65536 / 6 + 5461 + (if s.on (FB.STAT_STILL p) then 0 else i)
    | _ => offs + s.angleOf ax (s.axCount ax)
  (a % 65536).toNat

/-- The shunt amplifier gain of SHUNT_GAIN (R130). -/
def shuntGain (s : State) (ax : Nat) : Nat := 5 * 2 ^ s.get (AX.CFG_SHUNT_GAIN ax)

/-- The shunt full scale 1.65 V / (gain × SHUNT_R) in mA, rounded down (R120). -/
def shuntFullScale (s : State) (ax : Nat) : Nat := 1650000000 / (s.shuntGain ax * max 1 (s.get (AX.SHUNT_R_R ax)))

end State

/-! ### Recipe steps (R84) -/

/-- A decoded recipe step. -/
structure Step where
  op : Nat
  step : Bool
  nw : Bool
  res : Nat
  a : Nat
  b : Nat
  c : Word
deriving DecidableEq, Repr

def stepOfWords (w0 w1 : Word) : Step where
  op := fieldOf w0 0 4
  step := fieldOf w0 4 1 == 1
  nw := fieldOf w0 5 1 == 1
  res := fieldOf w0 6 2
  a := fieldOf w0 8 8
  b := fieldOf w0 16 16
  c := w1

def State.recipeStep (s : State) (n i : Nat) : Step :=
  stepOfWords (s.word (DW.RECIPE n (2 * i)).addr) (s.word (DW.RECIPE n (2 * i + 1)).addr)

/-- Operand C as a signed position. -/
def Step.pos (t : Step) : Int := t.c.toInt

/-- The axis a step names. -/
def Step.axis (t : Step) (n : Fin 8) : Fin 16 := if t.step then stepAxis n else doorAxis n

/-- Whether a step can enter a wait (R85, R86). -/
def Step.waits (t : Step) : Bool := (t.op == 1 && !t.nw) || t.op == 2 || (5 ≤ t.op && t.op ≤ 8)

end Sys2Proof.Machine
end

