-- ==== Sys2Proof/Machine/Motion.lean ====
section
/-! DEFINITION. Axis drives: faults of an axis (R123 to R125), motion profiles and the trajectory of a tick (R98 to R104), the end
of a motion, following error and stall (R105 to R108), homing (R110), the position and speed loops (R112), and the meanings of the
commands of "Motion Profiles and Axis Drives". -/

namespace Sys2Proof.Machine


namespace State

/-! ### Axis faults (R123 to R126) -/

/-- The reservation of an axis ends (R319). One that a further motion has taken over at its admission stays (R319): the motion is admitted
and waits for its start. -/
def release (s : State) (ax : Fin 16) : State :=
  if s.ax[ax].adm == .granted && (s.ax[ax].want).isSome then s else
    { s with pan := { s.pan with resv := s.pan.resv.filter (fun r => r.1 != ax.val) } }

/-- The request of an axis to the pantry is withdrawn with the motion that it was made for. -/
def dropReq (s : State) (ax : Fin 16) : State :=
  { s with pan := { s.pan with reqs := s.pan.reqs.filter (fun r => r.ax != ax.val) } }

/-- A motion waits for its start in place of any other of the axis. -/
def setWant (s : State) (ax : Fin 16) (w : Want) : State :=
  (s.dropReq ax).modAx ax (fun e => { e with want := some w, adm := .none })

/-- The first motion after enable or CLR has ended: R151 judges no later one. -/
def firstOver (x : Option (Nat × Int)) : Option (Nat × Int) := x.map (fun y => (2500, y.2))

/-- The motion of an axis is over: nothing moves, the commanded speed is 0, the reservation is released. -/
def haltAxis (s : State) (ax : Fin 16) : State :=
  let s := s.modAx ax (fun e => { e with
      moving := false, trajDone := false, velQ := 0, stopAt := none, plan := none, beyond := false, travelOut := false,
      limit := 0, closing := false, parked := none, want := none,
      adm := .none, inPosT := 0, endT := 0, stallT := 0, ferrT := 0, integ := 0, firstFrom := firstOver e.firstFrom })
  (((s.setI (AX.SPEED_CMD ax) 0).setB (AX.STAT_LIMITED ax) false).dropReq ax).release ax

/-- The gates of an axis go off: its start sequence has to run again (R127), and AX_STATE is DISABLED until READY or FAULT (R130). -/
def gatesOff (s : State) (ax : Fin 16) : State :=
  let s := (s.haltAxis ax).modAx ax (fun e => { e with start := .off })
  if s.get (AX.STAT_AX_STATE ax) = 5 then s else s.set (AX.STAT_AX_STATE ax) 0

/-- The gate die of an axis. -/
def gateDie (ax : Fin 16) : Fin 2 := ⟨ax / 8, by omega⟩

/-- The six gate lines of an axis (R106, R115, R126 to R128): at high impedance in reset, until the end of boot, without a heartbeat,
with VGD below 5 V, on a unit that is not ACTIVE, and while an incoming unit waits for the bridge; otherwise low unless the axis has
its gate enable and is past its offset measurement. In a precharge the low sides are on and nothing switches. With I_HOLD = 0 the gates
are off between motions. A unit that hands over has released them from T_H on (R128, R352). -/
def gateOut (s : State) (ax : Fin 16) : GateOut :=
  let e := s.ax[ax]
  let vgd := s.boot.vgd[gateDie ax]
  if s.boot.resetLow || !s.ready || !s.boot.gAlive[gateDie ax] || vgd == .dead || !s.active || s.par.overlap ||
      (e.start == .ready && !s.on (AX.STAT_OWNED ax)) then .highZ
  else if !s.on (AX.STAT_GATE_EN ax) || vgd == .low || e.start == .off || e.start == .measuring then .low
  else if e.start == .precharge then .lowSides
  else if !e.moving && s.get (AX.I_HOLD_HOME_I_HOLD ax) == 0 then .low
  else .driven

/-- STAT.GATE_EN, which SC sets and takes away; any change raises EVT bit 5 (R130). -/
def setGateEn (s : State) (ax : Fin 16) (b : Bool) : State :=
  if s.on (AX.STAT_GATE_EN ax) == b then s else
    let s := (s.setB (AX.STAT_GATE_EN ax) b).raise (pgAX ax) 5
    if b then s else s.gatesOff ax

/-- CLK32 edges in 24 hours (R124). -/
def day32 : Nat := 86400 * 32768

/-- The die and the block of an axis's gate-die faults (R125). -/
def gateLoc (ax : Fin 16) (macro_ cell : Nat) : Word := locCode (1 + ax / 8) 2 (ax % 8) macro_ cell 0
def driveLoc (ax : Fin 16) (macro_ : Nat) : Word := locCode 0 2 ax macro_ 1023 0

def phaseNo : Phase → Nat
  | .u => 0
  | .v => 1
  | .w => 2

/-- ACTIVE right after a fault is recorded (R123, R124): causes 5, 6, 10, 11 and 14 persist; causes 1 to 3 are events until the
third within 24 hours. -/
def axisFaultActive (cause : Nat) (latched : Bool) : Bool :=
  cause == 5 || cause == 6 || cause == 10 || cause == 11 || cause == 14 || (latched && 1 ≤ cause && cause ≤ 3)

/-- An axis fault (R123): gates off, AX_STATE FAULT, EVT.FAULT, FAULT and FAULT_LOC, a FAULT record by the doorway's engine. A fault
whose ACTIVE is 1 stays in FAULT and FAULT_LOC under a later one of another cause, which is recorded (R124). -/
def axisFault (s : State) (ax : Fin 16) (cause : Nat) (loc : Word) : State :=
  let recent := (s.ax[ax].hits).filter (fun t => decide (s.clk32 < t + day32))
  let hits := if 1 ≤ cause ∧ cause ≤ 3 then s.clk32 :: recent else recent
  let s := s.modAx ax (fun e => { e with
      hits := hits, latched := e.latched || decide (3 ≤ hits.length), offsetBad := e.offsetBad || cause == 6, firstFrom := none })
  let s := s.gatesOff ax
  let s := s.set (AX.STAT_AX_STATE ax) 5
  let s := if s.on (AX.FAULT_ACTIVE ax) && s.get (AX.FAULT_CAUSE ax) != cause then s else
    (s.set (AX.FAULT ax) (cause + 256 * (axisFaultActive cause s.ax[ax].latched).toNat)).set (AX.FAULT_LOC ax) loc.toNat
  let s := s.raise (pgAX ax) 2
  s.logFault (pgAX ax) cause loc 2 0 (s.get (AX.FAULT ax)) (some (doorwayOf ax))

/-- The condition of a cause is over: ACTIVE falls (R124). -/
def axisInactive (s : State) (ax : Fin 16) (cause : Nat) : State :=
  if s.get (AX.FAULT_CAUSE ax) = cause then s.setB (AX.FAULT_ACTIVE ax) false else s

/-- The persistent conditions that the gate die and the last offset measurement report of an axis, as causes with their locations
(R123). -/
def standing (s : State) (ax : Fin 16) : List (Nat × Word) :=
  (if s.boot.vgd[gateDie ax] == .good then [] else [(5, gateLoc ax 31 1023)]) ++
  (if s.boot.gAlive[gateDie ax] then [] else [(11, driveLoc ax 31)]) ++
  (if s.ax[ax].offsetBad then [(6, driveLoc ax 2)] else [])

/-- A clear (R124) acts only while ACTIVE = 0. The axis then waits for its start sequence; what still stands is a fault again at once. -/
def clearAxis (s : State) (ax : Fin 16) : State :=
  if s.get (AX.FAULT_CAUSE ax) = 0 ∨ s.on (AX.FAULT_ACTIVE ax) then s else
    let s := (s.set (AX.FAULT ax) 0).set (AX.FAULT_LOC ax) 0
    let s := s.set (AX.STAT_AX_STATE ax) 0
    let s := s.modAx ax (fun e => { e with start := if s.on (AX.STAT_GATE_EN ax) && s.pageOn (pgAX ax) then .measuring else .off })
    match s.standing ax with
    | [] => s
    | (c, loc) :: _ => s.axisFault ax c loc

/-- The axis has reached READY (R127) and holds where it stands; a motion under way in a takeover goes on from the present position
and speed (R129). -/
def axisReady (s : State) (ax : Fin 16) : State :=
  let q := s.axPosQ ax
  let v := s.axSpeedQ ax
  let s := s.modAx ax (fun e => { e with start := .ready, posQ := q, velQ := if e.moving then v else 0, plan := none })
  let s := s.setB (AX.STAT_OWNED ax) true
  if s.ax[ax].moving then s else (s.set (AX.STAT_AX_STATE ax) 1).setI (AX.TARGET ax) (s.axPos ax)

/-! ### Position references (R70, R95, R110) -/

/-- POS_OFS is set so that the position equals the reference at this instant (R95). -/
def loadRef (s : State) (ax : Fin 16) (ref : Int) : State :=
  let s := s.setI (AX.POS_OFS ax) (ref - roundDiv (s.axCount ax * s.axNum ax) (s.axDen ax))
  let s := s.modAx ax (fun e => { e with posValid := true, posQ := s.axPosQ ax })
  let s := s.setI (AX.POS ax) ref
  if isStep ax then s.setI (DW.STEP_POS (doorwayOf ax)) ref
  else (s.setI (DW.DOOR_POS (doorwayOf ax)) ref).setB (DW.STATE_POS_VALID (doorwayOf ax)) true

/-! ### Limits of speed (R99, R217) -/

/-- The six fields of a profile set: VSTART, VSTOP, VMAX, A_ACC, A_DEC, CREEP_DIST. -/
def profFld (ax : Nat) (up : Bool) (k : Nat) : Fld :=
  ⟨(if up then (AX.PROF0_VSTART ax).addr else (AX.PROF1_VSTART ax).addr) + 4 * k, 0, 16⟩

/-- A profile field in use: while PROF_CTRL.HOLD = 1 the value held when HOLD was set (R103). -/
def prof (s : State) (ax : Fin 16) (up : Bool) (k : Nat) : Nat :=
  let i := (if up then 0 else 6) + k
  if s.on (AX.PROF_CTRL_HOLD ax) then fieldOf (s.ax[ax].held.getD i 0) 0 16 else s.get (profFld ax up k)

/-- The porch-related and degraded limits of a closing motion of the door axis (R99). -/
def closingLimits (s : State) (n : Nat) : List Nat :=
  let degr := s.get (DW.DEGR n)
  (if degr.testBit 0 then [] else [s.get (DW.V_CAP_CAP n)]) ++
  (if s.on (DW.STATE_WAITING n) || degr.testBit 2 || degr.testBit 3 || degr.testBit 4 then [s.get (DW.V_WAIT_SPEED n)] else [])

/-- A motion of the door axis towards its closed end, a homing to that end among them (R99). -/
def closesDoor (s : State) (ax : Fin 16) : Bool :=
  let e := s.ax[ax]
  !isStep ax && (e.closing || match e.kind with
    | .home dir1 => !dir1
    | _ => false)

/-- The motion of the axis is a HOME. -/
def homing (s : State) (ax : Fin 16) : Bool :=
  match s.ax[ax].kind with
  | .home _ => true
  | _ => false

/-- VM, the lowest limit of R99, and whether a limit other than VMAX is the lowest. -/
def vmOf (s : State) (ax : Fin 16) (up : Bool) : Nat × Bool :=
  let e := s.ax[ax]
  let vmax := s.prof ax up 2
  let others := (if e.limit = 0 then [] else [e.limit]) ++
    (if s.closesDoor ax then s.closingLimits (doorwayOf ax) else []) ++
    (if s.homing ax then [s.get (AX.V_HOME ax)] else [])
  let m := others.foldl min vmax
  (m, decide (m < vmax))

/-- What a motion in a direction is planned with at this tick (R98, R99); a HOME starts without VSTART and creeps nowhere (R110). -/
def planOf (s : State) (ax : Fin 16) (up : Bool) : Plan :=
  let vm := (s.vmOf ax up).1
  { vm := vm, vstart := if s.homing ax then 0 else min (s.prof ax up 0) vm, vstop := if s.homing ax then vm else min (s.prof ax up 1) vm,
    acc := max 1 (s.prof ax up 3), dec := max 1 (s.prof ax up 4), creep := if s.homing ax then 0 else s.prof ax up 5 }

/-! ### The trajectory of one tick (R98, R101, R102) -/

/-- The change of commanded speed in one tick at an acceleration in mm/s², in 1/256 of 0.1 mm/s, and what rounding leaves for the next
tick, so that it does not accumulate (R100). -/
def speedStep (s : State) (ax : Fin 16) (a : Nat) : Nat × Nat :=
  let x := 64 * a + s.ax[ax].velR
  (x / 125, x % 125)

/-- The path of one tick between two commanded speeds, in 1/256 count, and what rounding leaves for the next tick (R100). -/
def pathStep (s : State) (ax : Fin 16) (v0 v1 : Nat) : Nat × Nat :=
  let den := 1000 * max 1 (s.get (AX.SCALE_NUM ax))
  let x := (v0 + v1) * s.axDen ax + s.ax[ax].posR
  (x / den, x % den)

/-- A distance in 0.01 mm as 1/256 count. -/
def distQ (s : State) (ax : Fin 16) (d : Nat) : Nat := ceilDiv (d * 256 * s.axDen ax) (max 1 (s.get (AX.SCALE_NUM ax)))

/-- The stopping distance (v² − VSTOP′²) / (2 × A_DEC) in 1/256 count for v in 1/256 of 0.1 mm/s (R101). -/
def stopDist (s : State) (ax : Fin 16) (p : Plan) (v : Nat) : Nat :=
  ceilDiv ((v * v - 65536 * p.vstop * p.vstop) * s.axDen ax) (512 * p.dec * max 1 (s.get (AX.SCALE_NUM ax)))

/-- The axis moves for one tick in a direction, from one commanded speed to another, which an acceleration in mm/s² changes. -/
def moveStep (s : State) (ax : Fin 16) (d : Int) (v0 v1 a : Nat) : State :=
  let x := s.pathStep ax v0 v1
  let r := (s.speedStep ax a).2
  s.modAx ax (fun e => { e with posQ := e.posQ + d * (x.1 : Int), velQ := d * (v1 : Int), posR := x.2, velR := r })

/-- The trajectory ends at the target (R100). -/
def arrive (s : State) (ax : Fin 16) (q : Int) : State :=
  s.modAx ax (fun e => { e with posQ := q, velQ := 0, posR := 0, velR := 0, trajDone := true, endT := 0, inPosT := 0 })

/-- The commanded speed has reached 0 in a stop: the target becomes this position (R102). -/
def stopReached (s : State) (ax : Fin 16) : State :=
  let s := s.modAx ax (fun e => { e with velQ := 0, stopAt := none, trajDone := true, endT := 0, inPosT := 0 })
  (s.setI (AX.TARGET ax) (s.ofQ ax s.ax[ax].posQ)).release ax

/-- A tick of a stop: the commanded speed falls at a deceleration (R102). -/
def stopTick (s : State) (ax : Fin 16) (a : Nat) : State :=
  let v := s.ax[ax].velQ
  let v' := v.natAbs - (s.speedStep ax (max 1 a)).1
  let s := s.moveStep ax (if v < 0 then -1 else 1) v.natAbs v' (max 1 a)
  if v' = 0 then s.stopReached ax else s

/-- A tick of a motion that first comes to rest, because its target lies against the direction of travel or nearer than the stopping
distance; from rest it is planned anew (R101). -/
def turnTick (s : State) (ax : Fin 16) : State :=
  let v := s.ax[ax].velQ
  let a := max 1 (s.prof ax (decide (0 ≤ v)) 4)
  let v' := v.natAbs - (s.speedStep ax a).1
  let s := s.moveStep ax (if v < 0 then -1 else 1) v.natAbs v' a
  if v' = 0 then s.modAx ax (fun e => { e with beyond := false, plan := none }) else s

/-- The speed at the end of a tick, and the acceleration that leads to it, of a motion at `d` from its target (R98): creep within
CREEP_DIST, acceleration and then cruise while the ramp down to VSTOP′ still fits before CREEP_DIST, otherwise that ramp. -/
def nextSpeed (s : State) (ax : Fin 16) (p : Plan) (d v : Nat) : Nat × Nat :=
  let creep := s.distQ ax p.creep
  let slower := v - (s.speedStep ax p.dec).1
  let faster := min (v + (s.speedStep ax p.acc).1) (256 * p.vm)
  let fits (v1 : Nat) : Bool := decide (s.stopDist ax p v1 + creep + (s.pathStep ax v v1).1 ≤ d)
  if d ≤ creep then (max slower (256 * p.vstop), p.dec)
  else if 256 * p.vm < v then (max slower (256 * p.vm), p.dec)
  else if fits faster then (faster, p.acc)
  else if v ≠ 0 ∧ fits v = true then (v, p.dec)
  else (max slower (256 * p.vstop), p.dec)

/-- The speed of a HOME, which only approaches V_HOME (R110). -/
def creepSpeed (s : State) (ax : Fin 16) (p : Plan) (v : Nat) : Nat × Nat :=
  if 256 * p.vm < v then (max (v - (s.speedStep ax p.dec).1) (256 * p.vm), p.dec)
  else (min (v + (s.speedStep ax p.acc).1) (256 * p.vm), p.acc)

/-- A HOME has reached its travel limit: it stops at A_DEC (R102, R110). -/
def travelEnds (s : State) (ax : Fin 16) (a : Nat) : State :=
  s.modAx ax (fun e => { e with stopAt := some a, travelOut := true })

/-- A tick towards the target. A replan raises the speed to VSTART′ where the ramps fit, or finds that the axis has to come to rest
first (R101). -/
def goTick (s : State) (ax : Fin 16) (tq : Int) : State :=
  let e := s.ax[ax]
  let v := e.velQ.natAbs
  let toward : Int := if tq < e.posQ then -1 else 1
  let against := v ≠ 0 ∧ (if e.velQ < 0 then (-1 : Int) else 1) ≠ toward
  let p := s.planOf ax (toward == 1)
  let replan := e.plan ≠ some p
  let s := (s.setB (AX.STAT_LIMITED ax) (s.vmOf ax (toward == 1)).2).modAx ax (fun e => { e with plan := some p })
  let d := (tq - e.posQ).natAbs
  if replan ∧ (against ∨ d < s.stopDist ax p v) then (s.modAx ax (fun e => { e with beyond := true })).turnTick ax else
    let v0 := if replan ∧ s.distQ ax p.creep < d ∧ s.stopDist ax p v + s.distQ ax p.creep ≤ d then max v (256 * p.vstart) else v
    let x := if s.homing ax then s.creepSpeed ax p v0 else s.nextSpeed ax p d v0
    if d ≤ (s.pathStep ax v0 x.1).1 then
      if s.homing ax then (s.moveStep ax toward v0 x.1 x.2).travelEnds ax p.dec else s.arrive ax tq
    else s.moveStep ax toward v0 x.1 x.2

/-- One tick of a motion's trajectory: a stop (R102), the way to rest, or the way to the target (R98, R101). -/
def trajTick (s : State) (ax : Fin 16) : State :=
  let e := s.ax[ax]
  if !e.moving || e.trajDone then s else
  match e.stopAt with
  | some a => s.stopTick ax a
  | none => if e.beyond then s.turnTick ax else s.goTick ax (s.toQ ax (s.getI (AX.TARGET ax)))

/-! ### Position and speed loops (R112) -/

/-- The present current limit (R106, R110, R114). -/
def currentLimit (s : State) (ax : Fin 16) : Nat :=
  let e := s.ax[ax]
  let iMax := if e.i2tOn then min (s.get (AX.I_LIMIT_I_CONT ax)) (s.get (AX.I_LIMIT_I_MAX ax)) else s.get (AX.I_LIMIT_I_MAX ax)
  if e.moving then
    match e.kind with
    | .home _ => min iMax (s.get (AX.I_HOLD_HOME_I_HOME ax))
    | .align => min iMax (s.get (AX.I_HOLD_HOME_I_HOME ax))
    | _ => iMax
  else min iMax (s.get (AX.I_HOLD_HOME_I_HOLD ax))

/-- The inertia feed-forward of the effort model in mA, for a change of commanded speed in one tick in 1/256 of 0.1 mm/s (R112,
R166). -/
def inertiaFf (s : State) (ax : Fin 16) (dv : Int) : Int :=
  let n := doorwayOf ax
  let kf := if isStep ax then s.get (DW.KF_STEP n) else s.get (DW.KF_DOOR n)
  let m := if isStep ax then s.get (DW.M_C_STEP_M_EQ n) else s.get (DW.M_C_DOOR_M_EQ n)
  if kf = 0 then 0 else roundDiv (m * dv * 500) (256 * kf)

/-- The position loop and the speed loop's proportional part in 1/256 of their units (R95, R112): the speed error. -/
def speedError (s : State) (ax : Fin 16) : Int :=
  let e := s.ax[ax]
  e.velQ + roundDiv ((e.posQ - s.axPosQ ax) * s.get (AX.KP_POS_KP ax) * s.axNum ax) (100 * s.axDen ax) - s.axSpeedQ ax

/-- The outer loops of one tick: POS_CMD, SPEED_CMD, IQ_CMD and STAT.I_LIMITED (R112). They demand a current only while the gates
switch and no alignment runs. -/
def loopTick (s : State) (ax : Fin 16) (velBefore : Int) : State :=
  let e := s.ax[ax]
  let s := (s.setI (AX.POS_CMD ax) (s.ofQ ax e.posQ)).setI (AX.SPEED_CMD ax) (roundDiv e.velQ 256)
  if s.gateOut ax != .driven || (e.moving && e.kind == .align) then
    ((s.setI (AX.IQ_CMD ax) 0).setB (AX.STAT_I_LIMITED ax) e.i2tOn).modAx ax (fun e => { e with integ := 0 })
  else
    let kpErr := s.get (AX.KP_SPD_KP ax) * s.speedError ax
    let integ := e.integ + kpErr * s.get (AX.KI_SPD_KI ax)
    let raw := roundDiv kpErr 256000 + roundDiv integ 1280000000 + s.inertiaFf ax (e.velQ - velBefore)
    let lim : Int := s.currentLimit ax
    let iq := clampI (-lim) lim raw
    let s := s.setI (AX.IQ_CMD ax) iq
    let s := s.setB (AX.STAT_I_LIMITED ax) (decide (iq ≠ raw) || e.i2tOn)
    if iq = raw then s.modAx ax (fun e => { e with integ := integ }) else s

/-! ### The mean of the squared current (R114) -/

/-- A value enters a window of runs of equal values, newest first. -/
def pushRun (v : Nat) : List (Nat × Nat) → List (Nat × Nat)
  | [] => [(v, 1)]
  | (w, k) :: t => if w = v then (w, k + 1) :: t else (v, 1) :: (w, k) :: t

/-- The newest `n` values of a window. -/
def keepRuns (n : Nat) : List (Nat × Nat) → List (Nat × Nat)
  | [] => []
  | (v, k) :: t => if n = 0 then [] else if n ≤ k then [(v, n)] else (v, k) :: keepRuns (n - k) t

def sumRuns (w : List (Nat × Nat)) : Nat := w.foldl (fun t r => t + r.1 * r.2) 0

/-- The RMS current exceeds I_CONT: the limit of R114 applies. -/
def i2tOver (s : State) (ax : Fin 16) : State :=
  ((s.modAx ax (fun e => { e with i2tOn := true })).setB (AX.STAT_I_LIMITED ax) true).raise (pgAX ax) 4

/-- The RMS current has fallen to 90 % of I_CONT. -/
def i2tUnder (s : State) (ax : Fin 16) : State :=
  (s.modAx ax (fun e => { e with i2tOn := false })).setB (AX.STAT_I_LIMITED ax) false

/-- A tick of the moving mean over 10 s, 50,000 ticks; ticks before reset count as 0 (R114). -/
def i2tTick (s : State) (ax : Fin 16) : State :=
  let iq := (s.getI (AX.IQ ax)).natAbs
  let s := s.modAx ax (fun e => { e with iqSq := keepRuns 50000 (pushRun (iq * iq) e.iqSq) })
  let sum := sumRuns s.ax[ax].iqSq
  let cont := s.get (AX.I_LIMIT_I_CONT ax)
  if !s.ax[ax].i2tOn && decide (50000 * cont * cont < sum) then s.i2tOver ax
  else if s.ax[ax].i2tOn && decide (100 * sum ≤ 81 * 50000 * cont * cont) then s.i2tUnder ax
  else s

/-! ### Starting and stopping a motion -/

/-- A motion of an axis starts towards a target (R98): its state, its flags, the first tick of its checks. A quadrature brushless
axis without its electrical angle opens the motion with an alignment (R97). -/
def startMotion (s : State) (ax : Fin 16) (target : Int) (limit : Nat) (kind : MotionKind) (closing : Bool) : State :=
  let align := decide (s.get (AX.CFG_MOTOR ax) = 0) && !s.on (AX.STAT_ANGLE_OK ax)
  let s := s.modAx ax (fun e => { e with
      moving := true, trajDone := align, kind := if align then .align else kind,
      stopAt := none, plan := none, beyond := false, travelOut := false, alignT := 0,
      limit := limit, closing := closing, adm := .none, inPosT := 0, endT := 0, stallT := 0, ferrT := 0,
      parked := if align then some (target, kind) else none, want := none, ended := none,
      firstFrom := if e.firstFrom.isNone && !align then some (0, s.axCount ax) else e.firstFrom,
      against := if e.firstFrom.isNone then 0 else e.against })
  let s := (s.setB (AX.STAT_STALL ax) false).setB (AX.STAT_IN_POS ax) false
  let s := s.setB (AX.STAT_INPOS_FAIL ax) false
  let s := s.setI (AX.TARGET ax) target
  let s := s.set (AX.STAT_AX_STATE ax) (if align then 4 else match kind with | .home _ => 3 | _ => 2)
  if isStep ax then s else s.modDw (doorwayOf ax) (fun d => { d with obstMute := false })

/-- A stop is planned at a deceleration; of several in one tick the highest counts, and a new target has to wait for a later tick
(R102). A motion that waits for the alignment of its axis does not start any more. -/
def planStop (s : State) (ax : Fin 16) (a : Nat) : State :=
  if s.ax[ax].moving then
    s.modAx ax (fun e => { e with
      stopAt := if e.kind == .align then none else some (max a (e.stopAt.getD 0)), stopNow := true, parked := none,
      trajDone := e.trajDone && (decide (e.velQ = 0) || e.kind == .align) })
  else s

/-- A stop at the A_DEC of the profile in use (R69, R102). -/
def stopProfile (s : State) (ax : Fin 16) : State :=
  s.planStop ax (s.prof ax (decide (0 ≤ s.ax[ax].velQ)) 4)

/-- The stop of an obstacle reaction (R102, R174). -/
def stopObstacle (s : State) (ax : Fin 16) : State := s.planStop ax (s.get (AX.A_STOP_A ax))

/-! ### Ends of a motion (R105, R108) -/

/-- The motion is over; the axis holds (R106), its reservation ends (R319), and the engine has its end to judge. The request of a motion
that waits for its start stays pending (R318). -/
def endMotion (s : State) (ax : Fin 16) (how : HowEnded) : State :=
  let target := s.getI (AX.TARGET ax)
  let s := s.modAx ax (fun e => { e with
      ended := some ⟨how, e.kind, e.closing, target, e.limit⟩,
      moving := false, trajDone := false, velQ := 0, stopAt := none, plan := none, beyond := false, travelOut := false,
      adm := if e.want.isSome then e.adm else .none, closing := false, limit := 0, parked := none,
      firstFrom := firstOver e.firstFrom })
  let s := (s.setI (AX.SPEED_CMD ax) 0).setB (AX.STAT_LIMITED ax) false
  let s := if s.get (AX.STAT_AX_STATE ax) = 5 then s else s.set (AX.STAT_AX_STATE ax) 1
  s.release ax

/-- A motion whose trajectory has ended, and which is no alignment and no HOME at its travel limit. -/
def ending (s : State) (ax : Fin 16) : Bool :=
  s.ax[ax].moving && s.ax[ax].trajDone && s.ax[ax].kind != .align && !s.ax[ax].travelOut

/-- R105: the trajectory is done and the window has held for 20 ms. -/
def motionEnd (s : State) (ax : Fin 16) : State :=
  if s.ending ax then
    ((s.endMotion ax .reached).setB (AX.STAT_IN_POS ax) true).raise (pgAX ax) 0
  else s

/-- R105: the window is not met 500 ms after the trajectory ended. The motion ends here too, so MOTION_END is raised beside
INPOS_FAIL, which the spec does not say in so many words (DESIGN CHOICE, log entry 112). -/
def inposFail (s : State) (ax : Fin 16) : State :=
  if s.ending ax then
    let s := { s with ldg := { s.ldg with inpos := s.ldg.inpos.set ax (s.ldg.inpos[ax] + 1) } }
    (((s.endMotion ax .failed).setB (AX.STAT_INPOS_FAIL ax) true).raise (pgAX ax) 3).raise (pgAX ax) 0
  else s

/-- R107: axis fault cause 9, located in the position and speed loops. -/
def followingError (s : State) (ax : Fin 16) : State :=
  if s.ax[ax].moving then s.axisFault ax 9 (driveLoc ax 1) else s

/-- HOMED and the port's POS_UNCERT and index after a homing reference (R110, R142). -/
def homedAt (s : State) (ax : Fin 16) (ref : Int) : State :=
  let s := (s.loadRef ax ref).setB (AX.STAT_HOMED ax) true
  let s := match s.portOf ax with
    | none => s
    | some p =>
      let s := (s.setB (FB.STAT_POS_UNCERT p) false).setB (FB.STAT_IDX_SEEN p) false
      (s.set (FB.IDX_REF p) 0).modFb (fin16 p) (fun e => { e with early := false })
  s.setI (AX.TARGET ax) ref

/-- A stall has stopped an axis: STALL is set and raised, the target becomes the present position (R108). -/
def stallMarks (s : State) (ax : Fin 16) : State :=
  let s := ((s.setB (AX.STAT_STALL ax) true).raise (pgAX ax) 1).setI (AX.TARGET ax) (s.axPos ax)
  s.modAx ax (fun e => { e with posQ := s.axPosQ ax })

/-- R108: STALL, and the motion ends. In a HOME that runs the stall is the homing reference (R110); in one that has run out its travel
limit it ends the trajectory alone, and the doorway fault of R71 follows; in one stopped by a command it is no reference. -/
def stall (s : State) (ax : Fin 16) : State :=
  let e := s.ax[ax]
  if !e.moving || e.kind == .align then s
  else if e.travelOut then
    (s.modAx ax (fun e => { e with trajDone := true, velQ := 0, stopAt := none, beyond := false, stallT := 0 })).stallMarks ax
  else match e.kind, e.stopAt with
    | .home dir1, none => ((s.endMotion ax .stalled).stallMarks ax).homedAt ax (if dir1 then s.endOpen ax else s.endClosed ax)
    | .home _, some _ => (s.endMotion ax .failed).stallMarks ax
    | _, _ => (s.endMotion ax .stalled).stallMarks ax

/-- The window of R105, the checks of R107 and R108 in one tick of a motion. -/
def motionChecks (s : State) (ax : Fin 16) : State :=
  let e := s.ax[ax]
  if !e.moving || e.kind == .align then s else
  let pos := s.getI (AX.POS ax)
  let lim : Nat := s.currentLimit ax
  let slow := s.on (AX.STAT_SETTLING ax) || decide ((s.getI (AX.SPEED ax)).natAbs ≤ s.get (AX.STALL_V_STALL ax))
  let stallT := if slow && decide (s.get (AX.STALL_I_STALL ax) * lim ≤ 100 * (s.getI (AX.IQ_CMD ax)).natAbs) then e.stallT + 1 else 0
  let off := (pos - s.ofQ ax e.posQ).natAbs
  let ferrT := if s.get (AX.FERR_FERR_MAX ax) < off then e.ferrT + 1 else 0
  let inPosT := if e.trajDone && decide ((pos - s.getI (AX.TARGET ax)).natAbs ≤ s.get (AX.IN_POS_WIN ax)) then e.inPosT + 1 else 0
  let endT := if e.trajDone then e.endT + 1 else 0
  let s := s.modAx ax (fun e => { e with stallT := stallT, ferrT := ferrT, inPosT := inPosT, endT := endT })
  let tStall := 5 * s.get (AX.STALL_T_STALL ax)
  let ferrLim := 5 * max (s.get (AX.FERR_FERR_T ax)) (s.get (AX.STALL_T_STALL ax) + 20)
  if tStall ≤ stallT then s.stall ax
  else if ferrLim ≤ ferrT then s.followingError ax
  else if 100 ≤ inPosT then s.motionEnd ax
  else if 2500 ≤ endT then s.inposFail ax
  else s

/-- R147: once the time since the last edge exceeds the last interval, |SPEED| is at most 1 / (time since the last edge). -/
def limitSpeed (s : State) (p : Fin 16) : State :=
  let age := s.fb[p].age
  if age ≤ s.get (FB.EDGE_T p) then s else
    let m : Int := 1600000000 / max 1 age
    s.setI (FB.SPEED p) (clampI (-m) m (s.getI (FB.SPEED p)))

/-- A tick of a port's observer, whether an axis uses the port or not: 200 µs more since its last edge and its last input, and the limit
of R147. -/
def agePort (s : State) (p : Fin 16) : State :=
  (s.modFb p (fun e => { e with age := e.age + 20000, obsAge := e.obsAge + 20000 })).limitSpeed p

/-- The ports' tick goes with SC's (log entry 109). -/
def agePorts (s : State) : State := ((List.range 16).map fin16).foldl (fun (s : State) (p : Fin 16) => s.agePort p) s

/-- The measured side of a tick: POS, SPEED and STAT.SETTLING from the port (R67 step 1, R95). -/
def sampleAxis (s : State) (ax : Fin 16) : State :=
  let s := (s.setI (AX.POS ax) (s.axPos ax)).setI (AX.SPEED ax) (s.axSpeed ax)
  let s := s.setB (AX.STAT_SETTLING ax) (match s.portOf ax with
    | none => false
    | some p => s.on (FB.STAT_SETTLING p))
  s.modAx ax (fun e => { e with speeds := (s.getI (AX.SPEED ax) :: e.speeds).take 6 })

/-- R67 step 6 for one axis: trajectory, loops, checks. -/
def axisTick (s : State) (ax : Fin 16) : State :=
  let v := s.ax[ax].velQ
  let s := s.trajTick ax
  let s := s.modAx ax (fun e => { e with
      sign := if e.velQ < 0 then -1 else if 0 < e.velQ then 1 else e.sign, stopNow := false,
      alignT := if e.moving && e.kind == .align then e.alignT + 1 else e.alignT })
  ((s.loopTick ax v).i2tTick ax).motionChecks ax

end State

/-! ### The transforms of the current loop (R113)

Fixed point, angles in 1/65,536 revolution, sine and cosine in 1/2^30 with π/2 as 355/226; amplitude-invariant, as the 3/2 of the copper
loss in R321 asks (DESIGN CHOICE, log entry 110). -/

/-- The sine in the first quadrant, by its series, of an angle of at most 16,384. -/
def sineQuarter (x : Nat) : Int :=
  let t : Int := x * 65536 * 355 / 226
  let t2 := t * t / 2 ^ 30
  let c (k : Int) (inner : Int) : Int := 2 ^ 30 - t2 * inner / (k * 2 ^ 30)
  t * c 6 (c 20 (c 42 (c 72 (c 110 (2 ^ 30))))) / 2 ^ 30

def sineOf (a : Nat) : Int :=
  let r := a % 16384
  match a / 16384 % 4 with
  | 0 => sineQuarter r
  | 1 => sineQuarter (16384 - r)
  | 2 => -sineQuarter r
  | _ => -sineQuarter (16384 - r)

def cosineOf (a : Nat) : Int := sineOf (a + 16384)

/-- The d and q currents of three shunt currents: Clarke, then Park. -/
def clarkePark (iu iv iw : Int) (angle : Nat) : Int × Int :=
  let α := (2 * iu - iv - iw) * 2 ^ 30
  let β := (iv - iw) * 1859775393
  let c := cosineOf angle
  let w := sineOf angle
  (roundDiv (α * c + β * w) (3 * 2 ^ 60), roundDiv (β * c - α * w) (3 * 2 ^ 60))

/-- The three phase voltages of a d and a q voltage: inverse Park, then inverse Clarke. -/
def inversePark (d q : Int) (angle : Nat) : Int × Int × Int :=
  let c := cosineOf angle
  let w := sineOf angle
  let α := d * c - q * w
  let β := (d * w + q * c) * 1859775393
  (roundDiv α (2 ^ 30), roundDiv (β - α * 2 ^ 30) (2 ^ 61), roundDiv (-β - α * 2 ^ 30) (2 ^ 61))

/-- Centre-aligned space-vector modulation: the middle of the highest and the lowest phase lies at half the supply. -/
def spaceVector (v : Int × Int × Int) : Int × Int × Int :=
  let hi := max v.1 (max v.2.1 v.2.2)
  let lo := min v.1 (min v.2.1 v.2.2)
  let mid := roundDiv (hi + lo) 2
  (v.1 - mid, v.2.1 - mid, v.2.2 - mid)

/-! ### Meanings (R97 to R129) -/

namespace State

/-- A PI controller of the current loop (R113): its integrator and its output in nV, for a current error in mA. KP = MOTOR_L × ω and
KI = MOTOR_R × ω, with ω = 2π × CUR_BW and 2π as 710 / 113 (log entry 110). CUR_BW is clamped to its range again at each use (R52). -/
def currentPi (s : State) (ax : Fin 16) (integ err : Int) : Int × Int :=
  let bw : Int := (max 100 (min (s.get (AX.CUR_BW_BW ax)) (s.get (AX.PWM_FREQ ax) / 10)) : Nat)
  let i := integ + roundDiv (err * s.get (AX.MOTOR_R_R ax) * bw * 710000) (113 * max 1 (s.get (AX.PWM_FREQ ax)))
  (i, roundDiv (err * s.get (AX.MOTOR_L_L ax) * bw * 710) 113 + i)

/-- The highest duty, 1 − 2.0 µs / T_PWM, in 1/65,536, rounded down (R116). -/
def maxDuty (s : State) (ax : Fin 16) : Nat := 65536 - ceilDiv (65536 * s.get (AX.PWM_FREQ ax)) 500000

/-- The bridge supply of this moment in mV, a free value: no command carries it (log entry 110). -/
def bridgeSupply (s : State) : Nat := max 1 (Config.bridgeVolts s.free).toNat

/-- A voltage in nV as a share of the bridge supply, in 1/65,536. -/
def dutyShare (s : State) (v : Int) : Int := roundDiv (v * 65536) (s.bridgeSupply * 1000000)

/-- The duty of a phase in 1/65,536, clamped (R116). -/
def phaseDuty (s : State) (ax : Fin 16) (d : Int) : Nat := (clampI 0 (s.maxDuty ax) d).toNat

/-- The four angles of an alignment, 90° apart, 50 ms each (R97). -/
def alignAngle (s : State) (ax : Fin 16) : Nat := 16384 * (min 3 (s.ax[ax].alignT / 250))

def aligning (s : State) (ax : Fin 16) : Bool := s.ax[ax].moving && s.ax[ax].kind == .align

/-- The gates of an axis do not switch: duties and integrators are 0. -/
def loopIdle (s : State) (ax : Fin 16) : State :=
  s.modAx ax (fun e => { e with dInt := 0, qInt := 0, duty := Vector.replicate 3 0 })

/-- The current loop of a brushless axis in a PWM period (R113): the transforms, the d and q controllers, the modulation. The d demand
is I_HOME in an alignment and 0 outside it. -/
def focPeriod (s : State) (ax : Fin 16) (iu iv iw : Int) : State :=
  let angle := if s.aligning ax then s.alignAngle ax else s.elecAngle ax
  let i := clarkePark iu iv iw angle
  let s := (s.setI (AX.ID ax) i.1).setI (AX.IQ ax) i.2
  if s.gateOut ax != .driven then s.loopIdle ax else
    let dDemand : Int := if s.aligning ax then min (s.get (AX.I_LIMIT_I_MAX ax)) (s.get (AX.I_HOLD_HOME_I_HOME ax)) else 0
    let d := s.currentPi ax s.ax[ax].dInt (dDemand - i.1)
    let q := s.currentPi ax s.ax[ax].qInt (s.getI (AX.IQ_CMD ax) - i.2)
    let v := spaceVector (inversePark d.2 q.2 angle)
    let duty (x : Int) : Nat := s.phaseDuty ax (32768 + s.dutyShare x)
    let s := s.modAx ax (fun e => { e with dInt := d.1, qInt := q.1, duty := #v[duty v.1, duty v.2.1, duty v.2.2] })
    s.bumpFree

/-- The current loop of a brushed axis in a PWM period (R115): one controller; the leg on the side of the demanded current switches,
the other holds its low side on and carries the current through its shunt; W is off. -/
def brushedPeriod (s : State) (ax : Fin 16) (iu iv : Int) : State :=
  let fwd := decide (0 ≤ s.getI (AX.IQ_CMD ax))
  let i := if fwd then iv else -iu
  let s := (s.setI (AX.IQ ax) i).set (AX.ID ax) 0
  if s.gateOut ax != .driven then s.loopIdle ax else
    let q := s.currentPi ax s.ax[ax].qInt (s.getI (AX.IQ_CMD ax) - i)
    let k := if decide (0 ≤ q.2) == fwd then s.phaseDuty ax (s.dutyShare q.2.natAbs) else 0
    let s := s.modAx ax (fun e => { e with qInt := q.1, duty := if fwd then #v[k, 0, 0] else #v[0, k, 0] })
    s.bumpFree

/-- The checks of R121 in a PWM period: the sum of the shunt currents over 10 periods on brushless axes, an open phase over 20 ms. The
5 % are of I_MAX (log entry 113). -/
def shuntChecks (s : State) (ax : Fin 16) (iu iv iw : Int) : State :=
  let iMax := s.get (AX.I_LIMIT_I_MAX ax)
  let foc := s.get (AX.CFG_MOTOR ax) == 0
  let sumBad := foc && decide (iMax < 10 * (iu + iv + iw).natAbs)
  let amp2 := if foc then 2 * (iu * iu + iv * iv + iw * iw) else 3 * s.getI (AX.IQ ax) * s.getI (AX.IQ ax)
  let openBad := s.gateOut ax == .driven && decide (iMax < 5 * (s.getI (AX.IQ_CMD ax)).natAbs) &&
    decide (400 * amp2.natAbs < 3 * iMax * iMax)
  let s := s.modAx ax (fun e => { e with
      sumT := if sumBad then e.sumT + 1 else 0, openT := if openBad then e.openT + 1 else 0 })
  if 10 ≤ s.ax[ax].sumT then (s.modAx ax (fun e => { e with sumT := 0 })).axisFault ax 7 (driveLoc ax 2)
  else if openBad && decide (s.get (AX.PWM_FREQ ax) ≤ 50 * s.ax[ax].openT) then
    (s.modAx ax (fun e => { e with openT := 0 })).axisFault ax 8 (driveLoc ax 2)
  else s

/-- VGD of a gate die has fallen (R118): cause 5 on every axis of the die. -/
def vgdFell (s : State) (die : Fin 2) (v : Vgd) : State :=
  let s := { s with boot := { s.boot with vgd := s.boot.vgd.set die v } }
  (List.range 8).foldl (fun (s : State) (i : Nat) => let ax := fin16 (8 * die + i); s.axisFault ax 5 (gateLoc ax 31 1023)) s

/-- VGD is above 10.5 V again: cause 5 is active no longer (R118, R123). -/
def vgdBack (s : State) : State :=
  let s := { s with boot := { s.boot with vgd := Vector.replicate 2 .good } }
  (List.range 16).foldl (fun (s : State) (ax : Nat) => s.axisInactive (fin16 ax) 5) s

/-- The offset measurement of 3.2 ms (R121, R127): cause 6 beyond 5 % of full scale, cause 5 with VGD below 10.5 V, else the precharge
or READY. A good measurement ends the condition of cause 6. -/
def offsetMeasured (s : State) (ax : Fin 16) (offsetsGood bootstrapsHigh : Bool) : State :=
  let s := if offsetsGood then (s.modAx ax (fun e => { e with offsetBad := false })).axisInactive ax 6 else s
  if s.ax[ax].start == .measuring then
    if !offsetsGood then s.axisFault ax 6 (driveLoc ax 2)
    else if s.boot.vgd[gateDie ax] != .good then s.axisFault ax 5 (gateLoc ax 31 1023)
    else if bootstrapsHigh then s.axisReady ax
    else s.modAx ax (fun e => { e with start := .precharge })
  else s

/-- The incoming unit takes the bridge of an axis (R128, R129): it precharges first where a bootstrap is below 9.0 V. -/
def takeBridge (s : State) (ax : Fin 16) (bootstrapsHigh : Bool) : State :=
  let s := s.modAx ax (fun e => { e with integ := 0, dInt := 0, qInt := 0 })
  if bootstrapsHigh then s.axisReady ax
  else (s.setB (AX.STAT_OWNED ax) true).modAx ax (fun e => { e with start := .precharge })

end State

/-- The comma at a counter zero, of every role that sends one (R344). The counters of the axes start together; the model gives it out at
axis 0's (DESIGN CHOICE, log entry 154). -/
def State.comma (s : State) (ax : Fin 16) : State :=
  if ax = 0 ∧ s.pair ∧ s.get BRV.STAT_ROLE ≠ 3 then s.emit .comma else s

/-- R113, R115, R121: a PWM period with its three shunt currents in mA, sampled at counter zero, where the comma of R344 goes out. -/
def execCurrentLoopCycle (ax : Fin 16) (iu iv iw : Int) (s : State) : Host.Outcome State Fault Refusal :=
  .next (s.whenRunning fun s =>
    let s := s.comma ax
    if s.get (AX.CFG_MOTOR ax) = 1 then (s.brushedPeriod ax iu iv).shuntChecks ax iu iv iw
    else if s.get (AX.CFG_MOTOR ax) = 0 then (s.focPeriod ax iu iv iw).shuntChecks ax iu iv iw
    else s)

/-- R103: the stored profile changes apply at the next tick, as one replan. -/
def execProfHoldClear (ax : Fin 16) (s : State) : Host.Outcome State Fault Refusal :=
  .next (s.whenRunning fun s => (s.set (AX.PROF_CTRL_HOLD ax) 0).modAx ax (fun e => { e with held := [] }))

/-- R107. -/
def execFollowingError (ax : Fin 16) (s : State) : Host.Outcome State Fault Refusal :=
  .next (s.whenEngine fun s => s.followingError ax)

/-- R114: the RMS exceeds I_CONT. -/
def execI2t (ax : Fin 16) (s : State) : Host.Outcome State Fault Refusal := .next (s.whenRunning fun s => s.i2tOver ax)

/-- R114: the RMS has fallen to 90 % of I_CONT. -/
def execI2tRelease (ax : Fin 16) (s : State) : Host.Outcome State Fault Refusal := .next (s.whenRunning fun s => s.i2tUnder ax)

/-- R118: axis fault cause 4, at the phase's bootstrap. -/
def execBootstrapUndervoltage (ax : Fin 16) (phase : Phase) (s : State) : Host.Outcome State Fault Refusal :=
  .next (s.whenRunning fun s => s.axisFault ax 4 (State.gateLoc ax (State.phaseNo phase) 3))

/-- R118: VGD below its falling threshold: the gates of the die are driven low, or are at high impedance below 5 V, and every axis of
the die takes cause 5. -/
def execVgdUndervoltage (die : Fin 2) (below5V : Bool) (s : State) : Host.Outcome State Fault Refusal :=
  .next (s.whenRunning fun s => s.vgdFell die (if below5V then .dead else .low))

/-- R119: cause 1 for a high side, 2 for a low side; DESAT_CNT + 1. -/
def execDesaturation (ax : Fin 16) (phase : Phase) (high : Bool) (s : State) : Host.Outcome State Fault Refusal :=
  .next (s.whenRunning fun s =>
    (s.inc (AX.DESAT_CNT ax)).axisFault ax (if high then 1 else 2) (State.gateLoc ax (State.phaseNo phase) (if high then 0 else 1)))

/-- R120: cause 3; OC_CNT + 1. -/
def execShuntOvercurrent (ax : Fin 16) (phase : Phase) (s : State) : Host.Outcome State Fault Refusal :=
  .next (s.whenRunning fun s => (s.inc (AX.OC_CNT ax)).axisFault ax 3 (State.gateLoc ax (State.phaseNo phase) 2))

/-- R121, located by R125 on the control die's current loop. -/
def execShuntOffsetFault (ax : Fin 16) (_phase : Phase) (s : State) : Host.Outcome State Fault Refusal :=
  .next (s.whenRunning fun s => s.axisFault ax 6 (State.driveLoc ax 2))

/-- R121: brushless axes only. -/
def execPhaseSumFault (ax : Fin 16) (s : State) : Host.Outcome State Fault Refusal :=
  .next (s.whenRunning fun s => if s.get (AX.CFG_MOTOR ax) = 0 then s.axisFault ax 7 (State.driveLoc ax 2) else s)

/-- R121. -/
def execOpenPhase (ax : Fin 16) (s : State) : Host.Outcome State Fault Refusal :=
  .next (s.whenRunning fun s => s.axisFault ax 8 (State.driveLoc ax 2))

/-- R122: cause 13. -/
def execGateReadbackMismatch (ax : Fin 16) (phase : Phase) (high : Bool) (s : State) : Host.Outcome State Fault Refusal :=
  .next (s.whenRunning fun s => s.axisFault ax 13 (State.gateLoc ax (State.phaseNo phase) (if high then 0 else 1)))

/-- R124. -/
def execAxisClr (ax : Fin 16) (s : State) : Host.Outcome State Fault Refusal :=
  .next (s.whenRunning fun s => s.clearAxis ax)

/-- R127 at 3.2 ms: `offsetsGood`, every offset within 5 % of full scale; `bootstrapsHigh`, every bootstrap at or above 9.0 V. -/
def execAxisOffsetMeasured (ax : Fin 16) (offsetsGood bootstrapsHigh : Bool) (s : State) : Host.Outcome State Fault Refusal :=
  .next (s.whenRunning fun s => s.offsetMeasured ax offsetsGood bootstrapsHigh)

/-- R127 at 3.4 ms: cause 4 where a bootstrap is below 8.5 V. -/
def execPrechargeEnd (ax : Fin 16) (bootstrapsHigh : Bool) (s : State) : Host.Outcome State Fault Refusal :=
  .next (s.whenRunning fun s =>
    if s.ax[ax].start == .precharge then
      if bootstrapsHigh then s.axisReady ax else s.axisFault ax 4 (State.gateLoc ax 31 1023)
    else s)

/-- R128, R129: at a counter zero the incoming unit starts switching only if all six lines were low; otherwise it samples again at
the next boundary. -/
def execGateTakeover (ax : Fin 16) (bridge : Bridge) (s : State) : Host.Outcome State Fault Refusal :=
  .next (s.whenRunning fun s =>
    if s.active ∧ bridge.allLow ∧ s.on (AX.STAT_GATE_EN ax) ∧ !s.on (AX.STAT_OWNED ax) ∧ s.get (AX.STAT_AX_STATE ax) ≠ 5 then
      s.takeBridge ax bridge.bootstrapsHigh
    else s)

end Sys2Proof.Machine
end

