-- ==== Sys2Proof/Machine/Feedback.lean ====
section
/-! DEFINITION. Position feedback ports and encoder emulation: decoding of quadrature, Hall and SSI ports, the index, the rules
that override the speed observer, wire breaks, port faults, the encoder outputs, and the meanings of the commands of "Position
Feedback Ports". -/

namespace Sys2Proof.Machine

namespace State

/-- The axes that use a port (R133). -/
def usersOf (s : State) (p : Fin 16) : List (Fin 16) :=
  ((List.range 16).map fin16).filter (fun ax => s.portOf ax == some p.val)

/-- The port counts: its page is enabled and no fault holds COUNT (R133, R152). A port in fault latches no index, counts no illegal
transition and records no further cause either; the spec says only that COUNT is held (DESIGN CHOICE, log entry 148). -/
def counts (s : State) (p : Fin 16) : Bool := s.pageOn (pgFB p) && s.get (FB.FAULT_CAUSE p) == 0

/-- HOMED is cleared by POS_UNCERT (R130). -/
def setUncert (s : State) (p : Fin 16) : State :=
  (s.usersOf p).foldl (fun (s : State) (ax : Fin 16) => s.setB (AX.STAT_HOMED ax) false) (s.setB (FB.STAT_POS_UNCERT p) true)

def portMacro (cause : Nat) : Nat :=
  if cause ≤ 3 then cause - 1 else if cause = 5 then 3 else if cause = 7 then 6 else if cause = 8 then 2 else 4

/-- ACTIVE right after recording: causes 1, 2, 3, 5, 7 and 8 persist (R152). -/
def portActive (cause : Nat) : Bool := cause ≤ 3 || cause == 5 || cause == 7 || cause == 8

/-- ACTIVE of an axis's cause 10 is its port's (R123). -/
def followPort (s : State) (ax : Fin 16) (b : Bool) : State :=
  if s.get (AX.FAULT_CAUSE ax) = 10 then s.setB (AX.FAULT_ACTIVE ax) b else s

/-- ACTIVE of a port and of its axes' cause 10 (R123, R152). -/
def showActive (s : State) (p : Fin 16) (b : Bool) : State :=
  (s.usersOf p).foldl (fun (s : State) (ax : Fin 16) => s.followPort ax b) (s.setB (FB.FAULT_ACTIVE p) b)

/-- The condition of a cause holds again before its clear: ACTIVE is 1 (R152). -/
def portAgain (s : State) (p : Fin 16) (cause : Nat) : State :=
  if s.get (FB.FAULT_CAUSE p) = cause then s.showActive p true else s

/-- A port fault (R152, R153): registers, event, record, and axis fault cause 10 on the axes that use the port. -/
def portFault (s : State) (p : Fin 16) (cause : Nat) : State :=
  let loc := locCode 0 3 p (portMacro cause) 1023 0
  let s := s.set (FB.FAULT p) (cause + 256 * (portActive cause).toNat)
  let s := (s.set (FB.FAULT_LOC p) loc.toNat).raise (pgFB p) 3
  let users := s.usersOf p
  let s := s.logFault (pgFB p) cause loc 2 0 (s.get (FB.FAULT p)) (users.head?.map doorwayOf |>.map (·.val))
  users.foldl (fun (s : State) (ax : Fin 16) => (s.axisFault ax 10 (driveLoc ax 31)).followPort ax (portActive cause)) s

/-- The condition of a port's fault is over. -/
def portInactive (s : State) (p : Fin 16) : State := s.showActive p false

def pairFlag (p : Fin 16) : Pair → Fld
  | .a => FB.STAT_WB_A p
  | .b => FB.STAT_WB_B p
  | .i => FB.STAT_WB_I p

def pairCause : Pair → Nat
  | .a => 1
  | .b => 2
  | .i => 3

/-- The pairs a port type uses; the clock pair of an SSI port only while the unit drives it (R131, R150). -/
def pairUsed (s : State) (p : Fin 16) (pair : Pair) : Bool :=
  match s.get (FB.CFG_TYPE p), pair with
  | 0, .i => s.on (FB.CFG_IDX_EN p)
  | 0, _ => true
  | 2, .a => true
  | 2, .i => s.fb[p].clocking
  | _, _ => false

/-- The broken pairs that an enabled port uses are a fault where it has none (R150). -/
def checkPairs (s : State) (p : Fin 16) : State :=
  [Pair.a, .b, .i].foldl (fun (s : State) (pair : Pair) =>
    if s.counts p && s.pairUsed p pair && s.on (pairFlag p pair) then s.portFault p (pairCause pair) else s) s

/-- A clear acts only while ACTIVE = 0; afterwards POS_UNCERT = 1 on quadrature and Hall ports (R152), the direction check of R151 runs
again, and a pair that is broken is a fault at once. -/
def clearPort (s : State) (p : Fin 16) : State :=
  if s.get (FB.FAULT_CAUSE p) = 0 ∨ s.on (FB.FAULT_ACTIVE p) then s else
    let s := (s.set (FB.FAULT p) 0).set (FB.FAULT_LOC p) 0
    let s := (s.usersOf p).foldl (fun (s : State) (ax : Fin 16) => s.modAx ax (fun e => { e with firstFrom := none })) s
    let s := if s.get (FB.CFG_TYPE p) ≤ 1 then s.setUncert p else s
    s.checkPairs p

/-! ### Encoder emulation (R154, R155) -/

/-- The output is at high impedance, wired in parallel with the partner's (R157). -/
def encParked (s : State) (e : Fin 4) : Bool := s.on (ENC.CFG_SHARED e) && !s.active

/-- The output lines of a quadrature phase, B lagging A for counts up; INV_DIR exchanges them (R155, R159). -/
def encLines (phase : Nat) (inv : Bool) : Bool × Bool :=
  let a := phase == 1 || phase == 2
  let b := phase == 2 || phase == 3
  if inv then (b, a) else (a, b)

/-- What the output drives at this moment (R157): nothing where it is parked, its present levels where it is enabled, else low. -/
def encDrive (s : State) (e : Fin 4) : State :=
  if s.encParked e then s.emit (.encHighZ e)
  else
    let x := if s.pageOn 0x0F && s.on (ENC.CFG_EN e) then encLines s.enc[e].phase (s.on (ENC.CFG_INV_DIR e)) else (false, false)
    s.emit (.encEdge e x.1 x.2 0)

/-- The state of an output begins anew: page disabled, EN = 0, or a fresh enable (R154, R157). -/
def encLow (s : State) (e : Fin 4) : State :=
  let s := (s.set (ENC.STAT_ACC e) 0).set (ENC.STAT_BACKLOG e) 0
  (s.modEnc e (fun _ => EncEng.reset)).encDrive e

/-- A unit leaves ACTIVE, or becomes ACTIVE: a SHARED output goes to high impedance, where it takes the state that its counts give at
once, the backlog among them, or starts from the state that its own counts give (R157). -/
def encFollows (s : State) (e : Fin 4) : State :=
  if !s.on (ENC.CFG_SHARED e) then s else
    let s := if s.active then s else
      (s.modEnc e (fun x => { x with phase := (((x.phase : Int) + x.back) % 4).toNat, back := 0 })).set (ENC.STAT_BACKLOG e) 0
    s.encDrive e

def encsFollow (s : State) : State := ((List.range 4).map fin4).foldl (fun (s : State) (e : Fin 4) => s.encFollows e) s

/-- Source counts reach one output: the accumulator, then the backlog with its limit of 256. An output at high impedance takes the
state its counts give at once (R157). -/
def encSource (s : State) (e : Fin 4) (d : Int) : State :=
  let m : Int := max 1 (s.get (ENC.RATIO_M e))
  let acc : Int := s.get (ENC.STAT_ACC e) + min (s.get (ENC.RATIO_N e) : Int) m * d
  let s := s.setI (ENC.STAT_ACC e) (acc % m)
  if s.encParked e then s.modEnc e (fun x => { x with phase := (((x.phase : Int) + acc / m) % 4).toNat }) else
  let back := s.enc[e].back + acc / m
  let kept := clampI (-256) 256 back
  let s := s.modEnc e (fun x => { x with back := kept })
  let s := s.set (ENC.STAT_BACKLOG e) kept.natAbs
  if back = kept then s else
    ((s.setB (ENC.STAT_OVERRUN e) true).raise 0x0F e).add (ENC.OVR_CNT e) (back - kept).natAbs

def encFollow (s : State) (p : Fin 16) (d : Int) : State :=
  ((List.range 4).map fin4).foldl (fun (s : State) (e : Fin 4) =>
    if s.pageOn 0x0F && s.on (ENC.CFG_EN e) && s.get (ENC.CFG_SRC e) == p.val then s.encSource e d else s) s

/-! ### Counting and the speed rules (R135, R146 to R149) -/

/-- COUNT moves; it wraps. The outputs that follow the port count with it. -/
def bumpCount (s : State) (p : Fin 16) (d : Int) : State := (s.setI (FB.COUNT p) (s.getI (FB.COUNT p) + d)).encFollow p d

/-- The difference of two counts, which wrap. -/
def countDiff (a b : Int) : Int := signedOf (codeOf (a - b) 32) 32

end State

/-- One step of the tracking observer at 100 kHz, with a damping of 0.707 and ω = 2π × BW (R146): position in 2^−40 count, speed in
2^−24 count/s, against the measured position; 2π as 710/113 (log entry 109). -/
def observerStep (bw : Nat) (m : Int) (x : Int × Int) : Int × Int :=
  let e := m - x.1
  (x.1 + x.2 * 65536 / 100000 + e * (1414 * 710 * bw) / (1000 * 113 * 100000),
   x.2 + e * (504100 * bw * bw) / (12769 * 100000 * 65536))

/-- The observer follows the straight line from 0 to `d`, in `k` steps, of which `i` are still to go. -/
def observerRun (bw : Nat) (d : Int) (k : Nat) : Nat → Int × Int → Int × Int
  | 0, x => x
  | i + 1, x => observerRun bw d k i (observerStep bw (d * (k - i : Nat) / (max 1 k : Nat)) x)

/-- The second-order observer at an accepted edge or frame (R146): from OBS.BW, its position at the input before, in 1/256 count from the
count it had then, its speed in 1/16 count/s, the movement of the count and the time between the two in 10 ns; the new position in 1/256
count from the new count, and the new speed. Between two inputs the measured position is the line through them (DESIGN CHOICE, log entry
109). -/
def observer (bw : Nat) (off v d : Int) (t : Nat) : Int × Int :=
  let k := max 1 (t / 1000)
  let x := observerRun bw (d * 2 ^ 40) k k (off * 2 ^ 32, v * 2 ^ 20)
  (roundDiv x.1 (2 ^ 32) - 256 * d, roundDiv x.2 (2 ^ 20))

namespace State

/-- The observer stands at the edge with a speed (R148, R149). -/
def observerAt (s : State) (p : Fin 16) (v : Int) (settling : Bool) : State :=
  ((s.setI (FB.SPEED p) v).setB (FB.STAT_SETTLING p) settling).modFb p (fun e => { e with obsOff := 0, obsAge := 0 })

/-- The observer of R146 takes an input: a movement of the count over a time. -/
def observerTrack (s : State) (p : Fin 16) (d : Int) (t : Nat) : State :=
  let o := observer (s.get (FB.OBS_BW p)) s.fb[p].obsOff (s.getI (FB.SPEED p)) d t
  (s.setI (FB.SPEED p) o.2).modFb p (fun e => { e with obsOff := o.1, obsAge := 0 })

/-- An accepted edge in direction `down`, `dt` after the last sample with a change (10 ns): R148 out of STILL and SETTLING, R149 on a
reversal; otherwise the observer of R146 tracks. `jump` is the change of value the edge carries; the interval runs from the last
accepted edge, and `span` is the time since the observer's last input where that is another. -/
def observerEdge (s : State) (p : Fin 16) (down : Bool) (jump dt : Nat) (span : Option Nat) : State :=
  let before := s.on (FB.STAT_DIR p)
  let v := s.getI (FB.SPEED p)
  let t := s.fb[p].gap + dt
  let d : Int := if down then -(jump : Int) else jump
  let s := (s.setB (FB.STAT_DIR p) down).set (FB.EDGE_T p) (min t 0xFFFFFFFF)
  let s := s.modFb p (fun e => { e with gap := 0, age := 0 })
  if s.on (FB.STAT_STILL p) then (s.setB (FB.STAT_STILL p) false).observerAt p 0 true
  else if s.on (FB.STAT_SETTLING p) then
    if before == down then s.observerAt p (roundDiv (1600000000 * d) (max 1 t)) false else s.observerAt p 0 true
  else if (down && decide (0 < v)) || (!down && decide (v < 0)) then s.observerAt p 0 true
  else s.observerTrack p d (span.getD t)

/-- An illegal transition (R135 to R137): COUNT is left, POS_UNCERT and EVT.QERR set, fault cause 4 above QERR.LIMIT in 1 s. Before the
first index it leaves POS_UNCERT to homing (R143). -/
def illegalEdge (s : State) (p : Fin 16) : State :=
  let s := (s.inc (FB.QERR_CNT p)).setUncert p
  let s := s.raise (pgFB p) 0
  let s := s.modFb p (fun e => { e with
      illegal := e.now :: e.illegal.filter (fun t => decide (e.now < t + 100000000)),
      early := e.early || !s.on (FB.STAT_IDX_SEEN p) })
  if s.get (FB.QERR_LIMIT p) < (s.fb[p].illegal).length then s.portFault p 4 else s

/-! ### The index (R141 to R145) -/

/-- ((d + P/2) mod P) − P/2 (R142). -/
def driftOf (d : Int) (period : Nat) : Int := (d + period / 2) % (max 1 period : Nat) - period / 2

/-- The electrical angle at an index crossing (R97): established where ELEC_VALID holds; the offset of an alignment before the first
index is loaded now, the angle that the alignment found at this count. -/
def indexAngle (s : State) (ax : Fin 16) : State :=
  if s.get (AX.CFG_MOTOR ax) ≠ 0 then s
  else if s.ax[ax].elecPend then
    let s := (s.set (AX.ELEC_ELEC_OFFS ax) (s.elecAngle ax)).setB (AX.ELEC_ELEC_VALID ax) true
    s.modAx ax (fun e => { e with elecPend := false })
  else if s.on (AX.ELEC_ELEC_VALID ax) then s.setB (AX.STAT_ANGLE_OK ax) true
  else s

/-- A rising edge of the filtered index (R141). `illegal` says that an illegal transition fell in the same sample (R144). COUNT is
latched as the sample leaves it, which is the same in both directions: what the correction of a qualified latch is for (log entry
13). A correction of COUNT is no movement: neither the encoder outputs nor the observer takes it as one (DESIGN CHOICE, log entry 150);
the limits of R145 count from the corrected COUNT. -/
def indexLatch (s : State) (p : Fin 16) (illegal : Bool) : State :=
  let e := s.fb[p]
  let qualified := !s.on (FB.CFG_IDX_QUAL p) || s.get (FB.CFG_IDX_AB p) == e.a.toNat * 2 + e.b.toNat
  if !(s.on (FB.CFG_IDX_EN p) && s.get (FB.CFG_TYPE p) == 0 && s.counts p && qualified) then s else
  let pos := s.getI (FB.COUNT p)
  let s := ((s.setI (FB.IDX_POS p) pos).inc (FB.IDX_CNT p)).raise (pgFB p) 1
  let s := s.modFb p (fun e => { e with idxFrom := s.getI (FB.COUNT p), missed := false })
  let s := ((List.range 4).map fin4).foldl (fun (s : State) (e : Fin 4) =>
    if s.get (ENC.CFG_SRC e) = p.val then s.modEnc e (fun x => { x with zDue := true }) else s) s
  let s := (s.usersOf p).foldl (fun s ax => s.indexAngle ax) s
  if !s.on (FB.STAT_IDX_SEEN p) then (s.setI (FB.IDX_REF p) pos).setB (FB.STAT_IDX_SEEN p) true
  else
    let drift := driftOf (countDiff pos (s.getI (FB.IDX_REF p))) (s.get (FB.IDX_CFG_IDX_PERIOD p))
    let s := s.setI (FB.IDX_DRIFT p) drift
    if drift.natAbs ≤ s.get (FB.IDX_CFG_IDX_TOL p) then
      if s.on (FB.STAT_POS_UNCERT p) && !illegal && !s.fb[p].early then
        (((s.setI (FB.COUNT p) (s.getI (FB.COUNT p) - drift)).setB (FB.STAT_POS_UNCERT p) false).inc (FB.IDX_CORR_CNT p)).modFb p
          (fun e => { e with idxFrom := e.idxFrom - drift, idxHigh := e.idxHigh.map (· - drift) })
      else s
    else (if s.on (FB.STAT_POS_UNCERT p) then s else s.setUncert p).raise (pgFB p) 2

/-- R145: an index level high over more than P/4 counts, and travel of more than 1.5 P in one direction without an index. -/
def indexChecks (s : State) (p : Fin 16) : State :=
  if !(s.on (FB.CFG_IDX_EN p) && s.get (FB.CFG_TYPE p) == 0 && s.counts p) then s else
  let c := s.getI (FB.COUNT p)
  let period := s.get (FB.IDX_CFG_IDX_PERIOD p)
  let s := if period * 3 < 2 * (countDiff c s.fb[p].idxFrom).natAbs && !s.fb[p].missed then
    (s.modFb p (fun e => { e with missed := true })).raise (pgFB p) 6 else s
  match s.fb[p].idxHigh with
  | some c0 => if period < 4 * (countDiff c c0).natAbs then s.portFault p 8 else s
  | none => s

/-- The level of the filtered index line in a sample. -/
def indexLevel (s : State) (p : Fin 16) (i illegal : Bool) : State :=
  if i && !s.fb[p].idx then
    let s := s.modFb p (fun e => { e with idx := true, idxHigh := some (s.getI (FB.COUNT p)) })
    (s.portAgain p 8).indexLatch p illegal
  else if !i && s.fb[p].idx then
    let s := s.modFb p (fun e => { e with idx := false, idxHigh := none })
    if s.get (FB.FAULT_CAUSE p) = 8 then s.portInactive p else s
  else s

/-- A filtered sample of A, B and the index (R135). With an illegal transition in the same sample the index is latched first (R144). -/
def quadSample (s : State) (p : Fin 16) (a b i : Bool) (dt : Nat) : State :=
  let e := s.fb[p]
  let ca := a != e.a
  let cb := b != e.b
  let s := s.modFb p (fun e => { e with a := a, b := b, now := e.now + dt })
  let live := s.counts p && s.get (FB.CFG_TYPE p) == 0
  let illegal := live && ca && cb
  let s :=
    if live && (ca != cb) then
      let down := if ca then a == b else a != b
      let turned := s.on (FB.STAT_DIR p) != down
      let c0 := s.getI (FB.COUNT p)
      let s := s.modFb p (fun e => { e with idxFrom := if turned then c0 else e.idxFrom, missed := e.missed && !turned })
      (s.bumpCount p (if down then -1 else 1)).observerEdge p down 1 dt none
    else s.modFb p (fun e => { e with gap := e.gap + dt })
  let s := s.indexLevel p i illegal
  (if illegal then s.illegalEdge p else s).indexChecks p

/-- A sample of a port that holds no counted edge: the time since the last edge goes on. -/
def noEdge (s : State) (p : Fin 16) (dt : Nat) : State := s.modFb p (fun e => { e with gap := e.gap + dt })

/-! ### Hall and SSI (R137 to R139) -/

/-- The sector of a Hall code; none is invalid. -/
def hallSector : Nat → Option Nat
  | 1 => some 0
  | 3 => some 1
  | 2 => some 2
  | 6 => some 3
  | 4 => some 4
  | 5 => some 5
  | _ => none

/-- A filtered code of the Hall lines (R137), which only a port of type 1 uses (R131). -/
def hallSample (s : State) (p : Fin 16) (line : Nat) (dt : Nat) : State :=
  if s.get (FB.CFG_TYPE p) ≠ 1 then s else
  let code := if s.on (FB.CFG_HALL_INV p) then 7 - line else line
  let s := (s.set (FB.HALL_CODE p) code).modFb p (fun e => { e with now := e.now + dt })
  match hallSector code with
  | none => ((s.set (FB.HALL_SECTOR p) 7).portAgain p 5).noEdge p dt
  | some sec =>
    let prev := s.fb[p].hallSec
    let s := (s.set (FB.HALL_SECTOR p) sec).modFb p (fun e => { e with hallSec := some sec })
    let s := if s.get (FB.FAULT_CAUSE p) = 5 then s.portInactive p else s
    match prev with
    | none => s.noEdge p dt
    | some q =>
      if !s.counts p || q = sec then s.noEdge p dt
      else if sec = (q + 1) % 6 then (s.bumpCount p 1).observerEdge p false 1 dt none
      else if q = (sec + 1) % 6 then (s.bumpCount p (-1)).observerEdge p true 1 dt none
      else (s.illegalEdge p).noEdge p dt

/-- The number of ones in the low bits of a number. -/
def ones : Nat → Nat → Nat
  | 0, _ => 0
  | k + 1, v => v % 2 + ones k (v / 2)

/-- Gray code to binary over `k` bits. -/
def grayToBin : Nat → Nat → Nat
  | 0, _ => 0
  | k + 1, v => (v ^^^ grayToBin k (v / 2)) % 2 ^ (k + 1)

/-- The smallest SSI_DIV with SSI_DIV × 200 µs ≥ T_frame; 5 where none from 1 to 4 does (R138). Times in 10 ns. -/
def ssiDiv (s : State) (p : Nat) : Nat :=
  let bits := s.get (FB.SSI_CFG_BITS p) + s.get (FB.SSI_CFG_ERRBIT p) + (if s.get (FB.SSI_CFG_PAR p) = 0 then 0 else 1) + 1
  let t := ceilDiv (bits * 10000) (max 1 (s.get (FB.SSI_CFG_FREQ p))) + 100 * s.get (FB.SSI_TIM_MONO p)
  if t ≤ 20000 then 1 else if t ≤ 40000 then 2 else if t ≤ 60000 then 3 else if t ≤ 80000 then 4 else 5

/-- The five checks of R139; `diff` is the unwrapped change. -/
def ssiGood (s : State) (p : Fin 16) (f : SsiFrame) (diff : Int) : Bool :=
  let bits := s.get (FB.SSI_CFG_BITS p)
  let errbit := s.on (FB.SSI_CFG_ERRBIT p)
  let par := s.get (FB.SSI_CFG_PAR p)
  let sum := ones bits f.data.toNat + (if errbit && f.err then 1 else 0) + f.parity.toNat
  f.idleHigh && !f.tailHigh && !(errbit && f.err == s.on (FB.SSI_CFG_ERRPOL p)) &&
  (par == 0 || sum % 2 == (if par = 1 then 0 else 1)) &&
  (!s.fb[p].ssiSeen || decide (diff.natAbs ≤ s.get (FB.SSI_TIM_JUMP_MAX p)))

/-- The observer takes an accepted frame (R138, R139, R146): a changed value is an edge, an unchanged one an input that has not moved. The
value was frozen SSI_DIV ticks before the tick that uses it, and is projected from then; the last accepted frame was frozen as many
frames earlier as were rejected since, and one. -/
def ssiObserve (s : State) (p : Fin 16) (diff : Int) (dt bad : Nat) : State :=
  let frame := 20000 * s.get (FB.STAT_SSI_DIV p)
  let span := (bad + 1) * frame
  let s :=
    if diff ≠ 0 then ((s.bumpCount p diff).observerEdge p (decide (diff < 0)) diff.natAbs dt (some span)).modFb p
      (fun e => { e with age := frame })
    else if s.on (FB.STAT_STILL p) || s.on (FB.STAT_SETTLING p) then s
    else s.observerTrack p 0 span
  s.modFb p (fun e => { e with obsAge := frame })

/-- A frame (R139). `dt` is the time since the last frame that differed. While a fault holds COUNT the changes of value are not added to
it, then or later: the spec holds COUNT and does not say how it goes on (DESIGN CHOICE, log entry 149). -/
def ssiFrame (s : State) (p : Fin 16) (f : SsiFrame) (dt : Nat) : State :=
  if !(s.pageOn (pgFB p) && s.get (FB.CFG_TYPE p) == 2) then s else
  let bits := s.get (FB.SSI_CFG_BITS p)
  let raw := f.data.toNat % 2 ^ bits
  let v := if s.on (FB.SSI_CFG_CODE p) then grayToBin bits raw else raw
  let diff := signedOf ((v + 2 ^ bits - s.fb[p].ssiLast) % 2 ^ bits) bits
  let s := s.set (FB.SSI_RAW p) raw
  if s.ssiGood p f diff then
    let bad := s.fb[p].ssiBad
    let follows := s.fb[p].ssiSeen && s.fb[p].ssiLoaded
    let s := s.modFb p (fun e => { e with ssiBad := 0, ssiLast := v, ssiSeen := true })
    if s.get (FB.FAULT_CAUSE p) ≠ 0 then (if s.get (FB.FAULT_CAUSE p) = 7 then s.portInactive p else s)
    else if follows then s.ssiObserve p diff dt bad
    else (s.modFb p (fun e => { e with ssiLoaded := true })).set (FB.COUNT p) v
  else
    let s := ((s.inc (FB.SSI_ERR_CNT p)).raise (pgFB p) 5).modFb p (fun e => { e with ssiBad := e.ssiBad + 1 })
    if s.fb[p].ssiBad < 3 then s
    else if s.get (FB.FAULT_CAUSE p) = 0 then s.portFault p 7 else s.portAgain p 7

/-! ### Wire breaks and swapped pairs (R150, R151) -/

/-- A wire-break flag changes; an enabled port raises EVT.WIRE for it (R133, R150). -/
def setPairFlag (s : State) (p : Fin 16) (pair : Pair) (b : Bool) : State :=
  if s.on (pairFlag p pair) == b then s
  else (s.setB (pairFlag p pair) b).raiseIf (s.pageOn (pgFB p)) (pgFB p) 4

/-- The first 500 ms of the first motion after enable or CLR (R151): the count of the axis is compared with the commanded direction
while |IQ_CMD| is at least 20 % of I_MAX; 256 counts against it are port fault cause 9. -/
def directionCheck (s : State) (ax : Fin 16) : State :=
  match s.ax[ax].firstFrom, s.portOf ax with
  | some (t, c), some p =>
    if 2500 ≤ t ∨ !s.ax[ax].moving then s else
      let v := s.ax[ax].velQ
      let now := s.axCount ax
      let d := countDiff now c
      let wrong := decide (d * v < 0) && decide (s.get (AX.I_LIMIT_I_MAX ax) ≤ 5 * (s.getI (AX.IQ_CMD ax)).natAbs)
      let s := s.modAx ax (fun e => { e with
          firstFrom := some (t + 1, now), against := e.against + (if wrong then d.natAbs else 0) })
      if 256 ≤ s.ax[ax].against ∧ s.counts (fin16 p) = true then s.portFault (fin16 p) 9 else s
  | _, _ => s

/-- An alignment runs, or the first 500 ms of the first motion of an axis after enable or CLR: when R151 judges the direction. -/
def directionJudged (s : State) (ax : Fin 16) : Bool :=
  s.ax[ax].moving && (s.ax[ax].kind == .align || match s.ax[ax].firstFrom with
    | some (t, _) => decide (t < 2500)
    | none => false)

/-- The motion that waited for the alignment starts, unless a stop has come (R97, R102). -/
def afterAlign (s : State) (ax : Fin 16) : State :=
  let e := s.ax[ax]
  match e.parked with
  | some (target, kind) => s.startMotion ax target e.limit kind e.closing
  | none => ((s.haltAxis ax).set (AX.STAT_AX_STATE ax) 1).setI (AX.TARGET ax) (s.axPos ax)

/-- The angle that an alignment has found holds from now on (R97): its value is free (log entry 3). On an axis whose index has not
been crossed the offset referred to the index waits for the crossing. -/
def angleFound (s : State) (ax : Fin 16) : State :=
  let s := s.setB (AX.STAT_ANGLE_OK ax) true
  let p := s.get (AX.CFG_FB_SEL ax)
  let a := s.freeWord.toNat % 65536
  if s.get (FB.CFG_TYPE p) = 0 ∧ !s.on (FB.STAT_IDX_SEEN p) then
    (s.modAx ax (fun e => { e with elecPend := true, angle0 := a })).bumpFree
  else ((s.set (AX.ELEC_ELEC_OFFS ax) a).bumpFree).setB (AX.ELEC_ELEC_VALID ax) true

/-- The angle that needs no alignment (R97, R130): of a brushed axis, a Hall port, an SSI port whose ELEC_VALID is 1. -/
def angleKnown (s : State) (ax : Fin 16) : Bool :=
  match s.get (AX.CFG_MOTOR ax) with
  | 0 =>
    let t := s.get (FB.CFG_TYPE (s.get (AX.CFG_FB_SEL ax)))
    t == 1 || (t == 2 && s.on (AX.ELEC_ELEC_VALID ax))
  | 1 => true
  | _ => false

def showAngle (s : State) (ax : Fin 16) : State := if s.angleKnown ax then s.setB (AX.STAT_ANGLE_OK ax) true else s

end State

/-! ### Meanings -/

/-- R135, R136, R141 to R145: `dt` is the time since the previous sample with a change, in 10 ns. -/
def execQuadEdge (p : Fin 16) (a b i : Bool) (dt : Nat) (s : State) : Host.Outcome State Fault Refusal :=
  .next (s.whenRunning fun s => s.quadSample p a b i dt)

/-- R137. -/
def execHallSectorChange (p : Fin 16) (code : Fin 8) (dt : Nat) (s : State) : Host.Outcome State Fault Refusal :=
  .next (s.whenRunning fun s => s.hallSample p code dt)

/-- R137: the invalid code has lasted 20 µs. -/
def execHallInvalidTimeout (p : Fin 16) (s : State) : Host.Outcome State Fault Refusal :=
  .next (s.whenRunning fun s =>
    if s.counts p && s.get (FB.CFG_TYPE p) == 1 && s.get (FB.HALL_SECTOR p) == 7 then s.portFault p 5 else s)

/-- R138, R140: the unit clocks a frame, or listens while it shares the encoder and is not ACTIVE or has not taken the clock over. -/
def execSsiFrameStart (p : Fin 16) (s : State) : Host.Outcome State Fault Refusal :=
  .next (s.whenRunning fun s =>
    if s.pageOn (pgFB p) && s.get (FB.CFG_TYPE p) == 2 then
      if s.on (FB.CFG_SSI_SHARE p) && !(s.active && s.fb[p].clocking) then
        (s.setB (FB.STAT_LISTEN p) true).modFb p (fun e => { e with clocking := false })
      else
        ((s.setB (FB.STAT_LISTEN p) false).modFb p (fun e => { e with clocking := true })).emit (.ssiFrame p)
    else s)

/-- R139: `dt` is the time since the previous frame whose value differed, in 10 ns. -/
def execSsiFrameReceived (p : Fin 16) (f : SsiFrame) (dt : Nat) (s : State) : Host.Outcome State Fault Refusal :=
  .next (s.whenRunning fun s => s.ssiFrame p f dt)

/-- R140: after 2 × MONO without clock edges a unit that has become ACTIVE drives the clock. -/
def execSsiClockTakeover (p : Fin 16) (s : State) : Host.Outcome State Fault Refusal :=
  .next (s.whenRunning fun s =>
    if s.active && s.pageOn (pgFB p) && s.get (FB.CFG_TYPE p) == 2 then
      (s.setB (FB.STAT_LISTEN p) false).modFb p (fun e => { e with clocking := true })
    else s)

/-- R141 to R143: a rising edge of the index with no change of A or B. -/
def execIndex (p : Fin 16) (s : State) : Host.Outcome State Fault Refusal :=
  .next (s.whenRunning fun s => s.indexLevel p true false)

/-- R145: fault cause 8. -/
def execIndexStuck (p : Fin 16) (s : State) : Host.Outcome State Fault Refusal :=
  .next (s.whenRunning fun s =>
    if s.on (FB.CFG_IDX_EN p) && s.get (FB.CFG_TYPE p) == 0 && s.counts p then
      (s.modFb p (fun e => { e with idx := true, idxHigh := some ((e.idxHigh).getD (s.getI (FB.COUNT p))) })).portFault p 8
    else s)

/-- R145: EVT.IDX_MISS and no other action. -/
def execIdxMiss (p : Fin 16) (s : State) : Host.Outcome State Fault Refusal :=
  .next (s.whenRunning fun s =>
    if s.on (FB.CFG_IDX_EN p) && s.get (FB.CFG_TYPE p) == 0 && s.counts p then s.raise (pgFB p) 6 else s)

/-- R142: the next index is the new reference. -/
def execIdxRearm (p : Fin 16) (s : State) : Host.Outcome State Fault Refusal :=
  .next (s.whenRunning fun s => s.setB (FB.STAT_IDX_SEEN p) false)

/-- R147: SPEED is exactly 0, and the observer stands at COUNT. -/
def execStillTimeout (p : Fin 16) (s : State) : Host.Outcome State Fault Refusal :=
  .next (s.whenRunning fun s =>
    (((s.set (FB.SPEED p) 0).setB (FB.STAT_STILL p) true).setB (FB.STAT_SETTLING p) false).modFb p (fun e => { e with obsOff := 0 }))

/-- R150: the receivers of a pair that the port type uses; those of a disabled port go on showing the flag (R133). -/
def execWireBreak (p : Fin 16) (pair : Pair) (s : State) : Host.Outcome State Fault Refusal :=
  .next (s.whenRunning fun s =>
    if s.pairUsed p pair then
      let s := (s.setPairFlag p pair true).portAgain p (State.pairCause pair)
      if s.counts p then s.portFault p (State.pairCause pair) else s
    else s)

/-- R150, R152: above 200 mV again. -/
def execWireBreakCleared (p : Fin 16) (pair : Pair) (s : State) : Host.Outcome State Fault Refusal :=
  .next (s.whenRunning fun s =>
    if s.on (State.pairFlag p pair) then
      let s := s.setPairFlag p pair false
      if s.get (FB.FAULT_CAUSE p) = State.pairCause pair then s.portInactive p else s
    else s)

/-- R151: fault cause 9, while the direction of an axis that uses the port is judged. -/
def execDirectionMismatch (p : Fin 16) (s : State) : Host.Outcome State Fault Refusal :=
  .next (s.whenRunning fun s => if s.counts p && (s.usersOf p).any s.directionJudged then s.portFault p 9 else s)

/-- R97, R151: the count movements of the four d-axis current steps. Every one within 4 counts is cause 12; a count that moves against
the rotation of the angles, as the second to fourth step turn them, is port fault cause 9; otherwise the angle is established and the
motion that waited starts. Cause 12 is located in macro 2, the current loop, which applies the alignment's currents: R125 ties no macro to
it (DESIGN CHOICE, log entry 145). -/
def execAlignmentDone (ax : Fin 16) (d0 d1 d2 d3 : Int) (s : State) : Host.Outcome State Fault Refusal :=
  .next (s.whenRunning fun s =>
    if !(s.ax[ax].moving && s.ax[ax].kind == .align) then s
    else if [d0, d1, d2, d3].all (fun d => decide (d.natAbs ≤ 4)) then s.axisFault ax 12 (State.driveLoc ax 2)
    else if [d1, d2, d3].any (fun d => decide (d < -4)) then s.portFault (fin16 (s.get (AX.CFG_FB_SEL ax))) 9
    else (s.angleFound ax).afterAlign ax)

/-- R152. -/
def execFbClr (p : Fin 16) (s : State) : Host.Outcome State Fault Refusal :=
  .next (s.whenRunning fun s => s.clearPort p)

/-- R155 to R157: one count of the backlog becomes an output edge. Z rises with the first edge after an index of a quadrature source
and is high for 4 × TMIN, a time that is given out with the edge (log entry 114). The outputs of a disabled page, or with EN = 0, stay
low. -/
def execEncoOutputEdge (e : Fin 4) (s : State) : Host.Outcome State Fault Refusal :=
  .next (s.whenRunning fun s =>
    let x := s.enc[e]
    if s.pageOn 0x0F && s.on (ENC.CFG_EN e) && x.back != 0 && !s.encParked e then
      let d : Int := if 0 < x.back then 1 else -1
      let phase := ((x.phase : Int) + d) % 4
      let rises := s.on (ENC.CFG_EN_Z e) && x.zDue && s.get (FB.CFG_TYPE (s.get (ENC.CFG_SRC e))) == 0
      let z := if rises then 4 * s.get (ENC.TIMING_TMIN e) else 0
      let (a, b) := State.encLines phase.toNat (s.on (ENC.CFG_INV_DIR e))
      let s := s.modEnc e (fun x => { x with
          phase := phase.toNat, back := x.back - d, zDue := false, zLeft := if rises then z else x.zLeft })
      (s.set (ENC.STAT_BACKLOG e) (x.back - d).natAbs).emit (.encEdge e a b z)
    else s)

/-- The time of Z is over by SC's next tick: 4 × TMIN is at most 20.4 µs (R156). -/
def State.zFalls (s : State) (e : Fin 4) : State := s.modEnc e (fun x => { x with zLeft := 0 })

def State.zTick (s : State) : State := ((List.range 4).map fin4).foldl (fun (s : State) (e : Fin 4) => s.zFalls e) s

end Sys2Proof.Machine
end

