-- ==== Sys2Proof/Machine/Effort.lean ====
section
/-! DEFINITION. The effort model (R166 to R169): bins, the force estimate, SC's current-only bound, the power prediction of R321, the
baseline CRC and the bounds that SC checks (R171), the derivation of a learn run (R180, R181), the adaptation (R183) and the effort
snapshot (R186). Quotients are rounded towards zero, as the listings of R180 and R183 divide (log entry 14). -/

namespace Sys2Proof.Machine

/-! ### CRC-32 of IEEE 802.3 (R171, R363) -/

def crcBits : Nat → Word → Word → Word
  | 0, _, c => c
  | k + 1, poly, c => crcBits k poly (if c.getLsbD 0 then (c >>> 1) ^^^ poly else c >>> 1)

def crcByte (poly c : Word) (b : Byte) : Word := crcBits 8 poly (c ^^^ b.setWidth 32)

/-- CRC-32 with the polynomial of IEEE 802.3: reflected 0xEDB88320, initial and final all ones. -/
def crc32 (bs : List Byte) : Word := ~~~ (bs.foldl (crcByte 0xEDB88320#32) 0xFFFFFFFF#32)

def wordBytes (w : Word) : List Byte := [w.extractLsb' 0 8, w.extractLsb' 8 8, w.extractLsb' 16 8, w.extractLsb' 24 8]

namespace State

/-! ### The model of an axis -/

def kf (s : State) (ax : Fin 16) : Nat :=
  if isStep ax then s.get (DW.KF_STEP (doorwayOf ax)) else s.get (DW.KF_DOOR (doorwayOf ax))
def mEq (s : State) (ax : Fin 16) : Nat :=
  if isStep ax then s.get (DW.M_C_STEP_M_EQ (doorwayOf ax)) else s.get (DW.M_C_DOOR_M_EQ (doorwayOf ax))
def cVisc (s : State) (ax : Fin 16) : Nat :=
  if isStep ax then s.get (DW.M_C_STEP_C_VISC (doorwayOf ax)) else s.get (DW.M_C_DOOR_C_VISC (doorwayOf ax))

def fricF (ax : Fin 16) (b : Nat) : Fld :=
  if isStep ax then DW.ADAPT_STEP_FRIC (doorwayOf ax) b else DW.ADAPT_DOOR_FRIC (doorwayOf ax) b
def springF (ax : Fin 16) (b : Nat) : Fld :=
  if isStep ax then DW.ADAPT_STEP_SPRING (doorwayOf ax) b else DW.ADAPT_DOOR_SPRING (doorwayOf ax) b
def baseFricF (ax : Fin 16) (b : Nat) : Fld :=
  if isStep ax then DW.BASE_STEP_FRIC (doorwayOf ax) b else DW.BASE_DOOR_FRIC (doorwayOf ax) b
def baseSpringF (ax : Fin 16) (b : Nat) : Fld :=
  if isStep ax then DW.BASE_STEP_SPRING (doorwayOf ax) b else DW.BASE_DOOR_SPRING (doorwayOf ax) b
def validF (ax : Fin 16) : Fld :=
  if isStep ax then DW.EFF_STAT_S_VALID (doorwayOf ax) else DW.EFF_STAT_D_VALID (doorwayOf ax)
def satF (ax : Fin 16) : Fld :=
  if isStep ax then DW.EFF_STAT_SAT_S (doorwayOf ax) else DW.EFF_STAT_SAT_D (doorwayOf ax)
def crcF (ax : Fin 16) : Fld := if isStep ax then DW.CRC_STEP (doorwayOf ax) else DW.CRC_DOOR (doorwayOf ax)

/-- The bin that holds a position (R166). -/
def binOf (s : State) (ax : Fin 16) (x : Int) : Nat :=
  min 127 (128 * (x - s.endClosed ax).natAbs / max 1 (s.endOpen ax - s.endClosed ax).natAbs)

/-- The sign s of R166: the last commanded direction; before the first motion the closing direction. -/
def signOf (s : State) (ax : Fin 16) : Int := if s.ax[ax].sign = 0 then s.closeDir ax else s.ax[ax].sign

/-- The measured acceleration over the last 5 ticks, mm/s² (R166). -/
def accelOf (s : State) (ax : Fin 16) : Int :=
  match s.ax[ax].speeds with
  | [v0, _, _, _, _, v5] => (v0 - v5) * 100
  | _ => 0

/-- F_d = KF × IQ / 1,000. -/
def driveForce (s : State) (ax : Fin 16) : Int := ((s.kf ax : Int) * s.getI (AX.IQ ax)).tdiv 1000

/-- SC's current-only bound (R169). -/
def fCb (s : State) (n : Fin 8) : Int :=
  let ax := doorAxis n
  max 0 (((s.signOf ax) * s.scGet (DW.KF_DOOR n) * s.getI (AX.IQ ax)).tdiv 1000 + s.scGet (DW.SC_FORCE_F_ASSIST n))

/-- Whether the estimate falls back on the current-only bound (R167). -/
def boundOnly (s : State) (ax : Fin 16) : Bool :=
  ((s.portOf ax).map (fun p => s.on (FB.STAT_SETTLING p) || s.on (FB.STAT_STILL p))).getD false ||
    (!isStep ax && (s.get (DW.DEGR (doorwayOf ax))).testBit 4)

/-- F_INERT = −s × M_EQ × a; 0 where the bound is used (R166, R167). -/
def fInert (s : State) (ax : Fin 16) : Int :=
  if s.boundOnly ax then 0 else -(s.signOf ax * ((s.mEq ax : Int) * s.accelOf ax).tdiv 1000)

/-- The force estimate of R166 and R167. -/
def fEst (s : State) (ax : Fin 16) : Int :=
  if s.boundOnly ax then (if isStep ax then 0 else s.fCb (doorwayOf ax)) else
  let b := s.binOf ax (s.getI (AX.POS ax))
  let ma := ((s.mEq ax : Int) * s.accelOf ax).tdiv 1000
  let cv := ((s.cVisc ax : Int) * s.getI (AX.SPEED ax)).tdiv 10000
  s.signOf ax * (s.driveForce ax - ma - cv - s.getI (springF ax b)) - s.get (fricF ax b)

/-! ### Power prediction (R321) -/

/-- The power at one point of a profile, W rounded up: F in 0.1 N, v in 0.1 mm/s. -/
def powerAt (s : State) (ax : Fin 16) (f v : Nat) : Nat :=
  let kf := max 1 (s.kf ax)
  let k2 := if s.get (AX.CFG_MOTOR ax) = 0 then 3 else 2
  ceilDiv ((2 * f * v * kf * kf + k2 * f * f * s.get (AX.MOTOR_R_R ax) * 100) * 100)
    (200000 * kf * kf * max 1 (s.get PBS.THERM_ETA))

/-- Whether the prediction takes F_d at I_MAX (R184, R321). -/
def predAtMax (s : State) (ax : Fin 16) : Bool :=
  if isStep ax then decide (s.get (DW.DRIFT_SAT_MAX (doorwayOf ax)) < s.get (satF ax))
  else (s.get (DW.DEGR (doorwayOf ax))).testBit 4

/-- The acceleration of the profile at a point, mm/s², along the direction of travel: A_ACC or A_DEC of the set in use while the
speed changes, 0 in the cruise and the creep. A motion from rest begins at VSTART′ (R98). -/
def profileAccel (s : State) (ax : Fin 16) (up : Bool) (vBefore : Nat) : Int :=
  let e := s.ax[ax]
  let start := match e.kind with | .home _ => 0 | _ => 256 * min (s.prof ax up 0) (s.vmOf ax up).1
  let before := if vBefore = 0 then start else vBefore
  if e.trajDone then 0 else
  if before < e.velQ.natAbs then s.prof ax up 3 else if e.velQ.natAbs < before then -(s.prof ax up 4 : Int) else 0

/-- The power at a tick of the profile, with the speed of the tick before (R321). -/
def pointPower (s : State) (ax : Fin 16) (vBefore : Int) : Nat :=
  let e := s.ax[ax]
  let v := roundDiv e.velQ 256
  let f := if s.predAtMax ax then ((s.kf ax : Int) * s.get (AX.I_LIMIT_I_MAX ax)).tdiv 1000 else
    let b := s.binOf ax (s.ofQ ax e.posQ)
    let way := if e.velQ = 0 then vBefore else e.velQ
    let sg : Int := if way < 0 then -1 else if 0 < way then 1 else s.signOf ax
    ((s.mEq ax : Int) * (sg * s.profileAccel ax (sg == 1) vBefore.natAbs)).tdiv 1000 + ((s.cVisc ax : Int) * v).tdiv 10000 +
      s.getI (springF ax b) + sg * s.get (fricF ax b)
  s.powerAt ax f.natAbs v.natAbs

/-- The highest power over the ticks of the planned profile; the fuel bounds a motion at 200 s. -/
def predLoop : Nat → State → Fin 16 → Nat → Nat
  | 0, _, _, m => m
  | k + 1, s, ax, m =>
    if s.ax[ax].trajDone then m else
      let v := s.ax[ax].velQ
      let s' := s.trajTick ax
      predLoop k s' ax (max m (s'.pointPower ax v))

/-- P_pred of a motion that would start now (R321); an alignment before it (R97) leaves its profile as it is. -/
def predict (s : State) (ax : Fin 16) (target : Int) (limit : Nat) (kind : MotionKind) (closing : Bool) : Nat :=
  let t := s.startMotion ax target limit kind closing
  predLoop 1000000 (t.modAx ax (fun e => { e with kind := kind, trajDone := false })) ax 0

/-! ### SC's checks of the model (R171) and its validity (R181) -/

/-- The baseline tables of an axis as bytes, 128 words little-endian. -/
def baseBytes (s : State) (ax : Fin 16) : List Byte :=
  (List.range 128).flatMap (fun b => wordBytes (s.word (baseFricF ax b).addr))

def baseCrc (s : State) (ax : Fin 16) : Word := crc32 (s.baseBytes ax)

/-- Check 2 of SC: every adapted entry within DRIFT_MAX of its baseline, by SC's committed copy (R228), every FRIC ≥ 0 (FRIC is stored
unsigned). -/
def driftInBounds (s : State) (ax : Fin 16) : Bool :=
  let m := s.scGet (DW.DRIFT_DRIFT_MAX (doorwayOf ax))
  (List.range 128).all (fun b =>
    decide (((s.get (fricF ax b) : Int) - s.get (baseFricF ax b)).natAbs ≤ m) &&
    decide ((s.getI (springF ax b) - s.getI (baseSpringF ax b)).natAbs ≤ m) && decide (0 ≤ s.getI (fricF ax b)))

/-- The number of saturated bins: at either bound of DRIFT_MAX (R183). -/
def satBins (s : State) (ax : Fin 16) : Nat :=
  let m := s.get (DW.DRIFT_DRIFT_MAX (doorwayOf ax))
  ((List.range 128).filter (fun b =>
    decide (((s.get (fricF ax b) : Int) - s.get (baseFricF ax b)).natAbs = m) ||
    decide ((s.getI (springF ax b) - s.getI (baseSpringF ax b)).natAbs = m))).length

/-- SAT_BINS of an axis; without a baseline no bin is bounded. -/
def showSat (s : State) (ax : Fin 16) : State := s.set (satF ax) (if s.mEq ax = 0 then 0 else s.satBins ax)

/-- The model of an axis is valid at boot and at a commit when a baseline exists, its CRC matches and SAT_BINS ≤ SAT_MAX (R181). -/
def modelValid (s : State) (ax : Fin 16) : Bool :=
  s.mEq ax != 0 && decide ((s.baseCrc ax).toNat = s.get (crcF ax)) && decide (s.get (satF ax) ≤ s.get (DW.DRIFT_SAT_MAX (doorwayOf ax)))

/-! ### The learn run's derivation (R180, R181) -/

/-- Means per bin, with a bin without samples taking its nearer neighbour's, the inner one's on a tie. -/
def meanAt (sums : List (Nat × Int × Nat)) (key : Nat) : Option Int :=
  (sums.find? (fun t => t.1 == key)).bind (fun t => if t.2.2 = 0 then none else some (t.2.1.tdiv t.2.2))

/-- Looks outward from bin `b` by `d`: at equal distance the bin nearer the middle of the stroke wins. -/
def nearMean (sums : List (Nat × Int × Nat)) (base b : Nat) : Nat → Nat → Int
  | 0, _ => 0
  | fuel + 1, d =>
    let lo := if d ≤ b then meanAt sums (base + (b - d)) else none
    let hi := if b + d < 128 then meanAt sums (base + (b + d)) else none
    match lo, hi with
    | some x, some y => if b < 64 then y else x
    | some x, none => x
    | none, some y => y
    | none, none => nearMean sums base b fuel (d + 1)

/-- Keys of the gathered sums: the pass (the pair at V2 follows the passes at V1), the axis (0 door, 1 step), the direction, the bin. -/
def passKey (step closing : Bool) (pass b : Nat) : Nat := 1024 * pass + 512 * step.toNat + 256 * closing.toNat + b

/-- The mean F_d of a bin in one pass and direction, a bin without samples filled (R180). -/
def passMean (sums : List (Nat × Int × Nat)) (step closing : Bool) (pass b : Nat) : Int :=
  nearMean sums (passKey step closing pass 0) b 128 0

/-- The mean of a bin and direction over the passes at V1 (R180). -/
def meanV1 (sums : List (Nat × Int × Nat)) (step closing : Bool) (passes b : Nat) : Int :=
  ((List.range passes).foldl (fun acc p => acc + passMean sums step closing p b) 0).tdiv (max 1 passes)

/-- C_VISC of the listing of R180. -/
def learnC (sums : List (Nat × Int × Nat)) (step : Bool) (passes v1 v2 : Nat) : Int :=
  let lo (closing : Bool) (b : Nat) : Int := meanV1 sums step closing passes b
  let hi (closing : Bool) (b : Nat) : Int := passMean sums step closing passes b
  let total := (List.range 128).foldl (fun acc b => acc + (hi false b - lo false b) + (lo true b - hi true b)) 0
  (total * 10000).tdiv (2 * 128 * (v2 - v1 : Int))

/-- SPRING and FRIC of a bin (R180). -/
def learnBin (sums : List (Nat × Int × Nat)) (step : Bool) (passes v1 : Nat) (c : Int) (b : Nat) : Int × Int :=
  let p := meanV1 sums step false passes b - (c * v1).tdiv 10000
  let q := meanV1 sums step true passes b + (c * v1).tdiv 10000
  ((p + q).tdiv 2, (p - q).tdiv 2)

/-- A model derived from a learn run: M_EQ, C_VISC, and SPRING and FRIC of the 128 bins. -/
structure LearnedModel where
  m : Int
  c : Int
  bins : List (Int × Int)
deriving DecidableEq, Repr

/-- M_EQ: the mean over the V2 ramp ticks of the listing of R180. -/
def learnM (ramps : List RampSample) (step : Bool) (c : Int) (bins : List (Int × Int)) : Int :=
  let xs := (ramps.filter (fun r => r.step == step && r.a != 0)).map (fun r =>
    let b := bins.getD r.bin (0, 0)
    ((r.force - (c * r.v).tdiv 10000 - b.1 - r.sign * b.2) * 1000).tdiv r.a)
  (xs.foldl (· + ·) 0).tdiv (max 1 xs.length)

def derive (sums : List (Nat × Int × Nat)) (ramps : List RampSample) (step : Bool) (passes v1 v2 : Nat) : LearnedModel :=
  let c := learnC sums step passes v1 v2
  let bins := (List.range 128).map (learnBin sums step passes v1 c)
  { m := learnM ramps step c bins, c := c, bins := bins }

/-- The first of the rejection codes 5 to 9 that applies to an axis's model; code 4 is judged by the passes (R181). -/
def judge (s : State) (ax : Fin 16) (l : LearnedModel) : Option Nat :=
  let n := doorwayOf ax
  if l.bins.any (fun b => decide (b.2 < 0)) then some 5
  else if l.bins.any (fun b => decide (s.get (DW.LEARN_LIM_SPRING_MAX n) < b.1.natAbs)) then some 6
  else if !isStep ax && l.bins.any (fun b => decide ((s.get (DW.SC_FORCE_F_ASSIST n) : Int) < -b.1)) then some 7
  else if l.m < 10 || 20000 < l.m || l.c < 0 || 10000 < l.c then some 8
  else if s.mEq ax != 0 && decide (s.get (DW.DRIFT_SAT_MAX n) < (((List.range 128).zip l.bins).filter (fun (b, x) =>
      decide (4 * s.get (DW.DRIFT_DRIFT_MAX n) < (x.1 - s.getI (baseSpringF ax b)).natAbs) ||
      decide (4 * s.get (DW.DRIFT_DRIFT_MAX n) < (x.2 - s.get (baseFricF ax b)).natAbs))).length) then some 9
  else none

/-- The accepted model replaces the baseline and the adapted tables, M_EQ, C_VISC and the CRC (R182). -/
def installModel (s : State) (ax : Fin 16) (l : LearnedModel) : State :=
  let n := doorwayOf ax
  let s := ((List.range 128).zip l.bins).foldl (fun s (b, x) =>
    let s := (s.setI (baseSpringF ax b) x.1).setI (baseFricF ax b) x.2
    (s.setI (springF ax b) x.1).setI (fricF ax b) x.2) s
  let s := if isStep ax then (s.setI (DW.M_C_STEP_M_EQ n) l.m).setI (DW.M_C_STEP_C_VISC n) l.c
    else (s.setI (DW.M_C_DOOR_M_EQ n) l.m).setI (DW.M_C_DOOR_C_VISC n) l.c
  let s := s.set (crcF ax) (s.baseCrc ax).toNat
  let s := if isStep ax then s.set (DW.LEARN_AGE_STEP n) 0 else s.set (DW.LEARN_AGE_DOOR n) 0
  (s.set (satF ax) 0).setB (validF ax) true

/-! ### Adaptation (R183) and RESET_ADAPT (R184) -/

/-- The residual of a bin and direction: 512 × axis + 256 × closing + bin. -/
def residKey (ax : Fin 16) (closing : Bool) (b : Nat) : Nat := 512 * (isStep ax).toNat + 256 * closing.toNat + b

def addSum (sums : List (Nat × Int × Nat)) (key : Nat) (v : Int) : List (Nat × Int × Nat) :=
  match sums with
  | [] => [(key, v, 1)]
  | (k, t, c) :: rest => if k = key then (k, t + v, c + 1) :: rest else (k, t, c) :: addSum rest key v

/-- One bin of the update of R183. -/
def adaptBin (s : State) (ax : Fin 16) (b : Nat) : State :=
  let n := doorwayOf ax
  let sums := s.dw[n].resid
  let rOpen := (meanAt sums (residKey ax false b)).getD 0
  let rClose := (meanAt sums (residKey ax true b)).getD 0
  if (meanAt sums (residKey ax false b)).isNone && (meanAt sums (residKey ax true b)).isNone then s else
  let nAd : Int := max 1 (s.get (DW.DRIFT_ADAPT_N n))
  let sp := s.getI (springF ax b)
  let fr : Int := s.get (fricF ax b)
  let p := sp + fr + rOpen.tdiv nAd
  let q := sp - fr - rClose.tdiv nAd
  let m : Int := s.get (DW.DRIFT_DRIFT_MAX n)
  let bs := s.getI (baseSpringF ax b)
  let bf : Int := s.get (baseFricF ax b)
  let s := s.setI (springF ax b) (clampI (bs - m) (bs + m) ((p + q).tdiv 2))
  s.setI (fricF ax b) (max 0 (clampI (bf - m) (bf + m) ((p - q).tdiv 2)))

def adaptAxis (s : State) (ax : Fin 16) : State :=
  if s.mEq ax = 0 then s else
    let s := (List.range 128).foldl (fun (s : State) b => s.adaptBin ax b) s
    let s : State := { s with ldg := { s.ldg with adapted := s.ldg.adapted.set ax (s.ldg.adapted[ax] + 1) } }
    let s := s.showSat ax
    if s.get (DW.DRIFT_SAT_MAX (doorwayOf ax)) < s.get (satF ax) then s.setB (validF ax) false else s

def resetAdapt (s : State) (ax : Fin 16) : State :=
  let s := (List.range 128).foldl (fun s b =>
    s.setWord (fricF ax b).addr (s.word (baseFricF ax b).addr)) s
  s.set (satF ax) 0

/-! ### The snapshot (R186) -/

/-- A result block completes (R55): SEQ + 1, VALID = 1, ERR as given. -/
def resDone (s : State) (f : Fld) (err : Bool) : State :=
  let seq := (fieldOf (s.word f.addr) 0 16 + 1) % 65536
  s.set f (seq + 2 ^ 30 * err.toNat + 2 ^ 31)

/-- A request clears VALID and leaves the rest (R55). -/
def resClear (s : State) (f : Fld) : State := s.set f (s.get f % 2 ^ 31)

/-- The leaves move, or are to move, in the closing direction: a closing MOVE or a learn motion, also while a command stops or turns
it; a HOME has no obstacle layers (R160). -/
def leavesClose (s : State) (n : Fin 8) : Bool :=
  let e := s.ax[doorAxis n]
  e.moving && !s.homing (doorAxis n) && (e.closing || decide (0 < e.velQ * s.closeDir (doorAxis n)))

/-- A closing motion of the leaves, whatever the state that commands have brought the doorway to, or one held by the porch (R162). -/
def closingRuns (s : State) (n : Fin 8) : Bool :=
  s.leavesClose n || match s.dwState n with
  | .closing => true
  | .held => s.on (DW.STATE_RESUME_PEND n)
  | _ => false

/-- The force limit in force on the door axis at this tick (R172, R179). Where the leaves neither close nor are held in closing it is
F_OPEN, at rest too, where the spec names no limit for the snapshot of R186 (DESIGN CHOICE, log entry 81). -/
def forceLimit (s : State) (n : Fin 8) : Nat :=
  let inEnd := decide ((s.getI (DW.DOOR_POS n) - s.getI (DW.DOOR_CLOSED_POS n)).natAbs ≤ s.get (DW.END_ZONE_END_ZONE n))
  if !s.closingRuns n then s.get (DW.F_LIMIT2_F_OPEN n)
  else if s.dwState n != .learning && inEnd then s.get (DW.F_LIMIT_F_END n)
  else s.get (DW.F_LIMIT_F_CLOSE n)

/-- A snapshot is asked for: VALID is cleared, and the next tick takes it (R55, R186). -/
def askSnap (s : State) (n : Fin 8) : State :=
  (s.resClear (DW.SNAP_STAT n)).modDw n (fun e => { e with snap := some (s.on (DW.EFF_CTRL_SNAP_AX n)) })

/-- The snapshot of an axis (R186). -/
def effSnap (s : State) (n : Fin 8) (step : Bool) : State :=
  let ax := if step then stepAxis n else doorAxis n
  if !s.pageOn (pgAX ax) || s.mEq ax == 0 then s.resDone (DW.SNAP_STAT n) true else
  let b := s.binOf ax (s.getI (AX.POS ax))
  let s := (s.setI (DW.SNAP_POS n) (s.getI (AX.POS ax))).setI (DW.SNAP_IQ n) (s.getI (AX.IQ ax))
  let s := (s.setI (DW.SNAP_F_F_EST n) (s.fEst ax)).setI (DW.SNAP_F_F_INERT n) (s.fInert ax)
  let s := (s.setI (DW.SNAP_FCB_F_CB n) (if isStep ax then 0 else s.fCb n)).set (DW.SNAP_FCB_LIMIT n)
    (if isStep ax then 0 else s.forceLimit n)
  let s := (s.set (DW.SNAP_BIN_BIN n) b).setB (DW.SNAP_BIN_BOUND n) (s.boundOnly ax)
  let s := (s.set (DW.SNAP_MODEL_FRIC n) (s.get (fricF ax b))).setI (DW.SNAP_MODEL_SPRING n) (s.getI (springF ax b))
  s.resDone (DW.SNAP_STAT n) false

/-- The tick takes the snapshot that waits for it. -/
def snapTick (s : State) (n : Fin 8) : State :=
  match s.dw[n].snap with
  | none => s
  | some step => (s.modDw n (fun e => { e with snap := none })).effSnap n step

end State

end Sys2Proof.Machine
end

