-- ==== Sys2Proof/Machine/Loads.lean ====
section
/-! DEFINITION. The load switch array (R290 to R315): the demand of a channel, its states and transitions, trips and latches, the
stored fail-safe patterns, and the meanings of the commands of "Protected Load Switch Array". -/

namespace Sys2Proof.Machine

namespace State

/-! ### The registers of a channel -/

def chStat (c : Fin 48) : Fld := LSG.CH_STAT_CH_STATE (groupOf c) (inGroup c)
def chOut (c : Fin 48) : Fld := LSG.CH_STAT_OUT (groupOf c) (inGroup c)
def chRetry (c : Fin 48) : Fld := LSG.CH_STAT_RETRY_LEFT (groupOf c) (inGroup c)
def chCause (c : Fin 48) : Fld := LSG.CH_STAT_CAUSE (groupOf c) (inGroup c)
def chActive (c : Fin 48) : Fld := LSG.CH_STAT_ACTIVE (groupOf c) (inGroup c)
def chRetryMax (c : Fin 48) : Fld := LSG.CH_CFG_RETRY_MAX (groupOf c) (inGroup c)
def onBit (c : Fin 48) : Fld := ⟨(LSG.ON (groupOf c)).addr, inGroup c, 1⟩
def chPage (c : Fin 48) : Nat := pgLSG (groupOf c)

/-- PROFp_A of the channel's profile, in the copy that its die keeps (R310, R315). -/
def chProf (s : State) (c : Fin 48) : Word :=
  s.die[groupOf c].prof.getD (2 * s.get (LSG.CH_CFG_PROF (groupOf c) (inGroup c))) 0

/-- T_IN of the channel's profile. -/
def chTin (s : State) (c : Fin 48) : Nat := fieldOf (s.chProf c) 16 16

/-- At or below 150 °C (R299). -/
def chCool (s : State) (c : Fin 48) : Bool := decide (s.getI (LSG.CH_MEAS_T (groupOf c) (inGroup c)) ≤ 1500)

/-- The LED range of an L channel (R306). -/
def chLed (s : State) (c : Fin 48) : Bool := decide (16 ≤ c.val) && (s.get (LSG.LED_LED (groupOf c))).testBit (inGroup c)

/-- A current as it is measured: in the LED range it ends at 50 mA (R306). -/
def shownI (s : State) (c : Fin 48) (i : Nat) : Nat := if s.chLed c then min 50 i else i

/-- The current limit in force, in mA (R295, R296). -/
def chLimit (s : State) (c : Fin 48) : Nat :=
  let code := fieldOf (s.chProf c) (if s.get (chStat c) = 1 then 0 else 2) 2
  (code + 1) * (if c.val < 16 then 4500 else 1500)

/-- Off for at least 2 ms (R296). -/
def longOff (s : State) (c : Fin 48) : Bool :=
  match s.ch[c].offAt with
  | none => true
  | some t => decide (2000 * 512 ≤ (s.clk32 - t) * 15625)

/-! ### Demand (R292, R294, R310, R322) -/

/-- Whether the pantry has shed the channel. -/
def isShed (s : State) (c : Nat) : Bool := s.pan.shed.any (fun x => x.1 == c)

/-- The demand before the pantry: the fail-safe pattern where one is applied, else by SRC; a disabled page turns every channel off
that is not safety-marked (R314). -/
def chDemand (s : State) (c : Fin 48) : Bool :=
  let e := s.ch[c]
  if s.get PWR.STATE_STATE = 1 then false else
  match e.pat with
  | some b => b && (s.chSafe c || s.pageOn (chPage c) || !s.die[groupOf c].alive)
  | none =>
    let on := s.on (onBit c)
    let lsin := s.on (LSG.CH_STAT_LSIN (groupOf c) (inGroup c))
    if s.chSafe c then on
    else if !s.pageOn (chPage c) then false
    else match s.die[groupOf c].src / 4 ^ (inGroup c) % 4 with
      | 0 => on
      | 1 => lsin
      | _ => on && lsin

/-- What the switch is asked to do; on heartbeat loss the die applies its pattern without sheds. -/
def chWanted (s : State) (c : Fin 48) : Bool :=
  s.chDemand c && !(s.isShed c && s.die[groupOf c].alive)

/-- The test pulse under way on an output (R250). -/
def pulseOn (s : State) (o : TestOutput) : Option Pulse := s.sc.pulses.find? (fun p => p.out == o)

/-- A dark pulse holds the channel off: an on-demand that finds it so waits for the end of the pulse (R252). -/
def pulsedOff (s : State) (c : Fin 48) : Bool := (s.pulseOn (.channel c)).any (fun p => !p.bright)

/-! ### The switch -/

def switchOn (s : State) (c : Fin 48) (st : Nat) : State :=
  let s := if s.on (chOut c) then s else s.modCh c (fun e => { e with onAt := s.clk32 })
  (s.set (chStat c) st).setB (chOut c) true

def switchOff (s : State) (c : Fin 48) (st : Nat) : State :=
  let s := if s.on (chOut c) then s.modCh c (fun e => { e with offAt := some s.clk32 }) else s
  let s := (s.set (chStat c) st).setB (chOut c) false
  s.setB (LSG.CH_STAT_LIMITING (groupOf c) (inGroup c)) false

/-- A turn-on opens the inrush window (R296). -/
def turnOn (s : State) (c : Fin 48) : State :=
  let w := decide (s.chTin c ≠ 0)
  (s.modCh c (fun e => { e with window := w })).switchOn c (if w then 1 else 2)

/-- A demand that goes on after less than 2 ms off continues the last turn-on (R296). -/
def resumeOn (s : State) (c : Fin 48) : State := s.switchOn c (if s.ch[c].window then 1 else 2)

def refill (s : State) (c : Fin 48) : State := s.set (chRetry c) (s.get (chRetryMax c))

/-- A restart after a trip, with no window (R296). -/
def restart (s : State) (c : Fin 48) : State := (s.modCh c (fun e => { e with window := false })).switchOn c 2

/-- The transitions of R301 that follow from the demand, the temperature, the role and the elapsed retry time. -/
def evalCh (s : State) (c : Fin 48) : State :=
  let st := s.get (chStat c)
  let want := s.chWanted c
  if !s.die[groupOf c].active then (if st = 4 ∨ st = 7 then s else s.switchOff c 7)
  else match st with
    | 0 => if want && !s.pulsedOff c && s.chCool c then (if s.longOff c then s.turnOn c else s.resumeOn c) else s
    | 1 => if want then s else s.switchOff c 0
    | 2 => if want then s else s.switchOff c 0
    | 3 =>
      if !want then s.switchOff c 0
      else if s.ch[c].retried && s.chCool c then (s.set (chRetry c) (s.get (chRetry c) - 1)).restart c
      else s
    | 5 => if s.chCool c then (if want then (s.refill c).restart c else (s.refill c).switchOff c 0) else s
    | 7 =>
      if s.on (LSG.GRP_STAT_UV (groupOf c)) then s.switchOff c 6 else
      let s := s.switchOff c 0
      if want && !s.pulsedOff c && s.chCool c then (if s.longOff c then s.turnOn c else s.resumeOn c) else s
    | _ => s

def evalGroup (s : State) (g : Fin 4) : State :=
  (List.range 12).foldl (fun (s : State) (i : Nat) => s.evalCh (fin48 (12 * g + i))) s

def evalAll (s : State) : State := (List.range 48).foldl (fun (s : State) (i : Nat) => s.evalCh (fin48 i)) s

/-! ### Trips (R301, R304, R305) -/

def causeMacro (cause : Nat) : Nat :=
  if cause = 2 then 1 else if cause = 4 then 2 else if cause = 5 then 4 else 0

def chLoc (c : Fin 48) (cause : Nat) : Word :=
  locCode (3 + (groupOf c).val) 10 (inGroup c) (causeMacro cause) 1023 0

/-- Whether the last EVENT record of the channel lies 10 s back (R304). -/
def tripEventDue (s : State) (c : Fin 48) : Bool :=
  match s.ch[c].evAt with
  | none => true
  | some t => decide (327680 ≤ s.clk32 - t)

/-- The EVENT record of a trip, at most one per channel in 10 s (R304). -/
def tripEvent (s : State) (c : Fin 48) (cause : Nat) : State :=
  if s.tripEventDue c = true then
    (s.modCh c (fun e => { e with evAt := some s.clk32 })).event 10 10 c.val c.val cause (s.get (chRetry c)) 8
  else s

def tripMarks (s : State) (c : Fin 48) (cause : Nat) : State :=
  let s := s.inc (LSG.TRIP_CNT (groupOf c) (inGroup c))
  let s := (s.set (chCause c) cause).setB (chActive c) (cause == 7)
  let s := s.set (LSG.FAULT_LOC (groupOf c)) (chLoc c cause).toNat
  s.raise (chPage c) 0

/-- The latch: a FAULT record (R304; the record's CTX0 is CHc_STAT, log entry 15). -/
def latchCh (s : State) (c : Fin 48) (cause : Nat) : State :=
  let s := s.switchOff c 4
  s.logFault (chPage c) cause (chLoc c cause) 2 0 (s.word (chStat c).addr).toNat none

/-- A trip of cause 1 to 4 in INRUSH or ON. -/
def trip (s : State) (c : Fin 48) (cause : Nat) : State :=
  let st := s.get (chStat c)
  if st = 1 ∨ st = 2 then
    let s := (s.tripMarks c cause).tripEvent c cause
    if s.get (chRetry c) = 0 then s.latchCh c cause
    else (s.switchOff c 3).modCh c (fun e => { e with retried := false })
  else s

/-- Causes 5 and 7 latch from every state but LATCHED, whatever RETRY_LEFT holds. -/
def latchNow (s : State) (c : Fin 48) (cause : Nat) : State :=
  if s.get (chStat c) = 4 then s else ((s.tripMarks c cause).tripEvent c cause).latchCh c cause

/-! ### SC and engines drive channels -/

/-- A demand changes during a pulse: its readback will be discarded (R252). -/
def markPulse (s : State) (o : TestOutput) : State :=
  { s with sc := { s.sc with pulses := s.sc.pulses.map (fun p => if p.out == o then { p with changed := true } else p) } }

/-- SC's demand of a safety-marked channel: its ON bit shows it (R294); a change during a pulse is noted (R252). -/
def scDrive (s : State) (c : Fin 48) (b : Bool) : State :=
  if s.on (onBit c) == b then s.evalCh c else ((s.setB (onBit c) b).markPulse (.channel c)).evalCh c

/-! ### P2 channels and sheds (R322) -/

def isP2 (s : State) (c : Nat) : Bool :=
  (s.get (if c < 32 then PBS.P2_MASK0 else PBS.P2_MASK1_LS)).testBit (c % 32) && !s.chSafe c

/-- SHED0 and SHED1 show the shed channels. -/
def showShed (s : State) : State :=
  let m := s.pan.shed.foldl (fun (m : Nat) x => m ||| 2 ^ x.1) 0
  (s.set PBS.SHED0 (m % 2 ^ 32)).set PBS.SHED1_LS (m / 2 ^ 32)

/-- Sheds a channel: its switch goes off, ON is left, SHED_CNT + 1, PBS.EVT bit 1. -/
def shedCh (s : State) (c : Fin 48) : State :=
  if s.isShed c then s else
    let s := { s with pan := { s.pan with shed := s.pan.shed ++ [(c.val, s.pan.ms)] } }
    let s := { s with ldg := { s.ldg with sheds := s.ldg.sheds.set c (s.ldg.sheds[c] + 1) } }
    ((s.showShed.inc PBS.SHED_CNT).raise 0x06 1).evalCh c

/-- A channel is no longer shed; it follows its demand. -/
def unshedCh (s : State) (c : Fin 48) : State :=
  let s := { s with pan := { s.pan with shed := s.pan.shed.filter (fun x => x.1 != c.val) } }
  s.showShed.evalCh c

/-- I_NOM × VBAT in W, rounded up (R322). -/
def nomPower (s : State) (c : Fin 48) : Nat :=
  ceilDiv (s.get (LSG.CH_CFG_I_NOM (groupOf c) (inGroup c)) * s.get (LSG.DIE_MEAS_VBAT (groupOf c))) 100000

/-- The stages that keep every P2 channel shed: heat stage 2, which acts with PBS disabled too (R327), and energy stages 1 and 2. -/
def p2Barred (s : State) : Bool :=
  s.get PBS.HEAT_HEAT_STAGE == 2 || (s.pageOn 0x06 && decide (1 ≤ s.get PBS.HEAT_E_STAGE))

/-- A P2 demand that goes on while the budget or a stage does not allow it leaves the channel shed (R322, log entry 17). -/
def demandOn (s : State) (c : Fin 48) : State :=
  if s.isP2 c && !s.on (chOut c) && (s.p2Barred || (s.pageOn 0x06 && decide (s.getI PBS.STAT_HEADROOM < s.nomPower c))) then s.shedCh c
  else s.evalCh c

/-- SET_LS and CLR_LS set the ON bit as hardware does; a demand that goes off clears a shed at once (R84, R322). -/
def setDemand (s : State) (c : Fin 48) (b : Bool) : State :=
  let was := s.chDemand c
  let s := s.setB (onBit c) b
  if s.chDemand c then (if was then s.evalCh c else s.demandOn c) else s.unshedCh c

/-! ### Fail-safe patterns (R310, R311) -/

/-- The demand that the stored pattern gives a channel; HOLD keeps the switch as it is, and a hold that runs is neither restarted
nor lengthened. A die whose unit is not ACTIVE holds OFF (R312), and what SC holds is off (R20, R263). -/
def applyPattern (s : State) (c : Fin 48) : State :=
  let d := s.die[groupOf c]
  let out := s.on (chOut c)
  let code := if d.active && !s.chSafe c then d.fs / 4 ^ (inGroup c) % 4 else 0
  let s := s.modCh c (fun e => { e with
      pat := some (code == 1 || (code == 2 && out)),
      hold := if code = 2 then some (e.hold.getD s.clk32) else none })
  (s.setB (LSG.CH_STAT_FS_APPLIED (groupOf c) (inGroup c)) true).evalCh c

/-- The die applies its stored pattern (R20, R310): every channel, locks included, on its own. -/
def dieFailsafe (s : State) (g : Fin 4) : State :=
  let s := s.modDie g (fun d => { d with alive := false, lost := true })
  let s := (List.range 12).foldl (fun (s : State) (i : Nat) => s.applyPattern (fin48 (12 * g + i))) s
  s.raise (pgLSG g) 2

/-- The control die applies the pattern at watchdog expiry: ON is forced to the demand; safety-marked channels stay with SC and a
channel that follows LSIN alone takes the pattern too (R310, R294). A channel of a disabled page stays off and takes its pattern when
the page is enabled again (R58, R314). -/
def watchdogFailsafe (s : State) : State :=
  let s := (List.range 48).foldl (fun (s : State) (i : Nat) =>
    let c := fin48 i
    if s.chSafe c then s
    else
      let s := s.applyPattern c
      s.setB (onBit c) ((s.ch[c].pat).getD false)) s
  let s := { s with onBlocked := true }
  (List.range 4).foldl (fun (s : State) (g : Nat) => s.raise (pgLSG g) 2) s

/-- R312 at the end of boot: ON is loaded with the demand that each die applies, and the channel keeps that demand until the host writes
ON; one that LSIN has a part in keeps it in place of the level. A running HOLD goes on as an ON demand. -/
def loadOn (s : State) : State :=
  let s := (List.range 48).foldl (fun (s : State) (i : Nat) =>
    let c := fin48 i
    let d := s.chDemand c
    let keeps := !s.chSafe c && s.die[groupOf c].src / 4 ^ (inGroup c) % 4 != 0
    let s := s.modCh c (fun e => { e with pat := if keeps then some d else none })
    let s := s.setB (LSG.CH_STAT_FS_APPLIED (groupOf c) (inGroup c)) false
    s.setB (onBit c) (d && !s.chSafe c)) s
  let s := (List.range 4).foldl (fun (s : State) (g : Nat) => s.modDie (fin4 g) (fun d => { d with lost := false })) s
  { s with onBlocked := true }

/-- A HOLD ends at HOLD_TMAX: the die forces the demand off and ON bit c reads 0 (R311). -/
def endHold (s : State) (c : Fin 48) : State :=
  match s.ch[c].hold with
  | none => s
  | some _ =>
    let s := s.modCh c (fun e => { e with hold := none, pat := e.pat.map (fun _ => false) })
    (s.setB (onBit c) false).evalCh c

/-- A host write of ON (R229, R294, R310 to R312): refused with CFG_REJ before the first accepted key; bits of channels that SC holds are
ignored, and a bit that would change one sets CFG_REJ; the write ends the pattern and the HOLD of every channel it may write, but for a
die that has lost its heartbeat, whose pattern lasts until the end of a boot. -/
def writeOn (s : State) (g : Fin 4) (w : Word) : State :=
  if s.onBlocked then s.reject (pgLSG g) 0x050 else
    let bad := (List.range 12).any (fun i => let c := fin48 (12 * g + i); s.chSafe c && (s.on (onBit c) != w.getLsbD i))
    let s := (List.range 12).foldl (fun (s : State) (i : Nat) =>
      let c := fin48 (12 * g + i)
      if s.chSafe c then s else
        let s := if s.die[g].lost then s else
          (s.modCh c (fun e => { e with pat := none, hold := none })).setB (LSG.CH_STAT_FS_APPLIED g i) false
        s.setDemand c (w.getLsbD i)) s
    if bad then s.reject (pgLSG g) 0x050 else s

/-- The code that SENSE follows (R308). -/
def showSense (s : State) (g : Fin 4) : State :=
  s.set (LSG.GRP_STAT_SEL_USED g)
    (if s.on (LSG.GRP_CFG_SSEL_SRC g) then s.get (LSG.SENSE_SEL_SEL g) else s.get (LSG.GRP_STAT_SSEL_PIN g))

def showSenses (s : State) : State := ((List.range 4).map fin4).foldl (fun (s : State) (g : Fin 4) => s.showSense g) s

/-- CLR of one channel (R303); below 16.0 V the channel goes on to UNDERVOLT (R301). -/
def clearCh (s : State) (c : Fin 48) : State :=
  if s.get (chStat c) ≠ 4 then s
  else if s.get (chCause c) = 7 ∧ s.on (chActive c) then s.reject (chPage c) 0x064
  else
    let s := s.setB (LSG.CH_STAT_FW_MISSING (groupOf c) (inGroup c)) false
    if s.chCool c then
      let s := s.refill c
      if !s.die[groupOf c].active then s.switchOff c 7
      else if s.on (LSG.GRP_STAT_UV (groupOf c)) then s.switchOff c 6
      else if s.chWanted c then s.restart c else s.switchOff c 0
    else if s.on (LSG.GRP_STAT_UV (groupOf c)) then s.switchOff c 6
    else s.switchOff c 5

/-- VBAT of a group as measured, in the die's and the PWR page's registers. -/
def setVbat (s : State) (g : Fin 4) (mv10 : Nat) : State :=
  let s := s.set (LSG.DIE_MEAS_VBAT g) mv10
  match g.val with
  | 0 => s.set PWR.VBAT_AB_VBAT0 mv10
  | 1 => s.set PWR.VBAT_AB_VBAT1 mv10
  | 2 => s.set PWR.VBAT_CD_VBAT0 mv10
  | _ => s.set PWR.VBAT_CD_VBAT1 mv10

end State

/-! ### Meanings -/

/-- R292: the filtered LSIN level; the die acts on it directly. -/
def execLsinChange (c : Fin 48) (level : Bool) (s : State) : Host.Outcome State Fault Refusal :=
  let t := s.setB (LSG.CH_STAT_LSIN (groupOf c) (inGroup c)) level
  .next (if t.chDemand c then (if s.chDemand c then t.evalCh c else t.demandOn c) else t.unshedCh c)

/-- R294. -/
def execLsgOnWrite (g : Fin 4) (w : Word) (s : State) : Host.Outcome State Fault Refusal :=
  .next (if s.ready then s.writeOn g w else s)

/-- R296: T_IN has elapsed since the turn-on, whether the switch is on or briefly off. -/
def execInrushWindowEnd (c : Fin 48) (s : State) : Host.Outcome State Fault Refusal :=
  let s := s.modCh c (fun e => { e with window := false })
  .next (if s.get (State.chStat c) = 1 then s.switchOn c 2 else s)

/-- R295: cause 3. -/
def execLimitHoldTrip (c : Fin 48) (s : State) : Host.Outcome State Fault Refusal := .next (s.trip c 3)

/-- R297: cause 2, only after the window. -/
def execOverloadTrip (c : Fin 48) (s : State) : Host.Outcome State Fault Refusal :=
  .next (if s.get (State.chStat c) = 2 then s.trip c 2 else s)

/-- R298: cause 1, only outside the window. -/
def execShortToGround (c : Fin 48) (s : State) : Host.Outcome State Fault Refusal :=
  .next (if s.get (State.chStat c) = 2 then s.trip c 1 else s)

/-- R299: 170 °C, cause 4. -/
def execThermalShutdown (c : Fin 48) (s : State) : Host.Outcome State Fault Refusal :=
  .next ((s.set (LSG.CH_MEAS_T (groupOf c) (inGroup c)) 1700).trip c 4)

/-- R299, R301: at 150 °C again. -/
def execChannelCooled (c : Fin 48) (s : State) : Host.Outcome State Fault Refusal :=
  .next ((s.set (LSG.CH_MEAS_T (groupOf c) (inGroup c)) 1500).evalCh c)

/-- R300: cause 5, seen after a turn-off or a dark test pulse; FW_MISSING raises EVT bit 0 on a LATCHED channel too (R314). -/
def execFreewheelMissing (c : Fin 48) (s : State) : Host.Outcome State Fault Refusal :=
  .next (((s.setB (LSG.CH_STAT_FW_MISSING (groupOf c) (inGroup c)) true).raise (State.chPage c) 0).latchNow c 5)

/-- R301. -/
def execRetryTimer (c : Fin 48) (s : State) : Host.Outcome State Fault Refusal :=
  .next (if s.get (State.chStat c) = 3 then (s.modCh c (fun e => { e with retried := true })).evalCh c else s)

/-- R302: on for 10 s without a trip. -/
def execRetryRefill (c : Fin 48) (s : State) : Host.Outcome State Fault Refusal :=
  .next (if s.on (State.chOut c) then s.refill c else s)

/-- R303: the bits of CLR. -/
def execLsgClr (g : Fin 4) (mask : BitVec 12) (s : State) : Host.Outcome State Fault Refusal :=
  .next (s.whenReady fun s =>
    (List.range 12).foldl (fun (s : State) (i : Nat) => if mask.getLsbD i then s.clearCh (fin48 (12 * g + i)) else s) s)

/-- R291: below 16.0 V every channel of the group turns off; LATCHED stays (R301). -/
def execGroupUndervoltage (g : Fin 4) (mv10 : Nat) (s : State) : Host.Outcome State Fault Refusal :=
  let s := s.setVbat g mv10
  .next (if 1600 ≤ mv10 then s else
    (List.range 12).foldl (fun (s : State) (i : Nat) =>
      let c := fin48 (12 * g + i)
      if s.get (State.chStat c) = 4 then s else s.switchOff c 6) (s.setB (LSG.GRP_STAT_UV g) true))

/-- R291: above 17.0 V each channel whose demand is on restarts as a new turn-on; the input filters of the group's switch die start
again where its VBAT has been away (R254). -/
def execGroupVoltageReturn (g : Fin 4) (mv10 : Nat) (s : State) : Host.Outcome State Fault Refusal :=
  let s := s.setVbat g mv10
  .next (if mv10 ≤ 1700 then s else
    let s := if s.on (LSG.GRP_STAT_UV g) then s.restartFilters ((List.range 16).map (fun i => fin64 (16 * g.val + i))) else s
    (List.range 12).foldl (fun (s : State) (i : Nat) =>
      let c := fin48 (12 * g + i)
      if s.get (State.chStat c) = 6 then
        (if !s.die[g].active then s.switchOff c 7
         else if s.chWanted c && s.chCool c then s.turnOn c else s.switchOff c 0)
      else s) (s.setB (LSG.GRP_STAT_UV g) false))

/-- R306: the current has been below the threshold, or again above 1.25 times it, for OL_T. -/
def execOpenLoadOn (c : Fin 48) (cleared : Bool) (s : State) : Host.Outcome State Fault Refusal :=
  let f := LSG.CH_STAT_OL_ON (groupOf c) (inGroup c)
  .next (if cleared then s.setB f false
    else if s.on (LSG.CH_CFG_OL_ON_EN (groupOf c) (inGroup c)) && s.on (State.chOut c) && !s.on f then
      (s.setB f true).raise (State.chPage c) 1
    else s)



/-- R309: ERR while the group page is disabled; otherwise the samples of the 50 µs window. -/
def execSenseSnapshot (g : Fin 4) (m : GroupMeas) (s : State) : Host.Outcome State Fault Refusal :=
  let s := (s.resClear (LSG.SNAP_STAT g)).setB (LSG.SNAP_CTRL_REQ g) false
  .next (if !s.pageOn (pgLSG g) then (s.resDone (LSG.SNAP_STAT g) true).raise (pgLSG g) 3 else
    let s := (List.range 12).foldl (fun (s : State) (i : Nat) =>
      (s.set (LSG.SNAP_I_I g i) (s.shownI (fin48 (12 * g + i)) (m.i.getD i 0))).setI (LSG.SNAP_I_T g i) (m.t.getD i 0)) s
    let s := (s.setI (LSG.SNAP_DIE_TEMP g) m.die).set (LSG.SNAP_DIE_VBAT g) m.vbat
    (s.resDone (LSG.SNAP_STAT g) false).raise (pgLSG g) 3)

/-- R308: the level of the SSEL pins, one set for all four groups, whichever of them the row names. -/
def execSselChange (_g : Fin 4) (code : Fin 16) (s : State) : Host.Outcome State Fault Refusal :=
  .next (((List.range 4).foldl (fun (s : State) (g : Nat) => s.set (LSG.GRP_STAT_SSEL_PIN g) code) s).showSenses)

/-- R311. -/
def execHoldTimeout (c : Fin 48) (s : State) : Host.Outcome State Fault Refusal := .next (s.endHold c)

/-- R313: above 25 A for 100 ms. -/
def execGroupOvercurrent (g : Fin 4) (s : State) : Host.Outcome State Fault Refusal :=
  .next (if s.on (LSG.GRP_STAT_GRP_OVER g) then s else (s.setB (LSG.GRP_STAT_GRP_OVER g) true).raise (pgLSG g) 0)

/-- R313: at or below 25 A for 1 s. -/
def execGroupOverClear (g : Fin 4) (s : State) : Host.Outcome State Fault Refusal :=
  .next (s.setB (LSG.GRP_STAT_GRP_OVER g) false)

end Sys2Proof.Machine
end

