-- ==== Sys2Proof/Machine/Image.lean ====
section
/-! DEFINITION. The configuration image of the vault (R383, R465): which words and bits it holds, how it is built from the registers
and loaded into them, its bytes, its SHA-256, records as bytes (R363, R365), and the switch to a new bank (R390). -/

namespace Sys2Proof.Machine

/-! ### SHA-256, the hash of the image and of a password (R383, R387). Its constants are the fractions of roots of the first primes;
its two chains keep the newest word first, so that the eight working words are the newest four of each. -/

/-- The largest number of `b` bits, added to `r`, whose k-th power does not exceed `x`. -/
def rootFrom (k x : Nat) : Nat → Nat → Nat
  | 0, r => r
  | b + 1, r => rootFrom k x b (if (r + 2 ^ b) ^ k ≤ x then r + 2 ^ b else r)

/-- The first 32 bits after the point of the k-th root of a number below 512. -/
def rootFraction (k p : Nat) : Nat := rootFrom k (p * 2 ^ (32 * k)) 37 0 % 2 ^ 32

/-- The 64 primes below 312. -/
def hashPrimes : List Nat :=
  (List.range 312).filter (fun p => 2 ≤ p && (List.range 18).all (fun d => d < 2 || p < d * d || p % d != 0))

/-- The exclusive or of a word turned right by each of some counts. -/
def turns (counts : List Nat) (x : Nat) : Nat :=
  counts.foldl (fun y n => y ^^^ (x / 2 ^ n + x % 2 ^ n * 2 ^ (32 - n))) 0

/-- The hash while a block is taken in: the sixteen words of the schedule that come next, and the two chains. -/
structure HashRun where
  ahead : List Nat
  up    : List Nat
  low   : List Nat

/-- One of the 64 rounds, with its constant. -/
def HashRun.round (r : HashRun) (k : Nat) : HashRun :=
  let w (i : Nat) : Nat := r.ahead.getD i 0
  let u (i : Nat) : Nat := r.up.getD i 0
  let l (i : Nat) : Nat := r.low.getD i 0
  let pick := l 2 ^^^ (l 0 &&& (l 1 ^^^ l 2))
  let most := (u 0 &&& (u 1 ||| u 2)) ||| (u 1 &&& u 2)
  let into := l 3 + turns [6, 11, 25] (l 0) + pick + k + w 0
  let later := (turns [7, 18] (w 1) ^^^ (w 1 / 8)) + (turns [17, 19] (w 14) ^^^ (w 14 / 1024)) + w 0 + w 9
  { ahead := r.ahead.tail ++ [later % 2 ^ 32]
    up := ((into + turns [2, 13, 22] (u 0) + most) % 2 ^ 32) :: r.up.take 3
    low := ((into + u 3) % 2 ^ 32) :: r.low.take 3 }

def beBytes (w : Word) : List Byte := (wordBytes w).reverse

/-- The words of a byte string, most significant byte first. -/
def beNats : Nat → List Byte → List Nat
  | 0, _ => []
  | k + 1, bs => ofLeBytes (bs.take 4).reverse :: beNats k (bs.drop 4)

/-- The chains after the blocks of a padded message. -/
def hashBlocks : Nat → List Nat × List Nat → List Byte → List Nat × List Nat
  | 0, c, _ => c
  | k + 1, c, bs =>
    let r := (hashPrimes.map (rootFraction 3)).foldl HashRun.round ⟨beNats 16 (bs.take 64), c.1, c.2⟩
    let sum (x y : List Nat) : List Nat := List.zipWith (fun a b => (a + b) % 2 ^ 32) x y
    hashBlocks k (sum c.1 r.up, sum c.2 r.low) (bs.drop 64)

/-- A message is padded by 0x80, zeros and its length in bits to whole blocks of 64 bytes. -/
def sha256 (msg : List Byte) : List Byte :=
  let blocks := (msg.length + 72) / 64
  let fill := 64 * blocks - msg.length - 9
  let start := (hashPrimes.take 8).map (rootFraction 2)
  let ends := hashBlocks blocks (start.take 4, start.drop 4) (msg ++ 0x80#8 :: List.replicate fill 0 ++ (leBytes 8 (8 * msg.length)).reverse)
  (ends.1 ++ ends.2).flatMap (fun v => beBytes (BitVec.ofNat 32 v))

/-! ### Which bits the image holds (R383, R465) -/

def fieldsMask (fs : List FieldRow) (p : FieldRow → Bool) : Word :=
  fs.foldl (fun m f => if p f then m ||| fieldMask f.lo f.width else m) 0

/-- The offsets and masks of one page's words of an origin, in ascending order of offset. -/
def pageWords (k : PageKind) (p : FieldRow → Bool) : List (Nat × Word) :=
  k.regs.foldl (fun ws r =>
    let m := fieldsMask r.fields p
    if m = 0 then ws else
      (List.range r.count).foldl (fun (ws : List (Nat × Word)) i => cellInsert (r.off + r.stride * i) m ws) ws) []

/-- The words of an origin of a page: PAGE_CTRL.ENABLE first where the image is meant; the profile registers only under LSG0
(R315). -/
def wordsOfPage (o : Origin) (page : Nat) : List (Nat × Word) :=
  match pageOf page with
  | none => []
  | some (k, inst) =>
    let ws := pageWords k (fun f => f.origin == o)
    let ws := if k == .lsg && inst != 0 then ws.filter (fun w => !(0x300 ≤ w.1 && w.1 < 0x340)) else ws
    let ws := (if o = Origin.image then [(4, 1#32)] else []) ++ ws
    ws.map (fun (w : Nat × Word) => (4096 * page + w.1, w.2))

def wordsOf (o : Origin) : List (Nat × Word) := (List.range 256).flatMap (wordsOfPage o)

/-- The 32-bit words of an image in the fixed layout of R465, each with the page it belongs to: the register section, the unit B section,
and the password section, which belongs to none. -/
def Bank.image (b : Bank) : List (Option Nat × Word) :=
  let ws := wordsOf .image
  let pw := b.salt ++ b.hash
  ws.map (fun w => (some (w.1 / 4096), cellGet zeroWord b.cells w.1)) ++
  (ws.filter (fun w => perUnit w != 0)).map (fun w => (some (w.1 / 4096), cellGet zeroWord b.unitB w.1)) ++
  (List.range (pw.length / 4)).map (fun i => (none, BitVec.ofNat 32 (ofLeBytes ((pw.drop (4 * i)).take 4))))

def Bank.bytes (b : Bank) : List Byte := b.image.flatMap (fun w => wordBytes w.2)

/-- The vault hash (R383). -/
def Bank.sha (b : Bank) : List Byte := sha256 b.bytes

/-- The pages of the words that differ between two images (CONFIG_CHANGE WORDS and PAGES). -/
def Bank.diff (x y : Bank) : List (Option Nat) :=
  ((List.zip x.image y.image).filter (fun p => p.1.2 != p.2.2)).map (·.1.1)

/-- A bank written whole: its header, the commit word last (R383, R389). -/
def Bank.sealed (b : Bank) (gen : Nat) : Bank :=
  { b with gen := gen, good := true, magic := bankMagic, len := b.bytes.length, crc := crc32 b.bytes, commit := bankCommit }

/-- Its password section is that of the delivery image (R384). -/
def Bank.delivered (b : Bank) : Bool := !b.hash.isEmpty && b.hash == Config.deliveryHash && b.salt == Config.deliverySalt

/-- The delivery image (R384): every vault field at its delivery value, every page disabled, DW_USED 0. -/
def deliveryBank : Bank :=
  let cells := (wordsOf .image).foldl (fun (m : Cells) w => cellSet zeroWord m w.1 (regReset w.1 &&& w.2)) []
  Bank.sealed { Bank.empty with cells := cells, salt := Config.deliverySalt, hash := Config.deliveryHash } Config.deliveryGen.toNat

namespace State

/-- The image in force: of the bank named, or with no valid bank the delivery image (R384). -/
def bankInForce (s : State) : Bank := if Bank.valid s.bankHeld then s.bankHeld else deliveryBank

/-- Loads the bits of a word from its committed value. -/
def loadWord (s : State) (w : Nat × Word) : State :=
  s.setWord w.1 ((s.word w.1 &&& ~~~ w.2) ||| s.committedWord w)

/-- The image that the registers hold now, with the other unit's per-unit copy kept (R389, R340). -/
def buildBank (s : State) (gen : Nat) : Bank :=
  let old := s.bankInForce
  let isB := s.on BRV.STAT_UNITSEL
  let ws := wordsOf .image
  let put (m : Cells) (a : Nat) (v : Word) : Cells := if v = 0 then m else m ++ [(a, v)]
  let cells := ws.foldl (fun (m : Cells) w =>
    let live := s.word w.1 &&& w.2
    let pu := perUnit w
    put m w.1 (if isB then (live &&& ~~~ pu) ||| (cellGet zeroWord old.cells w.1 &&& pu) else live)) []
  let unitB := ws.foldl (fun (m : Cells) w =>
    let pu := perUnit w
    put m w.1 (if isB then s.word w.1 &&& pu else cellGet zeroWord old.unitB w.1 &&& pu)) []
  let (hash, salt) := s.vlt.newPw.getD (old.hash, old.salt)
  Bank.sealed { Bank.empty with cells := cells, unitB := unitB, salt := salt, hash := hash } gen

end State

def dedup : List Nat → List Nat
  | [] => []
  | a :: t => a :: (dedup t).filter (· != a)

/-! ### Records as bytes (R363, R365) -/

def Payload.typeCode : Payload → Nat
  | .doorCycle _ => 1
  | .event .. => 2
  | .fault .. => 3
  | .configChange _ => 4
  | .power .. => 5
  | .summary _ => 6

/-- Payload bytes from byte 16 of the record. -/
def Payload.bytes : Payload → List Byte
  | .doorCycle d =>
    leBytes 2 d.openT ++ leBytes 2 d.closeT ++ leBytes 4 d.cycleT ++ leBytes 4 d.cycleCnt ++ leBytes 1 d.endByte ++
    leBytes 1 d.flags ++ leBytes 1 d.obst ++ leBytes 1 d.holds ++ leBytes 1 d.cause ++ leBytes 1 d.fault ++
    leBytes 2 d.fPeak ++ leBytes 2 d.fPos ++ leBytes 2 d.iPeak ++ leBytes 2 d.waitT ++ leBytes 2 d.deferT ++
    leBytes 2 d.vCapMin ++ leBytes 2 d.gap ++ leBytes 2 d.stepPos ++ leBytes 2 d.eMotion ++ leBytes 2 d.tjMax ++
    leBytes 2 d.unlockT ++ leBytes 2 d.lockT ++ List.replicate 6 0
  | .event code subsys inst a0 a1 a2 =>
    leBytes 2 code ++ leBytes 1 subsys ++ leBytes 1 inst ++ leBytes 4 a0 ++ leBytes 4 a1 ++ leBytes 4 a2
  | .fault loc kind level cause page count ctx =>
    wordBytes loc ++ leBytes 1 kind ++ leBytes 1 level ++ leBytes 1 cause ++ leBytes 1 page ++ leBytes 4 count ++
    List.replicate 4 0 ++ ctx.flatMap (leBytes 4)
  | .configChange c =>
    leBytes 1 c.source ++ leBytes 1 c.result ++ leBytes 1 c.reason ++ leBytes 1 c.bank ++ leBytes 4 c.gen ++
    wordBytes c.hashNew ++ wordBytes c.hashOld ++ leBytes 2 c.words ++ leBytes 2 c.session ++
    ((c.pages ++ List.replicate 28 255).take 28).flatMap (leBytes 1)
  | .power kind states wakeSrc rstCause vbatA vhold sup tjMax arg =>
    leBytes 1 kind ++ leBytes 1 states ++ leBytes 1 wakeSrc ++ leBytes 1 rstCause ++ leBytes 2 vbatA ++ leBytes 2 vhold ++
    leBytes 2 sup ++ leBytes 2 tjMax ++ leBytes 4 arg
  | .summary bytes => bytes

namespace State

/-- Words of the hash shown in HASH0 to HASH7: bytes 4i to 4i + 3, little-endian. -/
def showHash (s : State) (h : List Byte) : State :=
  (List.range 8).foldl (fun (s : State) (i : Nat) => s.set (VLT.HASH i) (ofLeBytes ((h.drop (4 * i)).take 4))) s

/-- A CONFIG_CHANGE record, journalled and kept in the change log (R394). -/
def configChange (s : State) (source result reason : Nat) (new old : Bank) : State :=
  let d := new.diff old
  let p : Payload := .configChange {
    source := source, result := result, reason := reason, bank := s.vlt.inB.toNat, gen := s.bankInForce.gen,
    hashNew := BitVec.ofNat 32 (ofLeBytes (new.sha.take 4)), hashOld := BitVec.ofNat 32 (ofLeBytes (old.sha.take 4)),
    words := d.length, session := s.vlt.sessions, pages := ((List.range 256).filter (fun p => d.contains (some p))).take 28 }
  let r := s.mkRecord p 8
  let log := (r :: s.vlt.log).take 256
  let s := { s with vlt := { s.vlt with log := log } }
  (s.set VLT.LOG_HEAD_COUNT (min 256 log.length)).submit p 8

/-- SC's committed copy (R464): the words that CFG_CRC covers, in their order. -/
def copyWords : List Nat :=
  [SAF.CFG, SAF.TP, SAF.BRIGHT0, SAF.BRIGHT1, SAF.EGR, TIL.CFG, TIL.TIMING, TIL.TRAC_FB_T, TIL.LOOP_CFG, STL.NODE].map (·.addr) ++
  (List.range 8).flatMap (fun j => [STL.CONN_CFG j, STL.CONN_ID j, STL.CONN_TIME j, STL.CONN_LIM j].map (·.addr)) ++
  (List.range 24).map (fun i => (DIN.GRP_CFG 0).addr + 4 * i) ++
  (List.range 8).flatMap (fun n =>
    [DW.CFG n, DW.LSMAP n 0, DW.LSMAP n 1, DW.DIMAP n 0, DW.DIMAP n 1, DW.DIMAP n 2, DW.DIMAP n 3, DW.DOOR_OPEN_POS n,
     DW.DOOR_CLOSED_POS n, DW.STEP_EXT_POS n, DW.STEP_RET_POS n, DW.EDGE_CFG n, DW.F_TIME n, DW.END_ZONE n, DW.KF n, DW.SC_FORCE n,
     DW.DRIFT n, DW.CRC_DOOR n, DW.CRC_STEP n].map (·.addr)) ++
  (List.range 16).flatMap (fun ax => [AX.PROF0_VMAX ax, AX.PROF1_VMAX ax, AX.A_STOP ax].map (·.addr)) ++
  (List.range 4).map (fun g => (LSG.SAFE g).addr)

def copyCrc (s : State) : Word := crc32 (copyWords.flatMap (fun a => wordBytes (s.committedWord (a, 0xFFFFFFFF))))

/-- The committed DIN.INV, which the input filters use (R271). -/
def committedInv (s : State) : BitVec 64 :=
  BitVec.ofNat 64 ((s.committedWord ((DIN.INV 0).addr, 0xFFFFFFFF)).toNat + 2 ^ 32 * (s.committedWord ((DIN.INV 1).addr, 0xFFFFFFFF)).toNat)

/-- SC takes its copies of the bank in force (R390, R464). -/
def newCfgCrc (s : State) : State := { s.set SAF.CFG_CRC s.copyCrc.toNat with diInv := s.committedInv }

/-- The push of the fail-safe copy to the dies: each takes SRC, SAFE, FS, HOLD_TMAX and the inrush profiles as committed (R310, R315,
R390). The ON bit of a channel that becomes safety-marked shows SC's demand from then on, which is off until SC drives it (R294). -/
def pushDie (s : State) (g : Fin 4) : State :=
  let w (off : Nat) : Word := s.committedWord (4096 * pgLSG g + off, 0xFFFFFFFF)
  let s : State := { s with vlt := { s.vlt with before := s.vlt.before.set g s.die[g] } }
  let marked := fieldOf (w 0x058) 0 12
  let s := (List.range 12).foldl (fun (s : State) (i : Nat) =>
    if marked.testBit i && !(s.die[g].safe).testBit i then s.setB (onBit (fin48 (12 * g + i))) false else s) s
  ((s.modDie g (fun d => { d with
      src := fieldOf (w 0x054) 0 24, safe := marked, fs := fieldOf (w 0x05C) 0 24, holdT := fieldOf (w 0x040) 2 10,
      prof := (List.range 16).map (fun k => s.committedWord (4096 * pgLSG 0 + 0x300 + 4 * k, 0xFFFFFFFF)) })).emit
    (.diePush g)).evalGroup g

/-- A_VALID and B_VALID; the VLT faults of causes 1 and 2 are active while a bank is missing (R384, R396). -/
def showBanks (s : State) : State :=
  let va := Bank.valid s.vlt.a
  let vb := Bank.valid s.vlt.b
  let s := (s.setB VLT.STAT_A_VALID va).setB VLT.STAT_B_VALID vb
  let c := s.get VLT.FAULT_CAUSE
  if (c = 1 ∧ (va ∨ vb)) ∨ (c = 2 ∧ va ∧ vb) then s.setB VLT.FAULT_ACTIVE false else s

/-- What shows the image in force: GEN, the hash, STAT.BANK and STAT.DELIVERY, SC's copies, the dies' (R383, R384, R390). DELIVERY stays
while the delivery password does. -/
def showInForce (s : State) : State :=
  let b := s.bankInForce
  let s := (s.set VLT.GEN b.gen).showHash b.sha
  let s := (s.setB VLT.STAT_BANK s.vlt.inB).setB VLT.STAT_DELIVERY (!Bank.valid s.bankHeld || Bank.delivered b)
  let s := s.showBanks.newCfgCrc
  ((List.range 4).map fin4).foldl (fun (s : State) (g : Fin 4) => s.pushDie g) s

/-- A new bank comes into force (R390): SC's copies, the pushes, the change-log entry and record, EVT bit 0, VAULT frames. -/
def switchBank (s : State) (new : Bank) (source : Nat) (toPartner : Bool) : State :=
  let old := s.bankInForce
  let v := s.vlt
  let s := { s with vlt := { v with
      a := if v.inB then new else v.a, b := if v.inB then v.b else new, inB := !v.inB, changed := s.clk32 } }
  let s := (s.showInForce.configChange source 0 0 new old).raise 0x07 0
  if toPartner && s.pair then s.sendBruvan (.vault ⟨new.cells, new.unitB, new.salt, new.hash, new.gen⟩) else s

/-- The words that a learn run commits for a doorway: baselines, M_EQ and C_VISC, and the CRCs (R182). -/
def learnWords (n : Nat) : List (Nat × Word) :=
  (wordsOfPage .image (pgDW n)).filter (fun w =>
    let off := w.1 % 4096
    0xC00 ≤ off || off == 0x130 || off == 0x134 || off == 0x13C || off == 0x140)

/-- A learn-run commit: the image in force with the learned words replaced, at GEN + 1; a host commit under way takes them too
(R182, R389). -/
def learnCommit (s : State) (n : Nat) (toPartner : Bool) : State :=
  let patch (b : Bank) (gen : Nat) : Bank :=
    Bank.sealed { b with cells := (learnWords n).foldl (fun (m : Cells) w => cellSet zeroWord m w.1 (s.word w.1 &&& w.2)) b.cells } gen
  let cur := s.bankInForce
  let s := { s with vlt := { s.vlt with building := s.vlt.building.map (fun b => patch b ((cur.gen + 2) % 2 ^ 32)) } }
  s.switchBank (patch cur ((cur.gen + 1) % 2 ^ 32)) 1 toPartner

end State

end Sys2Proof.Machine
end

