-- ==== Sys2Proof/Machine/ScView.lean ====
section
/-! DEFINITION. What the safety core sees and records (R228 to R231, R261, R269): its own copies, its view of a doorway, the
judgement of closed and locked, and doorway-level SAF faults. -/

namespace Sys2Proof.Machine

namespace State

def modSc (s : State) (g : Sc → Sc) : State := { s with sc := g s.sc }
def modScD (s : State) (n : Fin 8) (g : ScDoor → ScDoor) : State := s.modSc (fun c => { c with dw := c.dw.set n (g c.dw[n]) })

def scRun (s : State) : Bool := s.get SAF.STAT_SC_STATE == 1
/-- The condition of a BRV fault cause has ended (R362). -/
def brvEnd (s : State) (cause : Nat) : State :=
  if s.get BRV.FAULT_CAUSE = cause then s.setB BRV.FAULT_ACTIVE false else s

/-- The own wave runs while the role has one and both SC and XE refresh their tokens (R346); a unit OUT_OF_SERVICE has none. Its return
ends fault cause 7. -/
def showAlive (s : State) : State :=
  let runs := s.pair && s.get BRV.STAT_ROLE != 3 && s.scRun && !s.boot.xeDown
  let s := s.setB BRV.STAT_OWN_ALIVE runs
  if runs then s.brvEnd 7 else s
def tilOn (s : State) : Bool := s.pageOn 0x09

/-! ### A doorway as SC sees it -/

def scRoleDi (s : State) (n role : Nat) : Option Nat :=
  let v := s.scGet (DW.DIMAP_D n role)
  if v < 64 then some v else none

/-- An input under INPUT_DIAG counts as inactive for SC (R256, R259). -/
def scIn (s : State) (n role : Nat) : Bool :=
  ((s.scRoleDi n role).map (fun d => s.diLevel d && !s.sc.diag.getLsbD d)).getD false

def scStepEn (s : State) (n : Nat) : Bool := s.scOn (DW.CFG_STEP_EN n)

/-- The lock channel of a doorway, load role L2. -/
def scLock (s : State) (n : Nat) : Option (Fin 48) :=
  let v := s.scGet (DW.LSMAP_L n 2)
  if v < 48 then some (fin48 v) else none

/-- Commanded off and read back off. -/
def chReadsOff (s : State) (c : Fin 48) : Bool := !s.on (onBit c) && !s.on (chOut c)

def lockOff (s : State) (n : Nat) : Bool := ((s.scLock n).map s.chReadsOff).getD true

def stepLatched (s : State) (n : Nat) : Bool := !s.scStepEn n || (s.scIn n 6 && s.scIn n 7)

/-- CLOSED, LOCKED and, where used, STEP_RET and STEP_LOCKED are active (R251). -/
def inputsProve (s : State) (n : Nat) : Bool := s.scIn n 0 && s.scIn n 1 && s.stepLatched n

def safActive (s : State) (n cause : Nat) : Bool := s.sc.safAct.contains (n, cause)

/-! ### The judgement of R231 -/

def provenIsolated (s : State) (n : Nat) : Bool := s.scIn n 3 && s.inputsProve n && !s.scIn n 2

def proven (s : State) (n : Nat) : Bool :=
  !(s.scGet SAF.CFG_DW_USED).testBit n ||
  (s.inputsProve n && !s.scIn n 2 &&
    (s.lockOff n || ((s.get (SAF.DEGR_CAUSE n)).testBit 1 && !s.on (SAF.DEGR_EXPIRED n))) &&
    !(s.sc.safAct.any (fun f => f.1 == n && f.2 != 20)) && !s.on (SAF.DEGR_EXPIRED n)) ||
  s.provenIsolated n

def carProven (s : State) : Bool := (List.range 8).all (fun n => s.proven n)

/-! ### Doorway-level SAF faults (R261, R269) -/

def scDoorLoc (n : Nat) : Word := locBlock 0 7 (8 + n)

/-- A doorway-level fault that newly arises. -/
def safFault (s : State) (n cause : Nat) (active : Bool) (loc : Word) : State :=
  let s := (s.set SAF.FAULT (cause + 256 * active.toNat + 65536 * n)).set SAF.FAULT_LOC loc.toNat
  let s := if active then s.modSc (fun c => { c with safAct := (n, cause) :: c.safAct.filter (· != (n, cause)) }) else s
  (s.raise 0x08 1).logFault 0x08 cause loc 2 0 (s.get SAF.FAULT) (some n)

/-- The condition of a fault has ended. -/
def safEnd (s : State) (n cause : Nat) : State :=
  let s := s.modSc (fun c => { c with safAct := c.safAct.filter (· != (n, cause)) })
  if s.get SAF.FAULT_CAUSE = cause ∧ s.get SAF.FAULT_DOORWAY = n ∧ !s.on SAF.FAULT_LEVEL then s.setB SAF.FAULT_ACTIVE false else s

/-- A fault whose condition is judged at every tick. -/
def safJudge (s : State) (n cause : Nat) (b : Bool) : State :=
  if b then (if s.safActive n cause then s else s.safFault n cause true (scDoorLoc n))
  else if s.safActive n cause then s.safEnd n cause else s

/-- RESTORE of the doorway clears its SAF fault once ACTIVE = 0, and lets the gate enables return (R241, R261). -/
def restoreSaf (s : State) (n : Fin 8) : State :=
  let s := s.modScD n (fun d => { d with egrStop := false })
  if !s.on SAF.FAULT_LEVEL && !s.on SAF.FAULT_ACTIVE && s.get SAF.FAULT_DOORWAY == n.val && s.get SAF.FAULT_CAUSE != 0 then
    (s.set SAF.FAULT 0).set SAF.FAULT_LOC 0
  else s

end State

end Sys2Proof.Machine
end

