-- ==== Sys2Proof/Machine/Doorway.lean ====
section
/-! DEFINITION. The doorway engine's operations (R67 to R94, R160 to R182): changes of state, cycles, recipe sections, faults, the
step, obstacle reactions, the learn run and the acceptance of commands. -/

namespace Sys2Proof.Machine

namespace State

/-! ### What the engine reads -/

def tick (s : State) (n : Fin 8) : Nat := s.dw[n].tick
def released (s : State) (n : Nat) : Bool := s.on (DW.STATE_SIDE_REL n)
def dcl (s : State) : Bool := s.on TIL.STAT_DCL
def stepEn (s : State) (n : Nat) : Bool := s.on (DW.CFG_STEP_EN n)
def verdict (s : State) (n : Nat) : Nat := s.get (PZ.STAT_VERDICT n)
/-- The gap in 0.01 mm where it is VALID (R76, R219). -/
def gap (s : State) (n : Nat) : Option Int := if s.on (PZ.GAP_STAT_VALID n) then some (s.getI (PZ.GAP n)) else none
def doorEv (s : State) (n : Fin 8) (k : Nat) : State := s.raise (pgDW n) k
/-- At least `ms` milliseconds of 5 ticks since a tick. -/
def past (s : State) (n : Fin 8) (t ms : Nat) : Bool := decide (t + 5 * ms ≤ s.tick n)

/-! ### The step's state and the DEGRADED overlay (R74, R75) -/

/-- The measurement of the platform gap is frozen from EXTENDING until RETRACTED_LOCKED (R220); `joined` says that the unit takes the
state from its partner and may have missed the entry. -/
def gapFreeze (s : State) (n : Fin 8) (joined : Bool) (st : StepState) : State :=
  match st with
  | .extending => s.setB (PZ.GAP_STAT_FROZEN n) true
  | .extended | .retracting => if joined then s.setB (PZ.GAP_STAT_FROZEN n) true else s
  | .retractedLocked => s.setB (PZ.GAP_STAT_FROZEN n) false
  | _ => s

/-- A change of STEP_STATE raises STATE; the platform gap is frozen while the step is out (R220). -/
def setStep (s : State) (n : Fin 8) (st : StepState) : State :=
  if s.stepState n = st then s else
    let s := (s.set (DW.STATE_STEP_STATE n) st.code).doorEv n 0
    (s.modDw n (fun e => { e with stepSince := e.tick })).gapFreeze n false st

/-- Without a step STEP_STATE reads RETRACTED_LOCKED (R75). -/
def showStep (s : State) (n : Fin 8) : State := if s.stepEn n then s else s.setStep n .retractedLocked

/-- One cause of DEGR: a change updates STATE.DEGRADED and raises DEGRADED (R74). -/
def setDegr (s : State) (n : Fin 8) (bit : Nat) (b : Bool) : State :=
  let d := s.get (DW.DEGR n)
  if d.testBit bit == b then s else
    let d' := if b then d ||| 2 ^ bit else d - 2 ^ bit
    let s := (s.set (DW.DEGR n) d').setB (DW.STATE_DEGRADED n) (decide (d' ≠ 0))
    s.doorEv n 4

/-- The models of a doorway are judged, at boot, at a commit and by RESET_ADAPT (R181, R184): SAT_BINS, D_VALID, S_VALID and
DEGR.EFFORT. A failed check of R171 keeps the door model invalid. -/
def judgeModel (s : State) (n : Fin 8) : State :=
  let s := (s.showSat (doorAxis n)).showSat (stepAxis n)
  let good := s.modelValid (doorAxis n) && !s.dw[n].modelFail
  let s := (s.setB (DW.EFF_STAT_D_VALID n) good).setB (DW.EFF_STAT_S_VALID n) (s.modelValid (stepAxis n))
  s.setDegr n 4 (!good)

def judgeModels (s : State) : State := ((List.range 8).map fin8).foldl (fun (s : State) (n : Fin 8) => s.judgeModel n) s

/-! ### Cycles (R72, R365) -/

def modCyc (s : State) (n : Fin 8) (g : CycleAcc → CycleAcc) : State :=
  if s.dw[n].inCycle then s.modDw n (fun e => { e with cyc := g e.cyc }) else s

/-- A cycle starts; `test`: a TEST_CYCLE has begun it. -/
def startCycle (s : State) (n : Fin 8) (test : Bool) : State :=
  let s := s.modDw n (fun e => { e with
      inCycle := true, reopenings := 0, resid := [],
      cyc := { CycleAcc.zero with
        start := e.tick, openSrc := s.get (DW.LAST_CMD_SRC n), test := test,
        degraded := s.on (DW.STATE_DEGRADED n), expired := s.on (DW.STATE_HOST_BLOCK n) } })
  s.setB (DW.STATE_REOPEN_EXH n) false

def cap16 (v : Nat) : Nat := min v 65535

/-- The DOOR_CYCLE payload; E_MOTION, whose energy the spec does not define further, is a free value (log entry 3). -/
def cycleRecord (s : State) (n : Fin 8) : DoorCycle :=
  let e := s.dw[n]
  let c := e.cyc
  { openT := match c.opened with
      | none => 65535
      | some t => cap16 ((t - c.start) / 5)
    closeT := cap16 (c.closeTicks / 5)
    cycleT := (e.tick - c.start) / 5
    cycleCnt := s.get (DW.CYCLE_CNT n)
    endByte := s.get (DW.STATE_DW_STATE n) + 16 * c.openSrc + 128 * c.test.toNat
    flags := c.waited.toNat + 2 * c.degraded.toNat + 4 * (s.on (DW.STATE_REOPEN_EXH n)).toNat + 8 * c.stepUsed.toNat +
      16 * (s.on (DW.STATE_STEP_SHORT n)).toNat + 32 * (s.on (DW.STATE_STEP_NOCONTACT n)).toNat + 64 * c.gapValid.toNat +
      128 * c.expired.toNat
    obst := min c.obst 255
    holds := min c.holds 15 + 16 * min e.reopenings 15
    cause := c.cause
    fault := if s.dwState n = .fault then s.get (DW.FAULT_CAUSE_CAUSE n) else 0
    fPeak := cap16 c.fPeak
    fPos := cap16 c.fPos
    iPeak := cap16 c.iPeak
    waitT := cap16 (c.waitTicks / 5)
    deferT := cap16 c.deferMs
    vCapMin := c.vCapMin
    gap := c.gap
    stepPos := cap16 c.stepPos
    eMotion := cap16 s.freeWord.toNat
    tjMax := s.get PWR.TEMP_D_TJ1
    unlockT := cap16 c.unlockT
    lockT := cap16 c.lockT }

/-- The adapted tables go to the partner at every cycle end (R185). -/
def sendAdapt (s : State) (n : Fin 8) : State :=
  if s.pair then
    s.sendBruvan (.adapt n {
      door := (List.range 128).map (fun b => s.word (fricF (doorAxis n) b).addr)
      step := (List.range 128).map (fun b => s.word (fricF (stepAxis n) b).addr)
      satD := s.get (satF (doorAxis n)), satS := s.get (satF (stepAxis n)) })
  else s

/-- After an eligible cycle the engine adapts the model (R183); a door model beyond SAT_MAX is no longer valid (R184). -/
def adapt (s : State) (n : Fin 8) : State :=
  let s := (s.adaptAxis (doorAxis n)).adaptAxis (stepAxis n)
  if s.mEq (doorAxis n) != 0 && !s.on (validF (doorAxis n)) then s.setDegr n 4 true else s

def modDay (s : State) (n : Fin 8) (g : DayAcc → DayAcc) : State :=
  { s with ldg := { s.ldg with dayAcc := s.ldg.dayAcc.set n (g s.ldg.dayAcc[n]) } }

/-- A cycle that has ended counts in its ledger day (R366). -/
def countCycle (s : State) (n : Fin 8) (r : DoorCycle) : State :=
  let opened := r.openT != 65535
  s.modDay n (fun d => { d with
    opens := d.opens + opened.toNat, openSum := d.openSum + (if opened then r.openT else 0),
    closes := d.closes + 1, closeSum := d.closeSum + r.closeT, closeMax := max d.closeMax r.closeT, waitSum := d.waitSum + r.waitT })

/-- The end of a cycle (R72): CYCLE_CNT, CYCLE_DONE, the record, the adaptation. -/
def endCycle (s : State) (n : Fin 8) : State :=
  let c := s.dw[n].cyc
  let s := (s.inc (DW.CYCLE_CNT n)).doorEv n 3
  let s := s.countCycle n (s.cycleRecord n)
  let s := (s.submit (.doorCycle (s.cycleRecord n)) n).bumpFree
  let s := if s.dwState n = .closedLocked ∧ !c.obstEv ∧ !c.test then s.adapt n else s
  (s.modDw n (fun e => { e with inCycle := false, resid := [] })).sendAdapt n

/-! ### Reload of committed values (R88) -/

/-- The RWS words of a doorway page (R88, R187). -/
def rwsWords (page : Nat) : List (Nat × Word) :=
  match pageOf page with
  | none => []
  | some (k, _) => (pageWords k (fun f => f.origin == .image && f.access == .rws)).map (fun w => (4096 * page + w.1, w.2))

def reloadDoor (s : State) (n : Fin 8) : State :=
  (((rwsWords (pgDW n)).foldl (fun (s : State) w => s.loadWord w) s).modDw n (fun e => { e with reload := false })).showStep n

/-- An edit session has ended without a commit (R88). -/
def returnDoor (s : State) (n : Fin 8) : State :=
  match s.dwState n with
  | .closedLocked => s.reloadDoor n
  | .isolated => s.reloadDoor n
  | .fault => s.reloadDoor n
  | .unknown => s.reloadDoor n
  | _ => s.modDw n (fun e => { e with reload := true })

/-! ### Changes of doorway state (R71, R73, R93) -/

/-- The engine's wish for the drive in a state (R69, R71): off in FAULT and MANUAL; ISOLATED and EGRESS let go at standstill. -/
def wantsDrive (s : State) (n : Fin 8) (st : DwState) : Bool :=
  match st with
  | .fault => false
  | .manual => false
  | .isolated => s.ax[doorAxis n].velQ != 0 || s.ax[stepAxis n].velQ != 0
  | .egress => s.ax[doorAxis n].velQ != 0 || s.ax[stepAxis n].velQ != 0
  | _ => true

/-- The engine's wish for the lock channel: energised from UNLOCKING, off from LOCKING and in CLOSED_LOCKED, ISOLATED, FAULT (R71). -/
def lockWish (st : DwState) (old : Bool) : Bool :=
  match st with
  | .unlocking => true
  | .locking => false
  | .closedLocked => false
  | .isolated => false
  | .fault => false
  | _ => old

/-- A change of DW_STATE, its events, and the beginning or end of a cycle. FAULT or ISOLATED entered straight from CLOSED_LOCKED
begins and ends a cycle at once (log entry 19). -/
def dwGo (s : State) (n : Fin 8) (st : DwState) : State :=
  let old := s.dwState n
  if old = st then s else
  let ms := (s.tick n - s.dw[n].since) / 5
  let s := ((s.set (DW.STATE_PREV_STATE n) old.code).set (DW.STATE_DW_STATE n) st.code).doorEv n 0
  let s := s.modDw n (fun e => { e with
      since := e.tick, lockAsk := lockWish st e.lockAsk, driveAsk := s.wantsDrive n st, stillFrom := e.tick,
      testFrom := none })
  let s := s.modCyc n (fun c => { c with
      unlockT := if old = .unlocking ∧ st ≠ .locking ∧ st ≠ .fault then ms else c.unlockT,
      lockT := if old = .locking ∧ st = .closedLocked then ms else c.lockT,
      opened := if st = .opn then some (c.opened.getD (s.tick n)) else c.opened })
  let s := match st with
    | .fault => s.doorEv n 5
    | .egress => s.doorEv n 6
    | .reopening => ((s.doorEv n 2).modDay n (fun d => { d with reopens := d.reopens + 1 })).modDw n
        (fun e => { e with reopenings := e.reopenings + 1, reopenTo := none })
    | _ => s
  let ends := st == .closedLocked || st == .isolated || st == .fault
  let s := if old = .closedLocked then s.startCycle n (st == .unlocking && s.dw[n].purpose == .testCycle) else s
  let s := if ends && s.dw[n].inCycle then s.endCycle n else s
  if st = .closedLocked then
    let s := (s.setB (DW.STATE_CLOSE_PEND n) false).setB (DW.STATE_RESUME_PEND n) false
    if s.dw[n].reload then s.reloadDoor n else s
  else s

/-! ### Sections (R84 to R86) -/

def entryOf (s : State) (n : Nat) : Section → Nat
  | .opn => s.get (DW.RCP_ENTRY_OPEN n)
  | .close => s.get (DW.RCP_ENTRY_CLOSE n)
  | .reopen => s.get (DW.RCP_ENTRY_REOPEN n)
  | .home => s.get (DW.RCP_ENTRY_HOME n)
  | _ => 63

/-- A section starts at its entry; an absent section, entry 63, ends at once (log entry 20). -/
def startSection (s : State) (n : Fin 8) (sec : Section) : State :=
  let s := ((s.set (DW.SECT_STEP n) (s.entryOf n sec)).set (DW.SECT_SECTION n) sec.code).setB (DW.SECT_TIMEOUT n) false
  s.modDw n (fun e => { e with run := 0, waitFrom := none })

def dropSection (s : State) (n : Fin 8) : State :=
  ((s.set (DW.SECT_SECTION n) 0).set (DW.SECT_STEP n) 0).modDw n (fun e => { e with run := 0, waitFrom := none })

/-- The CLOSE section starts and CLOSE_PEND is set. -/
def startClose (s : State) (n : Fin 8) : State := (s.startSection n .close).setB (DW.STATE_CLOSE_PEND n) true

/-- The motion waiting for its start is dropped, with its request to the pantry, or with the reservation of an axis at rest. -/
def dropWant (s : State) (ax : Fin 16) : State :=
  if (s.ax[ax].want).isSome then
    let s := (s.modAx ax (fun e => { e with want := none, adm := .none })).dropReq ax
    if s.ax[ax].moving then s else s.release ax
  else s

/-- Everything that a closure under way has set is dropped (R78). -/
def dropClose (s : State) (n : Fin 8) : State :=
  let s := ((s.setB (DW.STATE_CLOSE_PEND n) false).setB (DW.STATE_RESUME_PEND n) false).setB (DW.STATE_WAITING n) false
  let s := s.set (DW.WAIT_LEFT_LEFT n) 0
  s.modDw n (fun e => { e with closeWait := none, waitOver := false, closeAfter := false, reclose := none, testFrom := none })

/-- R69: both axes stop at the A_DEC of their profiles, the section is abandoned. -/
def haltDoor (s : State) (n : Fin 8) : State :=
  let s := ((s.dropSection n).dropClose n).dropWant (doorAxis n) |>.dropWant (stepAxis n)
  let s := (s.stopProfile (doorAxis n)).stopProfile (stepAxis n)
  s.modDw n (fun e => { e with relief := false, stepRetry := none, latchFrom := none })

/-! ### Faults of the doorway (R69, R93) -/

/-- A fault: its FAULT record (R28, R69), and its cause in FAULT_CAUSE also where ISOLATED stands (R68); the state becomes FAULT from
every state but ISOLATED and FAULT. A further fault of a doorway in FAULT is recorded, and FAULT_CAUSE and FAULT_LOC keep the one that
led there: the spec does not say which they show (DESIGN CHOICE, log entry 104). -/
def dwFault (s : State) (n : Fin 8) (cause : Nat) (loc : Word) (kind : Nat) : State :=
  let st := s.dwState n
  let s := if st = .fault then s else
    (s.set (DW.FAULT_CAUSE n) (cause + 256 * (cause == 7 || cause == 10).toNat)).set (DW.FAULT_LOC n) loc.toNat
  let s := s.logFault (pgDW n) cause loc kind 0 (s.get (DW.FAULT_CAUSE n)) (some n.val)
  if st = .fault ∨ st = .isolated then s else
    let s := s.haltDoor n
    let s := if cause = 8 then s.setStep n .fault else s
    s.dwGo n .fault

/-- A fault of the doorway itself, located in its engine (R9, R21). -/
def dwFaultHere (s : State) (n : Fin 8) (cause : Nat) : State := s.dwFault n cause (locBlock 0 1 n) 2

/-- The step is isolated with its doorway; without a step STEP_STATE goes on reading RETRACTED_LOCKED (R75). -/
def isolateStep (s : State) (n : Fin 8) : State := if s.stepEn n then s.setStep n .isolated else s

/-! ### State determination (R70) -/

def determineStep (s : State) (n : Fin 8) : State :=
  let ax := stepAxis n
  if !s.stepEn n then s.setStep n .retractedLocked
  else if s.role n 6 && s.role n 7 then
    let s := if s.ax[ax].posValid then s else s.loadRef ax (s.getI (DW.STEP_RET_POS n))
    s.setStep n .retractedLocked
  else if s.ax[ax].posValid then s.setStep n .extended
  else s.setStep n .fault

def determine (s : State) (n : Fin 8) : State :=
  let ax := doorAxis n
  let s := s.determineStep n
  if s.closedIn n && s.lockedIn n then
    let s := if s.ax[ax].posValid then s else s.loadRef ax (s.getI (DW.DOOR_CLOSED_POS n))
    s.dwGo n .closedLocked
  else if s.closedIn n && s.ax[ax].posValid then s.dwGo n .closedUnlocked
  else if s.ax[ax].posValid then s.dwGo n .held
  else s.dwGo n .unknown

/-! ### Obstacles (R161, R174 to R176) -/

/-- A detection for the engine's next reaction (R161, R170). -/
def placeDet (s : State) (n : Fin 8) (cause : Nat) : State := s.modDw n (fun e => { e with dets := e.dets ++ [cause] })

/-- The learn run is aborted (R181, code 2): the previous model is kept, HELD. -/
def learnAbort (s : State) (n : Fin 8) : State :=
  let s := (s.set (DW.EFF_STAT_LEARN_RESULT n) 2).setB (DW.EFF_STAT_LEARN_RUN n) false
  (s.modDw n (fun e => { e with learnSum := [], ramps := [], learnDone := (0, 0) })).dwGo n .held

/-- The leaves stop at A_STOP, and new targets of the door axis are held back until they rest (R174, R175). -/
def obstacleStop (s : State) (n : Fin 8) : State :=
  ((s.dropWant (doorAxis n)).stopObstacle (doorAxis n)).modDw n (fun e => { e with obstStop := true })

/-- An OBSTACLE event; a cycle that has one is not used for the adaptation (R71, R183). -/
def obstEvent (s : State) (n : Fin 8) : State := (s.doorEv n 1).modCyc n (fun c => { c with obstEv := true })

def obstacleMarks (s : State) (n : Fin 8) (cause : Nat) : State :=
  let s := (s.set (DW.EFF_STAT_LAST_CAUSE n) cause).modCyc n (fun c => { c with obst := c.obst + 1, cause := cause })
  if s.dw[n].obstMute then s else (s.obstEvent n).modDw n (fun e => { e with obstMute := true })

/-- The reaction to a detection in CLOSING, under CFG.OBST_REACT (R71, R174). -/
def closingObstacle (s : State) (n : Fin 8) (cause : Nat) : State :=
  let s := ((s.obstacleMarks n cause).inc (DW.OBST_CNT n)).obstacleStop n
  let s := (s.dropSection n).dropClose n
  if s.on (DW.CFG_OBST_REACT n) then
    (s.modDw n (fun e => { e with relief := true })).dwGo n .held
  else (s.dwGo n .reopening).startSection n .reopen

/-- The obstacle reaction of a rank-1 detection (R71, R161, R162, R174). While the stop of an earlier one runs there is nothing more to
do: SC may place the same contact a tick later. A detection while an OPEN turns leaves that still close is one in the closing
direction; where a STOP, isolation or egress stops them already, the doorway keeps its state and they stop at A_STOP, as R162 says of a
held one (DESIGN CHOICE, log entry 146). -/
def obstacle (s : State) (n : Fin 8) (cause : Nat) : State :=
  if s.dw[n].obstStop then s else
  match s.dwState n with
  | .closing => s.closingObstacle n cause
  | .opening =>
    if s.leavesClose n then s.closingObstacle n cause
    else (((s.obstacleMarks n cause).obstacleStop n).dropSection n).dwGo n .held
  | .reopening =>
    ((s.obstacleMarks n cause).modDw n (fun e => { e with reopenTo := some (s.axPos (doorAxis n)) })).obstacleStop n
  | .learning => ((((s.obstacleMarks n cause).obstacleStop n).dropWant (stepAxis n)).stopProfile (stepAxis n)).learnAbort n
  | .held =>
    if s.on (DW.STATE_RESUME_PEND n) || s.leavesClose n then
      let s := s.obstacleMarks n cause
      let s := if s.ax[doorAxis n].moving then s.obstacleStop n else s.dropWant (doorAxis n)
      (s.dropSection n).dropClose n
    else s
  | _ => if s.leavesClose n then (s.obstacleMarks n cause).obstacleStop n else s

/-- The lowest code of the detections placed (R161). -/
def takeDets (s : State) (n : Fin 8) : State :=
  match s.dw[n].dets with
  | [] => s
  | d :: ds => (s.modDw n (fun e => { e with dets := [] })).obstacle n (ds.foldl min d)

def openDir (s : State) (n : Fin 8) : Int := -(s.closeDir (doorAxis n))

/-- The commanded speed of an obstacle stop has reached 0 (R175, R176): targets are taken again, and the relief motion follows. -/
def obstacleRest (s : State) (n : Fin 8) : State :=
  if !s.dw[n].obstStop then s else
    let ax := doorAxis n
    let rel := s.get (DW.REVERSE_RELIEF_DIST n)
    let go := s.dw[n].relief && rel != 0
    let s := s.modDw n (fun e => { e with obstStop := false, relief := false, reopenTo := e.reopenTo.map (fun _ => s.axPos ax) })
    if go then
      let w : Want := { target := s.axPos ax + s.openDir n * rel, limit := s.get (DW.V_WAIT_SPEED n), closing := false, free := true,
                        reopen := false, home := none, learn := false, resumed := false }
      s.setWant ax w
    else s

/-! ### The learn run (R179 to R182) -/

/-- The axes a learn run moves: CMD.AXSEL 0 both, 1 door, 2 step. -/
def learnHas (s : State) (n : Fin 8) (step : Bool) : Bool :=
  match s.dw[n].axsel with
  | 1 => !step
  | 2 => step && s.stepEn n
  | _ => !step || s.stepEn n

def learnV (s : State) (n : Fin 8) (step : Bool) : Nat × Nat :=
  if step then
    let v := s.get (AX.V_HOME (stepAxis n))
    (v, 2 * v)
  else (s.get (DW.LEARN_V_V1 n), max (s.get (DW.LEARN_V_V1 n) + 100) (min (s.get (DW.LEARN_V_V2 n)) (s.get (DW.V_WAIT_SPEED n))))

/-- The motions of one axis: two per pass at V1, then a pair at V2. -/
def learnCount (s : State) (n : Fin 8) : Nat := 2 * s.get (DW.LEARN_LIM_PASSES n) + 2

def learnIdx (s : State) (n : Fin 8) (step : Bool) : Nat := if step then s.dw[n].learnDone.2 else s.dw[n].learnDone.1

/-- The next motion of an axis waits for its admission; even motions open, odd ones close. -/
def learnWant (s : State) (n : Fin 8) (step : Bool) : State :=
  let ax := if step then stepAxis n else doorAxis n
  let k := s.learnIdx n step
  if s.learnCount n ≤ k then s else
    let closing := k % 2 == 1
    let (v1, v2) := s.learnV n step
    let w : Want := { target := if closing then s.endClosed ax else s.endOpen ax,
                      limit := if k < 2 * s.get (DW.LEARN_LIM_PASSES n) then v1 else v2,
                      closing := closing, free := false, reopen := false, home := none, learn := true, resumed := false }
    s.setWant ax w

/-- Entry to LEARNING: code 10 where no V2 exists, and then LOCKING without a motion (R181). -/
def learnStart (s : State) (n : Fin 8) : State :=
  let s := s.dwGo n .learning
  let s := s.modDw n (fun e => { e with learnFrom := e.tick, learnDone := (0, 0), learnSum := [], ramps := [] })
  if s.get (DW.V_WAIT_SPEED n) < s.get (DW.LEARN_V_V1 n) + 100 then
    (s.set (DW.EFF_STAT_LEARN_RESULT n) 10).dwGo n .locking
  else
    let s := (s.setB (DW.EFF_STAT_LEARN_RUN n) true).setB (DW.STATE_WAITING n) true
    let s := if s.learnHas n false then s.learnWant n false else s
    if s.learnHas n true then s.learnWant n true else s

/-- The pass means of one bin and direction differ by more than REP, which is in N (R181). -/
def passesDiffer (s : State) (n : Fin 8) (step : Bool) : Bool :=
  let sums := s.dw[n].learnSum
  (List.range 128).any (fun b => [false, true].any (fun closing =>
    let ms := (List.range (s.get (DW.LEARN_LIM_PASSES n))).map (fun p => passMean sums step closing p b)
    ms.any (fun x => ms.any (fun y => decide (10 * (s.get (DW.LEARN_LIM_REP n) : Int) < x - y)))))

/-- The model that the samples of a learn run give an axis (R180). -/
def learned (s : State) (n : Fin 8) (step : Bool) : LearnedModel :=
  let (v1, v2) := s.learnV n step
  derive s.dw[n].learnSum s.dw[n].ramps step (s.get (DW.LEARN_LIM_PASSES n)) v1 v2

def learnJudge (s : State) (n : Fin 8) (step : Bool) : Option Nat :=
  if s.passesDiffer n step then some 4 else s.judge (if step then stepAxis n else doorAxis n) (s.learned n step)

/-- The models are derived and judged; the first code that applies rejects the run, otherwise the models replace the tables of both
consumers and LE commits them (R181, R182); what the cycle has gathered against the former model is no residual of the new one (DESIGN
CHOICE, log entry 147). The doorway goes to LOCKING either way. -/
def learnFinish (s : State) (n : Fin 8) : State :=
  let axes := [false, true].filter (fun st => s.learnHas n st)
  let bad := axes.filterMap (fun st => s.learnJudge n st)
  let s := (s.setB (DW.EFF_STAT_LEARN_RUN n) false).setB (DW.STATE_WAITING n) false
  let s := match bad with
    | c :: cs => s.set (DW.EFF_STAT_LEARN_RESULT n) (cs.foldl min c)
    | [] =>
      let s := axes.foldl (fun (s : State) (st : Bool) => s.installModel (if st then stepAxis n else doorAxis n) (s.learned n st)) s
      let s := (s.learnCommit n true).set (DW.EFF_STAT_LEARN_RESULT n) 1
      (s.modDw n (fun e => { e with modelFail := false, resid := [] })).judgeModels
  (s.modDw n (fun e => { e with learnSum := [], ramps := [] })).dwGo n .locking

/-- A learn motion has ended: the next one, or the end of the run (R179). -/
def learnNext (s : State) (n : Fin 8) (step : Bool) : State :=
  let s := s.modDw n (fun e => { e with
      learnDone := if step then (e.learnDone.1, e.learnDone.2 + 1) else (e.learnDone.1 + 1, e.learnDone.2) })
  let left (st : Bool) : Bool := s.learnHas n st && decide (s.learnIdx n st < s.learnCount n)
  if left step then s.learnWant n step
  else if left (!step) then s else s.learnFinish n

/-- Not complete within 120 s (R181, code 3). -/
def learnTimeout (s : State) (n : Fin 8) : State :=
  let s := ((s.set (DW.EFF_STAT_LEARN_RESULT n) 3).setB (DW.EFF_STAT_LEARN_RUN n) false).haltDoor n
  (s.modDw n (fun e => { e with learnSum := [], ramps := [] })).dwGo n .locking

/-! ### Ends of motions (R75, R173, R177) -/

/-- The end of a MOVE of the door axis: stall and seam checks. -/
def doorEnded (s : State) (n : Fin 8) (e : Ended) : State :=
  let dist := (s.getI (DW.DOOR_POS n) - s.getI (DW.DOOR_CLOSED_POS n)).natAbs
  let inEnd := decide (dist ≤ s.get (DW.END_ZONE_END_ZONE n))
  let d := s.dw[n]
  if e.closing then
    let s := s.setB (DW.STATE_WAITING n) false
    if e.how == .stalled && !inEnd then s.placeDet n 6
    else if e.target = s.getI (DW.DOOR_CLOSED_POS n) then
      if e.how != .reached && decide (s.get (DW.SEAM_SEAM_TOL n) < dist) then s.placeDet n 7
      else if d.dragN ≠ 0 ∧ (min (s.get (DW.F_LIMIT2_DRAG_F n)) (s.get (DW.F_LIMIT_F_END n) - 1) : Nat) * d.dragN < d.dragSum then s.placeDet n 8
      else s
    else s
  else if e.how == .stalled then s.placeDet n 9
  else s

/-- A closing MOVE that ended without an obstacle: its highest F_EST counts for the day (R185). -/
def noteClean (s : State) (n : Fin 8) (e : Ended) : State :=
  if e.closing && e.kind == .move && (s.dw[n].dets).isEmpty && !s.dw[n].obstMute then
    s.modDay n (fun d => { d with fPeak := max d.fPeak (s.get (DW.PEAK_F n)) })
  else s

/-- The end of a motion of the step axis. -/
def stepEnded (s : State) (n : Fin 8) (e : Ended) : State :=
  let pos := s.getI (DW.STEP_POS n)
  let ret := s.getI (DW.STEP_RET_POS n)
  let near := decide ((pos - ret).natAbs ≤ 200)
  match s.stepState n with
  | .extending =>
    let s := s.modCyc n (fun c => { c with stepPos := pos.natAbs / 10 })
    if e.how != .stalled then
      ((s.setB (DW.STATE_STEP_NOCONTACT n) true).doorEv n 7).setStep n .extended
    else if decide ((e.target - ret).natAbs ≤ (pos - ret).natAbs + 100 * s.get (DW.STEP_GAP_CONTACT_WIN n)) then s.setStep n .extended
    else (((s.setB (DW.STATE_STEP_SHORT n) true).obstEvent n).doorEv n 7).setStep n .extended
  | .retracting =>
    if e.how == .stalled && !near then
      let s := (s.modDw n (fun d => { d with stepStalls := d.stepStalls + 1 })).doorEv n 7
      if 3 ≤ s.dw[n].stepStalls then s.dwFaultHere n 8
      else
        let w : Want := { target := e.target, limit := e.limit, closing := false, free := false, reopen := false, home := none,
                          learn := false, resumed := false }
        (s.modDw n (fun d => { d with stepRetry := some d.tick })).setWant (stepAxis n) w
    else if near then s.modDw n (fun d => { d with latchFrom := some d.tick })
    else s
  | .homing =>
    match e.kind, e.how with
    | .home false, .stalled => (s.setStep n .retractedLocked).modDw n (fun d => { d with latchFrom := some d.tick })
    | .home true, .stalled => s.setStep n .extended
    | _, _ => s
  | _ => s

/-- The step is latched: STEP_RET and STEP_LOCKED active within T_LOCK (R75). -/
def stepLatch (s : State) (n : Fin 8) : State :=
  if (s.dw[n].latchFrom).isSome && s.role n 6 && s.role n 7 then
    let s := (s.modDw n (fun d => { d with latchFrom := none, stepStalls := 0 })).setStep n .retractedLocked
    (s.setB (DW.STATE_STEP_SHORT n) false).setB (DW.STATE_STEP_NOCONTACT n) false
  else s

/-- The step is not latched within T_LOCK: cause 8 (R75). -/
def latchLate (s : State) (n : Fin 8) : State :=
  match s.dw[n].latchFrom with
  | none => s
  | some t =>
    if !(s.role n 6 && s.role n 7) && s.past n t (s.get (DW.TIMEOUTS_T_LOCK n)) then
      (s.modDw n (fun d => { d with latchFrom := none })).dwFaultHere n 8
    else s

/-- A homing that has run out its travel without a stall (R71, R110). -/
def homingNoStall (s : State) (ax : Fin 16) : State :=
  let e := s.ax[ax]
  match e.kind with
  | .home _ => if e.moving then (s.haltAxis ax |>.set (AX.STAT_AX_STATE ax) 1).dwFaultHere (doorwayOf ax) 5 else s
  | _ => s

/-- A stall of the door axis in a learn motion (R173): opening cause 9, closing cause 6 outside the end zone; inside it the seam check
judges, cause 7 beyond SEAM_TOL, and within it the run goes on. -/
def learnStall (s : State) (n : Fin 8) (closing : Bool) : State :=
  let dist := (s.getI (DW.DOOR_POS n) - s.getI (DW.DOOR_CLOSED_POS n)).natAbs
  if !closing then s.placeDet n 9
  else if s.get (DW.END_ZONE_END_ZONE n) < dist then s.placeDet n 6
  else if s.get (DW.SEAM_SEAM_TOL n) < dist then s.placeDet n 7
  else s.learnNext n false

/-- The engine judges the end of an axis's motion (R67 step 3). -/
def judgeEnd (s : State) (ax : Fin 16) : State :=
  match s.ax[ax].ended with
  | none => s
  | some e =>
    let n := doorwayOf ax
    let s := s.modAx ax (fun a => { a with ended := none })
    if e.kind == .learn then
      if s.dwState n ≠ .learning then s
      else if isStep ax && e.how == .stalled && !e.closing &&
          decide ((s.getI (AX.POS ax) - s.endClosed ax).natAbs < (s.endOpen ax - s.endClosed ax).natAbs) then
        ((s.haltDoor n).learnAbort n)
      else if !isStep ax && e.how == .stalled then s.learnStall n e.closing
      else s.learnNext n (isStep ax)
    else if isStep ax then s.stepEnded n e
    else (s.doorEnded n e).noteClean n e

/-! ### Acceptance of commands (R78) -/

/-- The states in which a command is accepted. -/
def acceptedIn (op : DwOp) (st : DwState) : Bool :=
  match op with
  | .opn => st == .closedLocked || st == .locking || st == .unlocking || st == .opening || st == .opn || st == .held ||
      st == .manual || st == .closedUnlocked || st == .closing || st == .reopening
  | .close | .closeWait => st == .opn || st == .held || st == .manual || st == .opening || st == .unlocking ||
      st == .closedUnlocked || st == .closing || st == .reopening || st == .locking || st == .closedLocked
  | .stop => true
  | .isolate => st == .closedLocked || st == .fault || st == .unknown
  | .restore => st == .isolated || st == .egress || st == .fault
  | .home => st == .unknown || st == .closedLocked || st == .closedUnlocked || st == .held || st == .opn
  | .learn => st == .closedLocked
  | .testCycle => st == .closedLocked

/-- Whether the cause of the doorway's fault is still present (R93: judged for causes 7 and 10, whose condition can persist, log entry
21). -/
def faultActive (s : State) (n : Fin 8) : Bool :=
  match s.get (DW.FAULT_CAUSE_CAUSE n) with
  | 7 => s.on (AX.FAULT_ACTIVE (doorAxis n)) || s.on (AX.FAULT_ACTIVE (stepAxis n))
  | 10 => s.closedIn n && s.ax[doorAxis n].posValid &&
      decide (s.get (DW.MANUAL_MANUAL_DIST n) < (s.axPos (doorAxis n) - s.getI (DW.DOOR_CLOSED_POS n)).natAbs)
  | _ => false

/-- FAULT_CAUSE.ACTIVE follows the cause (R93). -/
def showFaultActive (s : State) (n : Fin 8) : State :=
  if s.get (DW.FAULT_CAUSE_CAUSE n) = 0 then s else s.setB (DW.FAULT_CAUSE_ACTIVE n) (s.faultActive n)

/-- The conditions of the acceptance table, as reasons. -/
def conditionReason (s : State) (n : Fin 8) (op : DwOp) : Nat :=
  let rel := if !s.released n then 2 else if s.dcl then 3 else 0
  match op with
  | .opn => rel
  | .isolate => if s.closedIn n && s.lockedIn n then 0 else 1
  | .restore =>
    match s.dwState n with
    | .isolated => if s.role n 3 then 8 else 0
    | .egress => if s.role n 2 then 8 else 0
    | _ => if s.faultActive n then 9 else 0
  | .home => if rel ≠ 0 then rel else if s.entryOf n .home = 63 then 7 else 0
  | .learn => if rel ≠ 0 then rel else if s.on (DW.STATE_POS_VALID n) then 0 else 12
  | .testCycle => rel
  | _ => 0

/-- The reason a command is rejected with, 0 where it is accepted; judged in the order 5, 4, 1, then the conditions (log entry
22). A unit that is not ACTIVE takes no command (R349). -/
def rejectReason (s : State) (n : Fin 8) (op : DwOp) (src : CmdSrc) : Nat :=
  if !s.active || s.par.overlap then 4
  else if !s.pageOn (pgDW n) then 5
  else if (src == .host || src == .button) && s.on (DW.STATE_HOST_BLOCK n) then 4
  else if !acceptedIn op (s.dwState n) then 1
  else s.conditionReason n op

/-! ### What accepted commands do (R71, R78) -/

def doOpen (s : State) (n : Fin 8) : State :=
  match s.dwState n with
  | .closedLocked => (s.modDw n (fun e => { e with purpose := .opn })).dwGo n .unlocking
  | .locking => (s.modDw n (fun e => { e with purpose := .opn })).dwGo n .unlocking
  | .unlocking => s
  | .opening => s
  | .opn =>
    if s.on (DW.STATE_CLOSE_PEND n) || s.sect n == .close then
      ((s.dropSection n).dropWant (doorAxis n)).dropWant (stepAxis n) |>.dropClose n
    else s.dropClose n
  | _ => (((((s.dropSection n).dropWant (doorAxis n)).dropClose n).modDw n (fun e => { e with relief := false })).dwGo n
      .opening).startSection n .opn

/-- STOP. In OPEN, HELD and MANUAL, where R78 names only CLOSE_PEND and RESUME_PEND, it also stops a step that moves and ends a test
dwell (DESIGN CHOICE, log entry 105). -/
def doStop (s : State) (n : Fin 8) : State :=
  match s.dwState n with
  | .unlocking => s.dwGo n .locking
  | .opening => (s.haltDoor n).dwGo n .held
  | .closing => (s.haltDoor n).dwGo n .held
  | .reopening => (s.haltDoor n).dwGo n .held
  | .homing => (s.haltDoor n).dwGo n .unknown
  | .learning => (s.haltDoor n).learnAbort n
  | .opn => s.haltDoor n
  | .held => s.haltDoor n
  | .manual => s.haltDoor n
  | _ => s

/-- A CLOSE or CLOSE_WAIT taken: the timing of a waiting closure runs from this command (R78, R81, R82). -/
def markClose (s : State) (n : Fin 8) (wait : Bool) : State :=
  if wait then s.modDw n (fun e => { e with closeWait := some e.tick, waitOver := false }) else s

/-- CLOSE and CLOSE_WAIT. Where a closure is pending already (CLOSE_PEND or RESUME_PEND), the running CLOSE section goes on and is not
started again, and a plain CLOSE leaves a waiting closure waiting; the spec says only what a CLOSE_WAIT does there (DESIGN CHOICE, log
entry 106). -/
def doClose (s : State) (n : Fin 8) (wait : Bool) : State :=
  match s.dwState n with
  | .opn => if s.on (DW.STATE_CLOSE_PEND n) then s.markClose n wait
    else ((s.modDw n (fun e => { e with reclose := none, testFrom := none })).markClose n wait).startClose n
  | .held => if s.on (DW.STATE_CLOSE_PEND n) || s.on (DW.STATE_RESUME_PEND n) then s.markClose n wait
    else ((s.modDw n (fun e => { e with reclose := none })).markClose n wait).startClose n
  | .manual => if s.on (DW.STATE_CLOSE_PEND n) then s.markClose n wait else (s.markClose n wait).startClose n
  | .opening => (((s.haltDoor n).markClose n wait).dwGo n .held).startClose n
  | .reopening => (s.modDw n (fun e => { e with closeAfter := true, reclose := none })).markClose n wait
  | .unlocking => s.dwGo n .locking
  | .closedUnlocked => s.dwGo n .locking
  | _ => s

/-- The fault of the port that an axis uses is cleared where its condition is gone (R152). -/
def clearPortOf (s : State) (ax : Fin 16) : State :=
  match s.portOf ax with
  | some p => s.clearPort (fin16 p)
  | none => s

/-- The faults of the ports that the doorway's axes use, and of the axes, are cleared where their conditions are gone (R124, R152). -/
def clearDrives (s : State) (n : Fin 8) : State :=
  (((s.clearPortOf (doorAxis n)).clearPortOf (stepAxis n)).clearAxis (doorAxis n)).clearAxis (stepAxis n)

/-- RESTORE, in ISOLATED, EGRESS and FAULT: the faults are cleared, the state is determined anew. -/
def doRestore (s : State) (n : Fin 8) : State :=
  let s := s.clearDrives n
  let s := if s.faultActive n then s else (s.set (DW.FAULT_CAUSE n) 0).set (DW.FAULT_LOC n) 0
  ((s.restoreSaf n).determine n).modDw n (fun e => { e with driveAsk := true })

def doHome (s : State) (n : Fin 8) (axsel : Nat) : State :=
  let s := (s.haltDoor n).modDw n (fun e => { e with purpose := .home, axsel := axsel })
  if s.lockedIn n then s.dwGo n .unlocking else (s.dwGo n .homing).startSection n .home

/-- The effect of an accepted command. -/
def perform (s : State) (n : Fin 8) (op : DwOp) (axsel : Nat) : State :=
  match op with
  | .opn => s.doOpen n
  | .close => s.doClose n false
  | .closeWait => s.doClose n true
  | .stop => s.doStop n
  | .isolate => ((s.haltDoor n).isolateStep n).dwGo n .isolated
  | .restore => s.doRestore n
  | .home => s.doHome n axsel
  | .learn => (s.modDw n (fun e => { e with purpose := .learn, axsel := axsel })).dwGo n .unlocking
  | .testCycle => (s.modDw n (fun e => { e with purpose := .testCycle })).dwGo n .unlocking

/-- The answer to a command: CMD_STAT for the host, the answer for SC's STATUS to a telegram (R93, R278). -/
def answer (s : State) (n : Fin 8) (o : Offer) (reason : Nat) : State :=
  match o.src with
  | .host =>
    let s := (s.incWrap (DW.CMD_STAT_SEQ n)).set (DW.CMD_STAT_OP n) (DwOp.code o.op)
    (s.set (DW.CMD_STAT_REASON n) reason).set (DW.CMD_GO n) 0
  | .telegram => { s with answers := s.answers ++ [(o.conn, o.seq, n.val, reason)] }
  | _ => s

/-- A command reaches the engine in its tick (R78). -/
def command (s : State) (n : Fin 8) (o : Offer) : State :=
  let r := s.rejectReason n o.op o.src
  let s := s.answer n o r
  if r ≠ 0 then s else
    let s := (s.set (DW.LAST_CMD_OP n) (DwOp.code o.op)).set (DW.LAST_CMD_SRC n) (CmdSrc.code o.src)
    (s.incWrap (DW.LAST_CMD_COUNT n)).perform n o.op o.axsel

/-- Places a command in the mailbox (R77). -/
def offer (s : State) (n : Fin 8) (o : Offer) : State := s.modDw n (fun e => { e with offers := e.offers ++ [o] })

def offerOf (op : DwOp) (src : CmdSrc) : Offer := { op := op, src := src, axsel := 0, conn := 0, seq := 0 }

/-- The ranking of R77: STOP first, then by source; the earlier of equals. -/
def rankOf (o : Offer) : Nat := if o.op = .stop then 0 else CmdSrc.rank o.src

def bestOffer : Offer → List Offer → Offer
  | o, [] => o
  | o, p :: ps => bestOffer (if rankOf p < rankOf o then p else o) ps

/-- R67 step 4: at most one command is taken, every other is rejected with reason 6. -/
def arbitrate (s : State) (n : Fin 8) : State :=
  match s.dw[n].offers with
  | [] => s
  | o :: os =>
    let best := bestOffer o os
    let rest := (o :: os).erase best
    let s := s.modDw n (fun e => { e with offers := [] })
    let s := rest.foldl (fun (s : State) (p : Offer) => s.answer n p 6) s
    s.command n best

end State

end Sys2Proof.Machine
end

