-- ==== Sys2Proof/Machine/Recipe.lean ====
section
/-! DEFINITION. Recipes (R84 to R90): targets of a MOVE, the steps, the end of a section, validation, the reference recipes, and the
meanings of the recipe's opcodes. -/

namespace Sys2Proof.Machine

namespace State

/-! ### Targets (R76, R84, R175) -/

/-- R76: the gap target, and whether the gap was VALID. -/
def gapTarget (s : State) (n : Fin 8) : Int × Bool :=
  let ret := s.getI (DW.STEP_RET_POS n)
  let ext := s.getI (DW.STEP_EXT_POS n)
  match s.gap n with
  | none => (ext, false)
  | some g =>
    (clampI (min ret ext) (max ret ext) (ret + g - 100 * s.get (DW.STEP_GAP_EDGE_OFFS n) + 100 * s.get (DW.STEP_GAP_OVERTRAVEL n)), true)

/-- R175: the target of operand A = 5, from the position where the stop has come to rest; after a detection in REOPENING that position
itself (R174). -/
def reopenTarget (s : State) (n : Fin 8) : Int :=
  let ax := doorAxis n
  let rev := s.get (DW.REVERSE_REV_DIST n)
  let dir := s.openDir n
  let full := s.getI (DW.DOOR_OPEN_POS n)
  match s.dw[n].reopenTo with
  | some q => q
  | none =>
    if rev = 0 then full else
      let t := s.axPos ax + dir * rev
      if 0 < dir * (t - full) then full else t

/-- The target of a MOVE, but for operand A = 5. -/
def moveTarget (s : State) (n : Fin 8) (t : Step) : Int :=
  match t.a with
  | 0 => t.pos
  | 1 => if t.step then (s.gapTarget n).1 else s.getI (DW.DOOR_OPEN_POS n)
  | 2 => if t.step then s.getI (DW.STEP_RET_POS n) else s.getI (DW.DOOR_CLOSED_POS n)
  | 3 => s.getI (DW.STEP_EXT_POS n)
  | 4 => s.getI (AX.TARGET (t.axis n)) + t.pos
  | _ => s.reopenTarget n

/-- A target of the door axis lies towards DOOR_CLOSED_POS. -/
def towardsClosed (s : State) (n : Fin 8) (target : Int) : Bool :=
  let closed := s.getI (DW.DOOR_CLOSED_POS n)
  target == closed || decide ((target - closed).natAbs < (s.axPos (doorAxis n) - closed).natAbs)

/-- A closing MOVE is one of the door axis towards DOOR_CLOSED_POS (R71). -/
def isClosing (s : State) (n : Fin 8) (t : Step) (target : Int) : Bool := !t.step && t.a != 5 && s.towardsClosed n target

/-- The motion that a MOVE step asks for. A motion of the door axis in the REOPEN section is P0 (R174). The target, with the gap of R76,
is taken where the section runs the step, before the pantry admits the motion (DESIGN CHOICE, log entry 142). -/
def moveWant (s : State) (n : Fin 8) (t : Step) : Want :=
  let target := s.moveTarget n t
  { target := target, limit := 10 * t.b, closing := s.isClosing n t target, free := !t.step && s.sect n == .reopen,
    reopen := !t.step && t.a == 5, home := none, learn := false, resumed := false }

/-- The motion that a HOME step asks for: travel C towards an end (R110). -/
def homeWant (s : State) (n : Fin 8) (t : Step) : Want :=
  let ax := t.axis n
  let dir1 := t.b % 2 == 1
  let d : Int := if dir1 then -(s.closeDir ax) else s.closeDir ax
  { target := s.axPos ax + d * t.c.toNat, limit := 0, closing := false, free := false, reopen := false,
    home := some (dir1, t.c.toNat), learn := false, resumed := false }

/-- The gap of the MOVE that extends the step: DEGR.GAP (R74) and the cycle's record (R365). -/
def noteGap (s : State) (n : Fin 8) (t : Step) : State :=
  if t.step && t.a == 1 then
    let ok := (s.gapTarget n).2
    let g := (s.gap n).getD 655350
    (s.setDegr n 5 (!ok)).modCyc n (fun c => { c with gapValid := ok, gap := cap16 (g.toNat / 10), stepUsed := true })
  else if t.step then s.modCyc n (fun c => { c with stepUsed := true })
  else s

/-! ### The end of a section (R71, R85) -/

/-- The re-close after REOPENING (R78, R85). -/
def afterReopen (s : State) (n : Fin 8) : State :=
  let e := s.dw[n]
  if e.closeAfter then (s.modDw n (fun e => { e with closeAfter := false })).startClose n
  else if e.reopenings < s.get (DW.REOPEN_REOPEN_MAX n) then s.modDw n (fun e => { e with reclose := some e.tick })
  else s.setB (DW.STATE_REOPEN_EXH n) true

/-- The end of the CLOSE section in CLOSING, and in a state whose closing MOVE never started. -/
def afterClose (s : State) (n : Fin 8) : State :=
  let s := (s.modDw n (fun e => { e with closeWait := none, waitOver := false })).set (DW.WAIT_LEFT_LEFT n) 0
  let s := s.setB (DW.STATE_WAITING n) false
  match s.dwState n with
  | .closing =>
    let s := s.modCyc n (fun c => { c with
        closeTicks := c.closeTicks + (match c.closeStart with
          | some t => s.tick n - t
          | none => 0) })
    if !s.on (DW.CFG_LOCK_WHILE_REL n) && s.released n then s.dwGo n .closedUnlocked else s.dwGo n .locking
  | _ => s.setB (DW.STATE_CLOSE_PEND n) false

/-- A section reaches END (R71). HOME of the step alone leaves POS_VALID as it was (log entry 24). In a test cycle every OPEN section that
reaches END begins TEST_DWELL, that of a later OPEN too (DESIGN CHOICE, log entry 143). -/
def sectionEnd (s : State) (n : Fin 8) : State :=
  let sec := s.sect n
  let s := s.dropSection n
  match sec, s.dwState n with
  | .opn, .opening =>
    let s := s.dwGo n .opn
    if s.dw[n].inCycle && s.dw[n].cyc.test then
      (s.modDw n (fun e => { e with testFrom := some e.tick })).set (DW.SECT_SECTION n) (Section.code .testDwell)
    else s
  | .close, _ => s.afterClose n
  | .reopen, .reopening => (s.dwGo n .opn).afterReopen n
  | .home, .homing =>
    let s := if s.dw[n].axsel = 2 then s else s.setB (DW.STATE_POS_VALID n) true
    s.dwGo n .locking
  | _, _ => s

/-! ### Steps (R84 to R86) -/

/-- The engine goes to a step. -/
def gotoStep (s : State) (n : Fin 8) (i : Nat) : State :=
  (s.set (DW.SECT_STEP n) i).modDw n (fun e => { e with waitFrom := none })

def nextStep (s : State) (n : Fin 8) : State := s.gotoStep n (s.get (DW.SECT_STEP n) + 1)

/-- A step that does not wait is counted (R86). -/
def countStep (s : State) (n : Fin 8) : State := s.modDw n (fun e => { e with run := e.run + 1 })

/-- The section enters a wait: TIMEOUT is cleared (R85), and the consecutive count of R86 starts again. -/
def beginWait (s : State) (n : Fin 8) : State :=
  (s.setB (DW.SECT_TIMEOUT n) false).modDw n (fun e => { e with run := 0, waitFrom := some e.tick })


/-- A motion of the axis has still to start or to end. -/
def axBusy (s : State) (ax : Fin 16) : Bool :=
  s.ax[ax].moving || (s.ax[ax].want).isSome || (s.ax[ax].ended).isSome

/-- A step of HOME is for an axis that CMD.AXSEL leaves out. -/
def homeSkipped (s : State) (n : Fin 8) (t : Step) : Bool :=
  s.sect n == .home && ((s.dw[n].axsel == 1 && t.step) || (s.dw[n].axsel == 2 && !t.step))

def waitDone (s : State) (n : Fin 8) (t : Step) : Bool :=
  match t.op with
  | 1 => !s.axBusy (t.axis n)
  | 2 => !s.axBusy (t.axis n)
  | 5 => s.role n (t.a % 16) == (t.b % 2 == 1)
  | 6 => if t.b / 2 % 2 = 1 then !s.axBusy (t.axis n)
         else if t.b % 2 = 0 then decide (t.pos ≤ s.getI (AX.POS (t.axis n))) else decide (s.getI (AX.POS (t.axis n)) ≤ t.pos)
  | 7 => (List.range 8).all (fun z => !(t.a.testBit z) || s.get (PZ.ZONE_STAT_ZONE n z) == 1)
  | _ => false

/-- The time limit of a wait in ms, none where it has none. -/
def waitLimit (t : Step) : Option Nat :=
  match t.op with
  | 5 => if t.c = 0 then none else some t.c.toNat
  | 6 => if t.a = 0 then none else some (100 * t.a)
  | 7 => if t.c = 0 then none else some t.c.toNat
  | 8 => some t.c.toNat
  | _ => none

/-- The time of a wait under way has run out. -/
def waitLate (s : State) (n : Fin 8) (t : Step) : Bool :=
  match s.dw[n].waitFrom, waitLimit t with
  | some f, some ms => s.past n f ms
  | _, _ => false

/-- The section goes on after a wait whose time has run out: TIMEOUT is set, but by a DELAY (R85). -/
def waitOut (s : State) (n : Fin 8) (t : Step) : State :=
  (if t.op = 8 then s else s.setB (DW.SECT_TIMEOUT n) true).nextStep n

/-- A wait under way: its condition holds, its time has run out (R85), or it goes on. The flag says that the section has moved on. -/
def keepWaiting (s : State) (n : Fin 8) (t : Step) : State × Bool :=
  if s.waitDone n t then (s.nextStep n, true)
  else if s.waitLate n t then (s.waitOut n t, true)
  else (s, false)

/-- The condition of a BRANCH. -/
def branchTaken (s : State) (n : Fin 8) (t : Step) : Bool :=
  let c := match t.a with
    | 0 => true
    | 1 => s.on (DW.SECT_TIMEOUT n)
    | 2 => s.released n
    | 3 => s.dcl
    | 4 => s.on (PZ.GAP_STAT_VALID n)
    | 5 => s.on (DW.STATE_DEGRADED n)
    | 6 => s.on (DW.STATE_WAITING n)
    | _ => s.role n (t.c.toNat % 16)
  c != (t.b.testBit 7)

/-- SET_LS and CLR_LS switch the channel of the role; SC alone drives a safety-marked one. A demand that goes on is judged by the
pantry (R322). -/
def recipeLoad (s : State) (n : Fin 8) (role : Nat) (b : Bool) : State :=
  match s.roleLs n role with
  | none => s
  | some c =>
    let c := fin48 c
    if s.chSafe c then s
    else if b && !s.on (onBit c) then (s.setB (onBit c) true).demandOn c
    else s.setDemand c b

/-- The running section of a doorway, none where it has ended or is the test dwell. -/
def running? (s : State) (n : Fin 8) : Bool :=
  match s.sect n with
  | .none => false
  | .testDwell => false
  | _ => true

def currentStep (s : State) (n : Fin 8) : Step :=
  let i := s.get (DW.SECT_STEP n)
  if 48 ≤ i then stepOfWords 0 0 else s.recipeStep n i

/-- A wait that can time out starts and clears TIMEOUT; where its condition holds already, the engine goes on at once and has entered
no wait (R86, log entry 25). -/
def startTimed (s : State) (n : Fin 8) (t : Step) : State × Bool :=
  let s := s.setB (DW.SECT_TIMEOUT n) false
  if s.waitDone n t then ((s.countStep n).nextStep n, true) else (s.beginWait n, false)

/-- The closing MOVE of a CLOSE section has still to start or to end: the section does not reach its END before the seam checks of that
MOVE have run ("before the CLOSE section can reach LOCKING", R177; log entry 160). -/
def closingPends (s : State) (n : Fin 8) : Bool :=
  let e := s.ax[doorAxis n]
  s.sect n == .close && ((e.moving && e.closing) || ((e.want).map (fun w => w.closing)).getD false || ((e.ended).map (fun x => x.closing)).getD false)

/-- END, at once or after the closing MOVE. -/
def reachEnd (s : State) (n : Fin 8) : State := if s.closingPends n then s else s.sectionEnd n

/-- The present step of the section; the flag says that the engine goes on with another step in the same tick. -/
def runStep (s : State) (n : Fin 8) : State × Bool :=
  if !s.running? n then (s, false) else
  let t := s.currentStep n
  if (s.dw[n].waitFrom).isSome then s.keepWaiting n t else
  match t.op with
  | 0 => (s.reachEnd n, false)
  | 1 =>
    let w := s.moveWant n t
    let s := (s.noteGap n t).setWant (t.axis n) w
    if t.nw then ((s.countStep n).nextStep n, true) else (s.beginWait n, false)
  | 2 =>
    if s.homeSkipped n t then ((s.countStep n).nextStep n, true) else
      let w := s.homeWant n t
      ((s.setWant (t.axis n) w).beginWait n, false)
  | 3 => (((s.recipeLoad n t.a true).countStep n).nextStep n, true)
  | 4 => (((s.recipeLoad n t.a false).countStep n).nextStep n, true)
  | 9 => ((s.countStep n).gotoStep n (if s.branchTaken n t then t.b % 64 else s.get (DW.SECT_STEP n) + 1), true)
  | 5 => s.startTimed n t
  | 6 => s.startTimed n t
  | 7 => s.startTimed n t
  | 8 => s.startTimed n t
  | _ => (s.reachEnd n, false)

/-- 256 consecutive steps without a wait: FAULT with cause 9 (R86). -/
def runaway (s : State) (n : Fin 8) : State := if 256 ≤ s.dw[n].run then s.dwFaultHere n 9 else s

/-- Up to 16 steps of one tick (R86). -/
def runSteps : Nat → State → Fin 8 → State
  | 0, s, _ => s
  | k + 1, s, n =>
    match s.runStep n with
    | (t, true) =>
      let t := t.runaway n
      if t.running? n then runSteps k t n else t
    | (t, false) => t

/-! ### Validation (R87) -/

def roleAbsent (s : State) (n : Fin 8) (r : Nat) : Bool := r ≥ 16 || (s.roleDi n r).isNone

/-- The axis operand of a step is used by MOVE, HOME and WAIT_POS. -/
def stepOnStepAxis (t : Step) : Bool := t.step && (t.op == 1 || t.op == 2 || t.op == 6)

/-- Reserved bits of a step that must be 0 (R84, code 1): bits 7:6, the bits that an opcode does not use. -/
def reservedSet (t : Step) : Bool :=
  t.res != 0 || (t.nw && t.op != 1) || (t.step && !(t.op == 1 || t.op == 2 || t.op == 6)) ||
  (match t.op with
   | 0 => t.a != 0 || t.b != 0 || t.c != 0
   | 2 => t.a != 0 || 2 ≤ t.b
   | 3 => t.b != 0 || t.c != 0
   | 4 => t.b != 0 || t.c != 0
   | 5 => 2 ≤ t.b
   | 6 => 4 ≤ t.b
   | 7 => t.b != 0
   | 8 => t.a != 0 || t.b != 0
   | 9 => decide (t.b / 64 % 2 = 1 ∨ 256 ≤ t.b) || (t.a != 7 && t.c != 0)
   | _ => false)

/-- Code 7: an operand outside its range. -/
def outOfRange (t : Step) : Bool :=
  match t.op with
  | 1 => 6 ≤ t.a || (t.a == 5 && t.step)
  | 2 => decide (t.c.toNat < 100 ∨ 100000 < t.c.toNat)
  | 3 => 8 ≤ t.a
  | 4 => 8 ≤ t.a
  | 5 => 16 ≤ t.a
  | 8 => decide (t.c.toNat < 1 ∨ 600000 < t.c.toNat)
  | 9 => 8 ≤ t.a || (t.a == 7 && decide (16 ≤ t.c.toNat))
  | _ => false

/-- A step that would move an unused axis, one with MOTOR = 2 (R115); R87 has no code of its own for it (log entry 115). -/
def movesUnused (s : State) (n : Fin 8) (t : Step) : Bool :=
  (t.op == 1 || t.op == 2) && s.get (AX.CFG_MOTOR (t.axis n)) == 2

/-- The codes of R87 that one step can fail with, in the order of the list; code 3 and code 8 belong to the whole table. -/
def stepError (s : State) (n : Fin 8) (t : Step) : Option Nat :=
  if 10 ≤ t.op || reservedSet t then some 1
  else if t.op == 9 && 48 ≤ t.b % 64 then some 2
  else if (t.op == 3 || t.op == 4) && (t.a < 3 || (t.a < 8 && match s.roleLs n t.a with
      | none => true
      | some c => s.chSafe (fin48 c))) then some 4
  else if (t.op == 5 && t.a < 16 && s.roleAbsent n t.a) || (t.op == 9 && t.a == 7 && t.c.toNat < 16 && s.roleAbsent n t.c.toNat) then some 5
  else if stepOnStepAxis t && !s.stepEn n then some 6
  else if outOfRange t || s.movesUnused n t then some 7
  else none

/-- The steps that may follow a step; 48 stands for running past the table. -/
def successors (i : Nat) (t : Step) : List Nat :=
  match t.op with
  | 0 => []
  | 9 => if t.a = 0 then (if t.b.testBit 7 then [i + 1] else [t.b % 64]) else [t.b % 64, i + 1]
  | _ => [i + 1]

/-- The steps reachable from a list, over steps allowed by `p`; the fuel covers the table. -/
def reach (steps : List Step) (p : Step → Bool) : Nat → List Nat → List Nat → List Nat
  | 0, seen, _ => seen
  | k + 1, seen, todo =>
    let fresh := (dedup todo).filter (fun i => !seen.contains i)
    let nxt := fresh.flatMap (fun i => match steps[i]? with
      | some t => if p t then successors i t else []
      | none => [])
    if fresh.isEmpty then seen else reach steps p k (seen ++ fresh) nxt

/-- A branch cycle without a wait passes through step i (R87, code 8). -/
def onIdleCycle (steps : List Step) (i : Nat) : Bool :=
  match steps[i]? with
  | some t => !t.waits && (reach steps (fun u => !u.waits) 50 [] (successors i t)).contains i
  | none => false

/-- R87: the first failing step and its code, none where the recipe is valid. Where an entry of OPEN or CLOSE is absent no step fails, and
ERR_STEP reads 0 (DESIGN CHOICE, log entry 144). -/
def recipeError (s : State) (n : Fin 8) : Option (Nat × Nat) :=
  let steps := (List.range 48).map (s.recipeStep n)
  let entries := [s.entryOf n .opn, s.entryOf n .close, s.entryOf n .reopen, s.entryOf n .home].filter (· != 63)
  let used := reach steps (fun _ => true) 50 [] entries
  let idle (i : Nat) : Bool := used.contains i && onIdleCycle steps i
  let past (i : Nat) : Bool := used.contains i && (match steps[i]? with
    | some t => (successors i t).contains 48
    | none => false)
  if s.entryOf n .opn = 63 ∨ s.entryOf n .close = 63 then some (0, 3) else
  (List.range 48).findSome? (fun i =>
    match steps[i]? with
    | none => none
    | some t => match s.stepError n t with
      | some c => some (i, c)
      | none => if past i then some (i, 3) else if idle i then some (i, 8) else none)

/-- Validates the recipe and shows the result in RCP_CTRL; true where it is valid. -/
def validateRecipe (s : State) (n : Fin 8) : State × Bool :=
  match s.recipeError n with
  | none => ((s.setB (DW.RCP_CTRL_RCP_ERR n) false).set (DW.RCP_CTRL_ERR_CODE n) 0 |>.set (DW.RCP_CTRL_ERR_STEP n) 0, true)
  | some (i, c) => ((s.setB (DW.RCP_CTRL_RCP_ERR n) true).set (DW.RCP_CTRL_ERR_CODE n) c |>.set (DW.RCP_CTRL_ERR_STEP n) i, false)

end State

/-! ### The reference recipes (R90) -/

/-- Reference recipe 0, as the table of R90 gives it. -/
def refRecipe0 : List (Nat × Nat) :=
  [(0x00000503, 0), (0x00000303, 0), (0x00000403, 0), (0x00000131, 0), (0x00001E16, 0x00002710), (0x00000504, 0),
   (0x00000101, 0), (0x00023216, 0), (0, 0), (0x00000503, 0), (0x00000008, 0x000003E8), (0x00000504, 0)] ++
  [(0x00000201, 0), (0x00000807, 0x000007D0), (0x00000211, 0), (0x00000304, 0), (0x00000404, 0), (0, 0),
   (0x00000501, 0), (0, 0), (0x00000012, 0x000061A8), (0x00000002, 0x00011170), (0, 0)]

/-- Recipes 1 to 3: recipe 0 without its step operations, in recipe 0's order and in the section lengths that the table of R90 gives;
the MOVE to open waits for its end; recipe 3 delays 2,000 ms (log entry 26). -/
def refRecipe1 (delay : Nat) : List (Nat × Nat) :=
  [(0x00000503, 0), (0x00000504, 0), (0x00000101, 0), (0, 0),
   (0x00000503, 0), (0x00000008, delay), (0x00000504, 0), (0x00000201, 0), (0, 0),
   (0x00000501, 0), (0, 0), (0x00000002, 0x00011170), (0, 0)]

def refRecipe (sel : Nat) : List (Nat × Nat) :=
  match sel with
  | 0 => refRecipe0
  | 3 => refRecipe1 2000
  | _ => refRecipe1 1000

def refEntry (sel : Nat) : Nat := if sel = 0 then 0x14120900 else 0x0B090400

namespace State

/-- R90: accepted only while the page is disabled. -/
def loadReference (s : State) (n : Fin 8) : State :=
  if s.pageOn (pgDW n) || !s.editable then s.reject (pgDW n) 0x078 else
    let sel := s.get (DW.RCP_CTRL_REF_SEL n)
    let ws := refRecipe sel
    let s := (List.range 48).foldl (fun (s : State) (i : Nat) =>
      let (a, b) := ws.getD i (0, 0)
      (s.set (DW.RECIPE n (2 * i)) a).set (DW.RECIPE n (2 * i + 1)) b) s
    s.set (DW.RCP_ENTRY n) (refEntry sel)

/-- The row of a recipe opcode runs the present step where it is that opcode and does not wait already. -/
def recipeOp (s : State) (n : Fin 8) (op : Nat) : State :=
  if s.running? n && (s.currentStep n).op == op then
    match s.runStep n with
    | (t, true) => t.runaway n
    | (t, false) => t
  else s

end State

/-! ### Meanings -/

/-- R84, R71: the section ends. -/
def execRecipeEnd (n : Fin 8) (s : State) : Host.Outcome State Fault Refusal := .next (s.whenDoor n fun s => s.recipeOp n 0)
/-- R84. -/
def execRecipeMove (n : Fin 8) (s : State) : Host.Outcome State Fault Refusal := .next (s.whenDoor n fun s => s.recipeOp n 1)
/-- R84, R110. -/
def execRecipeHome (n : Fin 8) (s : State) : Host.Outcome State Fault Refusal := .next (s.whenDoor n fun s => s.recipeOp n 2)
/-- R84. -/
def execRecipeSetLs (n : Fin 8) (s : State) : Host.Outcome State Fault Refusal := .next (s.whenDoor n fun s => s.recipeOp n 3)
/-- R84. -/
def execRecipeClrLs (n : Fin 8) (s : State) : Host.Outcome State Fault Refusal := .next (s.whenDoor n fun s => s.recipeOp n 4)
/-- R84, R85. -/
def execRecipeWaitDi (n : Fin 8) (s : State) : Host.Outcome State Fault Refusal := .next (s.whenDoor n fun s => s.recipeOp n 5)
/-- R84, R85. -/
def execRecipeWaitPos (n : Fin 8) (s : State) : Host.Outcome State Fault Refusal := .next (s.whenDoor n fun s => s.recipeOp n 6)
/-- R84, R214. -/
def execRecipeWaitPorch (n : Fin 8) (s : State) : Host.Outcome State Fault Refusal := .next (s.whenDoor n fun s => s.recipeOp n 7)
/-- R84. -/
def execRecipeDelay (n : Fin 8) (s : State) : Host.Outcome State Fault Refusal := .next (s.whenDoor n fun s => s.recipeOp n 8)
/-- R84. -/
def execRecipeBranch (n : Fin 8) (s : State) : Host.Outcome State Fault Refusal := .next (s.whenDoor n fun s => s.recipeOp n 9)

/-- R84: the DELAY that is waiting has run its time; the section goes on with the next step. -/
def execDelayExpired (n : Fin 8) (s : State) : Host.Outcome State Fault Refusal :=
  .next (s.whenDoor n fun s =>
    if s.running? n && (s.dw[n].waitFrom).isSome && (s.currentStep n).op == 8 then s.nextStep n else s)

/-- R85: the wait under way times out, where it has a timeout. -/
def execWaitTimeout (n : Fin 8) (s : State) : Host.Outcome State Fault Refusal :=
  .next (s.whenDoor n fun s =>
    if s.running? n && (s.dw[n].waitFrom).isSome && (s.currentStep n).op != 8 && (State.waitLimit (s.currentStep n)).isSome then
      (s.setB (DW.SECT_TIMEOUT n) true).nextStep n
    else s)

/-- R86: the section has passed 256 steps without a wait. -/
def execRecipeRunaway (n : Fin 8) (s : State) : Host.Outcome State Fault Refusal :=
  .next (s.whenDoor n fun s => if s.running? n then s.dwFaultHere n 9 else s)

/-- R90. -/
def execLoadRef (n : Fin 8) (s : State) : Host.Outcome State Fault Refusal :=
  .next (if s.ready then s.loadReference n else s)

/-- R88: the edit session has ended without a commit: the committed values are reloaded at once in CLOSED_LOCKED, ISOLATED, FAULT or
UNKNOWN, otherwise at the next entry into CLOSED_LOCKED. -/
def execDoorwayReload (n : Fin 8) (s : State) : Host.Outcome State Fault Refusal :=
  .next (if s.ready then s.returnDoor n else s)

end Sys2Proof.Machine
end

