-- ==== Sys2Proof/Machine/Grid.lean ====
section
/-! DEFINITION. The geometry of the porch (R188, R189, R204 to R208, R211, R215, R219): the fusion of rays into hits and carves, the
classification of a pass, zones, the swept volume and the gap sample, in exact integer arithmetic. -/

namespace Sys2Proof.Machine

/-! ### Grids (R205, R208) -/

def gridSize : Nat := 3932160

/-- The offset of a voxel in its buffer (R208). -/
def voxelOffset (i j k : Nat) : Nat :=
  512 * ((k / 8 * 16 + j / 8) * 24 + i / 8) + 64 * (k % 8) + 8 * (j % 8) + i % 8

/-- The indices of the voxel at an offset. -/
def voxelOf (off : Nat) : Nat × Nat × Nat :=
  let brick := off / 512
  (brick % 24 * 8 + off % 8, brick / 24 % 16 * 8 + off / 8 % 8, brick / 384 * 8 + off / 64 % 8)

/-- The byte of R205. -/
def voxelByte (hits age cls : Nat) : Byte := BitVec.ofNat 8 (min hits 3 * 64 + age * 4 + cls)
def byteCls (b : Byte) : Nat := b.toNat % 4
def byteAge (b : Byte) : Nat := b.toNat / 4 % 16

def gridByte (g : Grid) (off : Nat) : Byte := ((g.cells.find? (fun c => c.1 == off)).map (·.2)).getD (voxelByte 0 g.age 0)

/-- Hits and carves of a pass by offset, offsets rising (R204). -/
abbrev Counts := List (Nat × Nat × Nat)

def bumpAt (hit : Bool) (off : Nat) : Counts → Counts
  | [] => [(off, if hit then (1, 0) else (0, 1))]
  | (o, h, c) :: t =>
    if off < o then (off, if hit then (1, 0) else (0, 1)) :: (o, h, c) :: t
    else if off = o then (o, if hit then (min (h + 1) 3, c) else (h, min (c + 1) 15)) :: t
    else (o, h, c) :: bumpAt hit off t

/-- The class of R205. -/
def classOf (hitMin veto hits carves : Nat) : Nat :=
  if hitMin ≤ hits ∧ carves < veto then 2 else if 0 < hits then 3 else if 0 < carves then 1 else 0

/-- The offsets of two rising lists, together. -/
def mergeKeys : Nat → List Nat → List Nat → List Nat
  | 0, xs, ys => xs ++ ys
  | _, [], ys => ys
  | _, xs, [] => xs
  | k + 1, x :: xs, y :: ys =>
    if x < y then x :: mergeKeys k xs (y :: ys) else if y < x then y :: mergeKeys k (x :: xs) ys else x :: mergeKeys k xs ys

/-- The classification of every voxel at the close of a pass (R205). -/
def classify (hitMin veto : Nat) (prev : Grid) (cs : Counts) : Grid :=
  let age := min (prev.age + 1) 15
  let keys := mergeKeys (prev.cells.length + cs.length) (prev.cells.map (·.1)) (cs.map (·.1))
  let byte (off : Nat) : Byte :=
    let (h, c) := ((cs.find? (fun x => x.1 == off)).map (·.2)).getD (0, 0)
    let cls := classOf hitMin veto h c
    voxelByte h (if cls = 2 then 0 else min (byteAge (gridByte prev off) + 1) 15) cls
  { age := age, cells := keys.filterMap (fun off => if byte off = voxelByte 0 age 0 then none else some (off, byte off)) }

/-! ### Rays (R204) -/

/-- A point of the doorway frame in 0.01 mm as numerators over one denominator. -/
structure Pt where
  x : Int
  y : Int
  z : Int
  d : Int
deriving DecidableEq, Repr

/-- A step along a ray within the grid: the tied axes as bits, from the fractions of the way to the next face. -/
def tied (ts : List (Option (Int × Int))) (i : Nat) : Bool :=
  match ts.getD i none with
  | none => false
  | some (n, d) => ts.all (fun t => match t with
    | none => true
    | some (n', d') => decide (n * d' ≤ n' * d))

/-- The axis crossed first: the only one, or of those that tie the one that the spec leaves open (log entry 7). -/
def crossed (ts : List (Option (Int × Int))) : Option Nat :=
  let ties := (List.range 3).filter (tied ts)
  match ties with
  | [] => none
  | [i] => some i
  | i :: _ =>
    let pick := (Config.ddaTie (BitVec.ofNat 3 (ties.foldl (fun (m : Nat) a => m + 2 ^ a) 0))).toNat
    some (if ties.contains pick then pick else i)

/-- Whether grid indices name a voxel. -/
def insideGrid (i j k : Int) : Bool := decide (0 ≤ i ∧ i < 192 ∧ 0 ≤ j ∧ j < 128 ∧ 0 ≤ k ∧ k < 160)

def offsetI (i j k : Int) : Nat := voxelOffset i.toNat j.toNat k.toNat

/-- The way from `g` towards `o` (grid coordinates in units 1/u) to the next face of voxel `w`: a fraction of the whole ray. -/
def faceAt (g o w u : Int) : Option (Int × Int) :=
  if g < o then some ((w + 1) * u - g, o - g) else if o < g then some (g - w * u, g - o) else none

/-- The voxels a ray crosses from the hit towards the head, at most `k` of them, none past the head (R204). -/
def carveWalk : Nat → (Int × Int × Int) → (Int × Int × Int) → Int → (Int × Int × Int) → Counts → Counts
  | 0, _, _, _, _, cs => cs
  | k + 1, g, o, u, w, cs =>
    let ts := [faceAt g.1 o.1 w.1 u, faceAt g.2.1 o.2.1 w.2.1 u, faceAt g.2.2 o.2.2 w.2.2 u]
    match crossed ts with
    | none => cs
    | some a =>
      match ts.getD a none with
      | none => cs
      | some (n, d) =>
        if d ≤ n then cs else
          let step (p q : Int) : Int := if p < q then 1 else -1
          let w' := if a = 0 then (w.1 + step g.1 o.1, w.2.1, w.2.2)
            else if a = 1 then (w.1, w.2.1 + step g.2.1 o.2.1, w.2.2)
            else (w.1, w.2.1, w.2.2 + step g.2.2 o.2.2)
          let cs := if insideGrid w'.1 w'.2.1 w'.2.2 then bumpAt false (offsetI w'.1 w'.2.1 w'.2.2) cs else cs
          carveWalk k g o u w' cs

namespace State

/-- The pose of a head: the nine rotation terms (16,384 = 1) and the optical centre in 0.01 mm. -/
def rot (s : State) (l : Nat) : List Int :=
  [s.getI (SL.ROT0_R11 l), s.getI (SL.ROT0_R12 l), s.getI (SL.ROT1_R13 l), s.getI (SL.ROT1_R21 l), s.getI (SL.ROT2_R22 l),
   s.getI (SL.ROT2_R23 l), s.getI (SL.ROT3_R31 l), s.getI (SL.ROT3_R32 l), s.getI (SL.ROT4_R33 l)]

def headAt (s : State) (l : Nat) : Int × Int × Int := (s.getI (SL.TRX l), s.getI (SL.TRY l), s.getI (SL.TRZ l))

/-- A pixel's direction in the doorway frame, times 16,384 × FX × FY. -/
def pixelDir (s : State) (l u v : Nat) : Int × Int × Int :=
  let a : Int := (256 * u + 128 : Int) - s.get (SL.CX l)
  let b : Int := (256 * v + 128 : Int) - s.get (SL.CY l)
  let fx : Int := s.get (SL.FX l)
  let fy : Int := s.get (SL.FY l)
  let r := s.rot l
  let row (i : Nat) : Int := r.getD (3 * i) 0 * a * fy + r.getD (3 * i + 1) 0 * b * fx + r.getD (3 * i + 2) 0 * fx * fy
  (row 0, row 1, row 2)

/-- The point a pixel of depth `d` (0.1 mm) shows (R204). -/
def pixelPoint (s : State) (l u v d : Nat) : Pt :=
  let (dx, dy, dz) := s.pixelDir l u v
  let den : Int := 16384 * s.get (SL.FX l) * s.get (SL.FY l)
  let (tx, ty, tz) := s.headAt l
  { x := 10 * d * dx + tx * den, y := 10 * d * dy + ty * den, z := 10 * d * dz + tz * den, d := den }

/-- A pixel is a valid ray (R204). -/
def validRay (s : State) (n l d c : Nat) : Bool :=
  decide (d ≠ 0) && decide (s.get (PZ.FUSE_CONF_MIN n) ≤ c) && decide (10 * s.get (SL.RANGE_MIN l) ≤ d) &&
    decide (d ≤ 10 * s.get (SL.RANGE_MAX l)) && s.get (SL.FX l) != 0 && s.get (SL.FY l) != 0

/-- The lowest corner of the grid in 0.01 mm. -/
def corner (s : State) (n : Nat) : Int × Int × Int :=
  (100 * s.getI (PZ.GRID_XY_X0 n), 100 * s.getI (PZ.GRID_XY_Y0 n), 100 * s.getI (PZ.GRID_Z_Z0 n))

/-- The voxel of a point; a point on a face belongs to the voxel with the higher index (R189). -/
def voxelAt (s : State) (n : Nat) (p : Pt) : Int × Int × Int :=
  let (cx, cy, cz) := s.corner n
  ((p.x - cx * p.d) / (1500 * p.d), (p.y - cy * p.d) / (1500 * p.d), (p.z - cz * p.d) / (1500 * p.d))

/-- The valid rays of a row: column, depth. -/
def rowRays (s : State) (n l : Nat) (r : RowMsg) : List (Nat × Nat) :=
  (List.range 320).filterMap (fun u =>
    let d := (r.depth.getD u 0).toNat
    if s.validRay n l d (r.conf.getD u 0).toNat then some (u, d) else none)

/-- The points that the valid rays of a frame show. -/
def framePoints (s : State) (n l : Nat) (f : FrameSlot) : List Pt :=
  f.rows.flatMap (fun r => (s.rowRays n l r).map (fun (u, d) => s.pixelPoint l u r.row.toNat d))

/-- One ray: a hit, and the carves towards the head (R204). -/
def fuseRay (s : State) (n l : Nat) (cs : Counts) (p : Pt) : Counts :=
  let (cx, cy, cz) := s.corner n
  let (tx, ty, tz) := s.headAt l
  let w := s.voxelAt n p
  let cs := if insideGrid w.1 w.2.1 w.2.2 then bumpAt true (offsetI w.1 w.2.1 w.2.2) cs else cs
  carveWalk (s.get (PZ.FUSE_TRUNC n)) (p.x - cx * p.d, p.y - cy * p.d, p.z - cz * p.d)
    ((tx - cx) * p.d, (ty - cy) * p.d, (tz - cz) * p.d) (1500 * p.d) w cs

def fuseFrame (s : State) (n l : Nat) (cs : Counts) (f : FrameSlot) : Counts := (s.framePoints n l f).foldl (s.fuseRay n l) cs

/-- The percentage test of drop cause 7: fewer than VALID_MIN percent of the pixels are valid rays. -/
def blind (s : State) (n l : Nat) (f : FrameSlot) : Bool :=
  decide (100 * (f.rows.foldl (fun (k : Nat) r => k + (s.rowRays n l r).length) 0) < s.get (PZ.FUSE_VALID_MIN n) * 76800)

/-! ### Zones (R204, R211) -/

/-- The box of a zone: lower and upper indices. -/
def zoneBox (s : State) (n z : Nat) : (Nat × Nat × Nat) × (Nat × Nat × Nat) :=
  ((s.get (PZ.ZONE_LO_I0 n z), s.get (PZ.ZONE_LO_J0 n z), s.get (PZ.ZONE_LO_K0 n z)),
   (s.get (PZ.ZONE_HI_I1 n z), s.get (PZ.ZONE_HI_J1 n z), s.get (PZ.ZONE_HI_K1 n z)))

def inBox (b : (Nat × Nat × Nat) × (Nat × Nat × Nat)) (v : Nat × Nat × Nat) : Bool :=
  decide (b.1.1 ≤ v.1 ∧ v.1 ≤ b.2.1 ∧ b.1.2.1 ≤ v.2.1 ∧ v.2.1 ≤ b.2.2.1 ∧ b.1.2.2 ≤ v.2.2 ∧ v.2.2 ≤ b.2.2.2)

/-- The parameters at which a line t + q × d lies between two planes: lower bounds and upper bounds as fractions, none where it
never does. -/
def slab (t d lo hi : Int) : Option (List (Int × Int) × List (Int × Int)) :=
  if d = 0 then (if lo ≤ t ∧ t ≤ hi then some ([], []) else none)
  else if 0 < d then some ([(lo - t, d)], [(hi - t, d)])
  else some ([(t - hi, -d)], [(t - lo, -d)])

/-- The line of sight of a pixel crosses the box of a zone (R204, the zone pixel map). -/
def sees (s : State) (n l z u v : Nat) : Bool :=
  let (cx, cy, cz) := s.corner n
  let (tx, ty, tz) := s.headAt l
  let (dx, dy, dz) := s.pixelDir l u v
  let (lo, hi) := s.zoneBox n z
  match slab tx dx (cx + 1500 * lo.1) (cx + 1500 * (hi.1 + 1)), slab ty dy (cy + 1500 * lo.2.1) (cy + 1500 * (hi.2.1 + 1)),
    slab tz dz (cz + 1500 * lo.2.2) (cz + 1500 * (hi.2.2 + 1)) with
  | some a, some b, some c =>
    let los := (0, 1) :: (a.1 ++ b.1 ++ c.1)
    let his := a.2 ++ b.2 ++ c.2
    los.all (fun p => his.all (fun q => decide (p.1 * q.2 ≤ q.1 * p.2)))
  | _, _, _ => false

/-- The pixels that the map gives a zone on a head, and those of them that are valid rays in a frame. -/
def mapped (s : State) (n l z : Nat) (f : FrameSlot) : Nat × Nat :=
  f.rows.foldl (fun (acc : Nat × Nat) r =>
    (List.range 320).foldl (fun (acc : Nat × Nat) u =>
      if s.sees n l z u r.row.toNat then
        (acc.1 + 1, acc.2 + (s.validRay n l (r.depth.getD u 0).toNat (r.conf.getD u 0).toNat).toNat)
      else acc) acc) (0, 0)

/-- The number of OCC voxels of a grid that a test picks. -/
def occWhere (g : Grid) (p : Nat × Nat × Nat → Bool) : Nat :=
  (g.cells.filter (fun c => byteCls c.2 == 2 && p (voxelOf c.1))).length

/-- The state, OCC count and coverage of a zone at a publication (R211). -/
def zoneResult (s : State) (n z : Nat) (g : Grid) (frames : List (Nat × FrameSlot)) : Nat × Nat × Nat :=
  if !s.on (PZ.ZONE_LO_EN n z) then (0, 0, 0) else
    let occ := occWhere g (inBox (s.zoneBox n z))
    let (all, good) := frames.foldl (fun (acc : Nat × Nat) f =>
      let m := s.mapped n f.1 z f.2
      (acc.1 + m.1, acc.2 + m.2)) (0, 0)
    let cov := if all = 0 then 0 else 100 * good / all
    let st := if s.get (PZ.ZONE_HI_OCC_MIN n z) ≤ occ then 2
      else if all = 0 ∨ 100 * good < s.get (PZ.COVER_COVER_MIN n) * all then 3 else 1
    (st, occ, cov)

/-! ### The swept volume (R212, R215) -/

/-- Whether the centre of a voxel lies in the swept volume. -/
def swept (s : State) (n : Nat) (v : Nat × Nat × Nat) : Bool :=
  let pos := s.getI (PZ.SV_POS n)
  let len := s.getI (PZ.SV_LEN n)
  let xc := s.getI (PZ.SV_XC n)
  let x : Int := 100 * s.getI (PZ.GRID_XY_X0 n) + 1500 * v.1 + 750
  let near := max 0 (pos - len)
  let band := decide (s.get (PZ.SV_BAND_J0 n) ≤ v.2.1 ∧ v.2.1 ≤ s.get (PZ.SV_BAND_J1 n) ∧
    s.get (PZ.SV_BAND_K0 n) ≤ v.2.2 ∧ v.2.2 ≤ s.get (PZ.SV_BAND_K1 n))
  band && (match s.get (PZ.SV_CFG_SV_MODE n) with
    | 0 => decide (near ≤ (x - xc).natAbs ∧ ((x - xc).natAbs : Int) ≤ pos)
    | 1 => decide (xc + near ≤ x ∧ x ≤ xc + pos)
    | 2 => decide (xc - pos ≤ x ∧ x ≤ xc - near)
    | _ => decide (((x - xc).natAbs : Int) ≤ pos))

/-! ### The platform gap (R219, R220) -/

def insertSorted (a : Int × Int) : List (Int × Int) → List (Int × Int)
  | [] => [a]
  | b :: t => if a.1 ≤ b.1 then a :: b :: t else b :: insertSorted a t

def sortPairs (l : List (Int × Int)) : List (Int × Int) := l.foldl (fun acc a => insertSorted a acc) []
def sortInts (l : List Int) : List Int := (sortPairs (l.map (fun a => (a, a)))).map (·.1)

/-- The median; of an even number the mean of the two middle values, rounded down (R219). -/
def median (l : List Int) : Int :=
  let m := sortInts l
  let k := m.length
  if k % 2 = 1 then m.getD (k / 2) 0 else (m.getD (k / 2 - 1) 0 + m.getD (k / 2) 0) / 2

/-- The edges of the valid columns: (y, z) of the GAP_Q-th smallest y, in 0.01 mm rounded down. -/
def gapEdges (s : State) (n : Nat) (pts : List Pt) : List (Int × Int) :=
  let q := s.get (PZ.GAP_CFG_GAP_Q n)
  let i0 := s.get (PZ.GAP_BAND_I0 n)
  let picked := pts.filterMap (fun p =>
    let (i, _, k) := s.voxelAt n p
    let y := p.y / p.d
    if (i0 : Int) ≤ i ∧ i ≤ s.get (PZ.GAP_BAND_I1 n) ∧ (s.get (PZ.GAP_BAND_K0 n) : Int) ≤ k ∧ k ≤ s.get (PZ.GAP_BAND_K1 n) ∧
      s.getI (PZ.GAP_YREF n) * p.d ≤ p.y then some (i.toNat, y, p.z / p.d) else none)
  (List.range 192).filterMap (fun col =>
    let c := sortPairs ((picked.filter (fun t => t.1 == col)).map (·.2))
    if 2 * q ≤ c.length then (c.drop (q - 1)).head? else none)

/-- The sample of a pass: the value where it is valid, its valid columns, the cause 1 to 3 where it is not, the median z (R219,
R220). -/
def gapSample (s : State) (n : Nat) (pts : List Pt) : Option Int × Nat × Nat × Int :=
  let edges := s.gapEdges n pts
  let ys := edges.map (·.1)
  let v := median ys - s.getI (PZ.GAP_YREF n)
  let (q1, q3) := Config.quartiles (sortInts ys)
  let cause := if edges.length < s.get (PZ.GAP_CFG_COLS_MIN n) then 1
    else if (100 * s.get (PZ.GAP_CFG_SPREAD n) : Int) < q3 - q1 then 2
    else if (s.get (PZ.GAP_MAX n) : Int) < v then 3 else 0
  (if cause = 0 then some v else none, edges.length, cause, if edges.isEmpty then 0 else median (edges.map (·.2)))

/-! ### Queries (R221) -/

/-- The counts of OCC, FREE, UNSEEN and CONFLICT voxels in a box, ends included. -/
def countBox (s : State) (n : Nat) (g : Grid) : Nat × Nat × Nat × Nat :=
  let lo := (min (s.get (PZ.QRY_LO_I n)) 191, min (s.get (PZ.QRY_LO_J n)) 127, min (s.get (PZ.QRY_LO_K n)) 159)
  let hi := (min (s.get (PZ.QRY_HI_I n)) 191, min (s.get (PZ.QRY_HI_J n)) 127, min (s.get (PZ.QRY_HI_K n)) 159)
  let cells := g.cells.filter (fun c => inBox (lo, hi) (voxelOf c.1))
  let k (cls : Nat) : Nat := (cells.filter (fun c => byteCls c.2 == cls)).length
  let vol := (hi.1 + 1 - lo.1) * (hi.2.1 + 1 - lo.2.1) * (hi.2.2 + 1 - lo.2.2)
  (k 2, k 1, vol - k 1 - k 2 - k 3, k 3)

def queryBad (s : State) (n : Nat) : Bool :=
  decide (s.get (PZ.QRY_HI_I n) < s.get (PZ.QRY_LO_I n) ∨ s.get (PZ.QRY_HI_J n) < s.get (PZ.QRY_LO_J n) ∨
    s.get (PZ.QRY_HI_K n) < s.get (PZ.QRY_LO_K n))

end State

end Sys2Proof.Machine
end

