-- ==== Sys2Proof/Machine/Porch.lean ====
section
/-! DEFINITION. The porch (R188 to R227): when it runs, the exposure schedule, sensor links and their faults, passes and their
publication, the verdict, the platform gap, OE's faults, and the meanings of the commands of "The Porch: Volumetric Doorway
Watch". -/

namespace Sys2Proof.Machine

namespace State

/-! ### Porch time and the exposure schedule (R201, R202) -/

/-- Porch time in µs, with the resolution of CLK32 (log entry 10). -/
def porchTime (s : State) : Nat := (s.clk32 - s.oe.origin) * 15625 / 512

def periodOf (rate : Nat) : Nat := 33333 * 2 ^ rate

def slotOf (n rate : Nat) : Nat := n * periodOf rate / 8

/-- The first exposure end of a schedule at or after a time. -/
def firstFrom (epoch n rate t : Nat) : Nat :=
  let t0 := epoch + slotOf n rate
  t0 + ceilDiv (t - t0) (periodOf rate) * periodOf rate

/-- The first exposure end of the schedule in force, or of the decided one, at or after a time. -/
def laterExposure (s : State) (n t : Nat) : Nat :=
  let a := firstFrom s.oe.epoch n (s.get OCC.RATE_RATE) t
  match s.oe.next with
  | some (e, r) => if a < e then a else firstFrom e n r (max t e)
  | none => a

/-- The first scheduled exposure end of a doorway at or after a time, over a change of rate: exposures of the schedule before the one
in force end before its EPOCH. -/
def nextExposure (s : State) (n t : Nat) : Nat :=
  match s.oe.old with
  | some (e, r) => let a := firstFrom e n r t; if a < s.oe.epoch then a else s.laterExposure n t
  | none => s.laterExposure n t

/-- The scheduled exposure end that a frame belongs to, within 1 ms (R200, cause 5). -/
def exposureOf (s : State) (n t : Nat) : Option Nat :=
  let e := s.nextExposure n (t - 1000)
  if e ≤ t + 1000 then some e else none

/-- A change of rate is decided (R202, R218): EPOCH, PENDING, and a longer T_FRAME_EFF at once. -/
def decideRate (s : State) : State :=
  let r := max (s.get OCC.CFG_RATE_REQ) (s.get OCC.RATE_RATE_LIM)
  let now := match s.oe.next with
    | some (_, r0) => r0
    | none => s.get OCC.RATE_RATE
  if r = now then s else
    let e := ceilDiv (s.porchTime + 20000) 133332 * 133332
    let s := s.modOe (fun o => { o with next := some (e, r) })
    let s := ((s.setB OCC.RATE_PENDING true).set OCC.EPOCH_LO (e % 2 ^ 32)).set OCC.EPOCH_HI (e / 2 ^ 32)
    (List.range 8).foldl (fun (s : State) (n : Nat) =>
      if s.get (PZ.T_FRAME_EFF_T n) < periodOf r then s.set (PZ.T_FRAME_EFF_T n) (periodOf r) else s) s

/-! ### Sensor links (R191 to R194) -/

def linkUsed (s : State) (l : Nat) : Bool := s.on (SL.CFG_PRESENT l) && s.pageOn (pgSL l)
def isUp (s : State) (l : Nat) : Bool := decide (2 ≤ s.get (SL.LINK_STAT_LINK l))
def doorOfLink (l : Fin 16) : Fin 8 := ⟨l / 2, by omega⟩

/-- A link fault is present and keeps the link from delivering (R200, cause 8; R222). Cause 6 does not: it ends when a frame is accepted
again (log entry 124). -/
def linkFault (s : State) (l : Fin 16) : Bool := s.sl[l].present.any (· != 6)

/-- The condition of a link fault's cause, where registers show it. -/
def linkHolds (s : State) (l cause : Nat) : Bool :=
  match cause with
  | 1 => s.on (SL.LINK_STAT_PWREN l) && s.on (SL.CFG_PRESENT l) && !s.isUp l
  | 3 => s.get (SL.HEAD_ID_EXP l) != 0 && s.get (SL.HEAD_ID_EXP l) != s.get (SL.HEAD_ID l)
  | 6 => s.isUp l && s.on (PZ.STAT_RUNNING (l / 2))
  | _ => true

/-- FAULT.ACTIVE falls with the condition (R222). -/
def linkSettle (s : State) (l : Fin 16) : State :=
  let s := s.modSl l (fun e => { e with present := e.present.filter (fun c => s.linkHolds l c) })
  if s.linkHolds l (s.get (SL.FAULT_CAUSE l)) then s else s.setB (SL.FAULT_ACTIVE l) false

def setLink (s : State) (l : Fin 16) (v : Nat) : State :=
  if s.get (SL.LINK_STAT_LINK l) = v then s else ((s.set (SL.LINK_STAT_LINK l) v).raise (pgSL l) 0).linkSettle l

/-- SLn_PWREN by R193; a change raises PWR. -/
def showPower (s : State) (l : Fin 16) : State :=
  let n := doorOfLink l
  let b := s.running && s.linkUsed l && !s.on (SL.LINK_STAT_PWR_LATCHED l) && !s.sl[l].podlOff &&
    (match s.get (SL.CFG_PWR_MODE l) with
     | 1 => s.on (PZ.STAT_RUNNING n)
     | 2 => true
     | _ => false)
  (if s.on (SL.LINK_STAT_PWREN l) == b then s else (s.setB (SL.LINK_STAT_PWREN l) b).raise (pgSL l) 1).linkSettle l

def showPowers (s : State) : State := (List.range 16).foldl (fun (s : State) (l : Nat) => s.showPower (fin16 l)) s

/-- A message to a head counts in the link's SEQ (R194). -/
def nextSeq (s : State) (l : Fin 16) : State := s.modSl l (fun e => { e with seq := (e.seq + 1) % 2 ^ 32 })

/-- A message to a head as an Ethernet frame up to its FCS: the addresses and the EtherType of R192, the header and body of R194. -/
def jubidoFrame (l seq typ : Nat) (body : List Byte) : List Byte :=
  List.replicate 6 0xFF ++ [0x02, 0x4F, 0x4E, 0x00, 0x00, BitVec.ofNat 8 l, 0x88, 0xB5, 0x01, BitVec.ofNat 8 typ] ++
  leBytes 2 body.length ++ leBytes 4 seq ++ body

/-- A message goes out on a link that is in use and up, with the link's next SEQ. -/
def sendJubido (s : State) (l : Fin 16) (typ : Nat) (body : List Byte) : State :=
  if s.linkUsed l && s.isUp l then (s.emit (.jubido l (jubidoFrame l s.sl[l].seq typ body))).nextSeq l else s

/-- CAL_REQ: its body is 4 reserved bytes (R197). -/
def sendCalReq (s : State) (l : Fin 16) : State :=
  if s.linkUsed l && s.isUp l then
    (s.sendJubido l 0x12 (leBytes 4 0)).modSl l (fun e => { e with calTries := min 3 (e.calTries + 1) })
  else s

/-- The body of SYNC (R198): the latest EPOCH with its PERIOD and SLOT; T_TX is porch time (log entry 10). -/
def syncBody (s : State) (l : Fin 16) : List Byte :=
  let n := doorOfLink l
  let (e, r) := (s.oe.next).getD (s.oe.epoch, s.get OCC.RATE_RATE)
  leBytes 8 s.porchTime ++ leBytes 8 e ++ leBytes 4 (periodOf r) ++ leBytes 4 (slotOf n r) ++
  leBytes 2 (s.get (SL.CFG_EXP_MAX l)) ++ leBytes 1 (s.on (PZ.STAT_RUNNING n)).toNat ++ leBytes 1 l ++ leBytes 4 0

def sendSync (s : State) (l : Fin 16) : State := s.sendJubido l 0x10 (s.syncBody l)

def linkMacro (cause : Nat) : Nat := if cause = 1 then 0 else if cause = 2 then 1 else 2

/-- A link fault (R222, R224). -/
def slFault (s : State) (l : Fin 16) (cause : Nat) : State :=
  let loc := locCode 0 6 l (linkMacro cause) 1023 0
  let s := s.modSl l (fun e => { e with present := cause :: e.present.filter (· != cause) })
  let s := (s.set (SL.FAULT l) (cause + 256)).set (SL.FAULT_LOC l) loc.toNat
  (s.raise (pgSL l) 6).logFault (pgSL l) cause loc 2 0 (s.get (SL.FAULT l)) none

/-- The timed causes: a fault that is present is not recorded again. -/
def slFaultOnce (s : State) (l : Fin 16) (cause : Nat) : State :=
  if s.sl[l].present.contains cause then s else s.slFault l cause

/-- A condition of a link fault is over. -/
def slInactive (s : State) (l : Fin 16) (cause : Nat) : State :=
  let s := s.modSl l (fun e => { e with present := e.present.filter (· != cause) })
  if s.get (SL.FAULT_CAUSE l) = cause then s.setB (SL.FAULT_ACTIVE l) false else s

/-! ### The verdict (R190, R213) -/

/-- The conditions of R190 but for the enables. -/
def porchWanted (s : State) (n : Fin 8) : Bool :=
  let open_ := if s.on (DW.CFG_SIDE n) then s.oe.preOpen.2 else s.oe.preOpen.1
  let st := s.dwState n
  s.running && (s.released n || open_ || s.on (PZ.CTRL_FORCE_RUN n) ||
    !(st == .closedLocked || st == .isolated || st == .fault || st == .unknown))

def porchEnabled (s : State) (n : Nat) : Bool := s.pageOn 0x0D && s.pageOn (pgPZ n)

/-- A zone of the mask in a state. -/
def zoneIn (s : State) (n st : Nat) : Bool :=
  (List.range 8).any (fun z => (s.get (PZ.COVER_VERDICT_MASK n)).testBit z && s.get (PZ.ZONE_STAT_ZONE n z) == st)

def verdictOf (s : State) (n : Fin 8) : Nat :=
  let e := s.pz[n]
  if e.due && (s.oe.down || !s.porchEnabled n || (decide (3 ≤ e.miss0) && decide (3 ≤ e.miss1))) then 5
  else if !s.on (PZ.STAT_RUNNING n) then 0
  else if e.stale then 4
  else if s.zoneIn n 2 || s.on (PZ.STAT_INTRUSION n) then 2
  else if s.zoneIn n 3 then 3
  else 1

/-- VERDICT follows; its changes raise VERDICT, STALE and UNAVAIL (R226). -/
def judgePorch (s : State) (n : Fin 8) : State :=
  let v := s.verdictOf n
  if s.get (PZ.STAT_VERDICT n) = v then s else
    let s := (s.set (PZ.STAT_VERDICT n) v).raise (pgPZ n) 0
    if v = 4 then (s.inc (PZ.STALE_CNT n)).raise (pgPZ n) 2
    else if v = 5 then s.raise (pgPZ n) 3
    else s

/-- GAP_STAT.VALID; a change raises GAP. -/
def setGapValid (s : State) (n : Nat) (b : Bool) : State :=
  if s.on (PZ.GAP_STAT_VALID n) == b then s else (s.setB (PZ.GAP_STAT_VALID n) b).raise (pgPZ n) 4

/-- INTRUSION; a rise raises INTRUSION. -/
def setIntrusion (s : State) (n : Nat) (b : Bool) : State :=
  let was := s.on (PZ.STAT_INTRUSION n)
  (s.setB (PZ.STAT_INTRUSION n) b).raiseIf (b && !was) (pgPZ n) 1

/-- SV_ACTIVE as the doorway's engine publishes it (R212); INTRUSION is not evaluated while it is 0 (log entry 28). -/
def setSvActive (s : State) (n : Fin 8) (b : Bool) : State :=
  if s.on (PZ.STAT_SV_ACTIVE n) == b then s else
    let s := s.setB (PZ.STAT_SV_ACTIVE n) b
    if b then s else (s.setIntrusion n false).judgePorch n

/-- The results of a porch that stops, or whose grid OE discards (R190, R223). -/
def clearPorch (s : State) (n : Fin 8) : State :=
  let s := ((s.set (PZ.ZONE_STAT n) 0).setIntrusion n false).setB (PZ.STAT_SV_ACTIVE n) false
  let s := (List.range 8).foldl (fun (s : State) (z : Nat) => (s.set (PZ.ZONE_OCC_COUNT n z) 0).set (PZ.ZONE_COV_COV n z) 0) s
  let s := ((s.set (PZ.SV_OCC_COUNT n) 0).setGapValid n false).set (PZ.GAP_STAT_CAUSE n) 4
  s.modPz n (fun e => { e with got := [], closed := [], bufs := Vector.replicate 2 Grid.empty, miss0 := 0, miss1 := 0,
                               stale := true, gaps := [] })

/-- A query ends without counts: ERR = 1, the porch does not run (R221, R55). -/
def failQuery (s : State) (n : Fin 8) : State :=
  if s.pz[n].query then ((s.modPz n (fun e => { e with query := false })).resDone (PZ.QRY_STAT n) true).raise (pgPZ n) 5 else s

/-- RUNNING by R190; a porch that starts begins with every voxel UNSEEN and waits for its first exposure; one that stops completes a
query that waits. -/
def showPorch (s : State) (n : Fin 8) : State :=
  let run := s.pz[n].due && s.porchEnabled n && !s.oe.down
  let s := if s.on (PZ.STAT_RUNNING n) == run then s else
    let s := (s.setB (PZ.STAT_RUNNING n) run).clearPorch n
    let s := if run then s else s.failQuery n
    let s := s.modPz n (fun e => { e with ek := s.nextExposure n (s.porchTime + 1) })
    let s := if run then s.set (PZ.GAP_STAT_CAUSE n) 5 else s
    ((s.showPower (fin16 (2 * n))).showPower (fin16 (2 * n + 1)))
  s.judgePorch n

/-- A porch starts to be due, or is so no longer. -/
def setDue (s : State) (n : Fin 8) (b : Bool) : State :=
  (s.modPz n (fun e => { e with due := b })).showPorch n

/-! ### Frames (R194 to R200) -/

def setSlot (s : State) (l : Fin 16) (k : Fin 4) (f : FrameSlot) : State := s.modSl l (fun e => { e with slots := e.slots.set k (some f) })

/-- A dropped frame (R200): counted, its cause recorded, DROP raised; cause 4 sends CAL_REQ, cause 7 raises BLIND. -/
def dropFrame (s : State) (l : Fin 16) (cause : Nat) : State :=
  let s := ((s.inc (SL.DROP_CNT l)).set (SL.DROP_CAUSE_CAUSE l) cause).raise (pgSL l) 2
  let s := match s.sl[l].frame with
    | none => s
    | some k => match s.sl[l].slots[k] with
      | none => s
      | some f => s.setSlot l k { f with cause := cause }
  let s := s.modSl l (fun e => { e with frame := none, rest := true })
  let s := if cause = 7 then s.raise (pgSL l) 5 else s
  if cause = 4 then s.sendCalReq l else s

/-- A message that failed the FCS: it is counted, and drops the frame it belongs to. -/
def fcsError (s : State) (l : Fin 16) : State :=
  let s := s.inc (SL.FCS_CNT l)
  if s.sl[l].rest then s else s.dropFrame l 1

/-- Frames with a VLAN tag or another EtherType are dropped before anything is read of them (R192). -/
def jubido (h : JubidoHead) : Bool := !h.tagged && h.etherType == 0x88B5#16

def headOk (h : JubidoHead) (typ len : Nat) : Bool := h.ver == 1 && h.typ == typ && h.len == len

/-- A link that is in use and up listens to its head (R191). -/
def listens (s : State) (l : Nat) : Bool := s.linkUsed l && s.isUp l

/-- FRAME_START (R195, R200): a frame that is still open has rows missing and is dropped whole. -/
def frameStart (s : State) (l : Fin 16) (m : FrameStartMsg) : State :=
  if !m.hdr.fcs then (s.modSl l (fun e => { e with rest := false })).fcsError l else
  let s := match s.sl[l].frame with
    | some _ => s.dropFrame l 3
    | none => s
  let s := s.modSl l (fun e => { e with frame := none, rest := false })
  if !headOk m.hdr 1 32 then s.dropFrame l 2 else
  let s := s.set (SL.SYNC_ERR_ERR l) m.syncErr.toNat
  let s := s.raiseIf (decide (100 < m.syncErr.toInt.natAbs)) (pgSL l) 4
  let s := if m.syncErr.toInt.natAbs ≤ 1000 then s.slInactive l 5 else s
  let k := fin4 m.frameNo.toNat
  let s := (s.setSlot l k ⟨m, [], false, false, 0⟩).modSl l (fun e => { e with frame := some k })
  if s.sl[l].calCrc != some m.calCrc then s.dropFrame l 4
  else match s.exposureOf (doorOfLink l) m.expEnd.toNat with
    | none => s.dropFrame l 5
    | some ek =>
      if m.width.toNat ≠ 320 ∨ m.height.toNat ≠ 240 ∨ m.headStat.getLsbD 2 = true ∨ s.linkFault l = true then s.dropFrame l 8
      else (s.modSl l (fun e => { e with ek := ek })).setLink l 3

/-! ### Closing a pass (R203, R205) -/

/-- The voxel updates of the last second (OCC.LOAD), in millions. -/
def showLoad (s : State) : State :=
  let w := s.oe.work.filter (fun x => decide (s.clk32 < x.1 + 32768))
  let now := min 65535 ((w.foldl (fun (t : Nat) x => t + x.2) 0) / 1000000)
  let s := (s.modOe (fun o => { o with work := w })).set OCC.LOAD_NOW now
  s.set OCC.LOAD_PEAK (max now (s.get OCC.LOAD_PEAK))

def countWork (s : State) (k : Nat) : State := (s.modOe (fun o => { o with work := (s.clk32, k) :: o.work })).showLoad

/-- The buffer that the next pass writes: the other one than the last pass closed, and under FREEZE_GRID never the one that BUF
names (R208; the count of passes goes on from the last one after a freeze, log entry 151). -/
def workBuf (s : State) (n : Fin 8) : Bool := if s.on (PZ.STAT_FROZEN n) then !s.on (PZ.STAT_BUF n) else !s.pz[n].last

/-- The buffer that the next pass reads: the last pass's, and under FREEZE_GRID the one it writes (R208). -/
def prevBuf (s : State) (n : Fin 8) : Grid :=
  let b := if s.on (PZ.STAT_FROZEN n) then !s.on (PZ.STAT_BUF n) else s.pz[n].last
  if b then s.pz[n].bufs[1] else s.pz[n].bufs[0]

/-- The pass takes the frames delivered for its exposure end; every voxel is classified into the work buffer (R208), and the results
wait for their publication behind those of passes not yet published (R207). -/
def fusePass (s : State) (n : Fin 8) (frames : List (Nat × FrameSlot)) (ek : Nat) : State :=
  let work := s.workBuf n
  let prev := s.prevBuf n
  let cs := frames.foldl (fun (cs : Counts) f => s.fuseFrame n f.1 cs f.2) []
  let g := classify (s.get (PZ.FUSE_HIT_MIN n)) (s.get (PZ.FUSE_CARVE_VETO n)) prev cs
  let svOn := s.on (PZ.STAT_SV_ACTIVE n)
  let (sample, cols, cause, gz) := s.gapSample n (frames.flatMap (fun f => s.framePoints n f.1 f.2))
  let p : ClosedPass := {
    ek := ek, head0 := frames.any (fun f => f.1 % 2 == 0), head1 := frames.any (fun f => f.1 % 2 == 1), buf := work,
    svOcc := if svOn then occWhere g (s.swept n) else 0, svOn := svOn,
    zones := (List.range 8).map (fun z => s.zoneResult n z g frames),
    sample := sample, cols := cols, cause := cause, gapZ := gz }
  let rays := frames.foldl (fun (k : Nat) f => k + (s.framePoints n f.1 f.2).length) 0
  let s := s.modPz n (fun x => { x with bufs := x.bufs.set work.toNat g (by cases work <;> decide), last := work, closed := x.closed ++ [p] })
  s.countWork (3932160 + rays * (1 + s.get (PZ.FUSE_TRUNC n)))

/-- The pass of the present exposure closes (R203): deliveries and misses are counted; a pass without a frame is not published. -/
def closePass (s : State) (n : Fin 8) : State :=
  let e := s.pz[n]
  let mine := e.got.filter (fun g => g.1 == e.ek)
  let got (b : Bool) : Bool := mine.any (fun g => g.2.1 == b)
  let s := s.modPz n (fun x => { x with
      got := x.got.filter (fun g => decide (e.ek < g.1)), ek := s.nextExposure n (e.ek + 1),
      miss0 := if got false then 0 else x.miss0 + 1, miss1 := if got true then 0 else x.miss1 + 1 })
  let s := if mine.isEmpty then s else s.fusePass n (mine.map (fun g => (2 * n.val + g.2.1.toNat, g.2.2))) e.ek
  s.judgePorch n

/-- An accepted frame delivers to its pass, which closes when both links have delivered (R203). A frame that is complete only after its
pass has closed has missed the frame deadline (R200, cause 6). -/
def deliver (s : State) (l : Fin 16) (k : Fin 4) (f : FrameSlot) : State :=
  let n := doorOfLink l
  if s.on (PZ.STAT_RUNNING n) && decide (s.sl[l].ek < s.pz[n].ek) then (s.setSlot l k { f with complete := true }).dropFrame l 6 else
  let s := s.setSlot l k { f with complete := true, accepted := true }
  let s := (s.inc (SL.FRAME_CNT l)).modSl l (fun e => { e with frame := none, rest := true })
  let s := s.slInactive l 6
  let side := l.val % 2 == 1
  if !s.on (PZ.STAT_RUNNING n) then s else
    let s := s.modPz n (fun e => { e with got := e.got ++ [(s.sl[l].ek, side, f)] })
    let mine := s.pz[n].got.filter (fun g => g.1 == s.pz[n].ek)
    if mine.any (fun g => g.2.1) && mine.any (fun g => !g.2.1) then s.closePass n else s

/-- ROW (R196, R200). -/
def rowArrives (s : State) (l : Fin 16) (m : RowMsg) : State :=
  if !m.hdr.fcs then s.fcsError l
  else match s.sl[l].frame with
    | none => if s.sl[l].rest then s else s.dropFrame l 3
    | some k =>
      if !headOk m.hdr 2 968 || m.depth.length != 320 || m.conf.length != 320 then s.dropFrame l 2
      else match s.sl[l].slots[k] with
        | none => s
        | some f =>
          if m.frameNo ≠ f.start.frameNo ∨ m.row.toNat ≠ f.rows.length then s.dropFrame l 3
          else
            let f : FrameSlot := { f with rows := f.rows ++ [m] }
            let s := s.setSlot l k f
            if f.rows.length < 240 then s
            else if s.linkFault l then s.dropFrame l 8
            else if s.blind (doorOfLink l) l f then (s.setSlot l k { f with complete := true }).dropFrame l 7
            else s.deliver l k f

/-! ### CAL (R197) -/

/-- The bytes 0 to 27 of a CAL body. -/
def calBytes (m : CalMsg) : List Byte :=
  wordBytes m.headId ++ wordBytes m.fx ++ wordBytes m.fy ++ wordBytes m.cx ++ wordBytes m.cy ++
  leBytes 2 m.rangeMin.toNat ++ leBytes 2 m.rangeMax.toNat ++ leBytes 2 m.fmt.toNat ++ leBytes 2 0

/-- A valid CAL is held: intrinsics, range, CAL_OK; a new CAL_CRC raises CAL; HEAD_ID is checked (R222, cause 3). -/
def takeCal (s : State) (l : Fin 16) (m : CalMsg) : State :=
  let fresh := decide (s.sl[l].calCrc ≠ some m.crc)
  let s := (s.set (SL.HEAD_ID l) m.headId.toNat).set (SL.FX l) m.fx.toNat
  let s := ((s.set (SL.FY l) m.fy.toNat).set (SL.CX l) m.cx.toNat).set (SL.CY l) m.cy.toNat
  let s := (s.set (SL.RANGE_MIN l) m.rangeMin.toNat).set (SL.RANGE_MAX l) m.rangeMax.toNat
  let s := (s.setB (SL.LINK_STAT_CAL_OK l) true).modSl l (fun e => { e with calCrc := some m.crc, calTries := 0 })
  let s := (s.raiseIf fresh (pgSL l) 7).slInactive l 4
  let want := s.word (SL.HEAD_ID_EXP l).addr
  if want ≠ 0 ∧ want ≠ m.headId then (s.raise (pgSL l) 3).slFault l 3 else s.linkSettle l

def calArrives (s : State) (l : Fin 16) (m : CalMsg) : State :=
  if !m.hdr.fcs then s.inc (SL.FCS_CNT l)
  else if !headOk m.hdr 3 32 || crc32 (calBytes m) != m.crc || m.fmt == 0 || decide (6553 < m.rangeMax.toNat) then s
  else if m.rangeMax.toNat ≤ m.rangeMin.toNat then s.slFault l 4
  else s.takeCal l m

/-! ### Publication (R203, R212, R220) -/

/-- GAP and GAP_STAT after a published pass (R220); a frozen measurement is held. -/
def showGap (s : State) (n : Fin 8) (p : ClosedPass) : State :=
  if s.on (PZ.GAP_STAT_FROZEN n) then s else
    let k := s.get (PZ.GAP_CFG_GAP_N n)
    let s := s.modPz n (fun e => { e with gaps := (p.sample :: e.gaps).take (max 1 k) })
    let s := (s.set (PZ.GAP_STAT_COLS n) p.cols).setI (PZ.GAP_Z n) p.gapZ
    let good := s.pz[n].gaps.filterMap id
    let near := match sortInts good with
      | [] => true
      | a :: t => decide (t.foldl max a - a ≤ 100 * (s.get (PZ.GAP_CFG_SPREAD n) : Int))
    let cause := if p.cause ≠ 0 then p.cause else if good.length < k then 5 else if near then 0 else 2
    let s := (s.set (PZ.GAP_STAT_CAUSE n) cause).setGapValid n (cause == 0)
    if cause = 0 then s.setI (PZ.GAP n) (median good) else s

/-- A query is answered from the buffer of the pass just published (R221). -/
def answerQuery (s : State) (n : Fin 8) (p : ClosedPass) : State :=
  if !s.pz[n].query then s else
    let g := if p.buf then s.pz[n].bufs[1] else s.pz[n].bufs[0]
    let (occ, free, unseen, conflict) := s.countBox n g
    let s := ((s.set (PZ.QRY_OCC n) occ).set (PZ.QRY_FREE n) free).set (PZ.QRY_UNSEEN n) unseen
    let s := (s.set (PZ.QRY_CONFLICT n) conflict).modPz n (fun e => { e with query := false })
    (s.resDone (PZ.QRY_STAT n) false).raise (pgPZ n) 5

/-- A shorter T_FRAME_EFF with the first pass of the new schedule (R218). -/
def shortenFrame (s : State) (n ek : Nat) : State :=
  if s.oe.epoch ≤ ek ∧ (s.oe.next).isNone then s.set (PZ.T_FRAME_EFF_T n) (periodOf (s.get OCC.RATE_RATE)) else s

/-- A late publication (R207). -/
def noteLate (s : State) (ek : Nat) : State :=
  if ek + 50000 < s.porchTime then (s.inc OCC.OVERLOAD_CNT).raise 0x0D 2 else s

/-- The oldest closed pass is published; one that is itself too old leaves the verdict STALE (R213). -/
def publish (s : State) (n : Fin 8) : State :=
  match s.pz[n].closed with
  | [] => s
  | p :: rest =>
    let old := decide (p.ek + 2 * s.get (PZ.T_FRAME_EFF_T n) + 50000 < s.porchTime)
    let s := s.modPz n (fun e => { e with closed := rest, shown := p.buf, stale := old })
    let s := if s.on (PZ.STAT_FROZEN n) then s else s.setB (PZ.STAT_BUF n) p.buf
    let s := ((s.setB (PZ.STAT_HEAD0 n) p.head0).setB (PZ.STAT_HEAD1 n) p.head1).incWrap (PZ.STAT_PASS_SEQ n)
    let s := (s.set (PZ.PASS_T_LO n) (p.ek % 2 ^ 32)).set (PZ.PASS_T_HI n) (p.ek / 2 ^ 32)
    let s := ((s.inc (PZ.PASS_CNT n)).inc OCC.PASS_CNT).shortenFrame n p.ek
    let s := ((List.range 8).zip p.zones).foldl (fun (s : State) (x : Nat × Nat × Nat × Nat) =>
      ((s.set (PZ.ZONE_STAT_ZONE n x.1) x.2.1).set (PZ.ZONE_OCC_COUNT n x.1) x.2.2.1).set (PZ.ZONE_COV_COV n x.1) x.2.2.2) s
    let s := s.set (PZ.SV_OCC_COUNT n) p.svOcc
    let s := s.setIntrusion n (p.svOn && s.on (PZ.STAT_SV_ACTIVE n) && decide (s.get (PZ.SV_CFG_SV_OCC_MIN n) ≤ p.svOcc))
    (((s.showGap n p).answerQuery n p).noteLate p.ek).showLoad.judgePorch n

/-! ### OE's faults (R223, R224) -/

def oeCauseNo : OeCause → Nat
  | .memory => 1
  | .noPass => 2
  | .ddr => 3
  | .pixelMap => 4

/-- OE stops and every porch that runs or is due becomes UNAVAILABLE; after the third fault within 1 h OE stays stopped. -/
def oeDown (s : State) (cause : Nat) (loc : Word) : State :=
  let hits := s.clk32 :: s.oe.faults.filter (fun t => decide (s.clk32 < t + 3600 * 32768))
  let s := s.modOe (fun o => { o with down := true, faults := hits, stopped := o.stopped || decide (3 ≤ hits.length) })
  let s := ((s.set OCC.FAULT (cause + 256)).set OCC.FAULT_LOC loc.toNat).raise 0x0D 0
  (List.range 8).foldl (fun (s : State) (n : Nat) => s.showPorch (fin8 n)) s

def oeFault (s : State) (c : OeCause) : State :=
  let cause := oeCauseNo c
  let loc := locBlock 0 5 (if c = .ddr then 2 else 0)
  let s := s.oeDown cause loc
  s.logFault 0x0D cause loc 2 0 (s.get OCC.FAULT) none

/-- OE has restarted: every grid discarded, the due porches start again. -/
def oeRestarted (s : State) : State :=
  if !s.oe.down || s.oe.stopped then s else
    let s := ((s.modOe (fun o => { o with down := false })).setB OCC.FAULT_ACTIVE false).inc OCC.OE_RST_CNT
    (List.range 8).foldl (fun (s : State) (n : Nat) => s.showPorch (fin8 n)) s

/-! ### Pre-release windows (R190) -/

def sideSet (p : Bool × Bool) (side : Side) (b : Bool) : Bool × Bool :=
  match side with
  | .left => (b, p.2)
  | .right => (p.1, b)

def sideGet (p : Bool × Bool) (side : Side) : Bool :=
  match side with
  | .left => p.1
  | .right => p.2

/-- A window whose opening time has passed opens at once. -/
def preWindow (s : State) (side : Side) : State :=
  let now := decide (s.get OCC.PRE_REL_ETA ≤ s.get OCC.CFG_PORCH_PRE)
  s.modOe (fun o => { o with preSet := sideSet o.preSet side true, preOpen := sideSet o.preOpen side now })

def writePreRel (s : State) (w : Word) : State :=
  let s := ((s.setB OCC.PRE_REL_LEFT (w.getLsbD 0)).setB OCC.PRE_REL_RIGHT (w.getLsbD 1)).set OCC.PRE_REL_ETA (fieldOf w 16 16)
  let s := if w.getLsbD 0 then s.preWindow .left else s
  if w.getLsbD 1 then s.preWindow .right else s

end State

/-! ### Meanings -/

/-- R190: a run condition of the porch holds. -/
def execPorchStart (n : Fin 8) (s : State) : Host.Outcome State Fault Refusal :=
  .next (if s.porchWanted n && !s.pz[n].due then s.setDue n true else s)

/-- R190: 2 s after the last condition has ended. -/
def execPorchStop (n : Fin 8) (s : State) : Host.Outcome State Fault Refusal :=
  .next (if !s.porchWanted n && s.pz[n].due then s.setDue n false else s)

/-- R190. -/
def execPreRelWrite (w : Word) (s : State) : Host.Outcome State Fault Refusal :=
  .next (if s.ready then s.writePreRel w else s)

/-- R190: ETA − PORCH_PRE is reached. -/
def execPreRelWindowOpen (side : Side) (s : State) : Host.Outcome State Fault Refusal :=
  .next (if State.sideGet s.oe.preSet side then s.modOe (fun o => { o with preOpen := State.sideSet o.preOpen side true }) else s)

/-- R190: 30 s after ETA. -/
def execPreRelWindowClose (side : Side) (s : State) : Host.Outcome State Fault Refusal :=
  .next (s.modOe (fun o => { o with preSet := State.sideSet o.preSet side false, preOpen := State.sideSet o.preOpen side false }))

/-- R195, R200. -/
def execFrameStart (l : Fin 16) (m : FrameStartMsg) (s : State) : Host.Outcome State Fault Refusal :=
  .next (s.whenRunning fun s => if s.listens l && State.jubido m.hdr then s.frameStart l m else s)

/-- R196, R200. -/
def execRow (l : Fin 16) (m : RowMsg) (s : State) : Host.Outcome State Fault Refusal :=
  .next (s.whenRunning fun s => if s.listens l && State.jubido m.hdr then s.rowArrives l m else s)

/-- R197. -/
def execCal (l : Fin 16) (m : CalMsg) (s : State) : Host.Outcome State Fault Refusal :=
  .next (s.whenRunning fun s => if s.listens l && State.jubido m.hdr then s.calArrives l m else s)

/-- R198: on every link that is up. OCC.LOAD is refreshed with it. -/
def execSync (s : State) : Host.Outcome State Fault Refusal :=
  .next (s.whenRunning fun s => ((List.range 16).foldl (fun (s : State) (l : Nat) => s.sendSync (fin16 l)) s).showLoad)

/-- R194. -/
def execCalReq (l : Fin 16) (s : State) : Host.Outcome State Fault Refusal :=
  .next (s.whenRunning fun s => s.sendCalReq l)

/-- R192, R194: CAL_REQ at link-up; a corrected polarity is shown. -/
def execLinkUp (l : Fin 16) (polInv : Bool) (s : State) : Host.Outcome State Fault Refusal :=
  .next (s.whenRunning fun s =>
    let s := (s.setB (SL.LINK_STAT_POL_INV l) polInv).setLink l 2
    (s.modSl l (fun e => { e with calTries := 0 })).sendCalReq l)

/-- R227: the link is lost, and with it the open frame. -/
def execSlLinkDown (l : Fin 16) (s : State) : Host.Outcome State Fault Refusal :=
  .next (s.whenRunning fun s => (s.setLink l 0).modSl l (fun e => { e with frame := none, rest := true }))

/-- R193: PWREN goes low; the fourth fault within 60 s latches it with cause 2. -/
def execPwrfltActive (l : Fin 16) (s : State) : Host.Outcome State Fault Refusal :=
  .next (s.whenRunning fun s =>
    let hits := s.clk32 :: s.sl[l].podl.filter (fun t => decide (s.clk32 < t + 60 * 32768))
    let s := (s.modSl l (fun e => { e with podl := hits, podlOff := true })).setB (SL.LINK_STAT_PWRFLT l) true
    let s := s.raise (pgSL l) 1
    let s := if 4 ≤ hits.length then (s.setB (SL.LINK_STAT_PWR_LATCHED l) true).slFault l 2 else s
    s.showPower l)

/-- R193: 1 s after the fault the enable is tried again. -/
def execPodlRetry (l : Fin 16) (s : State) : Host.Outcome State Fault Refusal :=
  .next (s.whenRunning fun s =>
    if s.sl[l].podlOff && !s.on (SL.LINK_STAT_PWR_LATCHED l) then
      ((s.modSl l (fun e => { e with podlOff := false })).setB (SL.LINK_STAT_PWRFLT l) false).showPower l
    else s)

/-- R203: frames still open at the deadline have rows missing (cause 6); the pass closes with those delivered. -/
def execFrameDeadline (n : Fin 8) (s : State) : Host.Outcome State Fault Refusal :=
  .next (s.whenRunning fun s =>
    if !s.on (PZ.STAT_RUNNING n) then s else
      let s := [2 * n.val, 2 * n.val + 1].foldl (fun (s : State) (l : Nat) =>
        let l := fin16 l
        if (s.sl[l].frame).isSome && decide (s.sl[l].ek ≤ s.pz[n].ek) then s.dropFrame l 6 else s) s
      s.closePass n)

/-- R203. -/
def execPassPublish (n : Fin 8) (s : State) : Host.Outcome State Fault Refusal :=
  .next (s.whenRunning fun s => if s.on (PZ.STAT_RUNNING n) then s.publish n else s)

/-- R213: the newest published pass is too old. -/
def execStaleTimeout (n : Fin 8) (s : State) : Host.Outcome State Fault Refusal :=
  .next (s.whenRunning fun s =>
    if s.on (PZ.STAT_RUNNING n) then (s.modPz n (fun e => { e with stale := true })).judgePorch n else s)

/-- R202: EPOCH is reached. -/
def execRateEpoch (s : State) : Host.Outcome State Fault Refusal :=
  .next (s.whenRunning fun s =>
    match s.oe.next with
    | none => s
    | some (e, r) =>
      let s := s.modOe (fun o => { o with next := none, old := some (o.epoch, s.get OCC.RATE_RATE), epoch := e })
      ((s.set OCC.RATE_RATE r).setB OCC.RATE_PENDING false).raise 0x0D 1)

/-- R221: ERR at once where the porch does not run or the box is upside down; otherwise the next publication answers. A request that
waits is abandoned (R55). -/
def execPorchQuery (n : Fin 8) (s : State) : Host.Outcome State Fault Refusal :=
  .next (if !s.ready then s else
    let s := (s.resClear (PZ.QRY_STAT n)).modPz n (fun e => { e with query := false })
    if !s.running || !s.on (PZ.STAT_RUNNING n) || s.queryBad n then (s.resDone (PZ.QRY_STAT n) true).raise (pgPZ n) 5
    else s.modPz n (fun e => { e with query := true }))

/-- R208: at the end of a freeze BUF names the buffer of the last published pass again. -/
def execFreezeGrid (n : Fin 8) (on : Bool) (s : State) : Host.Outcome State Fault Refusal :=
  .next (if s.ready then
    let s := (s.setB (PZ.CTRL_FREEZE_GRID n) on).setB (PZ.STAT_FROZEN n) on
    if on then s else s.setB (PZ.STAT_BUF n) s.pz[n].shown
  else s)

/-- R222, cause 1: while PWREN is on and PRESENT = 1. -/
def execLinkDownTimeout (l : Fin 16) (s : State) : Host.Outcome State Fault Refusal :=
  .next (s.whenRunning fun s =>
    if s.on (SL.LINK_STAT_PWREN l) && s.on (SL.CFG_PRESENT l) && !s.isUp l then s.slFaultOnce l 1 else s)

/-- R222, cause 4: a CAL_REQ has stayed without a valid CAL; it is sent again until three have gone out (log entry 123). -/
def execCalTimeout (l : Fin 16) (s : State) : Host.Outcome State Fault Refusal :=
  .next (s.whenRunning fun s =>
    if !s.listens l || s.sl[l].calTries == 0 then s
    else if s.sl[l].calTries < 3 then s.sendCalReq l
    else s.slFaultOnce l 4)

/-- R222, cause 5. -/
def execSyncErrTimeout (l : Fin 16) (s : State) : Host.Outcome State Fault Refusal :=
  .next (s.whenRunning fun s => if s.listens l then s.slFaultOnce l 5 else s)

/-- R222, cause 6: with the link up and RUN = 1. -/
def execNoFrameTimeout (l : Fin 16) (s : State) : Host.Outcome State Fault Refusal :=
  .next (s.whenRunning fun s => if s.listens l && s.on (PZ.STAT_RUNNING (l / 2)) then s.slFaultOnce l 6 else s)

/-- R222: CLR clears a fault whose ACTIVE = 0, and releases PWR_LATCHED. -/
def execSlClr (l : Fin 16) (s : State) : Host.Outcome State Fault Refusal :=
  .next (s.whenRunning fun s =>
    let s := if s.on (SL.LINK_STAT_PWR_LATCHED l) then
        ((s.setB (SL.LINK_STAT_PWR_LATCHED l) false).modSl l (fun e => { e with podl := [], podlOff := false })).slInactive l 2
      else s
    let s := if s.on (SL.FAULT_ACTIVE l) then s else (s.set (SL.FAULT l) 0).set (SL.FAULT_LOC l) 0
    s.showPower l)

/-- R223. -/
def execOeFault (cause : OeCause) (s : State) : Host.Outcome State Fault Refusal :=
  .next (s.whenRunning fun s => s.oeFault cause)

/-- R223. -/
def execOeRestartDone (s : State) : Host.Outcome State Fault Refusal := .next (s.whenRunning fun s => s.oeRestarted)

/-- R223: CLR restarts a stopped OE with a fresh count; with ACTIVE = 0 it clears CAUSE. -/
def execOccClr (s : State) : Host.Outcome State Fault Refusal :=
  .next (s.whenRunning fun s =>
    if s.oe.stopped then s.modOe (fun o => { o with stopped := false, faults := [] })
    else if s.on OCC.FAULT_ACTIVE then s
    else s.set OCC.FAULT_CAUSE 0)

end Sys2Proof.Machine
end

