-- ==== Sys2Proof/Machine/DoorTick.lean ====
section
/-! DEFINITION. The 200 µs tick of a doorway engine (R67) and the meanings of the commands of "Doorway Engines and Door Recipes" and
"Edge Force and Obstacle Response". -/

namespace Sys2Proof.Machine

namespace State

/-! ### Step 1: samples (R67, R74, R214 to R217) -/

/-- Exactly one of the doorway's links has not delivered for three exposures (R214). -/
def oneLink (s : State) (n : Fin 8) : Bool :=
  s.on (PZ.STAT_RUNNING n) && (decide (3 ≤ s.pz[n].miss0) != decide (3 ≤ s.pz[n].miss1))

/-- POS_UNCERT of a port that an axis of the doorway uses. -/
def uncertain (s : State) (n : Fin 8) : Bool :=
  [doorAxis n, stepAxis n].any (fun ax => match s.portOf ax with
    | some p => s.on (FB.STAT_POS_UNCERT p) && (!isStep ax || s.stepEn n)
    | none => false)

/-- V_CAP (R217): to the nearest 100, halves up. -/
def vCap (s : State) (n : Nat) : Nat :=
  let num := s.get (DW.D_MARGIN_MARGIN n) * 10000000
  let den := 2 * s.get (PZ.T_FRAME_EFF_T n) + 50000
  (2 * num + 100 * den) / (200 * den) * 100

/-- The lookahead L of the swept volume in 0.01 mm (R215), without the braking way for a held doorway. -/
def svLen (s : State) (n : Fin 8) : Nat :=
  let ax := doorAxis n
  let v := if s.dwState n = .held then 0 else (roundDiv s.ax[ax].velQ 256).natAbs
  100 * (s.get (DW.D_MARGIN_MARGIN n) + s.get (PZ.SV_CFG_SV_PAD n)) +
    v * v / (2 * max 1 (s.prof ax (decide (0 ≤ s.ax[ax].velQ)) 4))

/-- A closing MOVE runs, or waits held by the porch (R212). -/
def svWanted (s : State) (n : Fin 8) : Bool :=
  let e := s.ax[doorAxis n]
  (s.dwState n == .closing && e.moving && e.closing) || (s.dwState n == .held && s.on (DW.STATE_RESUME_PEND n))

def sampleDegr (s : State) (n : Fin 8) : State :=
  let s := s.setDegr n 0 (s.verdict n == 5)
  let s := s.setDegr n 1 (s.oneLink n)
  let s := s.setDegr n 2 (s.uncertain n)
  s.setDegr n 3 (s.get (SAF.DEGR_CAUSE n) != 0)

def sampleDoor (s : State) (n : Fin 8) : State :=
  let s := (s.modDw n (fun e => { e with tick := e.tick + 1 })).sampleAxis (doorAxis n) |>.sampleAxis (stepAxis n)
  let s := (s.setI (DW.DOOR_POS n) (s.getI (AX.POS (doorAxis n)))).setI (DW.STEP_POS n) (s.getI (AX.POS (stepAxis n)))
  let s := s.setB (DW.STATE_SIDE_REL n) (if s.on (DW.CFG_SIDE n) then s.on TIL.STAT_REL_R else s.on TIL.STAT_REL_L)
  let s := s.showFaultActive n
  (s.sampleDegr n).set (DW.V_CAP_CAP n) (s.vCap n)

/-! ### The detection layers (R161 to R173) -/

/-- The edges at this tick: pressed causes and the discrepancy (R163, R164). -/
def edgeCauses (s : State) (n : Fin 8) : List Nat × Bool :=
  let a := s.role n 8
  let b := s.role n 9
  match s.get (DW.EDGE_CFG_MODE n) with
  | 1 => (if a then [1] else [], false)
  | 2 => ((if a then [1] else []) ++ (if b then [2] else []) ++ (if a != b then [3] else []), a != b)
  | 3 => ((if a then [1] else []) ++ (if b then [] else [2]) ++ (if a == b then [3] else []), a == b)
  | _ => ([], false)

/-- The edge layer acts: outside EDGE_MUTE of DOOR_CLOSED_POS, and not in degraded mode with cause EDGE (R162, R165). -/
def edgeArmed (s : State) (n : Fin 8) : Bool :=
  !(s.get (SAF.DEGR_CAUSE n)).testBit 0 &&
    decide (min (s.get (DW.END_ZONE_EDGE_MUTE n)) (s.get (DW.END_ZONE_END_ZONE n)) < (s.getI (DW.DOOR_POS n) - s.getI (DW.DOOR_CLOSED_POS n)).natAbs)



def openingRuns (s : State) (n : Fin 8) : Bool :=
  let e := s.ax[doorAxis n]
  match s.dwState n with
  | .opening => e.moving
  | .reopening => e.moving && e.stopAt.isNone
  | .learning => e.moving && !e.closing
  | _ => false

/-- Whether the force layer finds its limit exceeded at this tick (R172); a learn run compares F_CB (R179). -/
def forceOver (s : State) (n : Fin 8) : Bool :=
  decide ((s.forceLimit n : Int) < if s.dwState n == .learning then s.fCb n else s.fEst (doorAxis n))

/-- The statistics of a closing MOVE: PEAK, the drag of the end zone (R177, R187). -/
def notePeak (s : State) (n : Fin 8) : State :=
  let ax := doorAxis n
  if s.dwState n == .closing && s.ax[ax].moving && s.ax[ax].closing then
    let f := s.fEst ax
    let pos := s.getI (DW.DOOR_POS n)
    let inEnd := decide ((pos - s.getI (DW.DOOR_CLOSED_POS n)).natAbs ≤ s.get (DW.END_ZONE_END_ZONE n))
    let s := if inEnd then s.modDw n (fun e => { e with dragSum := e.dragSum + f, dragN := e.dragN + 1 }) else s
    let f' := min f.toNat 65535
    let s := if s.get (DW.PEAK_F n) < f' then (s.set (DW.PEAK_F n) f').set (DW.PEAK_POS n) (min 65535 (pos.natAbs / 100)) else s
    s.modCyc n (fun c => if c.fPeak < f' then { c with fPeak := f', fPos := pos.natAbs / 100 } else c)
  else s

/-- The edge and force layers of a tick place their detections (R161). -/
def evalLayers (s : State) (n : Fin 8) : State :=
  let causes := (s.edgeCauses n).1
  let closing := s.closingRuns n
  let s := if closing && s.edgeArmed n then causes.foldl (fun (s : State) (c : Nat) => s.placeDet n c) s else s
  let s := s.notePeak n
  let live := closing && (s.ax[doorAxis n].moving || s.dwState n == .held) || s.openingRuns n
  let k := if live && s.forceOver n then s.dw[n].forceT + 1 else 0
  let s := s.modDw n (fun e => { e with forceT := k })
  if 5 * s.get (DW.F_TIME_T_FORCE n) ≤ k then s.placeDet n (if closing then 4 else 9) else s

/-! ### Step 2: reactions (R68, R69) -/

/-- A learn run under way ends without a result of its own (R181, code 2). -/
def endLearn (s : State) (n : Fin 8) : State :=
  if s.on (DW.EFF_STAT_LEARN_RUN n) then
    ((s.setB (DW.EFF_STAT_LEARN_RUN n) false).set (DW.EFF_STAT_LEARN_RESULT n) 2).modDw n (fun e => { e with learnSum := [], ramps := [] })
  else s

def enterIsolated (s : State) (n : Fin 8) : State :=
  if s.dwState n = .isolated then s else
    (((s.haltDoor n).endLearn n).isolateStep n).dwGo n .isolated

def enterEgress (s : State) (n : Fin 8) : State :=
  match s.dwState n with
  | .isolated => s
  | .fault => s
  | .egress => s
  | _ => ((s.haltDoor n).endLearn n).dwGo n .egress

/-- Axis faults become doorway fault cause 7; the step's own axis also puts the step into FAULT, where there is one (R75, R123). -/
def axisReaction (s : State) (n : Fin 8) : State :=
  let f (ax : Fin 16) : Bool := s.get (AX.FAULT_CAUSE ax) != 0
  let door := f (doorAxis n)
  let step := f (stepAxis n)
  if !door && !step then s else
    let st := s.dwState n
    if st == .fault || (st == .isolated && s.get (DW.FAULT_CAUSE_CAUSE n) == 7) then s else
      let s := if step && s.stepEn n && st != .isolated then s.setStep n .fault else s
      (s.endLearn n).dwFault n 7 (s.word (AX.FAULT_LOC (if door then doorAxis n else stepAxis n)).addr) 2

/-- SC confirms a lock: the leaves closed and locked on its own samples, the lock channel off, and no readback fault of it (log
entry 33). -/
def scConfirms (s : State) (n : Fin 8) : Bool := s.scIn n 0 && s.scIn n 1 && s.lockOff n && !s.safActive n 16

/-- The door axis has left its closed position by more than MANUAL_DIST. -/
def movedOff (s : State) (n : Fin 8) : Bool :=
  s.on (DW.STATE_POS_VALID n) &&
    decide (s.get (DW.MANUAL_MANUAL_DIST n) < (s.getI (DW.DOOR_POS n) - s.getI (DW.DOOR_CLOSED_POS n)).natAbs)

/-- The fault causes that the samples of the tick show (R71, R93): 1 to 4 in their states, and CLOSED active with the leaves elsewhere
(10) in every state but ISOLATED, FAULT and CLOSED_LOCKED, whose own cause is 4. -/
def faultsFound (s : State) (n : Fin 8) : List Nat :=
  let late (ms : Nat) : Bool := s.past n s.dw[n].since ms
  let astray : List Nat := if s.closedIn n && s.movedOff n then [10] else []
  match s.dwState n with
  | .unlocking => (if s.lockedIn n && late (s.get (DW.TIMEOUTS_T_UNLOCK n)) then [1] else []) ++ astray
  | .locking => (if !s.scConfirms n && late (s.get (DW.TIMEOUTS_T_LOCK n)) then [2] else []) ++ astray
  | .closedLocked => if !s.lockedIn n then [3] else if s.movedOff n then [4] else []
  | .isolated => []
  | .fault => []
  | _ => astray

/-- A homing that has stopped at its travel limit (R71, R110). -/
def homingOver (s : State) (ax : Fin 16) : State :=
  if s.ax[ax].moving && s.ax[ax].trajDone && s.ax[ax].travelOut then s.homingNoStall ax else s

/-- Isolation, faults and egress of a tick, with the precedence of R68: the faults are judged on the samples, before any reaction. -/
def reactions (s : State) (n : Fin 8) : State :=
  let before := s.dwState n
  let egress := s.role n 2
  let found := s.faultsFound n
  let s := if s.role n 3 then s.enterIsolated n else s
  let s := ((s.axisReaction n).homingOver (doorAxis n)).homingOver (stepAxis n)
  let s := found.foldl (fun (s : State) (c : Nat) => s.dwFaultHere n c) (s.latchLate n)
  let now := s.dwState n
  if !egress then s
  else if now = .isolated ∨ now = .fault then (if before = now ∨ before = .egress then s else s.doorEv n 6)
  else s.enterEgress n

/-! ### Step 3: completions (R71, R75, R85) -/

/-- UNLOCKING ends when LOCKED falls (R71). -/
def unlocked (s : State) (n : Fin 8) : State :=
  match s.dw[n].purpose with
  | .home => (s.dwGo n .homing).startSection n .home
  | .learn => s.learnStart n
  | _ => (s.dwGo n .opening).startSection n .opn

def unlockTimeout (s : State) (n : Fin 8) : State := s.dwFaultHere n 1
def lockTimeout (s : State) (n : Fin 8) : State := s.dwFaultHere n 2
def locked (s : State) (n : Fin 8) : State := if s.scConfirms n then s.dwGo n .closedLocked else s

/-- The leaves are further than MANUAL_DIST from the target, with no motion planned and the drive ready. -/
def pushed (s : State) (n : Fin 8) : Bool :=
  let ax := doorAxis n
  s.ax[ax].start == .ready && !s.axBusy ax &&
    decide (s.get (DW.MANUAL_MANUAL_DIST n) < (s.getI (DW.DOOR_POS n) - s.getI (AX.TARGET ax)).natAbs)

/-- A leave of MANUAL once the leaves are still (R71). -/
def manualStill (s : State) (n : Fin 8) : State := (s.determine n).modDw n (fun e => { e with driveAsk := true })

def manualTick (s : State) (n : Fin 8) : State :=
  let s := if s.getI (AX.SPEED (doorAxis n)) ≠ 0 then s.modDw n (fun e => { e with stillFrom := e.tick }) else s
  let s := s.modDw n (fun e => { e with driveAsk := e.driveAsk || s.running? n })
  if s.past n s.dw[n].stillFrom (s.get (DW.MANUAL_MANUAL_STILL n)) then s.manualStill n else s

/-- A CLOSE_WAIT of the engine itself, to be taken by the same tick's arbitration (R77, R85). -/
def selfClose (s : State) (n : Fin 8) : State := s.offer n (offerOf .closeWait .internal)

def reopenDwellOver (s : State) (n : Fin 8) : State := (s.modDw n (fun e => { e with reclose := none })).selfClose n

def testDwellOver (s : State) (n : Fin 8) : State :=
  (((s.modDw n (fun e => { e with testFrom := none })).set (DW.SECT_SECTION n) 0).set (DW.SECT_STEP n) 0).selfClose n

/-- The dwells after a reopening and in a test cycle. -/
def dwells (s : State) (n : Fin 8) : State :=
  let s := match s.dw[n].reclose with
    | some t => if s.past n t (s.get (DW.REOPEN_REOPEN_DWELL n)) then s.reopenDwellOver n else s
    | none => s
  match s.dw[n].testFrom with
  | some t => if s.past n t (s.get (DW.TEST_DWELL_DWELL n)) then s.testDwellOver n else s
  | none => s

/-- The changes that follow from the state itself in a tick, its faults apart. -/
def stateTick (s : State) (n : Fin 8) : State :=
  match s.dwState n with
  | .unlocking => if !s.lockedIn n then s.unlocked n else s
  | .locking => s.locked n
  | .closedUnlocked =>
    if !s.released n || s.dcl then s.dwGo n .locking
    else if !s.closedIn n then s.dwGo n .manual else s
  | .opn => if s.pushed n then s.dwGo n .manual else s
  | .held => if s.pushed n then s.dwGo n .manual else s
  | .manual => s.manualTick n
  | .learning => if s.past n s.dw[n].learnFrom 120000 then s.learnTimeout n else s
  | _ => s



/-- The commanded speed of an obstacle stop has reached 0. -/
def restReached (s : State) (n : Fin 8) : State := if s.ax[doorAxis n].velQ = 0 then s.obstacleRest n else s

def completions (s : State) (n : Fin 8) : State :=
  let s := (s.judgeEnd (doorAxis n)).judgeEnd (stepAxis n)
  let s := (s.takeDets n).restReached n
  ((s.stepLatch n).stateTick n).dwells n

/-- The porch hold of a closing MOVE with WAITING = 0 (R71, R214). -/
def porchHold (s : State) (n : Fin 8) : State :=
  let ax := doorAxis n
  let e := s.ax[ax]
  if s.dwState n == .closing && e.moving && e.closing && !s.on (DW.STATE_WAITING n) &&
      (s.on (PZ.STAT_INTRUSION n) || s.verdict n == 4) then
    let w : Want := { target := s.getI (AX.TARGET ax), limit := e.limit, closing := true, free := false, reopen := false, home := none,
                      learn := false, resumed := true }
    let s := (s.stopProfile ax).setWant ax w
    let s := ((s.setB (DW.STATE_RESUME_PEND n) true).inc (DW.PORCH_HOLD_CNT n)).obstEvent n
    (s.modCyc n (fun c => { c with holds := c.holds + 1 })).dwGo n .held
  else s

/-- The porch has become unavailable under a closing MOVE: it goes on with WAITING = 1 (R12, R81). -/
def porchGone (s : State) (n : Fin 8) : State :=
  if s.dwState n == .closing && s.ax[doorAxis n].moving && s.ax[doorAxis n].closing && s.verdict n == 5 then
    s.setB (DW.STATE_WAITING n) true
  else s

/-! ### Step 6: starting motions (R14, R81, R83, R175) -/

/-- PORCH_WAIT_MAX of a waiting closure has run out. -/
def waitExpired (s : State) (n : Fin 8) : Bool :=
  match s.dw[n].closeWait with
  | some t => s.dw[n].waitOver || s.past n t (s.get (DW.PORCH_WAIT_MAX_WAIT n))
  | none => false

/-- The condition of R81 for a closing MOVE; a learn motion has none. -/
def porchAllows (s : State) (n : Fin 8) (w : Want) : Bool :=
  !w.closing || w.learn || s.verdict n == 1 || s.waitExpired n || (s.get (DW.DEGR n)).testBit 0

/-- What holds a motion back before it asks for admission: the drive, an obstacle stop, the pause of a retraction, the porch. -/
def mayStart (s : State) (ax : Fin 16) (w : Want) : Bool :=
  let n := doorwayOf ax
  s.ax[ax].start == .ready && !s.ax[ax].stopNow &&
    (if isStep ax then (match s.dw[n].stepRetry with
       | some t => s.past n t 1000
       | none => true)
     else !s.dw[n].obstStop && s.porchAllows n w)

def wantTarget (s : State) (ax : Fin 16) (w : Want) : Int :=
  if w.reopen then s.reopenTarget (doorwayOf ax) else
  match w.home with
  | some (dir1, travel) => s.axPos ax + (if dir1 then -(s.closeDir ax) else s.closeDir ax) * travel
  | none => w.target

def wantKind (w : Want) : MotionKind :=
  match w.home with
  | some (d, _) => .home d
  | none => if w.learn then .learn else .move

/-- The step's state with its motion (R75). -/
def stepStarts (s : State) (n : Fin 8) (w : Want) (target : Int) : State :=
  let ret := s.getI (DW.STEP_RET_POS n)
  let ax := stepAxis n
  let far := (s.axPos ax - ret).natAbs
  let st := s.stepState n
  let s := s.modDw n (fun e => { e with stepRetry := none, latchFrom := none,
                                        stepStalls := if st = .retracting then e.stepStalls else 0 })
  if w.learn then s
  else if w.home.isSome then s.setStep n .homing
  else if far < (target - ret).natAbs then s.setStep n .extending
  else if st = .retractedLocked ∨ (target - ret).natAbs = far then s else s.setStep n .retracting

/-- The closing MOVE starts (R71, R81). -/
def closeStarts (s : State) (n : Fin 8) (w : Want) : State :=
  let s := s.setB (DW.STATE_WAITING n) (s.waitExpired n || (s.get (DW.DEGR n)).testBit 0)
  let s := ((s.setB (DW.STATE_CLOSE_PEND n) false).setB (DW.STATE_RESUME_PEND n) false).set (DW.WAIT_LEFT_LEFT n) 0
  let s := if w.resumed then s else (s.set (DW.PEAK n) 0).modDw n (fun e => { e with dragSum := 0, dragN := 0 })
  let s := s.modCyc n (fun c => { c with
      waited := c.waited || s.on (DW.STATE_WAITING n),
      closeStart := if w.resumed then c.closeStart else some (s.tick n) })
  match s.dwState n with
  | .opn => s.dwGo n .closing
  | .held => s.dwGo n .closing
  | .manual => s.dwGo n .closing
  | _ => s

/-- A pressed edge in the first tick of a closing motion is a detection in that tick: the motion does not start (R165). -/
def edgeAtStart (s : State) (n : Fin 8) : State :=
  if s.edgeArmed n then ((s.edgeCauses n).1.foldl (fun (s : State) (c : Nat) => s.placeDet n c) s).takeDets n else s

/-- An admitted or free motion starts. -/
def goMotion (s : State) (ax : Fin 16) (w : Want) : State :=
  let n := doorwayOf ax
  let target := s.wantTarget ax w
  let s := s.startMotion ax target w.limit (wantKind w) w.closing
  if isStep ax then s.stepStarts n w target
  else
    let s := s.modDw n (fun e => { e with forceT := 0 })
    let s := if w.closing && !w.learn then s.closeStarts n w else s
    if w.closing then s.edgeAtStart n else s

/-- The request to the pantry, with the prediction of R321 shown in PRED. -/
def askAdmission (s : State) (ax : Fin 16) (w : Want) : State :=
  let p := s.predict ax (s.wantTarget ax w) w.limit (wantKind w) w.closing
  let f := if isStep ax then PBS.PRED_STEP (doorwayOf ax) else PBS.PRED_DOOR (doorwayOf ax)
  let s := (s.set f (min p 65535)).modAx ax (fun e => { e with adm := .asked })
  { s with pan := { s.pan with reqs := s.pan.reqs ++ [(⟨ax, s.pan.ms + 1, p, false⟩ : AdmReq)] } }

/-- Admission: the reservation replaces the axis's own, the start counts for STAGGER_T, MAX_DEFER keeps the longest deferral. -/
def admitReq (s : State) (r : AdmReq) : State :=
  let d := s.pan.ms - r.since
  let s := { s with pan := { s.pan with
      reqs := s.pan.reqs.filter (fun (x : AdmReq) => x.ax != r.ax)
      resv := s.pan.resv.filter (fun (x : Nat × Nat) => x.1 != r.ax) ++ [(r.ax, r.pred)]
      starts := s.pan.starts ++ [s.pan.ms] } }
  let s := s.set PBS.MAX_DEFER_T (max (s.get PBS.MAX_DEFER_T) (min d 65535))
  let s := s.modAx (fin16 r.ax) (fun e => { e with adm := .granted })
  s.modCyc (doorwayOf (fin16 r.ax)) (fun c => { c with deferMs := c.deferMs + d })

/-- The request is made, where it has not been, and admitted at once (R327). -/
def admitAtOnce (s : State) (ax : Fin 16) (w : Want) : State :=
  let s := if s.ax[ax].adm == .none then s.askAdmission ax w else s
  match s.pan.reqs.find? (fun r => r.ax == ax.val) with
  | some r => s.admitReq r
  | none => s

/-- The motion that waits for its start, at this tick. P0 motions bypass the pantry (R317); while PBS is disabled every request is admitted
at once (R327). -/
def startWant (s : State) (ax : Fin 16) : State :=
  match s.ax[ax].want with
  | none => s
  | some w =>
    if !s.mayStart ax w then s
    else if w.free then s.goMotion ax w
    else if !s.pageOn 0x06 then (s.admitAtOnce ax w).goMotion ax w
    else match s.ax[ax].adm with
      | .none => s.askAdmission ax w
      | .asked => s
      | .granted => s.goMotion ax w

/-- WAIT_LEFT (R82): the remaining ms of a waiting closure, 0xFFFF of a plain CLOSE. -/
def showWait (s : State) (n : Fin 8) : State :=
  let waits := (s.on (DW.STATE_CLOSE_PEND n) || s.on (DW.STATE_RESUME_PEND n)) && (match s.ax[doorAxis n].want with
    | some w => w.closing
    | none => false)
  let s := if waits then s.modCyc n (fun c => { c with waitTicks := c.waitTicks + 1 }) else s
  match s.dw[n].closeWait with
  | some t =>
    if s.on (DW.STATE_CLOSE_PEND n) || s.on (DW.STATE_RESUME_PEND n) then
      s.set (DW.WAIT_LEFT_LEFT n) (s.get (DW.PORCH_WAIT_MAX_WAIT n) - (s.tick n - t) / 5)
    else s.set (DW.WAIT_LEFT_LEFT n) 0
  | none => s.set (DW.WAIT_LEFT_LEFT n) (if waits then 65535 else 0)

/-! ### What a tick gathers (R180, R183, R365) -/

def constSpeed (before after : Int) : Bool := before == after && after != 0

/-- Samples of a learn run. -/
def learnSample (s : State) (ax : Fin 16) (v0 : Int) : State :=
  let n := doorwayOf ax
  let e := s.ax[ax]
  if !(e.moving && e.kind == .learn) || s.on (AX.STAT_SETTLING ax) then s else
    let k := s.learnIdx n (isStep ax)
    let hi := decide (2 * s.get (DW.LEARN_LIM_PASSES n) ≤ k)
    let b := s.binOf ax (s.getI (AX.POS ax))
    let f := s.driveForce ax
    if constSpeed v0 e.velQ then
      s.modDw n (fun d => { d with learnSum := addSum d.learnSum (passKey (isStep ax) e.closing (k / 2) b) f })
    else if hi && v0 != e.velQ && s.accelOf ax != 0 then
      let r : RampSample := { step := isStep ax, force := f, v := s.getI (AX.SPEED ax), a := s.accelOf ax, sign := s.signOf ax, bin := b }
      s.modDw n (fun d => { d with ramps := d.ramps ++ [r] })
    else s

/-- Residuals for the adaptation of R183: every tick of the cycle at constant commanded speed, a HOME's and a learn run's too. -/
def residSample (s : State) (ax : Fin 16) (v0 : Int) : State :=
  let n := doorwayOf ax
  let e := s.ax[ax]
  if s.dw[n].inCycle && e.moving && constSpeed v0 e.velQ && !s.on (AX.STAT_SETTLING ax) && s.mEq ax != 0 then
    let closing := decide (0 < e.velQ * s.closeDir ax)
    let b := s.binOf ax (s.getI (AX.POS ax))
    s.modDw n (fun d => { d with resid := addSum d.resid (residKey ax closing b) (s.fEst ax) })
  else s

/-- The cycle's record follows the highest current and the lowest cap of its closing. -/
def cycleSample (s : State) (n : Fin 8) : State :=
  let iq := (s.getI (AX.IQ (doorAxis n))).natAbs
  let cap := s.get (DW.V_CAP_CAP n)
  let cl := s.dwState n == .closing && s.ax[doorAxis n].moving
  s.modCyc n (fun c => { c with
      iPeak := max c.iPeak iq, vCapMin := if cl then min c.vCapMin cap else c.vCapMin,
      degraded := c.degraded || s.on (DW.STATE_DEGRADED n), expired := c.expired || s.on (DW.STATE_HOST_BLOCK n) })

/-- Trajectory, loops and checks of one axis, with the samples that the tick gives. -/
def moveAxis (s : State) (ax : Fin 16) : State :=
  let v0 := s.ax[ax].velQ
  let s := (s.axisTick ax).directionCheck ax
  (s.learnSample ax v0).residSample ax v0

/-- The engine's wishes for the drive in states that let go at standstill (R69). -/
def driveTick (s : State) (n : Fin 8) : State :=
  let st := s.dwState n
  if st = .isolated ∨ st = .egress then s.modDw n (fun e => { e with driveAsk := e.driveAsk && s.wantsDrive n st }) else s

def showSwept (s : State) (n : Fin 8) : State :=
  let s := (s.setI (PZ.SV_POS n) (s.getI (DW.DOOR_POS n))).set (PZ.SV_LEN n) (s.svLen n)
  s.setSvActive n (s.svWanted n && s.on (PZ.STAT_RUNNING n))

/-- What a unit that is not ACTIVE shows of the leaf at every tick (R215, R349): its position from the unit's own port, and the swept
volume. -/
def trackSwept (s : State) (n : Fin 8) : State :=
  let s := (s.sampleAxis (doorAxis n)).sampleAxis (stepAxis n)
  let s := (s.setI (DW.DOOR_POS n) (s.getI (AX.POS (doorAxis n)))).setI (DW.STEP_POS n) (s.getI (AX.POS (stepAxis n)))
  s.showSwept n

def trajectories (s : State) (n : Fin 8) : State :=
  let s := (s.startWant (doorAxis n)).startWant (stepAxis n)
  let s := ((s.driveTick n).moveAxis (doorAxis n)).moveAxis (stepAxis n)
  ((s.showWait n).cycleSample n).showSwept n

/-! ### The tick -/

/-- R67. A unit that is not ACTIVE tracks the mirror and takes no command (R349). While the page is disabled commands are rejected, and
of the engine's own work only step 2 and the obstacle reactions go on: R89 names "a safety reaction, isolation or egress", and which
reactions are safety reactions the model decides so (DESIGN CHOICE, log entry 107). -/
def doorTick (s : State) (n : Fin 8) : State :=
  if !s.active || s.par.overlap then
    (((s.modDw n (fun e => { e with tick := e.tick + 1 })).snapTick n).arbitrate n).trackSwept n
  else
    let s := (s.sampleDoor n).snapTick n
    let s := s.evalLayers n
    let s := s.reactions n
    if !s.pageOn (pgDW n) then ((s.takeDets n).arbitrate n).trajectories n else
      let s := if (s.dw[n].dets).isEmpty then s.porchHold n else s
      let s := (s.porchGone n).completions n
      let s := s.arbitrate n
      (runSteps 16 s n).trajectories n

/-! ### Watchdog expiry (R94) -/

/-- The host commands not yet taken are dropped and reported with reason 4. -/
def dropHostOffers (s : State) (n : Fin 8) : State :=
  let host := s.dw[n].offers.filter (fun o => o.src == .host)
  let s := s.modDw n (fun e => { e with offers := e.offers.filter (fun o => o.src != .host) })
  host.foldl (fun (s : State) (o : Offer) => s.answer n o 4) s

/-- A stop at the present position that keeps a pending re-close; a reopening that is stopped has one to come (R85, R94). What a
stopped test dwell, and a CLOSE that waits for the end of REOPENING, become in HELD the spec does not say: a re-close timed by
REOPEN_DWELL (DESIGN CHOICE, log entry 108). -/
def stopKeep (s : State) (n : Fin 8) : State :=
  let e := s.dw[n]
  let due := s.dwState n == .reopening && (decide (e.reopenings < s.get (DW.REOPEN_REOPEN_MAX n)))
  let test := e.inCycle && e.cyc.test
  let s := s.haltDoor n
  let s := s.modDw n (fun x => { x with
      reclose := if due || e.closeAfter || (test && e.testFrom.isSome) then some x.tick else e.reclose, closeAfter := false })
  s.dwGo n .held

def hostLost (s : State) (n : Fin 8) : State :=
  let s := (s.setB (DW.STATE_HOST_BLOCK n) true).dropHostOffers n
  match s.dwState n with
  | .unlocking => s.dwGo n .locking
  | .opening => s.stopKeep n
  | .reopening => s.stopKeep n
  | .opn => if (s.dw[n].testFrom).isSome then s.stopKeep n else s
  | .learning => (s.haltDoor n).learnAbort n
  | _ => s

end State

/-! ### Meanings: the tick and the commands (R67, R77 to R82) -/

/-- R67. -/
def execDoorwayTick (n : Fin 8) (s : State) : Host.Outcome State Fault Refusal := .next (s.whenRunning fun s => s.doorTick n)

/-- A command: judged by the engine in SERVICE; in WATCH it wakes the controller and waits in the mailbox (R329). -/
def State.request (s : State) (n : Fin 8) (o : Offer) : State :=
  if s.running then s.command n o
  else s.whenAwake (match o.src with
    | .host => 64
    | .dcl => 8
    | .sideRel => 4
    | _ => 0) (fun s => s.offer n o)

/-- R71, R78. -/
def execOpenCmd (n : Fin 8) (src : CmdSrc) (s : State) : Host.Outcome State Fault Refusal :=
  .next (s.request n (State.offerOf .opn src))
/-- R71, R78. -/
def execCloseCmd (n : Fin 8) (src : CmdSrc) (s : State) : Host.Outcome State Fault Refusal :=
  .next (s.request n (State.offerOf .close src))
/-- R78, R81. -/
def execCloseWait (n : Fin 8) (src : CmdSrc) (s : State) : Host.Outcome State Fault Refusal :=
  .next (s.request n (State.offerOf .closeWait src))
/-- R71, R78. -/
def execStopCmd (n : Fin 8) (src : CmdSrc) (s : State) : Host.Outcome State Fault Refusal :=
  .next (s.request n (State.offerOf .stop src))
/-- R78. -/
def execIsolate (n : Fin 8) (src : CmdSrc) (s : State) : Host.Outcome State Fault Refusal :=
  .next (s.request n (State.offerOf .isolate src))
/-- R71, R78. -/
def execRestore (n : Fin 8) (src : CmdSrc) (s : State) : Host.Outcome State Fault Refusal :=
  .next (s.request n (State.offerOf .restore src))
/-- R78, R110. -/
def execHome (n : Fin 8) (axsel : Fin 3) (src : CmdSrc) (s : State) : Host.Outcome State Fault Refusal :=
  .next (s.request n { State.offerOf .home src with axsel := axsel.val })
/-- R78, R179. -/
def execLearn (n : Fin 8) (axsel : Fin 3) (src : CmdSrc) (s : State) : Host.Outcome State Fault Refusal :=
  .next (s.request n { State.offerOf .learn src with axsel := axsel.val })
/-- R78. -/
def execTestCycle (n : Fin 8) (src : CmdSrc) (s : State) : Host.Outcome State Fault Refusal :=
  .next (s.request n (State.offerOf .testCycle src))

namespace State

/-- DCL has risen: CLOSE_WAIT for every doorway in the states of R79. -/
def dclRose (s : State) : State :=
  (List.range 8).foldl (fun (s : State) (n : Nat) =>
    let n := fin8 n
    let st := s.dwState n
    if st == .opn || st == .held || st == .manual || st == .opening || st == .unlocking || st == .closedUnlocked then
      s.offer n (State.offerOf .closeWait .dcl)
    else s) (s.setB TIL.STAT_DCL true)

def relFld (side : Side) : Fld :=
  match side with
  | .left => TIL.STAT_REL_L
  | .right => TIL.STAT_REL_R

def sideNo (side : Side) : Nat :=
  match side with
  | .left => 0
  | .right => 1

/-- The doorways of a side, by SC's copy (R228). -/
def eachOf (s : State) (side : Side) (f : State → Fin 8 → State) : State :=
  (List.range 8).foldl (fun (s : State) (n : Nat) => if s.scGet (DW.CFG_SIDE n) == sideNo side then f s (fin8 n) else s) s

/-- The release of a side begins: OPEN for every doorway of it that has AUTO_OPEN, or HOST_BLOCK (R80). -/
def releaseRose (s : State) (side : Side) : State :=
  (s.setB (relFld side) true).eachOf side (fun s n =>
    let s := s.setB (DW.STATE_SIDE_REL n) true
    if s.on (DW.CFG_AUTO_OPEN n) || s.on (DW.STATE_HOST_BLOCK n) then s.offer n (State.offerOf .opn .sideRel) else s)

/-- The release of a side is withdrawn; CLOSED_UNLOCKED doorways go to LOCKING (R80). -/
def releaseFell (s : State) (side : Side) : State :=
  (s.setB (relFld side) false).eachOf side (fun s n =>
    let s := s.setB (DW.STATE_SIDE_REL n) false
    if s.dwState n == .closedUnlocked && s.active && !s.par.overlap && s.pageOn (pgDW n) then s.dwGo n .locking else s)

end State

/-- R79. -/
def execDclRise (s : State) : Host.Outcome State Fault Refusal := .next (s.whenAwake 8 fun s => s.dclRose)

/-- R80. -/
def execSideReleaseRise (side : Side) (s : State) : Host.Outcome State Fault Refusal := .next (s.whenAwake 4 fun s => s.releaseRose side)

/-- R80; a change of the train lines wakes the controller from WATCH (R329). -/
def execSideReleaseWithdrawn (side : Side) (s : State) : Host.Outcome State Fault Refusal :=
  .next (s.whenAwake 0 fun s => s.releaseFell side)

/-- R77: the local open buttons, while BTN_EN = 1. -/
def execOpenButtonPress (n : Fin 8) (s : State) : Host.Outcome State Fault Refusal :=
  .next (s.whenAwake 0 fun s => if s.on (DW.CFG_BTN_EN n) then s.offer n (State.offerOf .opn .button) else s)

/-! ### Meanings: reactions and completions (R69 to R75) -/

/-- R69. -/
def execIsolationActive (n : Fin 8) (s : State) : Host.Outcome State Fault Refusal :=
  .next (s.whenEngine fun s => s.enterIsolated n)
/-- R69. -/
def execEgressActive (n : Fin 8) (s : State) : Host.Outcome State Fault Refusal :=
  .next (s.whenEngine fun s => s.enterEgress n)
/-- R71: in UNLOCKING. -/
def execUnlockConfirmed (n : Fin 8) (s : State) : Host.Outcome State Fault Refusal :=
  .next (s.whenDoor n fun s => if s.dwState n == .unlocking then s.unlocked n else s)
/-- R71: fault cause 1. -/
def execTUnlockExpired (n : Fin 8) (s : State) : Host.Outcome State Fault Refusal :=
  .next (s.whenEngine fun s => if s.dwState n == .unlocking then s.unlockTimeout n else s)
/-- R71: in LOCKING, with SC's confirmation. -/
def execLockConfirmed (n : Fin 8) (s : State) : Host.Outcome State Fault Refusal :=
  .next (s.whenDoor n fun s => if s.dwState n == .locking then s.dwGo n .closedLocked else s)
/-- R71: fault cause 2. -/
def execTLockExpired (n : Fin 8) (s : State) : Host.Outcome State Fault Refusal :=
  .next (s.whenEngine fun s => if s.dwState n == .locking then s.lockTimeout n else s)
/-- R71: LOCKED lost (cause 3) or the leaves moved (cause 4) in CLOSED_LOCKED. -/
def execLockedLost (n : Fin 8) (moved : Bool) (s : State) : Host.Outcome State Fault Refusal :=
  .next (s.whenEngine fun s => if s.dwState n == .closedLocked then s.dwFaultHere n (if moved then 4 else 3) else s)
/-- R71: in OPEN and HELD. -/
def execLeavesPushed (n : Fin 8) (s : State) : Host.Outcome State Fault Refusal :=
  .next (s.whenDoor n fun s => if s.dwState n == .opn || s.dwState n == .held then s.dwGo n .manual else s)
/-- R71: CLOSED lost in CLOSED_UNLOCKED. -/
def execClosedLost (n : Fin 8) (s : State) : Host.Outcome State Fault Refusal :=
  .next (s.whenDoor n fun s => if s.dwState n == .closedUnlocked then s.dwGo n .manual else s)
/-- R70, R71: the leaves have been still for MANUAL_STILL. -/
def execManualStillExpired (n : Fin 8) (s : State) : Host.Outcome State Fault Refusal :=
  .next (s.whenDoor n fun s => if s.dwState n == .manual then s.manualStill n else s)
/-- R71, R110: fault cause 5. -/
def execHomingNoStall (ax : Fin 16) (s : State) : Host.Outcome State Fault Refusal :=
  .next (s.whenEngine fun s => s.homingNoStall ax)
/-- R75: 1 s after a stall the retraction is tried again. -/
def execStepRetractRetry (n : Fin 8) (s : State) : Host.Outcome State Fault Refusal :=
  .next (s.whenEngine fun s =>
    if s.stepState n == .retracting && (s.dw[n].stepRetry).isSome then (s.modDw n (fun e => { e with stepRetry := none })).startWant (stepAxis n)
    else s)
/-- R75: T_LOCK has elapsed at the end of a retraction. -/
def execStepLatchTimeout (n : Fin 8) (s : State) : Host.Outcome State Fault Refusal :=
  .next (s.whenEngine fun s =>
    if (s.dw[n].latchFrom).isSome then (s.modDw n (fun e => { e with latchFrom := none })).dwFaultHere n 8 else s)

/-- R105: the end of a motion, which the doorway's engine then judges (R75, R177). -/
def execMotionEnd (ax : Fin 16) (s : State) : Host.Outcome State Fault Refusal :=
  .next (s.whenEngine fun s => ((s.motionEnd ax).judgeEnd ax).takeDets (doorwayOf ax))
/-- R105. -/
def execInposFail (ax : Fin 16) (s : State) : Host.Outcome State Fault Refusal :=
  .next (s.whenEngine fun s => ((s.inposFail ax).judgeEnd ax).takeDets (doorwayOf ax))
/-- R108 to R110. -/
def execStall (ax : Fin 16) (s : State) : Host.Outcome State Fault Refusal :=
  .next (s.whenEngine fun s => ((s.stall ax).judgeEnd ax).takeDets (doorwayOf ax))

/-! ### Meanings: dwells and waits (R78, R81, R85) -/

/-- R85. -/
def execReopenDwellExpired (n : Fin 8) (s : State) : Host.Outcome State Fault Refusal :=
  .next (s.whenDoor n fun s => if (s.dw[n].reclose).isSome then s.reopenDwellOver n else s)
/-- R78. -/
def execTestDwellExpired (n : Fin 8) (s : State) : Host.Outcome State Fault Refusal :=
  .next (s.whenDoor n fun s => if (s.dw[n].testFrom).isSome then s.testDwellOver n else s)
/-- R81: the waiting closure may start, with WAITING = 1. -/
def execPorchWaitExpired (n : Fin 8) (s : State) : Host.Outcome State Fault Refusal :=
  .next (s.whenDoor n fun s =>
    if (s.dw[n].closeWait).isSome then (s.modDw n (fun e => { e with waitOver := true })).startWant (doorAxis n) else s)

/-! ### Meanings: force and effort (R160 to R186) -/

/-- R172: F_EST above the limit for T_FORCE, in the closing direction (cause 4) or opening (cause 9). -/
def execForceLimitExceeded (n : Fin 8) (s : State) : Host.Outcome State Fault Refusal :=
  .next (s.whenEngine fun s =>
    if s.closingRuns n then s.obstacle n 4 else if s.openingRuns n then s.obstacle n 9 else s)

namespace State

/-- A failed check of the model (R171): DEGR.EFFORT, the door model no longer valid, a FAULT record. -/
def modelFault (s : State) (n : Fin 8) (check axis : Nat) : State :=
  let s := s.modDw n (fun e => { e with modelFail := true })
  let s := ((s.setB (DW.EFF_STAT_D_VALID n) false).setDegr n 4 true)
  s.logFault (pgDW n) check (locBlock 0 4 axis) 2 0 (s.get (DW.FAULT_CAUSE n)) (some n.val)

/-- Checks 1 and 2 of one axis. -/
def crossCheck (s : State) (ax : Fin 16) : State :=
  let n := doorwayOf ax
  if s.mEq ax = 0 then s
  else if (s.baseCrc ax).toNat ≠ s.get (crcF ax) then s.modelFault n 1 (isStep ax).toNat
  else if !s.driftInBounds ax then s.modelFault n 2 (isStep ax).toNat
  else s

end State

/-- R171, checks 1 and 2, every 1 s; an axis without a baseline has nothing to check. -/
def execModelCrossCheck (n : Fin 8) (s : State) : Host.Outcome State Fault Refusal :=
  .next (s.whenRunning fun s => (s.crossCheck (doorAxis n)).crossCheck (stepAxis n))

/-- R171, check 3, failed in every tick for 20 ms. -/
def execForceCheckDivergence (n : Fin 8) (s : State) : Host.Outcome State Fault Refusal :=
  .next (s.whenRunning fun s => s.modelFault n 3 0)

/-- R175, R176. -/
def execObstacleStopRest (n : Fin 8) (s : State) : Host.Outcome State Fault Refusal :=
  .next (s.whenEngine fun s => s.obstacleRest n)

/-- R180 to R182: the learn motions are complete. -/
def execLearnRunEnd (n : Fin 8) (s : State) : Host.Outcome State Fault Refusal :=
  .next (s.whenDoor n fun s => if s.dwState n == .learning then s.learnFinish n else s)

/-- R181, code 3. -/
def execLearnTimeout (n : Fin 8) (s : State) : Host.Outcome State Fault Refusal :=
  .next (s.whenDoor n fun s => if s.dwState n == .learning then s.learnTimeout n else s)

/-- R186. -/
def execEffSnap (n : Fin 8) (s : State) : Host.Outcome State Fault Refusal :=
  .next (s.whenRunning fun s => s.askSnap n)

/-- R184: only in CLOSED_LOCKED; otherwise CFG_REJ. -/
def execResetAdapt (n : Fin 8) (s : State) : Host.Outcome State Fault Refusal :=
  .next (s.whenRunning fun s =>
    if s.dwState n == .closedLocked then ((s.resetAdapt (doorAxis n)).resetAdapt (stepAxis n)).judgeModel n
    else s.reject (pgDW n) 0x148)

end Sys2Proof.Machine
end

