-- ==== Sys2Proof/Machine/SafetyCore.lean ====
section
/-! DEFINITION. The safety core (R228 to R271, R464): SF1 to SF7, the tick of SC, test pulses, discrete inputs, self-tests, degraded
mode and the safety fault reaction, and the meanings of the commands of "Safety Functions and the Traction Interlock". -/

namespace Sys2Proof.Machine

namespace State

/-! ### SC's own copy of the configuration (R228, R464) -/

/-- An input that is safety-marked in the committed configuration. -/
def scDiSafe (s : State) (di : Nat) : Bool := (s.scGet (DIN.SAFE (di / 32))).testBit (di % 32)

/-- The sign of the closing direction of an axis (R110), by the committed end positions. -/
def scCloseDir (s : State) (ax : Fin 16) : Int :=
  let n := doorwayOf ax
  let far := if isStep ax then s.scGetI (DW.STEP_EXT_POS n) else s.scGetI (DW.DOOR_OPEN_POS n)
  let near := if isStep ax then s.scGetI (DW.STEP_RET_POS n) else s.scGetI (DW.DOOR_CLOSED_POS n)
  if far < near then 1 else -1

/-- The release of a doorway's side is granted. -/
def scReleased (s : State) (n : Nat) : Bool := s.on (if s.scOn (DW.CFG_SIDE n) then TIL.STAT_REL_R else TIL.STAT_REL_L)

/-- At least `ms` milliseconds of SC's ticks since a tick. -/
def scPast (s : State) (t ms : Nat) : Bool := decide (t + 5 * ms ≤ s.sc.tick)

/-- Since when a condition holds. -/
def sinceWhen (s : State) (old : Option Nat) (b : Bool) : Option Nat := if b then some (old.getD s.sc.tick) else none

/-- A condition that has held since `t` for `ms`. -/
def lasted (s : State) (t : Option Nat) (ms : Nat) : Bool := (t.map (fun t => s.scPast t ms)).getD false

/-! ### Degraded mode (R259, R260) -/

def showDegr (s : State) : State :=
  let sum := (List.range 8).foldl (fun (m : Nat) n =>
    m + (if s.get (SAF.DEGR_CAUSE n) ≠ 0 then 2 ^ n else 0) + (if s.on (SAF.DEGR_EXPIRED n) then 2 ^ (8 + n) else 0)) 0
  (s.set SAF.DEGR_SUM sum).setB SAF.STAT_DEGR_ANY (decide (sum % 256 ≠ 0))

/-- A cause arises. The first one is an entry: LEFT starts at DEGR_TMAX, or resumes within 60 s; DEGR_CNT, EVT bit 2, EVENT 5. A count
that resumes at 0 has expired. -/
def degrOn (s : State) (n : Fin 8) (bit : Nat) : State :=
  let c := s.get (SAF.DEGR_CAUSE n)
  if c.testBit bit then s else
    let s := s.set (SAF.DEGR_CAUSE n) (c ||| 2 ^ bit)
    let s := if c ≠ 0 then s else
      let s := if (s.sc.dw[n].degrHold).isSome then s else
        (s.set (SAF.DEGR_LEFT n) (s.scGet SAF.CFG_DEGR_TMAX)).modScD n (fun d => { d with degrT := 0 })
      let s := ((s.modScD n (fun d => { d with degrHold := none })).inc SAF.DEGR_CNT).raise 0x08 2
      let s := if s.get (SAF.DEGR_LEFT n) = 0 then s.setB (SAF.DEGR_EXPIRED n) true else s
      s.event 5 7 n (s.get (SAF.DEGR_CAUSE n)) (s.get (SAF.DEGR_LEFT n)) 0 n
    s.showDegr

/-- A cause ends; with the last one EXPIRED clears and LEFT holds its value. -/
def degrOff (s : State) (n : Fin 8) (bit : Nat) : State :=
  let c := s.get (SAF.DEGR_CAUSE n)
  if !c.testBit bit then s else
    let s := s.set (SAF.DEGR_CAUSE n) (c - 2 ^ bit)
    let s := if c - 2 ^ bit ≠ 0 then s else
      (s.setB (SAF.DEGR_EXPIRED n) false).modScD n (fun d => { d with degrHold := some s.sc.tick })
    s.showDegr

/-- LEFT has reached 0. -/
def degrExpire (s : State) (n : Fin 8) : State :=
  if s.get (SAF.DEGR_CAUSE n) = 0 then s else ((s.set (SAF.DEGR_LEFT n) 0).setB (SAF.DEGR_EXPIRED n) true).showDegr

/-- 60 s without a recurrence. -/
def degrFresh (s : State) (n : Fin 8) : State :=
  if (s.sc.dw[n].degrHold).isSome then
    (s.set (SAF.DEGR_LEFT n) (s.scGet SAF.CFG_DEGR_TMAX)).modScD n (fun d => { d with degrHold := none, degrT := 0 })
  else s

def degrTick (s : State) (n : Fin 8) : State :=
  if s.get (SAF.DEGR_CAUSE n) ≠ 0 then
    if s.sc.dw[n].degrT + 1 < 5000 then s.modScD n (fun d => { d with degrT := d.degrT + 1 })
    else
      let s := (s.set (SAF.DEGR_LEFT n) (s.get (SAF.DEGR_LEFT n) - 1)).modScD n (fun d => { d with degrT := 0 })
      if s.get (SAF.DEGR_LEFT n) = 0 then s.degrExpire n else s
  else if s.lasted s.sc.dw[n].degrHold 60000 then s.degrFresh n
  else s

/-! ### Gate enables (R15, R241) -/

/-- SC takes the gate enables of a doorway away, and doorway fault cause 6 follows (R15, R239, R240, R244). -/
def removeGates (s : State) (n : Fin 8) : State :=
  ((s.setGateEn (doorAxis n) false).setGateEn (stepAxis n) false).dwFaultHere n 6

/-- What SC gives an axis: the engine's wish, in RUN, on an ACTIVE unit, unless EGRESS or a fault of the doorway stands against it. -/
def gateWish (s : State) (ax : Fin 16) : Bool :=
  let n := doorwayOf ax
  s.scRun && s.active && !s.par.overlap && s.pageOn (pgAX ax) && s.get (AX.CFG_MOTOR ax) != 2 && s.dw[n].driveAsk && !s.sc.dw[n].egrStop &&
    !([17, 18, 19, 21].any (fun c => s.safActive n c))

/-- A gate enable that is given starts the sequence of R127. -/
def driveGate (s : State) (ax : Fin 16) : State :=
  let b := s.gateWish ax
  let s := s.setGateEn ax b
  if b && s.ax[ax].start == .off && s.get (AX.FAULT_CAUSE ax) == 0 then s.modAx ax (fun e => { e with start := .measuring }) else s

/-! ### TIL faults (R270) -/

/-- The die, block and macro of a TIL fault: `second` names SB or EB. -/
def tilLoc (cause : Nat) (second : Bool) : Word :=
  match cause with
  | 1 => locCode 4 8 1 31 1023 0
  | 2 => locCode 3 8 0 second.toNat 1023 0
  | 3 => locCode 3 8 2 second.toNat 1023 0
  | 4 => locCode 3 8 2 31 1023 0
  | 5 => locCode 4 8 3 31 1023 0
  | _ => locCode 3 8 0 31 1023 0

/-- A TIL fault that newly arises; causes 5 and 6 end with the switching off that they cause (log entry 41). -/
def tilFault (s : State) (cause : Nat) (second : Bool) : State :=
  if s.sc.tilAct.contains cause then s else
    let active := cause != 5 && cause != 6
    let s := if active then s.modSc (fun c => { c with tilAct := cause :: c.tilAct }) else s
    let s := (s.set TIL.FAULT (cause + 256 * active.toNat)).set TIL.FAULT_LOC (tilLoc cause second).toNat
    (s.raise 0x08 1).logFault 0x09 cause (tilLoc cause second) 2 0 (s.get TIL.FAULT) none

def tilEnd (s : State) (cause : Nat) : State :=
  let s := s.modSc (fun c => { c with tilAct := c.tilAct.filter (· != cause) })
  if s.get TIL.FAULT_CAUSE = cause then s.setB TIL.FAULT_ACTIVE false else s

def tilJudge (s : State) (cause : Nat) (b : Bool) : State :=
  if b then s.tilFault cause false else if s.sc.tilAct.contains cause then s.tilEnd cause else s

/-! ### SF1: TRAC_REL (R232 to R235) -/

def tracRel (s : State) : Bool := s.on TIL.STAT_TRAC_REL
def granted (s : State) : Bool := s.on TIL.STAT_REL_L || s.on TIL.STAT_REL_R
def headMode (s : State) : Bool := s.scGet TIL.CFG_LOOP_MODE == 1

/-- The missing conditions of R232, as bits 0 to 6 of BLOCK. -/
def tracMissing (s : State) : Nat :=
  (!s.scRun).toNat + 2 * (!s.active).toNat + 4 * (!s.tilOn).toNat + 8 * (!s.on TIL.STAT_CAR_PROVEN).toNat +
  16 * s.granted.toNat + 32 * (!s.sc.tilAct.isEmpty).toNat +
  64 * (s.headMode && s.scOn TIL.CFG_TRAC_LOOP && !s.on TIL.STAT_TRAIN_LOOP).toNat

/-- A change of TRAC_REL: EVT bit 0, EVENT 1, and the count of removals; a running pulse is discarded (R235, R252). -/
def setTrac (s : State) (b : Bool) : State :=
  if s.tracRel == b then s else
    let s := (s.setB TIL.STAT_TRAC_REL b).markPulse .tracRel
    let s := if b then s else s.inc TIL.TRAC_DROP_CNT
    (s.raise 0x09 0).event 1 8 0 b.toNat (s.get TIL.BLOCK) (s.get TIL.PROVEN) 8

/-- S0, which carries TRAC_REL and the loop element, and S1, which carries LOOP_SRC, have a heartbeat (R19, R20). -/
def s0Alive (s : State) : Bool := s.die[(0 : Fin 4)].alive
def s1Alive (s : State) : Bool := s.die[(1 : Fin 4)].alive

/-- SF1 at a tick. A unit that is not ACTIVE counts TRAC_SETTLE on every other condition (R355). Without a heartbeat S0 has dropped
TRAC_REL (R20); BLOCK has no bit for it and shows settling (DESIGN CHOICE, log entry 117). -/
def tracTick (s : State) : State :=
  let m := s.tracMissing
  let s := s.modSc (fun c => { c with settle := s.sinceWhen c.settle (s.s0Alive && (m == 0 || m == 2)) })
  if m ≠ 0 then (s.set TIL.BLOCK_WHY m).setTrac false
  else if !s.s0Alive then (s.set TIL.BLOCK_WHY 128).setTrac false
  else if s.lasted s.sc.settle (s.scGet TIL.TIMING_TRAC_SETTLE) then (s.set TIL.BLOCK_WHY 0).setTrac true
  else s.set TIL.BLOCK_WHY 128

/-- TRAC_FB shows the relay energised (R234). -/
def relayOn (s : State) : Bool := s.on TIL.STAT_TRAC_FB != s.scOn TIL.CFG_FB_POL

/-- TRAC_FB against TRAC_REL, of a unit that drives the relay: on a unit that is not ACTIVE the relay is the partner's (R355). -/
def feedbackTick (s : State) : State :=
  let bad := s.scOn TIL.CFG_FB_EN && s.active && s.relayOn != s.tracRel
  let s := s.modSc (fun c => { c with fbFrom := s.sinceWhen c.fbFrom bad })
  if s.lasted s.sc.fbFrom (s.scGet TIL.TRAC_FB_T_T) then s.tilFault 1 false
  else if !bad && s.sc.tilAct.contains 1 then s.tilEnd 1
  else s

/-! ### SF2: zero speed and the releases (R236 to R238) -/

def zeroSpeed (s : State) : Bool := s.on TIL.STAT_ZERO_SPEED

/-- *Input thresholds* in 0.1 V: active above the first, inactive below the second, in between as before (R254). -/
def pinLevel (thr v : Nat) (old : Bool) : Bool :=
  let (hi, lo) : Nat × Nat := match thr with
    | 0 => (150, 90)
    | 1 => (430, 260)
    | _ => (660, 400)
  if hi < v then true else if v < lo then false else old

def lineIx : TrainLine → Fin 7
  | .zspA => 0
  | .zspB => 1
  | .drelL => 2
  | .drelR => 3
  | .dcl => 4
  | .tracFb => 5
  | .loopIn => 6

/-- The filtered level of a train line; LOOP_IN has none, R247 judges its level. -/
def lineFld : TrainLine → Option Fld
  | .zspA => some TIL.STAT_ZSP_A
  | .zspB => some TIL.STAT_ZSP_B
  | .drelL => some TIL.STAT_DREL_L
  | .drelR => some TIL.STAT_DREL_R
  | .dcl => some TIL.STAT_DCL
  | .tracFb => some TIL.STAT_TRAC_FB
  | .loopIn => none

def modLine (s : State) (l : TrainLine) (g : LineIn → LineIn) : State :=
  s.modSc (fun c => { c with line := c.line.set (lineIx l) (g c.line[lineIx l]) })

/-- A new filtered level; the rise of DCL is R79's. -/
def passLine (s : State) (f : Fld) (b : Bool) : State :=
  if f == TIL.STAT_DCL && b then s.dclRose else s.setB f b

/-- One sample of a train line: the comparator by TL_THR, and the filter of TL_FILT in samples of 50 µs, counted from the first sample that
showed the level (R236, R254, log entry 136). -/
def sampleLine (s : State) (l : TrainLine) : State :=
  let e := s.sc.line[lineIx l]
  let raw := (e.volt.map (fun v => pinLevel (s.scGet TIL.CFG_TL_THR) v e.raw)).getD e.raw
  match lineFld l with
  | none => s.modLine l (fun e => { e with raw := raw })
  | some f =>
    if raw == s.on f then s.modLine l (fun e => { e with raw := raw, cnt := 0 })
    else if 2 * s.scGet TIL.CFG_TL_FILT ≤ e.cnt then (s.modLine l (fun e => { e with raw := raw, cnt := 0 })).passLine f raw
    else s.modLine l (fun e => { e with raw := raw, cnt := e.cnt + 1 })

/-- A sample of all train lines: the voltages that have changed, then every comparator and filter. -/
def sampleVolts (s : State) (vs : List (TrainLine × Nat)) : State :=
  let s := vs.foldl (fun (s : State) (p : TrainLine × Nat) => s.modLine p.1 (fun e => { e with volt := some p.2 })) s
  ([.zspA, .zspB, .drelL, .drelR, .dcl, .tracFb, .loopIn] : List TrainLine).foldl
    (fun (s : State) (l : TrainLine) => s.sampleLine l) s

/-- The train-line samples of a tick (R228). -/
def sampleLines (s : State) (m : ScSample) : State :=
  let s := (m.lines.foldl (fun (s : State) (vs : List (TrainLine × Nat)) => s.sampleVolts vs) s).setB TIL.STAT_TRAC_PIN m.tracPin
  s.setB TIL.STAT_ZERO_SPEED (s.on TIL.STAT_ZSP_A && s.on TIL.STAT_ZSP_B)

def zspFlag (s : State) : State :=
  if s.on TIL.STAT_ZSP_DISC then s else
    let s := ((s.setB TIL.STAT_ZSP_DISC true).raise 0x09 2).inc TIL.ZSP_DISC_CNT
    s.event 3 8 0 (s.get TIL.STAT_ZSP_A + 2 * s.get TIL.STAT_ZSP_B) (s.get TIL.ZSP_DISC_CNT) 0 8

def zspTick (s : State) : State :=
  let differ := s.on TIL.STAT_ZSP_A != s.on TIL.STAT_ZSP_B
  let s := s.modSc (fun c => { c with zspDiff := s.sinceWhen c.zspDiff differ, zspSame := s.sinceWhen c.zspSame (!differ) })
  let late := (s.sc.zspDiff.map (fun t => decide (t + 5 * s.scGet TIL.TIMING_ZSP_DISC < s.sc.tick))).getD false
  if differ && late then s.zspFlag
  else if s.lasted s.sc.zspSame 1000 then s.setB TIL.STAT_ZSP_DISC false
  else s

def otherSide (side : Side) : Side :=
  match side with
  | .left => .right
  | .right => .left

def drelFld (side : Side) : Fld :=
  match side with
  | .left => TIL.STAT_DREL_L
  | .right => TIL.STAT_DREL_R

/-- The conditions of a grant. -/
def grantWish (s : State) (side : Side) : Bool :=
  s.scRun && s.tilOn && s.zeroSpeed && s.on (drelFld side) && (!s.on (drelFld (otherSide side)) || s.scOn TIL.CFG_BOTH_SIDES)

/-- A grant withdrawn because zero speed is lost stops the doorways that are opening (R238). -/
def stopOpening (s : State) (side : Side) : State :=
  s.eachOf side (fun s n =>
    if s.dwState n == .unlocking || s.dwState n == .opening then s.offer n (offerOf .stop .sideRel) else s)

def grantSide (s : State) (side : Side) : State :=
  let was := s.on (relFld side)
  let b := s.grantWish side
  if b && !was then s.releaseRose side
  else if was && !b then
    let s := s.releaseFell side
    if s.zeroSpeed then s else s.stopOpening side
  else s

/-- Both DREL lines without BOTH_SIDES. -/
def conflictTick (s : State) : State :=
  let c := s.tilOn && s.on TIL.STAT_DREL_L && s.on TIL.STAT_DREL_R && !s.scOn TIL.CFG_BOTH_SIDES
  if c == s.on TIL.STAT_REL_CONFLICT then s else
    let s := s.setB TIL.STAT_REL_CONFLICT c
    if c then s.event 2 8 0 (s.get TIL.STAT) 0 0 8 else s

/-! ### SF3: edges, bound and reaction check (R163 to R171, R239) -/

def scEdges (s : State) (n : Fin 8) : List Nat × Bool :=
  let a := s.scIn n 8
  let b := s.scIn n 9
  match s.scGet (DW.EDGE_CFG_MODE n) with
  | 1 => (if a then [1] else [], false)
  | 2 => ((if a then [1] else []) ++ (if b then [2] else []) ++ (if a != b then [3] else []), a != b)
  | 3 => ((if a then [1] else []) ++ (if b then [] else [2]) ++ (if a == b then [3] else []), a == b)
  | _ => ([], false)

/-- The magnitude of the commanded closing speed, 1/256 of 0.1 mm/s; 0 at rest or in the opening direction. -/
def closingSpeed (s : State) (n : Fin 8) : Nat := (s.ax[doorAxis n].velQ * s.scCloseDir (doorAxis n)).toNat

/-- The edge layer acts at SC: by its own copy of EDGE_MUTE and DOOR_CLOSED_POS, and not in degraded mode with cause EDGE (R162, R165). -/
def scEdgeArmed (s : State) (n : Fin 8) : Bool :=
  !(s.get (SAF.DEGR_CAUSE n)).testBit 0 &&
    decide (min (s.scGet (DW.END_ZONE_EDGE_MUTE n)) (s.scGet (DW.END_ZONE_END_ZONE n)) <
      (s.getI (DW.DOOR_POS n) - s.scGetI (DW.DOOR_CLOSED_POS n)).natAbs)

/-- SC watches a closing: also one that the engine is stopping after a detection of its own in the same tick (R170). -/
def scCloses (s : State) (n : Fin 8) : Bool := s.closingRuns n || (s.dw[n].obstStop && decide (0 < s.closingSpeed n))

/-- 0.9 × A_STOP × 200 µs in the same unit. -/
def leastFall (s : State) (n : Fin 8) : Nat := s.scGet (AX.A_STOP_A (doorAxis n)) * 288 / 625

/-- SC's own detection starts the reaction check (R170). -/
def scDetect (s : State) (n : Fin 8) (cause : Nat) : State :=
  (s.placeDet n cause).modScD n (fun d => { d with react := some (d.react.getD (s.sc.tick, s.closingSpeed n)) })

/-- The edge discrepancy at SC (R164, R239, R259): the fault after EDGE_DISC, the end of EDGE after 1 s of agreement. -/
def edgeTick (s : State) (n : Fin 8) (disc : Bool) : State :=
  let s := s.modScD n (fun d => { d with edgeT := if disc then d.edgeT + 1 else 0, agreeT := if disc then 0 else d.agreeT + 1 })
  let s := if 5 * s.scGet (DW.EDGE_CFG_EDGE_DISC n) < s.sc.dw[n].edgeT then (s.safJudge n 20 true).degrOn n 0 else s
  let s := if disc then s else s.safJudge n 20 false
  if 5000 ≤ s.sc.dw[n].agreeT then s.degrOff n 0 else s

/-- F_CB against its limit in a closing, learn motions included, and check 3 of the model (R170, R171, R179). -/
def boundTick (s : State) (n : Fin 8) : State :=
  let ax := doorAxis n
  let tooHigh := s.scCloses n && decide ((s.scGet (DW.SC_FORCE_F_CB_LIMIT n) : Int) < s.fCb n)
  let moving := s.ax[ax].moving && !s.on (AX.STAT_SETTLING ax) && s.mEq ax != 0
  let bad := moving && decide (s.fCb n + 200 < s.fEst ax - s.fInert ax)
  let s := s.modScD n (fun d => { d with cbT := if tooHigh then d.cbT + 1 else 0, divT := if bad then d.divT + 1 else 0 })
  let s := if tooHigh && decide (5 * s.scGet (DW.F_TIME_T_FORCE n) ≤ s.sc.dw[n].cbT) then s.scDetect n 5 else s
  if s.sc.dw[n].divT = 100 then s.modelFault n 3 0 else s

/-- The commanded speed after a detection: from 400 µs on it falls at every tick until it reaches 0. -/
def reactTick (s : State) (n : Fin 8) : State :=
  match s.sc.dw[n].react with
  | none => s
  | some (t, v0) =>
    let v := s.closingSpeed n
    if v = 0 then s.modScD n (fun d => { d with react := none })
    else if t + 2 ≤ s.sc.tick && v0 < v + s.leastFall n then
      ((s.modScD n (fun d => { d with react := none })).safFault n 21 false (scDoorLoc n)).removeGates n
    else s.modScD n (fun d => { d with react := some (t, v) })

def sf3Tick (s : State) (n : Fin 8) : State :=
  let (causes, disc) := s.scEdges n
  let s := s.reactTick n
  let s := if s.scCloses n && s.scEdgeArmed n then causes.foldl (fun (s : State) (c : Nat) => s.scDetect n c) s else s
  (s.edgeTick n disc).boundTick n

/-! ### SF4 and SF5 (R240 to R242) -/

/-- The step is commanded outward, away from its retracted end. -/
def stepOutward (s : State) (n : Fin 8) : Bool := decide (s.ax[stepAxis n].velQ * s.scCloseDir (stepAxis n) < 0)

def stepOutFault (s : State) (n : Fin 8) : State := (s.safJudge n 19 true).removeGates n

def sf4Tick (s : State) (n : Fin 8) : State :=
  let outw := s.stepOutward n
  let d := s.sc.dw[n]
  let ok := if outw then (if d.outT = 0 && !d.outOk then s.scReleased n else d.outOk) else false
  let k := if outw && !ok then d.outT + 1 else 0
  let s := s.modScD n (fun d => { d with outOk := ok, outT := k })
  if k = 3 then s.stepOutFault n else if outw then s else s.safJudge n 19 false

/-- SC removes the gate enables of an egress doorway (R241). -/
def egressStop (s : State) (n : Fin 8) : State :=
  let s := s.modScD n (fun d => { d with egrStop := true })
  (s.setGateEn (doorAxis n) false).setGateEn (stepAxis n) false

def doorStill (s : State) (n : Fin 8) : Bool := ((s.portOf (doorAxis n)).map (fun p => s.on (FB.STAT_STILL p))).getD true

def sf5Tick (s : State) (n : Fin 8) : State :=
  let e := s.scIn n 2
  let s := s.modScD n (fun d => { d with egrFrom := s.sinceWhen d.egrFrom e })
  let t := s.scGet SAF.EGR_EGR_STOP_T
  let late := (s.sc.dw[n].egrFrom.map (fun f => decide (f + 5 * t + 1 ≤ s.sc.tick))).getD false
  let s := s.safJudge n 18 (late && s.on (AX.STAT_GATE_EN (doorAxis n)))
  if e && (s.lasted s.sc.dw[n].egrFrom t || s.doorStill n) then s.egressStop n else s

/-! ### SF6: locks and commands (R243, R244) -/

/-- The conditions under which SC starts energising a lock channel. -/
def lockAllowed (s : State) (n : Fin 8) : Bool :=
  s.scReleased n && !s.dcl && !s.tracRel && !(s.scOn TIL.CFG_FB_EN && s.relayOn) && !(s.get (SAF.DEGR_CAUSE n)).testBit 1

/-- A request outside R243, which is a disagreement where it is repeated for 3 ticks (R244); one refused for LOCK_DIAG ends in the
time-out of UNLOCKING instead (R259, log entry 40). -/
def lockRefused (s : State) (n : Fin 8) (cur : Bool) : Bool :=
  s.dw[n].lockAsk && !cur && s.active && !s.lockAllowed n && !(s.get (SAF.DEGR_CAUSE n)).testBit 1

/-- SC and the lock channel of a doorway (R229, R242, R243). -/
def lockTick (s : State) (n : Fin 8) : State :=
  match s.scLock n with
  | none => s
  | some c =>
    let cur := s.on (onBit c)
    let own := s.dw[n].lockAsk && ((cur && !s.sc.dw[n].egrLock) || s.lockAllowed n)
    let egr := s.scOn SAF.CFG_EGR_UNLOCK && s.scIn n 2 && s.zeroSpeed
    let may := s.scRun && s.active && !s.scIn n 3 && !(s.get (SAF.DEGR_CAUSE n)).testBit 1
    let want := may && (own || egr)
    let refused := s.lockRefused n cur
    (s.modScD n (fun d => { d with egrLock := want && !own, refused := refused })).scDrive c want

/-- A speed above 105 % of SC's copy of VMAX. -/
def tooFast (s : State) (ax : Fin 16) : Bool :=
  let v := s.ax[ax].velQ
  decide (105 * 256 * s.scGet (profFld ax (decide (0 ≤ v)) 2) < 100 * v.natAbs)

def opensLocked (s : State) (n : Fin 8) : Bool :=
  decide (s.ax[doorAxis n].velQ * s.scCloseDir (doorAxis n) < 0) && s.scIn n 0 &&
    ((s.scLock n).map (fun c => !s.on (onBit c))).getD false

def disagrees (s : State) (n : Fin 8) : Bool :=
  s.opensLocked n || s.tooFast (doorAxis n) || s.tooFast (stepAxis n) || s.sc.dw[n].refused

def disagreement (s : State) (n : Fin 8) : State := (s.safJudge n 17 true).removeGates n

def sf6Tick (s : State) (n : Fin 8) : State :=
  let s := s.lockTick n
  let bad := s.disagrees n
  let s := s.modScD n (fun d => { d with badT := if bad then d.badT + 1 else 0 })
  if s.sc.dw[n].badT = 3 then s.disagreement n else if bad then s else s.safJudge n 17 false

/-! ### SF7: the loop (R246 to R249) -/

/-- A low interval of LOOP_IN of 0.5 to 1.5 times LOOP_TP_W, whose unit is 10 µs (R247). -/
def loopPulse (s : State) (low : Nat) : State :=
  let w := 10 * s.scGet TIL.LOOP_CFG_LOOP_TP_W
  if low ≠ 0 ∧ w ≤ 2 * low ∧ 2 * low ≤ 3 * w then s.modSc (fun c => { c with codedAt := some s.sc.tick }) else s

/-- The loop input has been low for LOOP_FILT. -/
def loopOpen (s : State) : State :=
  if s.on TIL.STAT_IN_PRESENT then (s.setB TIL.STAT_IN_PRESENT false).inc TIL.LOOP_OPEN_CNT else s

/-- Element, TRAIN_LOOP: each change raises EVT bit 1 and writes EVENT 4; a running pulse of the element is discarded. -/
def setLoop (s : State) (elem loop : Bool) : State :=
  if s.on TIL.STAT_ELEM_CLOSED == elem && s.on TIL.STAT_TRAIN_LOOP == loop then s else
    let s := if s.on TIL.STAT_ELEM_CLOSED == elem then s else s.markPulse .element
    let s := ((s.setB TIL.STAT_ELEM_CLOSED elem).setB TIL.STAT_TRAIN_LOOP loop).raise 0x09 1
    s.event 4 8 0 elem.toNat loop.toNat (s.scGet TIL.CFG_LOOP_MODE) 8

def elemWish (s : State) : Bool :=
  let mode := s.scGet TIL.CFG_LOOP_MODE
  mode != 0 && s.tilOn && s.scRun && s.active && s.s0Alive && s.on TIL.STAT_CAR_PROVEN &&
    (if mode = 1 then s.sc.srcOn else s.on TIL.STAT_IN_PRESENT && s.on TIL.STAT_IN_CODED) &&
    !s.sc.tilAct.contains 3 && !s.sc.tilAct.contains 4

/-- Element and source follow their conditions. -/
def loopEval (s : State) : State :=
  let s := s.modSc (fun c => { c with srcOn := s.headMode && s.tilOn && s.scRun && s.active && s.s1Alive && !c.srcTrip })
  s.setLoop s.elemWish (s.headMode && s.tilOn && s.on TIL.STAT_IN_PRESENT && s.on TIL.STAT_IN_CODED)

/-- LOOP_SRC gives a dark pulse of LOOP_TP_W, whose unit is 10 µs, on the loop (R247). -/
def sourcePulse (s : State) : State :=
  (s.modSc (fun c => { c with loopAt := some s.sc.tick })).emit (.loopPulse (10 * s.scGet TIL.LOOP_CFG_LOOP_TP_W))

/-- In HEAD mode the source pulses once in every LOOP_TP_P. -/
def sourceTick (s : State) : State :=
  let due := (s.sc.loopAt.map (fun t => s.scPast t (s.scGet TIL.LOOP_CFG_LOOP_TP_P))).getD true
  if s.headMode && s.sc.srcOn && due then s.sourcePulse else s

def sf7Tick (s : State) (m : ScSample) : State :=
  let mode := s.scGet TIL.CFG_LOOP_MODE
  if mode = 0 ∨ !s.tilOn then
    ((s.modSc (fun c => { c with lowFrom := none, codedAt := none })).setB TIL.STAT_IN_PRESENT false).setB TIL.STAT_IN_CODED false |>.loopEval
  else
    let s := s.loopPulse m.loopLow
    let high := s.sc.line[lineIx .loopIn].raw
    let s := s.modSc (fun c => { c with lowFrom := s.sinceWhen c.lowFrom (!high) })
    let s := if high then s.setB TIL.STAT_IN_PRESENT true
      else if s.lasted s.sc.lowFrom (s.scGet TIL.LOOP_CFG_LOOP_FILT) then s.loopOpen else s
    let coded := (s.sc.codedAt.map (fun t => decide (s.sc.tick ≤ t + 15 * s.scGet TIL.LOOP_CFG_LOOP_TP_P))).getD false
    let s := s.setB TIL.STAT_IN_CODED coded
    let s := s.tilJudge 4 (m.loopOut && !s.on TIL.STAT_ELEM_CLOSED && !high)
    s.loopEval.sourceTick

/-! ### The tick (R230) -/

def showProven (s : State) : State :=
  let s := (List.range 8).foldl (fun (s : State) (n : Nat) =>
    let p := s.proven n
    let i := s.provenIsolated n
    (s.setB ⟨TIL.PROVEN.addr, n, 1⟩ p).setB ⟨TIL.PROVEN.addr, 8 + n, 1⟩ i) s
  s.setB TIL.STAT_CAR_PROVEN s.carProven

/-- STAT.CFG_PENDING and TP_RUN (R253, R268). -/
def showSaf (s : State) : State :=
  let pend := [SAF.CFG, SAF.TP, SAF.BRIGHT0, SAF.BRIGHT1, SAF.EGR].any (fun f => s.get f != s.scGet f)
  (s.setB SAF.STAT_CFG_PENDING pend).setB SAF.STAT_TP_RUN (s.scRun && s.active && !s.sc.paused)

def eachDoor (s : State) (f : State → Fin 8 → State) : State := (List.range 8).foldl (fun (s : State) (n : Nat) => f s (fin8 n)) s

/-- SF3 to SF6 of one doorway. -/
def scDoor (s : State) (n : Fin 8) : State := ((((s.sf3Tick n).sf4Tick n).sf5Tick n).sf6Tick n).degrTick n

/-! ### Test pulses: their slots and their ends (R250 to R253) -/

/-- Whether the output is in the state that a pulse of this kind tests. -/
def pulseApplies (s : State) (o : TestOutput) (bright : Bool) : Bool :=
  match o with
  | .channel c =>
    s.chSafe c && (s.pulseOn o).isNone &&
      (if bright then
        !s.on (onBit c) && !s.on (chOut c) && (s.scGet (if c.val < 32 then SAF.BRIGHT0 else SAF.BRIGHT1)).testBit (c.val % 32) &&
          !(List.range 8).any (fun n => s.scLock n == some c && (s.get (SAF.DEGR_CAUSE n)).testBit 1)
       else s.on (onBit c) && s.on (chOut c))
  | .tracRel => !bright && s.tracRel && (s.pulseOn o).isNone
  | .element => !bright && s.on TIL.STAT_ELEM_CLOSED && (s.pulseOn o).isNone

/-- The switch die of an output; TRAC_REL and the element are on S0. -/
def pulseDie (o : TestOutput) : Fin 4 :=
  match o with
  | .channel c => groupOf c
  | .tracRel => 0
  | .element => 0

/-- The spacing of two starts on a die, TP_W + 200 µs, in ticks. -/
def slotTicks (s : State) : Nat := ceilDiv (s.scGet SAF.TP_TP_W + 200) 200

/-- No pulse runs on the die, and the last one began a slot ago. -/
def pulseFree (s : State) (g : Fin 4) : Bool :=
  !s.sc.pulses.any (fun p => pulseDie p.out == g) && ((s.sc.pulseAt[g]).map (fun t => decide (t + s.slotTicks ≤ s.sc.tick))).getD true

/-- The slot of the channel in the rotation of SC's pulses begins within the 4 ms of an off-state test (R307). -/
def pulseDue (s : State) (c : Fin 48) : Bool :=
  let p := max 1 (5 * s.scGet SAF.TP_TP_P)
  s.chSafe c && s.scRun && s.active && !s.sc.paused && decide ((s.slotTicks * inGroup c + p - s.sc.tick % p) % p ≤ 20)

/-- Whether the die tests the channel in its off state (R307): it has been off for at least 2 ms on an ACTIVE unit, and it is neither a
safety-marked one with bright pulses nor has it a pulse of SC running or due. -/
def offTestRuns (s : State) (c : Fin 48) : Bool :=
  s.on (LSG.CH_CFG_OL_OFF_EN (groupOf c) (inGroup c)) && s.die[groupOf c].active && !s.on (chOut c) && s.longOff c &&
    (s.pulseOn (.channel c)).isNone && !s.pulseDue c &&
    !(s.chSafe c && (s.scGet (if c.val < 32 then SAF.BRIGHT0 else SAF.BRIGHT1)).testBit (c.val % 32))

/-- A result of the off-state test (R307); the readback of the switch ends or confirms cause 7 (R303). -/
def offTestResult (s : State) (c : Fin 48) (result : OffStateResult) : State :=
  let g := groupOf c
  let i := inGroup c
  match result with
  | .pass =>
    let s := (s.setB (LSG.CH_STAT_OL_OFF g i) false).setB (LSG.CH_STAT_SHORT_BAT g i) false
    if s.get (chCause c) = 7 then s.setB (chActive c) false else s
  | .shortBat => (s.setB (LSG.CH_STAT_SHORT_BAT g i) true).raise (chPage c) 0
  | .openLoad => (s.setB (LSG.CH_STAT_OL_OFF g i) true).raise (chPage c) 1
  | .conducts => s.latchNow c 7
  | .ended => s
  | .notOn => s

def testPulse (s : State) (o : TestOutput) (bright : Bool) : State :=
  if s.scRun && s.active && !s.sc.paused && s.pulseFree (pulseDie o) && s.pulseApplies o bright then
    (s.modSc (fun c => { c with
      pulses := c.pulses ++ [(⟨o, bright, false, c.tick⟩ : Pulse)],
      pulseAt := c.pulseAt.set (pulseDie o) (some c.tick) })).emit (.testPulse o bright)
  else s

/-- The pulse is over: TRAC_REL and the element change their switch, and a deferred on-demand takes effect (R250, R252). -/
def endPulse (s : State) (o : TestOutput) : State :=
  let s := s.modSc (fun c => { c with
      pulses := c.pulses.filter (fun q => q.out != o),
      altTrac := if o == .tracRel then !c.altTrac else c.altTrac, altElem := if o == .element then !c.altElem else c.altElem })
  match o with
  | .channel c => s.evalCh c
  | _ => s

/-- Pulses whose time has run out without a readback. -/
def endPulses (s : State) : State :=
  let w := ceilDiv (s.scGet SAF.TP_TP_W) 200
  (s.sc.pulses.filter (fun p => decide (p.start + w ≤ s.sc.tick))).foldl (fun (s : State) (p : Pulse) => s.endPulse p.out) s

/-- The output of a slot of a die. The spec asks for a fixed rotation and names none: the channels in their order, then TRAC_REL, then the
element (DESIGN CHOICE, log entry 119). -/
def slotOutput (g : Fin 4) (k : Nat) : Option TestOutput :=
  if k < 12 then some (.channel (fin48 (12 * g + k)))
  else if g = 0 ∧ k = 12 then some .tracRel
  else if g = 0 ∧ k = 13 then some .element
  else none

/-- The slot that begins at this tick: an output that is on gets a dark pulse, one that is off a bright one. -/
def pulseTick (s : State) : State :=
  let t := s.sc.tick % max 1 (5 * s.scGet SAF.TP_TP_P)
  if t % s.slotTicks ≠ 0 then s else
    ((List.range 4).map fin4).foldl (fun (s : State) (g : Fin 4) =>
      match slotOutput g (t / s.slotTicks) with
      | some (.channel c) => s.testPulse (.channel c) (!s.on (onBit c))
      | some o => s.testPulse o false
      | none => s) s

/-! ### Samples of the discrete inputs (R254) -/

/-- THR of an input: the committed one for SC and while DIN is disabled, else the stored one (R228, R271). -/
def thrOf (s : State) (di : Fin 64) : Nat :=
  let f := DIN.GRP_CFG_THR (di.val / 16)
  if s.scDiSafe di || !s.pageOn 0x0E then s.scGet f else s.get f

/-- The filter time in samples of 50 µs. FILT applies from the write, which only a disabled page takes (R51, R254); SC takes its own
committed copy, and a safety-marked input has at most 5.0 ms (R228, R256, R271, log entry 137). -/
def filtSamples (s : State) (di : Fin 64) : Nat :=
  let f := DIN.FILT_FILT di
  2 * min (if s.scDiSafe di then s.scGet f else s.get f) (if s.scDiSafe di || s.diSafe di then 50 else 255)

/-- Some samples of an input in a row. A level that differs from the filtered one passes once it has been stable for the filter time,
counted from the first sample that showed it. -/
def sampleInput (s : State) (k : Nat) (di : Fin 64) : State :=
  let raw := match s.diPin[di] with
    | some v => pinLevel (s.thrOf di) v (s.diRaw.getLsbD di)
    | none => s.diRaw.getLsbD di
  let s := s.setRaw di raw
  if raw == s.diFilt.getLsbD di then { s with diCnt := s.diCnt.set di 0 }
  else if s.filtSamples di < s.diCnt[di] + k then s.passLevel di raw
  else { s with diCnt := s.diCnt.set di (s.diCnt[di] + k) }

/-- A sample of all inputs: the pins that have changed, then every comparator and filter. -/
def samplePins (s : State) (pins : List (Fin 64 × Nat)) : State :=
  let s := pins.foldl (fun (s : State) (p : Fin 64 × Nat) => { s with diPin := s.diPin.set p.1 (some p.2) }) s
  ((List.range 64).map fin64).foldl (fun (s : State) (i : Fin 64) => s.sampleInput 1 i) s

/-! ### Wetting pulses (R255) -/

/-- Every WET_P the inputs of a group draw WET_I for WET_T; WET_I = 0 is off, and a unit that is not ACTIVE gives none (R341). -/
def wetTick (s : State) (g : Fin 4) : State :=
  let current := s.scGet (DIN.GRP_CFG_WET_I g)
  let due := (s.sc.wetAt[g].map (fun t => s.scPast t (s.scGet (DIN.GRP_CFG_WET_P g)))).getD true
  if s.active && current != 0 && due then
    (s.modSc (fun c => { c with wetAt := c.wetAt.set g (some c.tick) })).emit (.wetPulse g current (s.scGet (DIN.GRP_CFG_WET_T g)))
  else s

def scTick (s : State) (m : ScSample) : State :=
  let s := m.pins.foldl (fun (s : State) (p : List (Fin 64 × Nat)) => s.samplePins p) s
  let s := (s.modSc (fun c => { c with tick := c.tick + 1 })).endPulses
  let s := s.sampleLines m
  let s := ((s.zspTick).conflictTick.grantSide .left).grantSide .right
  let s := if s.scRun then s.eachDoor scDoor else s
  let s := s.showProven
  let s := ((s.feedbackTick).sf7Tick m).tracTick
  let s := (List.range 16).foldl (fun (s : State) (ax : Nat) => s.driveGate (fin16 ax)) s
  let s := (s.zTick).showSaf.pulseTick
  ((List.range 4).map fin4).foldl (fun (s : State) (g : Fin 4) => s.wetTick g) s

/-! ### Controller-level faults (R261, R262, R269) -/

def ctrlBlock (cause : Nat) : Nat :=
  match cause with
  | 1 => 0
  | 2 => 1
  | 3 => 2
  | 4 => 0
  | 5 => 1
  | 6 => 3
  | _ => 1

/-- Every output that SC holds goes off. -/
def safeOff (s : State) : State :=
  let s := (List.range 16).foldl (fun (s : State) (ax : Nat) => s.setGateEn (fin16 ax) false) s
  let s := (List.range 48).foldl (fun (s : State) (c : Nat) => if s.chSafe (fin48 c) then s.scDrive (fin48 c) false else s) s
  let s := s.modSc (fun c => { c with srcOn := false, settle := none, pulses := [] })
  ((s.setB SAF.STAT_TP_RUN false).set TIL.BLOCK_WHY (s.tracMissing)).setTrac false |>.setLoop false (s.on TIL.STAT_TRAIN_LOOP)

/-- A controller-level fault: SAFE_STOP, outputs off, the own wave stops (R346), FAULT with LEVEL 1, its record, of kind 1 for a memory
error; before READY it is a failed boot test, which BOOT_STAT shows (R433). In SAFE_STOP and HALT a further memory error writes its record alone (R28). -/
def ctrlFaultAt (s : State) (cause : Nat) (loc : Word) (kind : Nat) : State :=
  if s.get SAF.STAT_SC_STATE = 2 ∨ s.get SAF.STAT_SC_STATE = 3 then
    if kind = 1 then s.logFault 0x08 cause loc 1 1 (s.get SAF.FAULT) none else s
  else
    let s := ((s.set SAF.STAT_SC_STATE 2).inc SAF.TRIP_CNT).raise 0x08 0
    let s := { s with trips := s.clk32 :: s.trips.filter (fun t => decide (s.clk32 < t + 117964800)) }
    let s := (s.set SAF.FAULT (cause + 256 + 512)).set SAF.FAULT_LOC loc.toNat
    let s := if s.ready then s else s.set SYS.BOOT_STAT_ERR 2
    ((s.safeOff).showAlive).logFault 0x08 cause loc kind 1 (s.get SAF.FAULT) none

def ctrlFault (s : State) (cause : Nat) : State := s.ctrlFaultAt cause (locBlock 0 7 (ctrlBlock cause)) 2

/-- SELFTEST shows the result of a row of R258; one that fails raises SAF.EVT bit 4 (log entry 138). -/
def showTest (s : State) (row : Nat) (pass : Bool) : State :=
  (s.setB ⟨SAF.SELFTEST.addr, row, 1⟩ pass).raiseIf (!pass) 0x08 4

/-- A self-test of the table of R258, by its row; a failure is the controller-level fault of the row. -/
def selfTest (s : State) (row cause : Nat) (pass : Bool) : State :=
  if !s.coreOn then s else
  let s := s.showTest row pass
  if pass then s else s.ctrlFault cause

/-- A test of SC's memories, located to the bit (R22, R269). -/
def memoryTest (s : State) (row cause : Nat) (m : MemoryTest) : State :=
  if !s.coreOn then s else
  let s := s.showTest row m.pass
  if m.pass then s else s.ctrlFaultAt cause m.loc 1

/-! ### Test pulses (R250 to R253) -/

/-- The code of the output that a pulse has tested: a channel, 48 SA, 49 SB, 50 EA, 51 EB. -/
def pulseCode (s : State) (o : TestOutput) : Nat :=
  match o with
  | .channel c => c
  | .tracRel => 48 + s.sc.altTrac.toNat
  | .element => 50 + s.sc.altElem.toNat

def tpFailFld (code : Nat) : Fld :=
  if code < 32 then ⟨SAF.TP_FAIL0.addr, code, 1⟩ else ⟨SAF.TP_FAIL1.addr, code - 32, 1⟩

/-- The fault of a channel that is no lock: cause 16 of its own, active until the channel passes. SAF.FAULT.DOORWAY, which no rule gives for
it, reads 0 (DESIGN CHOICE, log entry 120). -/
def chFault (s : State) (c : Fin 48) : State :=
  if s.safActive (64 + c) 16 then s else
    let s := (s.set SAF.FAULT (16 + 256)).set SAF.FAULT_LOC (chLoc c 7).toNat
    let s := s.modSc (fun x => { x with safAct := (64 + c.val, 16) :: x.safAct })
    (s.raise 0x08 1).logFault 0x08 16 (chLoc c 7) 2 0 (s.get SAF.FAULT) none

/-- The channel passes again. -/
def chFaultEnd (s : State) (c : Fin 48) : State :=
  if !s.safActive (64 + c) 16 then s else
    let s := s.modSc (fun x => { x with safAct := x.safAct.filter (· != (64 + c.val, 16)) })
    if s.get SAF.FAULT_CAUSE = 16 ∧ s.get SAF.FAULT_LOC = (chLoc c 7).toNat then s.setB SAF.FAULT_ACTIVE false else s

/-- The table of test-pulse failures. -/
def pulseFailed (s : State) (o : TestOutput) (code : Nat) : State :=
  let s := ((s.setB (tpFailFld code) true).inc SAF.TP_FAIL_CNT).raise 0x08 3
  match o with
  | .channel c =>
    match (List.range 8).find? (fun n => s.scLock n == some c) with
    | some n =>
      if s.inputsProve n then s.degrOn (fin8 n) 1
      else if s.safActive n 16 then s
      else (s.safFault n 16 true (chLoc c 7)).dwFaultHere (fin8 n) 2
    | none => (s.chFault c).scDrive c false
  | .tracRel => (s.tilFault 2 (code == 49)).tracTick
  | .element => (s.tilFault 3 (code == 51)).loopEval

/-- A pulse that passes ends the condition of a fault that its output had. -/
def pulsePassed (s : State) (o : TestOutput) : State :=
  match o with
  | .channel c =>
    match (List.range 8).find? (fun n => s.scLock n == some c) with
    | some n => if s.safActive n 16 then s.safEnd n 16 else s
    | none => s.chFaultEnd c
  | .tracRel => if s.sc.tilAct.contains 2 then s.tilEnd 2 else s
  | .element => if s.sc.tilAct.contains 3 then s.tilEnd 3 else s

/-- SC holds every output off and tests itself: at boot and on a return to SERVICE (R258, R264). -/
def booting (s : State) : Bool := s.coreOn && s.get PWR.STATE_STATE != 2 && s.get SAF.STAT_SC_STATE == 0

/-- The series stage test before RUN (R258): a switch that passes the load with its partner alone is TIL cause 2 or 3, and FAULT_LOC names
it (R270). -/
def stageTest (s : State) (cause : Nat) (r : Readback) : State :=
  if r.good then s else (s.showTest 9 false).tilFault cause r.second

/-- The readback of a pulse, and its end; a deferred on-demand then takes effect (R252, log entry 42). -/
def pulseReadback (s : State) (o : TestOutput) (good : Bool) : State :=
  match s.pulseOn o with
  | none => s
  | some p =>
    let code := s.pulseCode o
    let s := s.endPulse o
    if p.changed || s.sc.paused then s
    else if good then (s.modSc (fun c => { c with failed := c.failed.filter (· != code) })).pulsePassed o
    else if s.sc.failed.contains code then s.pulseFailed o code
    else s.modSc (fun c => { c with failed := code :: c.failed })

/-! ### Discrete inputs (R254 to R257, R271) -/



/-- The doorways that map a safety-marked input. -/
def doorsOf (s : State) (di : Nat) : List (Fin 8) :=
  if s.scDiSafe di then ((List.range 8).filter (fun n => (List.range 16).any (fun r => s.scRoleDi n r == some di))).map fin8 else []

/-- INPUT_DIAG of a safety-marked input (R255, R256, R258). -/
def inputDiag (s : State) (di : Fin 64) : State :=
  if s.scDiSafe di then
    let s := s.modSc (fun c => { c with diag := c.diag ||| (1#64 <<< di.val) })
    (s.doorsOf di).foldl (fun (s : State) (n : Fin 8) => s.degrOn n 2) s
  else s

/-- A wetting pulse (R255): two differing readings in succession set WET_FAIL, ten good ones clear it. The event stops while DIN is
disabled (R271). -/
def wettingPulse (s : State) (di : Fin 64) (levelIn : Bool) : State :=
  let f := bitFld (DIN.WET_FAIL 0).addr di
  if levelIn == s.diFilt.getLsbD di then
    let k := s.sc.wetGood[di] + 1
    let s := s.modSc (fun c => { c with wetBad := c.wetBad &&& ~~~ (1#64 <<< di.val), wetGood := c.wetGood.set di (min k 10) })
    if 10 ≤ k then s.setB f false else s
  else
    let again := s.sc.wetBad.getLsbD di
    let s := s.modSc (fun c => { c with wetBad := c.wetBad ||| (1#64 <<< di.val), wetGood := c.wetGood.set di 0 })
    if again && !s.on f then (((s.setB f true).raiseIf (s.pageOn 0x0E) 0x0E 1).inc DIN.WET_FAIL_CNT).inputDiag di else s

/-! ### Clears (R261, R270) -/

/-- SAF.CTRL.CLR: a doorway-level fault whose ACTIVE = 0, and the TP_FAIL bits of outputs that pass again. -/
def safClear (s : State) : State :=
  let s := (List.range 52).foldl (fun (s : State) (k : Nat) => if s.sc.failed.contains k then s else s.setB (tpFailFld k) false) s
  if !s.on SAF.FAULT_LEVEL && !s.on SAF.FAULT_ACTIVE then (s.set SAF.FAULT 0).set SAF.FAULT_LOC 0 else s

def tilClear (s : State) : State :=
  if s.on TIL.FAULT_ACTIVE then s else
    ((s.set TIL.FAULT 0).set TIL.FAULT_LOC 0).modSc (fun c => { c with srcTrip := false })

def degrBit : DegrCause → Nat
  | .edge => 0
  | .lockDiag => 1
  | .inputDiag => 2

/-- A diagnostic has passed for 1 s: its cause ends, and with INPUT_DIAG the inputs of the doorway count again. -/
def degrCauseEnd (s : State) (n : Fin 8) (cause : DegrCause) : State :=
  let s := match cause with
    | .inputDiag => (List.range 16).foldl (fun (s : State) (r : Nat) =>
        match s.scRoleDi n r with
        | some di => s.modSc (fun c => { c with diag := c.diag &&& ~~~ (1#64 <<< di) })
        | none => s) s
    | _ => s
  s.degrOff n (degrBit cause)

end State

/-! ### Meanings -/

/-- R232: the conditions have held for TRAC_SETTLE. -/
def execTracSettleElapsed (s : State) : Host.Outcome State Fault Refusal :=
  .next (s.whenRunning fun s =>
    if s.tracMissing = 0 ∧ s.s0Alive ∧ (s.sc.settle).isSome then (s.set TIL.BLOCK_WHY 0).setTrac true else s)

/-- R234: TIL fault cause 1, with FB_EN = 1. -/
def execTracFbMismatch (s : State) : Host.Outcome State Fault Refusal :=
  .next (s.whenRunning fun s => if s.scOn TIL.CFG_FB_EN then (s.tilFault 1 false).tracTick else s)

/-- R237. -/
def execZspDiscrepancy (s : State) : Host.Outcome State Fault Refusal := .next (s.whenRunning fun s => s.zspFlag)

/-- R237. -/
def execZspAgree (s : State) : Host.Outcome State Fault Refusal := .next (s.whenRunning fun s => s.setB TIL.STAT_ZSP_DISC false)

/-- R240: SAF fault cause 19. -/
def execStepOutNoRelease (n : Fin 8) (s : State) : Host.Outcome State Fault Refusal := .next (s.whenRunning fun s => s.stepOutFault n)

/-- R241. -/
def execEgressStop (n : Fin 8) (s : State) : Host.Outcome State Fault Refusal := .next (s.whenRunning fun s => s.egressStop n)

/-- R244: SAF fault cause 17. -/
def execCommandDisagreement (n : Fin 8) (s : State) : Host.Outcome State Fault Refusal := .next (s.whenRunning fun s => s.disagreement n)

/-- R164, R239: SAF fault cause 20, degraded mode EDGE. -/
def execEdgeDiscrepancyTimeout (n : Fin 8) (s : State) : Host.Outcome State Fault Refusal :=
  .next (s.whenRunning fun s => (s.safJudge n 20 true).degrOn n 0)

/-- R170: SC places an obstacle of cause 5 in the engine's mailbox, and checks the reaction. -/
def execCbLimitExceeded (n : Fin 8) (s : State) : Host.Outcome State Fault Refusal :=
  .next (s.whenRunning fun s => if s.scCloses n then s.scDetect n 5 else s)

/-- R247: in HEAD mode LOOP_SRC drives a dark pulse; `low` is the low interval it gives on LOOP_IN, in µs, 0 for none. -/
def execLoopDarkPulse (low : Nat) (s : State) : Host.Outcome State Fault Refusal :=
  .next (s.whenRunning fun s => if s.headMode && s.sc.srcOn then (s.sourcePulse).loopPulse low else s)

/-- R247: the loop input has been low for LOOP_FILT. -/
def execLoopOpen (s : State) : Host.Outcome State Fault Refusal := .next (s.whenRunning fun s => s.loopOpen.loopEval)

/-- R249: TIL fault cause 5; LOOP_SRC stays off until the fault is cleared (log entry 41). -/
def execLoopSrcOvercurrent (s : State) : Host.Outcome State Fault Refusal :=
  .next (s.whenRunning fun s => if s.sc.srcOn then ((s.modSc (fun c => { c with srcTrip := true })).tilFault 5 false).loopEval else s)

/-- R450: TIL fault cause 6; TRAC_REL goes off, BLOCK names the fault, and the conditions settle again. -/
def execTracRelOvercurrent (s : State) : Host.Outcome State Fault Refusal :=
  .next (s.whenRunning fun s =>
    if s.tracRel then (((s.tilFault 6 false).modSc (fun c => { c with settle := none })).set TIL.BLOCK_WHY 32).setTrac false else s)

/-- R250. -/
def execTestPulse (o : TestOutput) (bright : Bool) (s : State) : Host.Outcome State Fault Refusal :=
  .next (s.whenRunning fun s => s.testPulse o bright)

/-- R307; a switch that is commanded on and does not turn on is cause 7 as well (R304, log entry 139). -/
def execOffStateTest (c : Fin 48) (result : OffStateResult) (s : State) : Host.Outcome State Fault Refusal :=
  .next (if result == .notOn then (if s.on (State.chOut c) then s.latchNow c 7 else s)
    else if s.offTestRuns c then s.offTestResult c result else s)

/-- R251; in BOOT_TEST the stage test of R258. -/
def execTestPulseReadback (o : TestOutput) (r : Readback) (s : State) : Host.Outcome State Fault Refusal :=
  .next (if s.booting then
    match o with
    | .tracRel => s.stageTest 2 r
    | .element => s.stageTest 3 r
    | .channel _ => s
  else s.whenRunning fun s => s.pulseReadback o r.good)

/-- A level given as such carries no pin voltage (log entry 122). -/
def State.dropPin (s : State) (di : Fin 64) : State := { s with diPin := s.diPin.set di none }

/-- R254: the filters sit on the switch dies and run through every reset; in CELLAR they stop, and only the comparator shows the level. -/
def execDiLevelChange (di : Fin 64) (level : Bool) (s : State) : Host.Outcome State Fault Refusal :=
  let s := (s.setRaw di level).dropPin di
  .next (if s.get PWR.STATE_STATE = 1 then s
    else if s.diSafe di then (s.passLevel di level).wakeWatch 0 else s.passLevel di level)

/-- R255; a unit that is not ACTIVE gives no wetting pulses (R341), and WET_I = 0 gives none. -/
def execWettingPulse (di : Fin 64) (levelIn : Bool) (s : State) : Host.Outcome State Fault Refusal :=
  .next (s.whenRunning fun s => if s.active && s.scOn (DIN.GRP_CFG_WET_I (di.val / 16)) then s.wettingPulse di levelIn else s)

/-- R256. -/
def execComparatorDisagreement (di : Fin 64) (s : State) : Host.Outcome State Fault Refusal :=
  .next (s.whenRunning fun s => s.inputDiag di)

namespace State

/-- The boot tests of SC have passed (R258): SELFTEST shows them, and the comparison of the pair, which runs at every cycle. After a failed
stage test SC enters RUN with the TIL fault, which holds the stage off (DESIGN CHOICE, log entry 121). -/
def bootTests (s : State) : State :=
  let s := ((s.setB ⟨SAF.SELFTEST.addr, 0, 1⟩ true).setB ⟨SAF.SELFTEST.addr, 1, 1⟩ true).setB ⟨SAF.SELFTEST.addr, 2, 1⟩ true
  let s := s.setB ⟨SAF.SELFTEST.addr, 9, 1⟩ (!(s.sc.tilAct.contains 2 || s.sc.tilAct.contains 3))
  s.set SAF.STAT_SC_STATE 1

end State

/-- R258: SC leaves BOOT_TEST for RUN. -/
def execScBootTestsDone (s : State) : Host.Outcome State Fault Refusal :=
  .next (if s.booting then s.bootTests else s)

/-- R258, row 2: cause 1. -/
def execLockstepMismatch (s : State) : Host.Outcome State Fault Refusal := .next (s.selfTest 2 1 false)
/-- R258, row 1: cause 1. -/
def execLockstepInjectionTest (pass : Bool) (s : State) : Host.Outcome State Fault Refusal := .next (s.selfTest 1 1 pass)
/-- R258, row 3: cause 2; in BOOT_TEST the memory's test is the march of row 0, cause 5 (log entry 121). -/
def execScMemoryScrub (m : MemoryTest) (s : State) : Host.Outcome State Fault Refusal :=
  .next (if s.booting then s.memoryTest 0 5 m else s.memoryTest 3 2 m)
/-- R258, row 5: cause 4. -/
def execInstructionSetTest (pass : Bool) (s : State) : Host.Outcome State Fault Refusal := .next (s.selfTest 5 4 pass)

/-- R258, row 6: the failure of a single input is INPUT_DIAG; with another input failed already it is cause 6 (log entry 43). -/
def execInputComparatorTest (di : Fin 64) (pass : Bool) (s : State) : Host.Outcome State Fault Refusal :=
  let t := s
  let s := s.showTest 6 pass
  .next (if !t.coreOn then t
    else if pass || !s.scDiSafe di then s
    else if (s.sc.diag &&& ~~~ (1#64 <<< di.val)) ≠ 0 then s.ctrlFault 6
    else s.inputDiag di)

/-- R258, row 7: cause 6. -/
def execAdcReferenceCheck (pass : Bool) (s : State) : Host.Outcome State Fault Refusal := .next (s.selfTest 7 6 pass)

/-- R258, row 8: SC's committed copy against the vault, cause 7. -/
def execConfigCrcCheck (s : State) : Host.Outcome State Fault Refusal :=
  .next (s.whenRunning fun s => s.selfTest 8 7 (s.get SAF.CFG_CRC == s.copyCrc.toNat))

/-- The two measured frequencies, as parts of their nominal values, differ by more than 2 %. -/
def deviates (a b : Nat) : Bool := decide (b < 50 * (a - b) ∨ a < 50 * (b - a))

/-- R25: row 4, cause 3; a frequency of 0 is a missing clock. Without SAFCLK the heartbeats end, and every die reacts by itself (R20). -/
def execClockCrossCheck (sysclk safclk ref25 : Nat) (s : State) : Host.Outcome State Fault Refusal :=
  let bad := sysclk == 0 || safclk == 0 || ref25 == 0 || deviates sysclk safclk || deviates sysclk ref25 || deviates safclk ref25
  .next ((if s.coreOn && safclk == 0 then s.modSc (fun c => { c with clkLost := true }) else s).selfTest 4 3 (!bad))

/-- R259. -/
def execDegradedCauseEnd (n : Fin 8) (cause : DegrCause) (s : State) : Host.Outcome State Fault Refusal :=
  .next (s.whenRunning fun s => s.degrCauseEnd n cause)

/-- R260. -/
def execDegradedExpired (n : Fin 8) (s : State) : Host.Outcome State Fault Refusal :=
  .next (s.whenRunning fun s => ((s.degrExpire n).showProven).tracTick)

/-- R260. -/
def execDegradedHoldExpired (n : Fin 8) (s : State) : Host.Outcome State Fault Refusal :=
  .next (s.whenRunning fun s => s.degrFresh n)

/-- R261. -/
def execSafClr (s : State) : Host.Outcome State Fault Refusal := .next (s.whenRunning fun s => s.safClear)

/-- R270. -/
def execTilClr (s : State) : Host.Outcome State Fault Refusal := .next (s.whenRunning fun s => s.tilClear)

end Sys2Proof.Machine
end

