-- ==== Sys2Proof/Machine/Can.lean ====
section
/-! DEFINITION. The CAN controllers (R397 to R417): message RAM, acceptance, receive queues, transmission, fault confinement, and the
meanings of the CAN commands of "CAN and MVB Interfaces". -/

namespace Sys2Proof.Machine

/-! ### Frames (R405, R409) -/

/-- The data lengths of CAN FD, by DLC. -/
def fdLengths : List Nat := [0, 1, 2, 3, 4, 5, 6, 7, 8, 12, 16, 20, 24, 32, 48, 64]

/-- The next permitted FD length. -/
def fdLen (n : Nat) : Nat := (fdLengths.find? (fun l => n ≤ l)).getD 64
def fdDlc (n : Nat) : Nat := (fdLengths.findIdx? (fun l => n ≤ l)).getD 15

/-- The header words 0, 1 and 3 of a received frame (R405). -/
def headerWord0 (f : CanFrame) (unf : Bool) : Word :=
  BitVec.ofNat 32 ((if f.fmt = 2 then f.sdt.toNat else f.dlc.val) + 2 ^ 8 * f.ide.toNat + 2 ^ 9 * f.rmt.toNat + 2 ^ 10 * f.brs.toNat +
    2 ^ 11 * f.esi.toNat + 2 ^ 12 * f.sec.toNat + 2 ^ 13 * unf.toNat + 2 ^ 14 * f.fmt.val + 2 ^ 16 * f.data.length)

def headerWord1 (f : CanFrame) : Word :=
  if f.fmt = 2 then BitVec.ofNat 32 (f.ident.toNat % 2048 + 2 ^ 16 * f.vcid.toNat)
  else BitVec.ofNat 32 (if f.ide then f.ident.toNat else f.ident.toNat % 2048)

/-- The frame that a TX buffer's header and data spell: FD data padded to a permitted length, Classical data cut at 8 (R409). -/
def txFrame (w0 w1 w3 : Word) (data : List Byte) : CanFrame :=
  let fmt := fieldOf w0 14 2
  let len := fieldOf w0 16 12
  let bytes := if fmt = 0 then data.take (min len 8)
    else if fmt = 1 then data.take len ++ List.replicate (fdLen len - len) 0 else data.take len
  { fmt := if fmt = 2 then 2 else if fmt = 1 then 1 else 0, ide := fieldOf w0 8 1 == 1, rmt := fieldOf w0 9 1 == 1,
    brs := fieldOf w0 10 1 == 1, esi := false, sec := fieldOf w0 12 1 == 1,
    dlc := ⟨(if fmt = 0 then min len 8 else if fmt = 1 then fdDlc len else 0) % 16, by omega⟩,
    sdt := if fmt = 2 then BitVec.ofNat 8 (fieldOf w0 0 8) else 0, vcid := if fmt = 2 then BitVec.ofNat 8 (fieldOf w1 16 8) else 0,
    ident := BitVec.ofNat 29 (if fmt = 2 then fieldOf w1 0 11 else if fieldOf w0 8 1 = 1 then fieldOf w1 0 29 else fieldOf w1 0 11),
    af := if fmt = 2 then w3 else 0, data := bytes }

/-- The bits that arbitration compares, lower wins: base identifier, RTR or SRR, IDE, the extension, FDF and XLF. -/
def arbKey (f : CanFrame) : Nat :=
  let tail := (if f.fmt = 0 then 0 else 2) + (if f.fmt = 2 then 1 else 0)
  let rtr := (f.rmt && f.fmt == 0).toNat
  if f.ide then ((f.ident.toNat / 2 ^ 18 * 2 + 1) * 2 + 1) * 2 ^ 22 + (f.ident.toNat % 2 ^ 18 * 2 + rtr) * 4 + tail
  else ((f.ident.toNat % 2048 * 2 + rtr) * 2) * 2 ^ 22 + tail

namespace State

def modCan (s : State) (b : Fin 4) (g : CanEng → CanEng) : State := { s with can := s.can.set b (g s.can[b]) }

/-! ### Message RAM (R404) -/

def ramWord (b : Fin 4) (p i : Nat) : Nat := (CM.WORD (16 * b.val + p) i).addr

def elemSlots (s : State) (b : Fin 4) (p : Nat) : Nat :=
  if s.get (CAN.RAM_MAP_ROLE b p) = 4 then 1 else
  match s.get (CAN.RAM_MAP_ELEM b p) with
  | 0 => 1
  | 1 => 2
  | 2 => 33
  | _ => 64

/-- The pages of a role, in order; of role 3 those of one queue. -/
def rolePages (s : State) (b : Fin 4) (role : Nat) (queue : Option Nat) : List Nat :=
  (List.range 16).filter (fun p => s.get (CAN.RAM_MAP_ROLE b p) == role &&
    (match queue with
     | some q => s.get (CAN.RAM_MAP_QUEUE b p) == q
     | none => true))

/-- The elements of a role: page, first word, data capacity in bytes. -/
def elements (s : State) (b : Fin 4) (role : Nat) (queue : Option Nat) : List (Nat × Nat × Nat) :=
  (s.rolePages b role queue).flatMap (fun p =>
    let k := s.elemSlots b p
    (List.range (63 / k)).map (fun e => (p, 16 * k * e, 64 * k - 16)))

/-- TX buffers and mailboxes number 64 at most. -/
def txBuf (s : State) (b : Fin 4) (i : Nat) : Option (Nat × Nat × Nat) := ((s.elements b 1 none).take 64)[i]?
def mailbox (s : State) (b : Fin 4) (i : Nat) : Option (Nat × Nat × Nat) := ((s.elements b 2 none).take 64)[i]?
def queueSize (s : State) (b : Fin 4) (q : Nat) : Nat := (s.elements b 3 (some q)).length
def logSize (s : State) (b : Fin 4) : Nat := (s.elements b 4 none).length

def readElem (s : State) (b : Fin 4) (e : Nat × Nat × Nat) (i : Nat) : Word := s.word (ramWord b e.1 (e.2.1 + i))
def writeElem (s : State) (b : Fin 4) (e : Nat × Nat × Nat) (i : Nat) (w : Word) : State := s.setWord (ramWord b e.1 (e.2.1 + i)) w

/-- Data bytes of an element, from byte 16; the bytes of the last word beyond them stay. -/
def writeData : Nat → State → Fin 4 → (Nat × Nat × Nat) → Nat → List Byte → State
  | 0, s, _, _, _, _ => s
  | k + 1, s, b, e, i, data =>
    if data.isEmpty then s else
      let n := min data.length 4
      let old := s.readElem b e i
      writeData k (s.writeElem b e i (fieldPut old 0 (8 * n) (ofLeBytes (data.take 4)))) b e (i + 1) (data.drop 4)

def readData (s : State) (b : Fin 4) (e : Nat × Nat × Nat) (len : Nat) : List Byte :=
  ((List.range ((len + 3) / 4)).flatMap (fun i => wordBytes (s.readElem b e (4 + i)))).take len

/-! ### Receiving (R406 to R408) -/

/-- Word w of acceptance rule k. -/
def ruleWord (s : State) (b : Fin 4) (k w : Nat) : Word :=
  match (s.rolePages b 5 none)[k / 252]? with
  | some p => s.word (ramWord b p (4 * (k % 252) + w))
  | none => 0

/-- Whether a rule takes a frame (R406). -/
def ruleTakes (s : State) (b : Fin 4) (k : Nat) (f : CanFrame) : Bool :=
  let w0 := s.ruleWord b k 0
  let w3 := s.ruleWord b k 3
  let scope := fieldOf w0 0 2
  let dest := fieldOf w0 6 3
  let target := fieldOf w0 9 6
  let m := if scope = 3 then 0x7FF else fieldOf w3 0 29
  let id := (if scope = 1 ∨ scope = 3 then f.ident.toNat % 2048 else f.ident.toNat) &&& m
  let lo := fieldOf (s.ruleWord b k 1) 0 29 &&& m
  let hi := fieldOf (s.ruleWord b k 2) 0 29 &&& m
  (match scope with
   | 1 => f.fmt != 2 && !f.ide
   | 2 => f.fmt != 2 && f.ide
   | 3 => f.fmt == 2
   | _ => false) &&
  (dest == 0 || dest == 2 || (dest == 1 && decide (target ≤ 3)) || (dest == 3 && decide (target ≤ 7))) &&
  (if fieldOf w0 2 1 = 1 then id == lo || id == hi else decide (lo ≤ id ∧ id ≤ hi)) &&
  (scope != 3 || ((fieldOf w0 3 1 == 0 || f.sdt.toNat == fieldOf w0 24 8) && (fieldOf w0 4 1 == 0 || f.vcid.toNat == fieldOf w0 16 8) &&
    (fieldOf w0 5 1 == 0 || f.af == w3)))

/-- A received frame in an element, as one copy (R407); TS is the porch time of its row (log entry 159). -/
def copyFrame (s : State) (b : Fin 4) (e : Nat × Nat × Nat) (f : CanFrame) (unf : Bool) : State :=
  let s := ((s.writeElem b e 0 (headerWord0 f unf)).writeElem b e 1 (headerWord1 f)).writeElem b e 2 (BitVec.ofNat 32 s.porchTime)
  writeData 524 (s.writeElem b e 3 f.af) b e 4 f.data

def lost (s : State) (b : Fin 4) : State := s.inc (CAN.LOST_CNT b)

/-- To a receive queue; a frame that finds it full is discarded. -/
def toQueue (s : State) (b : Fin 4) (q : Nat) (f : CanFrame) (unf : Bool) : State :=
  let n := s.queueSize b q
  let count := s.get (CAN.QUEUE_STAT_COUNT b q)
  if n ≤ count then (s.lost b).raise (pgCAN b) 8 else
  match (s.elements b 3 (some q))[(s.get (CAN.QUEUE_STAT_HEAD b q) + count) % n]? with
  | none => s
  | some e =>
    if e.2.2 < f.data.length then s.lost b else
      let s := (s.copyFrame b e f unf).set (CAN.QUEUE_STAT_COUNT b q) (count + 1)
      (s.setB (CAN.QUEUE_STAT_FULL b q) (count + 1 == n)).raise (pgCAN b) 0

def toMailbox (s : State) (b : Fin 4) (i : Nat) (f : CanFrame) : State :=
  match s.mailbox b i with
  | none => s
  | some e =>
    if e.2.2 < f.data.length then s.lost b else
      ((s.copyFrame b e f false).setB ⟨(CAN.ND b (i / 32)).addr, i % 32, 1⟩ true).raise (pgCAN b) 0

/-- A telegram for SC (R415): data bytes 0 to 39, which wait for SC's next tick. -/
def toSc (s : State) (b : Fin 4) (f : CanFrame) : State :=
  if f.fmt ≠ 0 ∧ 40 ≤ f.data.length then
    { s with stl := { s.stl with rx := s.stl.rx ++ [(f.data.take 40, if f.fmt = 1 then Carrier.canFd b else Carrier.canXl b)] } }
  else s

def acceptFrame (s : State) (b : Fin 4) (f : CanFrame) : State :=
  match (List.range (s.get (CAN.RULES_COUNT b))).find? (fun k => s.ruleTakes b k f) with
  | some k =>
    let w0 := s.ruleWord b k 0
    match fieldOf w0 6 3 with
    | 1 => s.toQueue b (fieldOf w0 9 6) f false
    | 2 => s.toMailbox b (fieldOf w0 9 6) f
    | 3 => s.toSc b f
    | _ => s
  | none =>
    let nm := s.get (CAN.CFG_NOMATCH b)
    if 1 ≤ nm ∧ nm ≤ 4 then s.toQueue b (nm - 1) f true else s

/-! ### Fault confinement (R412, R413) -/

def busOn (s : State) (b : Fin 4) : Bool := s.pageOn (pgCAN b) && (s.get (CAN.STAT_BUS b) == 2 || s.get (CAN.STAT_BUS b) == 3)

/-- An EVENT record of bus-off; its code and arguments are not stated, so they are free (log entry 47). -/
def busOffEvent (s : State) (b : Fin 4) : State :=
  let w (k : Nat) : Nat := (Config.freeWord (s.free + k)).toNat
  ({ s with free := s.free + 4 }).event (w 0 % 65536) 9 b (w 1) (w 2) (w 3) 8

/-- EW, error-passive and bus-off follow the counters. -/
def confine (s : State) (b : Fin 4) : State :=
  let tec := s.get (CAN.ERR_CNT_TEC b)
  let rec_ := s.get (CAN.ERR_CNT_REC b)
  let ew := decide (s.get (CAN.LIMITS_WARN_TH b) ≤ max tec rec_)
  let s := if s.on (CAN.STAT_EW b) == ew then s else (s.setB (CAN.STAT_EW b) ew).raise (pgCAN b) 4
  let bus := s.get (CAN.STAT_BUS b)
  if bus ≠ 2 ∧ bus ≠ 3 then s
  else if 255 < tec then
    (((s.set (CAN.STAT_BUS b) 4).raise (pgCAN b) 6).inc (CAN.BO_CNT b)).busOffEvent b
  else if 128 ≤ max tec rec_ then (if bus = 3 then s else (s.set (CAN.STAT_BUS b) 3).raise (pgCAN b) 5)
  else s.set (CAN.STAT_BUS b) 2

/-- An acknowledged frame, sent or received (R413). -/
def acked (s : State) (b : Fin 4) : State := (s.set (CAN.ACK_RUN_RUN b) 0).setB (CAN.STAT_ALONE b) false

def setErr (s : State) (b : Fin 4) (err : Nat) (data : Bool) : State :=
  s.set (if data then CAN.STAT_LAST_DERR b else CAN.STAT_LAST_ERR b) err

/-- An error seen while receiving: REC + 1. -/
def rxError (s : State) (b : Fin 4) (err : Nat) (data : Bool) : State :=
  ((s.setErr b err data).set (CAN.ERR_CNT_REC b) (min 255 (s.get (CAN.ERR_CNT_REC b) + 1))).confine b

/-- A good reception lowers REC by 1; from above 127 ISO 11898-1 sets it to a value from 119 to 127, which is free. -/
def rxGood (s : State) (b : Fin 4) : State :=
  let r := s.get (CAN.ERR_CNT_REC b)
  let s := if 127 < r then (s.set (CAN.ERR_CNT_REC b) (119 + s.freeWord.toNat % 9)).bumpFree else s.set (CAN.ERR_CNT_REC b) (r - 1)
  ((s.inc (CAN.RX_CNT b)).acked b).confine b

/-- The level of CANn_RX is recessive again: cause 2 is no longer present. -/
def rxAlive (s : State) (b : Fin 4) : State := if s.get (CAN.FAULT_CAUSE b) = 2 then s.setB (CAN.FAULT_ACTIVE b) false else s

def receive (s : State) (b : Fin 4) (f : CanFrame) : State :=
  let mode := s.get (CAN.CFG_MODE b)
  if f.fmt.val ≤ mode then (s.rxGood b).acceptFrame b f
  else if mode = 1 ∧ s.on (CAN.CFG_PXHD b) then
    (((s.inc (CAN.PXE_CNT b)).raise (pgCAN b) 9).setErr b 7 false).set (CAN.STAT_BUS b) 1
  else s.rxError b 2 false

/-! ### Transmission (R409 to R411) -/

def bufBit (f : Nat → Nat → Fld) (b : Fin 4) (buf : Nat) : Fld := ⟨(f b (buf / 32)).addr, buf % 32, 1⟩
def txReqF (b : Fin 4) (buf : Nat) : Fld := bufBit CAN.TX_REQ b buf

def bufFrame (s : State) (b : Fin 4) (buf : Nat) : Option CanFrame :=
  (s.txBuf b buf).map (fun e =>
    let w0 := s.readElem b e 0
    txFrame w0 (s.readElem b e 1) (s.readElem b e 3) (s.readData b e (fieldOf w0 16 12)))

/-- An entry of the transmit log (R405, R408). -/
def logTx (s : State) (b : Fin 4) (buf outcome err : Nat) : State :=
  match s.txBuf b buf with
  | none => s
  | some e =>
    let w2 := s.readElem b e 2
    if fieldOf w2 8 1 = 0 then s else
      let n := s.logSize b
      let count := s.get (CAN.TLOG_STAT_COUNT b)
      if n ≤ count then s.lost b else
      match (s.elements b 4 none)[(s.get (CAN.TLOG_STAT_HEAD b) + count) % n]? with
      | none => s
      | some l =>
        let t := ((s.writeElem b l 0 (s.readElem b e 0)).writeElem b l 1 (s.readElem b e 1)).writeElem b l 3 (s.readElem b e 3)
        let t := t.writeElem b l 2 (BitVec.ofNat 32 (fieldOf w2 0 8 + 256 * outcome + 1024 * err + 65536 * buf))
        (t.set (CAN.TLOG_STAT_COUNT b) (count + 1)).setB (CAN.TLOG_STAT_FULL b) (count + 1 == n)

/-- Whether the buffer's request fails at once (R397, R409); a buffer that no page holds has no capacity. -/
def badFormat (s : State) (b : Fin 4) (buf : Nat) : Bool :=
  match s.txBuf b buf with
  | none => true
  | some e =>
    let w0 := s.readElem b e 0
    let fmt := fieldOf w0 14 2
    let len := fieldOf w0 16 12
    decide (min 2 (s.get (CAN.CFG_MODE b)) < fmt) || (fmt == 2 && len == 0) || decide (e.2.2 < len) || (fmt == 1 && fieldOf w0 9 1 == 1)

/-- The pending buffer that would win arbitration, the lower number among equals. -/
def bestBuf (s : State) (b : Fin 4) : Option Nat :=
  let pend := (List.range 64).filterMap (fun i => if s.on (txReqF b i) then (s.bufFrame b i).map (fun f => (arbKey f, i)) else none)
  match pend with
  | [] => none
  | p :: ps => some (ps.foldl (fun best q => if q.1 < best.1 then q else best) p).2

/-- A request has ended: the next frame is offered; a disabled controller has left the bus (R402). -/
def nextTx (s : State) (b : Fin 4) : State :=
  let nx := s.bestBuf b
  let s := if s.can[b].last && !s.pageOn (pgCAN b) then s.set (CAN.STAT_BUS b) 0 else s
  s.modCan b (fun e => { e with cur := nx, last := false })

/-- The failed attempts of a buffer's request (R410). -/
def failsOf (s : State) (b : Fin 4) (buf : Nat) : Nat := ((s.can[b].fails.find? (fun p => p.1 == buf)).map (·.2)).getD 0

/-- The request bit of a buffer goes, and what its end sets. -/
def endTx (s : State) (b : Fin 4) (buf : Nat) (res : Nat → Nat → Fld) : State :=
  let late := s.can[b].late.contains buf
  let s := ((s.setB (txReqF b buf) false).setB (bufBit res b buf) true)
  let s := if late then s.setB (bufBit CAN.CANCEL_LATE b buf) true else s
  let s := s.modCan b (fun e => { e with late := e.late.filter (· != buf), fails := e.fails.filter (fun p => p.1 != buf) })
  if s.can[b].cur = some buf then s.nextTx b else s

/-- The controller may send: enabled, error-active or -passive, on an ACTIVE unit, not monitoring, no stop by cause 2; or the last frame
on the bus completes (R402). -/
def maySend (s : State) (b : Fin 4) : Bool :=
  s.can[b].last || (s.busOn b && s.active && s.get (CAN.CFG_OPMODE b) != 1 && s.get (CAN.FAULT_CAUSE b) != 2)

/-- A request (R409). The first of an idle controller is on the bus at once, and a later one does not displace it (log entry 48); while
the controller cannot send, the best of the pending frames is the one on offer. -/
def requestTx (s : State) (b : Fin 4) (buf : Nat) : State :=
  if s.badFormat b buf then
    let s := ((s.setB (bufBit CAN.TX_FAIL b buf) true).setErr b 8 false).raise (pgCAN b) 2
    s.logTx b buf 3 8
  else
    let s := s.setB (txReqF b buf) true
    if (s.can[b].cur).isNone then s.modCan b (fun e => { e with cur := some buf })
    else if s.maySend b then s
    else
      let nx := s.bestBuf b
      s.modCan b (fun e => { e with cur := nx })

/-- A buffer that carries telegrams (R415). -/
def reserved (s : State) (b : Fin 4) (buf : Nat) : Bool :=
  (List.range 8).any (fun j => s.on (CAN.STLBUF_EN b j) && s.get (CAN.STLBUF_BUF b j) == buf)

def cancelTx (s : State) (b : Fin 4) (buf : Nat) (won : Bool) : State :=
  if !s.on (txReqF b buf) then s
  else if won && s.can[b].cur == some buf then s.modCan b (fun e => { e with late := buf :: e.late.filter (· != buf) })
  else (s.logTx b buf 2 0).endTx b buf CAN.CANCELLED

/-- The loop delay measured at the res edge of a frame with a data phase (R401): its value is free; TDCV ends at 127. -/
def measureDelay (s : State) (b : Fin 4) (f : CanFrame) : State :=
  let brp := s.get (if f.fmt = 2 then CAN.XBT_BRP b else CAN.DBT_BRP b)
  if f.fmt = 0 || !s.on (CAN.TDC_EN b) || decide (2 < brp) then s
  else
    let d := s.freeWord.toNat % 256
    ((s.set (CAN.STAT_TDCV b) (min 127 d)).setB (CAN.STAT_TDC_SAT b) (decide (127 < d))).bumpFree

/-- The frame on offer has been sent and acknowledged (R411, R413). -/
def txSent (s : State) (b : Fin 4) : State :=
  match s.can[b].cur with
  | none => s
  | some buf =>
    match s.bufFrame b buf with
    | none => s
    | some f =>
      let s := ((s.measureDelay b f).set (CAN.ERR_CNT_TEC b) (s.get (CAN.ERR_CNT_TEC b) - 1)).acked b
      let s := ((s.raise (pgCAN b) 1).inc (CAN.TX_CNT b)).logTx b buf 1 0
      let s := (s.endTx b buf CAN.TX_DONE).confine b
      if s.get (CAN.CFG_OPMODE b) = 2 then s.receive b f else s.emit (.canFrame b f)

/-- TEC and ACK_RUN after a failed attempt (R412, R413). -/
def txCounters (s : State) (b : Fin 4) (err : Nat) (data : Bool) : State :=
  let passive := s.get (CAN.STAT_BUS b) == 3
  let s := s.setErr b err data
  let s := if passive && err == 3 then s else s.set (CAN.ERR_CNT_TEC b) (min 256 (s.get (CAN.ERR_CNT_TEC b) + 8))
  if err = 3 then
    let s := s.add (CAN.ACK_RUN_RUN b) 1
    if s.get (CAN.ACK_RUN_RUN b) = 16 then (s.setB (CAN.STAT_ALONE b) true).raise (pgCAN b) 7 else s
  else s

/-- The measurement of an attempt that fails in its data phase. -/
def measureAttempt (s : State) (b : Fin 4) (buf : Nat) : State :=
  match s.bufFrame b buf with
  | some f => s.measureDelay b f
  | none => s

/-- A failed attempt of the frame on offer (R410): it is tried again, or another pending frame that now wins arbitration is (R409). An
error in the data phase follows the edge of the loop-delay measurement (R401). -/
def txFailed (s : State) (b : Fin 4) (err : Nat) (data : Bool) : State :=
  match s.can[b].cur with
  | none => s
  | some buf =>
    let s := if data then s.measureAttempt b buf else s
    let s := s.txCounters b err data
    let max := s.get (CAN.CFG_RETRY_MAX b)
    let k := s.failsOf b buf + 1
    let s := s.modCan b (fun e => { e with fails := (buf, k) :: e.fails.filter (fun p => p.1 != buf) })
    let s := if s.can[b].late.contains buf || s.can[b].last then (s.logTx b buf 2 err).endTx b buf CAN.CANCELLED
      else if max ≠ 15 ∧ max < k then
        let s := ((s.raise (pgCAN b) 2).raiseIf (err == 3) (pgCAN b) 3).logTx b buf 3 err
        s.endTx b buf CAN.TX_FAIL
      else
        let nx := s.bestBuf b
        s.modCan b (fun e => { e with cur := nx })
    s.confine b

/-- XE places a telegram of a connection (R415). -/
def placeTelegram (s : State) (b : Fin 4) (j : Nat) (xl : Bool) (bytes : List Byte) : State :=
  if !s.pageOn (pgCAN b) || !s.on (CAN.STLBUF_EN b j) || decide (s.get (CAN.CFG_MODE b) < (if xl then 2 else 1)) then s else
  let buf := s.get (CAN.STLBUF_BUF b j)
  match s.txBuf b buf with
  | none => s
  | some e =>
    let s := s.writeElem b e 0 (fieldPut (s.readElem b e 0) 16 12 40)
    let s := s.writeElem b e 2 (fieldPut (s.readElem b e 2) 8 1 0)
    (writeData 10 s b e 4 bytes).requestTx b buf

/-- Every request that has not started is cancelled: the unit leaves ACTIVE, or the page is disabled (R402). Whether the frame on offer
is on the bus is free; one that is completes (log entry 131). -/
def cancelAll (s : State) (b : Fin 4) : State :=
  let started := (s.can[b].cur).isSome && s.maySend b && s.freeWord.getLsbD 0
  let cur := s.can[b].cur
  let s := (s.modCan b (fun e => { e with last := started })).bumpFree
  (List.range 64).foldl (fun (s : State) (i : Nat) => if started && cur == some i then s else s.cancelTx b i false) s

/-- STAT.MONITOR and TDC_ACT follow the role and the settings (R401, R402). -/
def showCan (s : State) (b : Fin 4) : State :=
  let mon := s.pageOn (pgCAN b) && (!s.active || s.get (CAN.CFG_OPMODE b) == 1)
  let brp := if s.get (CAN.CFG_MODE b) = 2 then s.get (CAN.XBT_BRP b) else s.get (CAN.DBT_BRP b)
  let tdc := s.pageOn (pgCAN b) && s.on (CAN.TDC_EN b) && 1 ≤ s.get (CAN.CFG_MODE b) && brp ≤ 2
  (s.setB (CAN.STAT_MONITOR b) mon).setB (CAN.STAT_TDC_ACT b) tdc

/-- A CAN fault (R416). -/
def canFault (s : State) (b : Fin 4) (cause : Nat) (active : Bool) (loc : Word) (kind : Nat) : State :=
  let s := (s.set (CAN.FAULT b) (cause + 256 * active.toNat)).set (CAN.FAULT_LOC b) loc.toNat
  (s.raise (pgCAN b) 10).logFault (pgCAN b) cause loc kind 0 (s.get (CAN.FAULT b)) none

/-- A release of a ring (R408): 1 to COUNT elements, otherwise ignored with CFG_REJ. -/
def releaseRing (s : State) (b : Fin 4) (count head full : Fld) (size offs n : Nat) : State :=
  if n = 0 ∨ s.get count < n then s.reject (pgCAN b) offs
  else ((s.set count (s.get count - n)).set head ((s.get head + n) % max 1 size)).setB full false

end State

/-! ### Meanings -/

/-- R398, R406 to R408. -/
def execCanFrameReceived (b : Fin 4) (f : CanFrame) (s : State) : Host.Outcome State Fault Refusal :=
  .next (s.whenRunning fun s => if s.busOn b then (s.rxAlive b).receive b f else s)

/-- R409; a reserved buffer is the connection's (R415). -/
def execCanTxReq (b : Fin 4) (buf : Fin 64) (s : State) : Host.Outcome State Fault Refusal :=
  .next (s.whenRunning fun s =>
    if s.reserved b buf then s.reject (pgCAN b) (0x0D0 + 4 * (buf.val / 32))
    else if s.pageOn (pgCAN b) then s.requestTx b buf else s)

/-- R411; `won`: the frame has won arbitration. -/
def execTxCancel (b : Fin 4) (buf : Fin 64) (won : Bool) (s : State) : Host.Outcome State Fault Refusal :=
  .next (s.whenRunning fun s =>
    if s.reserved b buf then s.reject (pgCAN b) (0x0D8 + 4 * (buf.val / 32)) else s.cancelTx b buf won)

/-- R411, R413. -/
def execCanTxComplete (b : Fin 4) (s : State) : Host.Outcome State Fault Refusal :=
  .next (s.whenRunning fun s => if s.maySend b then (s.rxAlive b).txSent b else s)

/-- R410, R412. -/
def execCanTxError (b : Fin 4) (err : Fin 8) (data : Bool) (s : State) : Host.Outcome State Fault Refusal :=
  .next (s.whenRunning fun s => if s.maySend b then s.txFailed b err data else s)

/-- R412: a bus error detected while receiving. -/
def execCanRxError (b : Fin 4) (err : Fin 8) (data : Bool) (s : State) : Host.Outcome State Fault Refusal :=
  .next (s.whenRunning fun s => if s.busOn b then s.rxError b err data else s)

/-- R414: with BO_AUTO = 0, in bus-off. -/
def execBoRecover (b : Fin 4) (s : State) : Host.Outcome State Fault Refusal :=
  .next (s.whenRunning fun s =>
    if s.get (CAN.STAT_BUS b) = 4 ∧ !s.on (CAN.CFG_BO_AUTO b) then s.set (CAN.STAT_BUS b) 5 else s)

/-- R414: with BO_AUTO = 1. -/
def execBoDelayExpired (b : Fin 4) (s : State) : Host.Outcome State Fault Refusal :=
  .next (s.whenRunning fun s => if s.get (CAN.STAT_BUS b) = 4 ∧ s.on (CAN.CFG_BO_AUTO b) then s.set (CAN.STAT_BUS b) 5 else s)

/-- R414. -/
def execBusOffRecoveryDone (b : Fin 4) (s : State) : Host.Outcome State Fault Refusal :=
  .next (s.whenRunning fun s =>
    if s.get (CAN.STAT_BUS b) = 5 then ((s.set (CAN.ERR_CNT b) 0).set (CAN.STAT_BUS b) 2).confine b else s)

/-- R402: 11 recessive bits; an enabled controller joins the bus. -/
def execCanIntegrated (b : Fin 4) (s : State) : Host.Outcome State Fault Refusal :=
  .next (s.whenRunning fun s =>
    if s.pageOn (pgCAN b) && s.get (CAN.STAT_BUS b) == 1 then (((s.rxAlive b).set (CAN.STAT_BUS b) 2).confine b) else s)

/-- R408. -/
def execQueueRel (b : Fin 4) (q : Fin 4) (w : Word) (s : State) : Host.Outcome State Fault Refusal :=
  .next (if s.ready then
    s.releaseRing b (CAN.QUEUE_STAT_COUNT b q) (CAN.QUEUE_STAT_HEAD b q) (CAN.QUEUE_STAT_FULL b q) (s.queueSize b q) (0x10C + 8 * q.val)
      (fieldOf w 0 11)
  else s)

/-- R408. -/
def execTlogRel (b : Fin 4) (w : Word) (s : State) : Host.Outcome State Fault Refusal :=
  .next (if s.ready then
    s.releaseRing b (CAN.TLOG_STAT_COUNT b) (CAN.TLOG_STAT_HEAD b) (CAN.TLOG_STAT_FULL b) (s.logSize b) 0x12C (fieldOf w 0 11)
  else s)

/-- R416: cause 2; the controller stops sending until CLR. -/
def execCanRxStuck (b : Fin 4) (s : State) : Host.Outcome State Fault Refusal :=
  .next (s.whenRunning fun s => if s.pageOn (pgCAN b) then s.canFault b 2 true (locBlock 0 9 (26 + b.val)) 2 else s)

/-- R417: clears a fault whose ACTIVE = 0. -/
def execCanClr (b : Fin 4) (s : State) : Host.Outcome State Fault Refusal :=
  .next (if s.ready && !s.on (CAN.FAULT_ACTIVE b) then (s.set (CAN.FAULT b) 0).set (CAN.FAULT_LOC b) 0 else s)

end Sys2Proof.Machine
end

