-- ==== Sys2Proof/Machine/MvbBus.lean ====
section
/-! DEFINITION. The MVB device (R418 to R424): master and slave frames, line redundancy, port data and its window, and the meanings of
the MVB commands of "CAN and MVB Interfaces". -/

namespace Sys2Proof.Machine

/-- Bytes of a port by its F-code. -/
def portSize (fcode : Nat) : Nat := 2 * 2 ^ fcode

namespace State

def modMvb (s : State) (g : Mvb → Mvb) : State := { s with mvb := g s.mvb }

def mvbOn (s : State) : Bool := s.pageOn 0x48

/-- Slave frames are allowed (R423): the page enabled, on an ACTIVE unit; the power states are those of `running`. -/
def showMvb (s : State) : State := s.setB MVB.STAT_TX_ON (s.mvbOn && s.active)

def portData (s : State) (k : Nat) : List Byte := ((s.mvb.ports.find? (fun p => p.1 == k)).map (·.2)).getD []

/-- The data of a port, as many bytes as its F-code says. -/
def portBytes (s : State) (k : Nat) : List Byte :=
  let n := portSize (s.get (MVB.PORT_CFG_FCODE k))
  (s.portData k ++ List.replicate n 0).take n

def setPort (s : State) (k : Nat) (bytes : List Byte) : State :=
  s.modMvb (fun m => { m with ports := (k, bytes) :: m.ports.filter (fun p => p.1 != k) })

/-- The enabled port of a direction and F-code with an address. -/
def portAt (s : State) (dir fcode addr : Nat) : Option Nat :=
  (List.range 256).find? (fun k => s.get (MVB.PORT_CFG_DIR k) == dir && s.get (MVB.PORT_CFG_FCODE k) == fcode &&
    s.get (MVB.PORT_CFG_PORT_ADDR k) == addr)

/-- Two enabled ports with one address (R420). -/
def portClash (s : State) : Bool :=
  (List.range 256).any (fun i => s.get (MVB.PORT_CFG_DIR i) != 0 && (List.range i).any (fun j =>
    s.get (MVB.PORT_CFG_DIR j) != 0 && s.get (MVB.PORT_CFG_PORT_ADDR i) == s.get (MVB.PORT_CFG_PORT_ADDR j)))

/-- What an enabled line carried; check errors and valid frames are counted, a valid frame makes the line OK (R419). -/
def lineSample (s : State) (b : Bool) (f : LineFrame) : State :=
  if !s.on (if b then MVB.CFG_LINE_B_EN else MVB.CFG_LINE_A_EN) then s else
  match f with
  | .none => s
  | .bad => s.inc (if b then MVB.ERR_B else MVB.ERR_A)
  | .good => s.setB (if b then MVB.STAT_B_OK else MVB.STAT_A_OK) true

def heard (s : State) (b : Bool) (f : LineFrame) : Bool :=
  s.on (if b then MVB.CFG_LINE_B_EN else MVB.CFG_LINE_A_EN) && f == .good

/-- The trusted line, judged at each master frame: two in succession that only the other line carried switch it (R419). -/
def trust (s : State) (a b : LineFrame) : State :=
  let t := s.on MVB.STAT_TRUSTED
  let own := s.heard t (if t then b else a)
  let other := s.heard (!t) (if t then a else b)
  let k := if !own && other then s.mvb.missed + 1 else 0
  if 2 ≤ k then (((s.setB MVB.STAT_TRUSTED (!t)).inc MVB.SWITCH_CNT).raise 0x48 2).modMvb (fun m => { m with missed := 0 })
  else s.modMvb (fun m => { m with missed := k })

/-- Whether the trusted line carried the frame. -/
def taken (s : State) (a b : LineFrame) : Bool := s.heard (s.on MVB.STAT_TRUSTED) (if s.on MVB.STAT_TRUSTED then b else a)

/-- The device-status word (R422): the bit places of its flags are those of IEC 61375-3-1 (log entry 49). -/
def deviceStatus (s : State) : Nat :=
  let t := s.on MVB.STAT_TRUSTED
  256 * s.get MVB.DS_USER_CLASS + 128 * (!t).toNat + 64 * (!s.on (if t then MVB.STAT_A_OK else MVB.STAT_B_OK)).toNat +
  32 * s.get MVB.DS_USER_SSD + 16 * s.get MVB.DS_USER_SDD + 2 * s.get MVB.STAT_DNR

/-- A master frame (R418, R420): the device answers its own source port or device address, or waits for a sink port's slave frame. -/
def masterFrame (s : State) (fcode addr : Nat) : State :=
  let s := s.inc MVB.FRAME_CNT
  if fcode = 15 then
    let s := s.modMvb (fun m => { m with master := none })
    if addr = s.get MVB.CFG_DEV_ADDR ∧ s.on MVB.STAT_TX_ON then
      let w := s.deviceStatus
      s.emit (.mvbSlave [BitVec.ofNat 8 (w / 256), BitVec.ofNat 8 w])
    else s
  else if 4 < fcode then s.modMvb (fun m => { m with master := none })
  else
    let s := s.modMvb (fun m => { m with master := some (fcode, addr) })
    match s.portAt 1 fcode addr with
    | some k => if s.on MVB.STAT_TX_ON then s.emit (.mvbSlave (s.portBytes k)) else s
    | none => s

/-- ACTIVE while an enabled line does not carry the device's own slave frame (R423). -/
def muteLine (s : State) (b m : Bool) : State :=
  let s := s.modMvb (fun x => { x with mute := if b then (x.mute.1, m) else (m, x.mute.2) })
  s.setB MVB.FAULT_ACTIVE (s.mvb.mute.1 || s.mvb.mute.2)

/-- An enabled line that does not carry the device's own slave frame: fault cause 1, recorded when it begins (R423). -/
def ownFrame (s : State) (b : Bool) (f : LineFrame) : State :=
  if s.on (if b then MVB.CFG_LINE_B_EN else MVB.CFG_LINE_A_EN) && f != .good then
    if (if b then s.mvb.mute.2 else s.mvb.mute.1) then s else
    let loc := locCode 0 9 30 b.toNat 1023 0
    let s := (((s.muteLine b true).set MVB.FAULT_CAUSE 1).set MVB.FAULT_LOC loc.toNat).raise 0x48 3
    s.logFault 0x48 1 loc 2 0 (s.get MVB.FAULT) none
  else s.muteLine b false

/-- A slave frame (R420, R423). -/
def slaveFrame (s : State) (a b : LineFrame) (data : List Byte) : State :=
  match s.mvb.master with
  | none => s
  | some (fcode, addr) =>
    let s := s.modMvb (fun m => { m with master := none })
    if (s.portAt 1 fcode addr).isSome && s.on MVB.STAT_TX_ON then (s.ownFrame false a).ownFrame true b
    else if !s.taken a b then s
    else
      let s := s.inc MVB.FRAME_CNT
      match s.portAt 2 fcode addr with
      | none => s
      | some k =>
        let s := (s.setPort k (data.take (portSize fcode))).modMvb (fun m => { m with
            fresh := (k, s.clk32) :: m.fresh.filter (fun p => p.1 != k) })
        if s.on (MVB.PORT_CFG_NOTIFY k) then (s.setB ⟨(MVB.UPD (k / 32)).addr, k % 32, 1⟩ true).raise 0x48 0 else s

/-- ms since the last valid update, saturating; a port never updated shows the highest count (log entry 49). -/
def portAge (s : State) (k : Nat) : Nat :=
  match s.mvb.fresh.find? (fun p => p.1 == k) with
  | some (_, t) => min 65535 ((s.clk32 - t) * 125 / 4096)
  | none => 65535

end State

/-! ### Meanings -/

/-- R418, R419. -/
def execMvbMasterFrame (a b : LineFrame) (fcode : Fin 16) (addr : BitVec 12) (s : State) : Host.Outcome State Fault Refusal :=
  .next (s.whenRunning fun s =>
    if !s.mvbOn then s else
      let s := ((s.lineSample false a).lineSample true b).trust a b
      if s.taken a b then s.masterFrame fcode addr.toNat else s.modMvb (fun m => { m with master := none }))

/-- R420. -/
def execMvbSlaveFrame (a b : LineFrame) (data : List Byte) (s : State) : Host.Outcome State Fault Refusal :=
  .next (s.whenRunning fun s =>
    if !s.mvbOn then s else ((s.lineSample false a).lineSample true b).slaveFrame a b data)

/-- R419: 100 ms without a valid frame; false is line A. -/
def execMvbLineTimeout (line : Bool) (s : State) : Host.Outcome State Fault Refusal :=
  .next (s.whenRunning fun s => s.setB (if line then MVB.STAT_B_OK else MVB.STAT_A_OK) false)

/-- R420: the freshness count of a sink port passes FRESH_MAX. -/
def execPortFreshnessTimeout (k : Fin 256) (s : State) : Host.Outcome State Fault Refusal :=
  .next (s.whenRunning fun s =>
    if s.mvbOn && s.get (MVB.PORT_CFG_DIR k) == 2 && s.get (MVB.PORT_CFG_FRESH_MAX k) != 0 then
      (s.setB ⟨(MVB.FRESH (k / 32)).addr, k % 32, 1⟩ true).raise 0x48 1
    else s)

/-- R421: the window takes data and freshness of port PORT_SEL. -/
def execMvbPortSnap (s : State) : Host.Outcome State Fault Refusal :=
  .next (if !s.ready then s else
    let k := s.get MVB.PORT_SEL_PORT
    let s := s.resClear MVB.PORT_STAT
    let bytes := s.portBytes k
    let s := (List.range 8).foldl (fun (s : State) (i : Nat) => s.set (MVB.PORT_DATA i) (ofLeBytes ((bytes.drop (4 * i)).take 4))) s
    (s.set MVB.PORT_FRESH_T (s.portAge k)).resDone MVB.PORT_STAT false)

/-- R421: the window goes into source port PORT_SEL; another port is left alone, with CFG_REJ. The first COMMIT ends DNR (R422). -/
def execMvbPortCommit (s : State) : Host.Outcome State Fault Refusal :=
  .next (if !s.ready then s else
    let k := s.get MVB.PORT_SEL_PORT
    if s.get (MVB.PORT_CFG_DIR k) ≠ 1 then s.reject 0x48 0x064 else
      let bytes := (List.range 8).flatMap (fun i => wordBytes (s.word (MVB.PORT_DATA i).addr))
      (s.setPort k (bytes.take (portSize (s.get (MVB.PORT_CFG_FCODE k))))).setB MVB.STAT_DNR false)

end Sys2Proof.Machine
end

