-- ==== Sys2Proof/Machine/Telegrams.lean ====
section
/-! DEFINITION. Shazouk telegrams (R272 to R289): the check value, the receive checks, connection states, sequences, STATUS, the host
windows, the tick of SC with its telegram work, and the meanings of the commands of "Shazouk Safe Telegrams". -/

namespace Sys2Proof.Machine

/-! ### The check value (R275) -/

def shazoukBits : Nat → Word → Word
  | 0, c => c
  | k + 1, c => shazoukBits k (if c.msb then (c <<< 1) ^^^ 0xF4ACFB13#32 else c <<< 1)

def shazoukByte (c : Word) (b : Byte) : Word := shazoukBits 8 (c ^^^ (b.setWidth 32 <<< 24))

/-- The CRC-32 of R275 over bytes, seeded with the connection identity. -/
def shazoukCrc (seed : Word) (bs : List Byte) : Word := bs.foldl shazoukByte seed

/-- A little-endian field of a telegram. -/
def telField (t : List Byte) (pos len : Nat) : Nat := ofLeBytes ((t.drop pos).take len)

/-- SEQ + 1, which passes from 0xFFFF_FFFF to 1 (R276). -/
def seqNext (x : Nat) : Nat := if x = 2 ^ 32 - 1 then 1 else x + 1

/-- A raised ceiling, modulo 2³², skipping 0 (R276). -/
def ceilAdd (c k : Nat) : Nat := if c + k < 2 ^ 32 then c + k else (c + k) % 2 ^ 32 + 1

def seqDiff (a b : Nat) : Nat := (a + 2 ^ 32 - b) % 2 ^ 32

namespace State

def modStl (s : State) (g : Stl → Stl) : State := { s with stl := g s.stl }
def modConn (s : State) (j : Fin 8) (g : Conn → Conn) : State := s.modStl (fun x => { x with conn := x.conn.set j (g x.conn[j]) })

def stlOn (s : State) : Bool := s.pageOn 0x0A
def ownId (s : State) : Nat := s.scGet STL.NODE_OWN_ID
def connState (s : State) (j : Nat) : Nat := s.get (STL.CONN_STAT_STATE j)

def setConn (s : State) (j : Fin 8) (st : Nat) : State :=
  ((s.set (STL.CONN_STAT_STATE j) st).set (STL.STAT_CONN j) st).modConn j (fun c => { c with since := s.sc.tick, jumps := 0 })

/-- The connection's values allow it: in use, a defined carrier, an identity, two different ids (R273). -/
def connGood (s : State) (j : Nat) : Bool :=
  s.scOn (STL.CONN_CFG_EN j) && s.scGet (STL.CONN_CFG_CARRIER j) != 3 && s.scGet (STL.CONN_ID j) != 0 &&
    s.ownId != s.scGet (STL.CONN_CFG_PEER_ID j)

def carrierOf (s : State) (j : Nat) : Carrier :=
  match s.scGet (STL.CONN_CFG_CARRIER j) with
  | 1 => .canFd (fin4 (s.scGet (STL.CONN_CFG_CAN j)))
  | 2 => .canXl (fin4 (s.scGet (STL.CONN_CFG_CAN j)))
  | _ => .host

/-! ### Connection starts (R276, R282) -/

/-- Every entry to CONNECTING: SESSION + 1, the first SEQ above the ceiling, the ceiling raised. -/
def startConn (s : State) (j : Fin 8) : State :=
  let c := s.get (STL.CONN_SEQ_CEIL j)
  let s := (s.incWrap STL.SESSION_SESSION).set (STL.CONN_SEQ_CEIL j) (ceilAdd c 65536)
  (s.modConn j (fun x => { x with next := seqNext c, partner := [] })).setConn j 1

/-- CMD_SEQ and RESULT change together, once every doorway has its result (log entry 50). -/
def settleCmd (s : State) (j : Fin 8) : State :=
  let c := s.stl.conn[j]
  if c.waits = 0 then s.modConn j (fun c => { c with cmdSeq := c.newSeq, result := c.newRes }) else s

def putResult (s : State) (j : Fin 8) (n r : Nat) : State :=
  s.modConn j (fun c => { c with newRes := c.newRes - c.newRes / 16 ^ n % 16 * 16 ^ n + r * 16 ^ n })

/-- A command of a connection that a doorway has not taken is dropped, with result 10 (R281, R278). -/
def dropOffer (s : State) (j n : Fin 8) : State :=
  let mine (o : Offer) : Bool := o.src == .telegram && o.conn == j.val
  if !s.dw[n].offers.any mine then s else
    ((s.modDw n (fun e => { e with offers := e.offers.filter (fun o => !mine o) })).putResult j n 10).modConn j
      (fun c => { c with waits := if c.waits.testBit n then c.waits - 2 ^ n.val else c.waits })

def dropOffers (s : State) (j : Fin 8) : State :=
  ((List.range 8).foldl (fun (s : State) (n : Nat) => s.dropOffer j (fin8 n)) s).settleCmd j

/-- A connection timeout (R281): CONNECTING, S5, TMO_CNT, EVENT 6 with the state entered. -/
def connTimeout (s : State) (j : Fin 8) : State :=
  if s.connState j < 2 then s else
    let seq := s.get (STL.CONN_TX_SEQ j)
    let s := (s.dropOffers j).startConn j
    let s := (s.raise 0x0A 1).inc STL.TMO_CNT
    s.event 6 9 j (s.connState j) (s.get (STL.CONN_RX_SEQ j)) seq 8

/-! ### Sending (R274, R276, R278) -/

/-- The STATUS payload, from SC's own samples. -/
def statusPayload (s : State) (j : Fin 8) : List Byte :=
  let nibbles (f : Nat → Nat) : Nat := (List.range 8).foldl (fun m n => m + f n % 16 * 16 ^ n) 0
  let bits (f : Nat → Bool) : Nat := (List.range 8).foldl (fun m n => m + (f n).toNat * 2 ^ n) 0
  let c := s.stl.conn[j]
  leBytes 4 (nibbles (fun n => s.get (DW.STATE_DW_STATE n))) ++
  leBytes 1 (bits (fun n => s.on (DW.STATE_DEGRADED n))) ++
  leBytes 1 (s.get TIL.PROVEN_DOOR) ++
  leBytes 1 ((s.on TIL.STAT_TRAC_REL).toNat + 2 * (s.on TIL.STAT_ZERO_SPEED).toNat + 4 * (s.on TIL.STAT_REL_L).toNat +
    8 * (s.on TIL.STAT_REL_R).toNat + 16 * (s.on TIL.STAT_DCL).toNat + 32 * (s.on TIL.STAT_TRAIN_LOOP).toNat +
    64 * s.active.toNat + 128 * s.scRun.toNat) ++
  leBytes 1 (bits (fun n => s.get (DW.STATE_STEP_STATE n) != 0)) ++
  leBytes 4 c.cmdSeq ++ leBytes 4 c.result

/-- The 40 bytes of a telegram. -/
def telegram (s : State) (j : Fin 8) (typ seq : Nat) (payload : List Byte) : List Byte :=
  let body := leBytes 1 typ ++ leBytes 1 1 ++ leBytes 2 s.ownId ++ leBytes 2 (s.scGet (STL.CONN_CFG_PEER_ID j)) ++
    leBytes 2 payload.length ++ leBytes 4 seq ++ leBytes 4 (s.get (STL.CONN_RX_SEQ j)) ++ leBytes 2 (s.sc.tick / 5) ++ leBytes 2 0 ++
    (payload ++ List.replicate 16 0).take 16
  body ++ wordBytes (shazoukCrc (BitVec.ofNat 32 (s.scGet (STL.CONN_ID j))) body)

/-- The transmit FIFO of the host window (R288): eight telegrams; a ninth drops the oldest. -/
def showTx (s : State) : State :=
  match s.stl.tx with
  | [] => s.set STL.TX_STAT 0
  | t :: ts => ((s.set STL.TX_STAT_COUNT (ts.length + 1)).setB STL.TX_STAT_VALID true).set STL.TX_STAT_CONN t.1

def hostSend (s : State) (j : Fin 8) (bytes : List Byte) : State :=
  let s := if s.stl.tx.length < 8 then s else
    ((s.modStl (fun x => { x with tx := x.tx.drop 1 })).inc STL.TX_OVF_CNT).set STL.TX_STAT_WORD 0
  ((s.modStl (fun x => { x with tx := x.tx ++ [(j.val, bytes)] })).showTx).raise 0x0A 0

/-- Sends the next telegram of a connection; the ceiling is raised before SEQ would pass it. -/
def sendTelegram (s : State) (j : Fin 8) (typ : Nat) (payload : List Byte) : State :=
  let seq := s.stl.conn[j].next
  let ceil := s.get (STL.CONN_SEQ_CEIL j)
  let s := if seq = seqNext ceil then s.set (STL.CONN_SEQ_CEIL j) (ceilAdd ceil 65536) else s
  let bytes := s.telegram j typ seq payload
  let s := s.modConn j (fun c => { c with next := seqNext seq, sent := ((seq, s.sc.tick) :: c.sent).take 64 })
  let s := s.set (STL.CONN_TX_SEQ j) seq
  match s.carrierOf j with
  | .host => s.hostSend j bytes
  | .canFd b => (s.emit (.telegram j 1 bytes)).placeTelegram b j false bytes
  | .canXl b => (s.emit (.telegram j 2 bytes)).placeTelegram b j true bytes

def sendStatus (s : State) (j : Fin 8) : State := s.sendTelegram j 3 (s.statusPayload j)

/-- What a connection sends every T_TX (R282); a unit that is not ACTIVE sends nothing (R285). -/
def transmit (s : State) (j : Fin 8) : State :=
  if !s.active then s else
  match s.connState j with
  | 1 => s.sendTelegram j 1 []
  | 2 => s.sendStatus j
  | 3 => s.sendStatus j
  | _ => s

/-! ### The receive checks (R279, R280) -/

/-- A connection that runs checks: of an ACTIVE unit one that is not CLOSED (R282), of a unit in STANDBY or SYNCING one in use (R285,
R360). -/
def heeds (s : State) (j : Fin 8) : Bool :=
  if s.active then s.connState j != 0 else s.stlOn && s.connGood j && decide (s.get BRV.STAT_ROLE < 2)

/-- The connection that DST and SRC name: an enabled one of the arriving carrier first, then any enabled one (R280, class 3). -/
def named (s : State) (t : List Byte) (via : Carrier) : Option (Fin 8) :=
  let src := telField t 2 2
  let js := (List.range 8).filter (fun j => s.scGet (STL.CONN_CFG_PEER_ID j) == src)
  let inUse := js.filter (fun j => s.scOn (STL.CONN_CFG_EN j))
  if telField t 4 2 ≠ s.ownId then none
  else (((inUse.find? (fun j => s.carrierOf j == via)).or inUse.head?).or js.head?).map fin8

def checkGood (s : State) (j : Fin 8) (t : List Byte) : Bool :=
  t.length == 40 && wordBytes (shazoukCrc (BitVec.ofNat 32 (s.scGet (STL.CONN_ID j))) (t.take 36)) == t.drop 36

def allZero (bs : List Byte) : Bool := bs.all (· == 0)

/-- Class 2: VER, TYPE, LEN, reserved and unused bytes, the COMMAND payload (R274, R277). -/
def formatGood (t : List Byte) : Bool :=
  let typ := telField t 0 1
  let mask := telField t 20 1
  let op := telField t 21 1
  let ax := telField t 22 1
  telField t 1 1 == 1 && telField t 18 2 == 0 &&
    (if typ = 1 then telField t 6 2 == 0 && allZero ((t.drop 20).take 16)
     else typ == 2 && telField t 6 2 == 4 && allZero ((t.drop 23).take 13) && decide (op ≤ 9) && decide (ax < 3) &&
       !(op == 0 && mask != 0) && (ax == 0 || op == 7 || op == 8))

/-- A SEQ of the list, sent no more than T_EXP before. -/
def echoIn (s : State) (j : Fin 8) (sent : List (Nat × Nat)) (echo : Nat) : Bool :=
  sent.any (fun e => e.1 == echo && decide (s.sc.tick ≤ e.2 + 5 * s.scGet (STL.CONN_TIME_T_EXP j)))

/-- The first failing class of checks 3 to 7, by the state of the connection (R282, R285). A unit that is not ACTIVE makes no check 6;
before the first accepted telegram there is no TIME to compare with. -/
def laterClass (s : State) (j : Fin 8) (t : List Byte) (via : Carrier) : Option Nat :=
  let st := s.connState j
  let c := s.stl.conn[j]
  let d := seqDiff (telField t 8 4) (s.get (STL.CONN_RX_SEQ j))
  let echo := telField t 12 4
  let own := s.echoIn j c.sent echo
  if s.carrierOf j ≠ via then some 3
  else if st ≠ 1 ∧ (d = 0 ∨ 2 ^ 31 < d) then some 4
  else if st ≠ 1 ∧ s.scGet (STL.CONN_LIM_SEQ_WIN j) < d then some 5
  else if s.active && !own && !(st == 3 && c.partner.any (fun e => e.1 == echo)) then some 6
  else if st ≠ 1 ∧ c.heard.isSome ∧ 32767 < (telField t 16 2 + 65536 - c.time) % 65536 then some 7
  else none

/-- A discard (R279, R281). -/
def discard (s : State) (j : Fin 8) (cls : Nat) : State :=
  let s := ((s.inc (STL.CONN_ERR_CNT j)).set (STL.CONN_STAT_LAST_ERR j) cls).raise 0x0A 2
  let k := if cls = 5 then s.stl.conn[j].jumps + 1 else 0
  let s := s.modConn j (fun c => { c with jumps := k })
  if 3 ≤ k ∧ s.connState j = 2 then s.connTimeout j else s

/-- RX_SEQ and the supervision of an accepted telegram. -/
def takeSeq (s : State) (j : Fin 8) (t : List Byte) : State :=
  let s := (s.set (STL.CONN_RX_SEQ j) (telField t 8 4)).raise 0x0A 0
  let s := s.modConn j (fun c => { c with since := s.sc.tick, heard := some s.sc.tick, time := telField t 16 2, jumps := 0 })
  s.set (STL.CONN_STAT_AGE j) 0

/-! ### Taking a command (R278, R284) -/

/-- The command reaches a doorway's mailbox; of two connections in one tick the lower number is offered (R284). -/
def offerTelegram (s : State) (j : Fin 8) (n : Fin 8) (op : DwOp) (axsel seq : Nat) : State :=
  let rivals := s.dw[n].offers.filter (fun o => o.src == .telegram)
  let mine : Offer := { op := op, src := .telegram, axsel := axsel, conn := j.val, seq := seq }
  let wait (s : State) : State := s.modConn j (fun c => { c with waits := c.waits ||| 2 ^ n.val })
  if rivals.any (fun o => decide (o.conn < j.val)) then s.putResult j n 6
  else
    let s := rivals.foldl (fun (s : State) (o : Offer) => s.answer n o 6) s
    wait ((s.modDw n (fun e => { e with offers := e.offers.filter (fun o => o.src != .telegram) })).offer n mine)

/-- A COMMAND with an opcode: each addressed doorway is offered it, or has result 10 or 11. One that is offered and has every result
at once sends STATUS (R276). -/
def takeCommand (s : State) (j : Fin 8) (t : List Byte) (isOpen : Bool) : State :=
  match DwOp.ofCode (telField t 21 1) with
  | none => s
  | some op =>
    let mask := telField t 20 1
    let seq := telField t 8 4
    let s := s.modConn j (fun c => { c with newSeq := seq, newRes := 0xFFFFFFFF, waits := 0 })
    let allowed (n : Nat) : Bool := (s.scGet (STL.CONN_CFG_DW_MASK j)).testBit n && (s.scGet (STL.CONN_LIM_CMD_MASK j)).testBit (DwOp.code op - 1)
    let s := (List.range 8).foldl (fun (s : State) (n : Nat) =>
      if !mask.testBit n then s
      else if !isOpen then s.putResult j n 10
      else if !allowed n then s.putResult j n 11
      else s.offerTelegram j (fin8 n) op (telField t 22 1) seq) s
    let offered := isOpen && (List.range 8).any (fun n => mask.testBit n && allowed n)
    let s := s.settleCmd j
    if offered && s.stl.conn[j].waits == 0 then s.sendStatus j else s

/-- A telegram that passes every check (R280, R282). The SEQ values that it passes over are lost; none where nothing was accepted before,
and none where a connection start lets SEQ go back. -/
def acceptTelegram (s : State) (j : Fin 8) (t : List Byte) : State :=
  let st := s.connState j
  let own := s.echoIn j s.stl.conn[j].sent (telField t 12 4)
  let old := s.get (STL.CONN_RX_SEQ j)
  let d := seqDiff (telField t 8 4) old
  let s := if old = 0 ∨ 2 ^ 31 < d then s else s.add (STL.CONN_LOST_CNT j) (d - 1)
  let s := s.takeSeq j t
  if !s.active then s else
    let s := if st = 1 ∨ (st = 3 ∧ own) then s.setConn j 2 else s
    if telField t 0 1 = 2 then
      (s.modConn j (fun c => { c with taken := some s.sc.tick })).takeCommand j t (st == 2)
    else s

/-- A CONNECT with ECHO 0, accepted after checks 1 to 3 in every state but CLOSED and RESUMING (R283). -/
def peerRestart (s : State) (j : Fin 8) (t : List Byte) : State :=
  let s := s.takeSeq j t
  if s.active && s.connState j == 2 then (s.dropOffers j).startConn j else s

/-- SC checks a telegram. One that names no connection only raises STL.EVT bit 2 (log entry 50); for a CLOSED connection every one is
class 3 (R282). -/
def checkTelegram (s : State) (t : List Byte) (via : Carrier) : State :=
  match s.named t via with
  | none => s.raise 0x0A 2
  | some j =>
    if !s.heeds j then s.discard j 3
    else if !s.checkGood j t then s.discard j 1
    else if !formatGood t then s.discard j 2
    else
      if telField t 0 1 = 1 ∧ telField t 12 4 = 0 ∧ s.connState j ≠ 3 ∧ s.carrierOf j = via then s.peerRestart j t
      else match s.laterClass j t via with
        | some cls => s.discard j cls
        | none => s.acceptTelegram j t

/-- A received telegram: one whose connection has had its COMMAND in this tick waits for the next (R284). A unit that is not ACTIVE
takes only telegrams of its CAN carriers (R285). -/
def receiveTelegram (s : State) (t : List Byte) (via : Carrier) : State :=
  let busy := match s.named t via with
    | some j => s.stl.conn[j].taken == some s.sc.tick
    | none => false
  if busy then s.modStl (fun x => { x with rx := x.rx ++ [(t, via)] })
  else if !s.active && via == .host then s
  else s.checkTelegram t via

/-! ### SC's tick (R230, R276, R281) -/

/-- The engines' answers reach the results; a connection whose COMMAND is complete sends STATUS at once. -/
def takeAnswers (s : State) : State :=
  let as := s.answers
  as.foldl (fun (s : State) (a : Nat × Nat × Nat × Nat) =>
    let j := fin8 a.1
    let c := s.stl.conn[j]
    if c.newSeq = a.2.1 ∧ c.waits.testBit a.2.2.1 then
      let s := (s.putResult j a.2.2.1 a.2.2.2).modConn j (fun c => { c with waits := c.waits - 2 ^ a.2.2.1 })
      if s.stl.conn[j].waits = 0 then
        let s := s.settleCmd j
        if s.connState j = 2 ∧ s.active then s.sendStatus j else s
      else s
    else s) { s with answers := [] }

/-- A connection in use starts; one out of use is CLOSED (R282). A unit that is not ACTIVE holds the mirrored states (R285). -/
def evalConn (s : State) (j : Fin 8) : State :=
  if !(s.stlOn && s.connGood j) then (if s.connState j = 0 then s else (s.dropOffers j).setConn j 0)
  else if s.active && s.connState j == 0 then s.startConn j
  else s

/-- AGE: the time since the last accepted telegram. -/
def showAge (s : State) (j : Fin 8) : State :=
  match s.stl.conn[j].heard with
  | some t => s.set (STL.CONN_STAT_AGE j) (min 65535 ((s.sc.tick - t) / 5))
  | none => s

/-- T_EXP, and AGE since the last accepted telegram. -/
def superviseConn (s : State) (j : Fin 8) : State :=
  let c := s.stl.conn[j]
  let s := s.showAge j
  if s.active && decide (2 ≤ s.connState j) && s.scPast c.since (s.scGet (STL.CONN_TIME_T_EXP j)) then s.connTimeout j else s

def eachConn (s : State) (f : State → Fin 8 → State) : State := (List.range 8).foldl (fun (s : State) (j : Nat) => f s (fin8 j)) s

/-- RX_STAT shows free slots and words written (R288). -/
def showRx (s : State) : State :=
  (s.set STL.RX_STAT_FREE (8 - (s.stl.rx.filter (fun x => x.2 == .host)).length)).set STL.RX_STAT_WORDS s.stl.words.length

/-- The waiting telegrams, oldest first. -/
def drainRx (s : State) : State :=
  let waiting := s.stl.rx
  (waiting.foldl (fun (s : State) (x : List Byte × Carrier) => s.receiveTelegram x.1 x.2) (s.modStl (fun x => { x with rx := [] }))).showRx

def stlTick (s : State) : State := (((s.takeAnswers).eachConn evalConn).drainRx).eachConn superviseConn

/-! ### The host windows (R288) -/

def rxWord (s : State) (w : Word) : State :=
  let ws := s.stl.words ++ [w]
  if ws.length < 10 then (s.modStl (fun x => { x with words := ws })).showRx
  else
    let s := s.modStl (fun x => { x with words := [] })
    if (s.stl.rx.filter (fun x => x.2 == .host)).length < 8 then
      (s.modStl (fun x => { x with rx := x.rx ++ [(ws.flatMap wordBytes, .host)] })).showRx
    else (s.inc STL.RX_OVF_CNT).showRx

/-- The word that TX_WIN shows; an empty FIFO gives 0 (R48). -/
def txFront (s : State) : Word :=
  match s.stl.tx with
  | [] => 0
  | t :: _ => BitVec.ofNat 32 (ofLeBytes ((t.2.drop (4 * s.get STL.TX_STAT_WORD)).take 4))

/-- A full read of TX_WIN pops its word. -/
def txPop (s : State) : State :=
  match s.stl.tx with
  | [] => s
  | _ :: _ =>
    let i := s.get STL.TX_STAT_WORD
    if i < 9 then s.set STL.TX_STAT_WORD (i + 1)
    else ((s.modStl (fun x => { x with tx := x.tx.drop 1 })).set STL.TX_STAT_WORD 0).showTx

end State

/-! ### Meanings -/

/-- R283. -/
def execConnect (t : Telegram) (via : Carrier) (s : State) : Host.Outcome State Fault Refusal :=
  .next (s.whenRunning fun s => s.receiveTelegram t.bytes via)

/-- R284. -/
def execCommand (t : Telegram) (via : Carrier) (s : State) : Host.Outcome State Fault Refusal :=
  .next (s.whenRunning fun s => s.receiveTelegram t.bytes via)

/-- R276, R282. -/
def execTransmitPeriod (k : Fin 8) (s : State) : Host.Outcome State Fault Refusal := .next (s.whenRunning fun s => s.transmit k)

/-- R281. -/
def execConnectionTimeout (k : Fin 8) (s : State) : Host.Outcome State Fault Refusal :=
  .next (s.whenRunning fun s => if s.active then s.connTimeout k else s)

/-- R288. -/
def execRxWinWrite (w : Word) (s : State) : Host.Outcome State Fault Refusal := .next (if s.ready then s.rxWord w else s)

/-- R288: 10 ms without a further word. -/
def execRxPartialTimeout (s : State) : Host.Outcome State Fault Refusal :=
  .next (if s.stl.words.isEmpty then s
    else ((s.modStl (fun x => { x with words := [] })).setB STL.RX_STAT_PARTIAL_LOST true).showRx)

/-- R288: FLUSH sets PARTIAL_LOST where it discards words, and clears it otherwise (log entry 50). -/
def execRxFlush (s : State) : Host.Outcome State Fault Refusal :=
  .next (if s.ready then
    ((s.setB STL.RX_STAT_PARTIAL_LOST (!s.stl.words.isEmpty)).modStl (fun x => { x with words := [] })).showRx
  else s)

/-- R48, R288. -/
def execTxWinRead (s : State) : Host.Outcome State Fault Refusal := .next (if s.ready then s.txPop.emit (.readData (wordBytes s.txFront)) else s.emit (.readData (wordBytes 0)))

end Sys2Proof.Machine
end

