-- ==== Sys2Proof/Machine/Pantry.lean ====
section
/-! DEFINITION. The pantry (R316 to R327): the power count, admission and reservations, shedding and rotation, the heat, ceiling and
energy stages, and the gating of housekeeping. -/

namespace Sys2Proof.Machine

/-- The nominal power of a housekeeping task: P3_STAT.P_TASK, which the spec leaves to the implementation (log entry 54). -/
def taskPower (k : Nat) : Nat := (Config.taskPower k).toNat

namespace State

/-! ### The power count (R316) -/

/-- P_LOADS in W: I_GRP × VBAT over the four groups, rounded down (log entry 51). -/
def pLoads (s : State) : Nat :=
  (List.range 4).foldl (fun (p : Nat) g => p + s.get (LSG.GRP_STAT_I_GRP g) * s.get (LSG.DIE_MEAS_VBAT g)) 0 / 100000

def pMotion (s : State) : Nat := s.pan.resv.foldl (fun (p : Nat) r => p + r.2) 0
def pNow (s : State) : Nat := s.pLoads + s.pMotion + s.get PBS.CFG_P_FIXED
def headroom (s : State) : Int := (s.get PBS.CFG_BUDGET : Int) - s.pNow

/-- Doorways of a list of axes, as a bit mask. -/
def doorMask (axes : List Nat) : Nat := axes.foldl (fun (m : Nat) ax => m ||| 2 ^ (ax / 2)) 0

/-- STAT, LOAD and PENDING show the count. -/
def showBudget (s : State) : State :=
  let s := (s.set PBS.STAT_P_NOW (min 65535 s.pNow)).setI PBS.STAT_HEADROOM (clampI (-32768) 32767 s.headroom)
  let s := (s.set PBS.LOAD_P_LOADS (min 65535 s.pLoads)).set PBS.LOAD_P_MOTION (min 65535 s.pMotion)
  (s.set PBS.PENDING_DEFERRED (doorMask (s.pan.reqs.map (·.ax)))).set PBS.PENDING_RESERVED (doorMask (s.pan.resv.map (·.1)))

/-! ### Shedding and restoring (R322) -/

/-- The P2 channel that has been on the longest. -/
def oldestOn (s : State) : Option (Fin 48) :=
  (List.range 48).foldl (fun (best : Option (Fin 48)) i =>
    let c := fin48 i
    if s.isP2 i && s.on (chOut c) && !s.isShed i then
      match best with
      | none => some c
      | some b => if s.ch[c].onAt < s.ch[b].onAt then some c else best
    else best) none

/-- What a shed frees: the channel's measured current × VBAT, rounded down (log entry 51). -/
def freedBy (s : State) (c : Fin 48) : Int :=
  (s.get (LSG.CH_MEAS_I (groupOf c) (inGroup c)) * s.get (LSG.DIE_MEAS_VBAT (groupOf c)) / 100000 : Nat)

/-- Sheds, the longest-on first, until `need` fits or nothing is left to shed. -/
def shedUntil : Nat → State × Int → Int → State × Int
  | 0, sh, _ => sh
  | k + 1, sh, need =>
    if need ≤ sh.2 then sh else
      match sh.1.oldestOn with
      | none => sh
      | some c => shedUntil k (sh.1.shedCh c, sh.2 + sh.1.freedBy c) need

/-- Sheds every P2 channel whose demand is on. -/
def shedAll (s : State) : State × Int :=
  (List.range 48).foldl (fun (sh : State × Int) (i : Nat) =>
    let c := fin48 i
    if sh.1.isP2 i && !sh.1.isShed i && sh.1.chDemand c then
      (sh.1.shedCh c, sh.2 + (if sh.1.on (chOut c) then sh.1.freedBy c else 0))
    else sh) (s, s.headroom)

/-- P2 channels of a group inside an inrush window. -/
def windows (s : State) (g : Fin 4) : Nat :=
  ((List.range 12).filter (fun i => s.isP2 (12 * g + i) && s.get (chStat (fin48 (12 * g + i))) == 1)).length

/-- A shed channel may come back, the budget aside: off for MIN_OFF, demand on, at most one other window in its group. -/
def mayReturn (s : State) (c : Fin 48) : Bool :=
  (match s.ch[c].offAt with
    | none => true
    | some t => decide (32768 * s.get PBS.ROT_MIN_OFF ≤ s.clk32 - t)) &&
  s.chDemand c && decide (s.windows (groupOf c) < 2)

/-- Restores, the longest shed first, while the nominal power fits. -/
def restoreShed (sh : State × Int) : State × Int :=
  sh.1.pan.shed.foldl (fun (sh : State × Int) x =>
    let c := fin48 x.1
    if sh.1.mayReturn c && decide ((sh.1.nomPower c : Int) ≤ sh.2) then (sh.1.unshedCh c, sh.2 - sh.1.nomPower c) else sh) sh

/-- A shed ends with the demand, and when the channel leaves P2. -/
def dropSheds (s : State) : State :=
  s.pan.shed.foldl (fun (s : State) x => if s.chDemand (fin48 x.1) && s.isP2 x.1 then s else s.unshedCh (fin48 x.1)) s

/-- Step 3 of R318. -/
def shedStep (s : State) : State × Int :=
  let s := s.dropSheds
  if s.p2Barred then s.shedAll else restoreShed (s, s.headroom)

/-- The rotation (R322): the longest-shed channel that may return comes back and the longest-on one goes, where the change fits (log
entry 52). -/
def rotate (s : State) : State :=
  if !s.pageOn 0x06 || s.p2Barred then s else
  match s.pan.shed.find? (fun x => s.mayReturn (fin48 x.1)), s.oldestOn with
  | some x, some v =>
    let back := fin48 x.1
    if (s.nomPower back : Int) ≤ s.headroom + s.freedBy v then (s.shedCh v).unshedCh back else s
  | _, _ => s

/-! ### Admission (R318 to R320) -/

/-- Requests in the order of R318: earliest first, then doorway, the door axis before the step axis. -/
def insertReq (r : AdmReq) : List AdmReq → List AdmReq
  | [] => [r]
  | x :: t => if r.since < x.since || (r.since == x.since && decide (r.ax < x.ax)) then r :: x :: t else x :: insertReq r t

def sortReqs (rs : List AdmReq) : List AdmReq := rs.foldl (fun (l : List AdmReq) r => insertReq r l) []

def ownResv (s : State) (ax : Nat) : Nat := ((s.pan.resv.find? (fun r => r.1 == ax)).map (·.2)).getD 0

/-- Admissions within the last STAGGER_T, counted over (t − STAGGER_T, t] (R318). -/
def recentStarts (s : State) : Nat := (s.pan.starts.filter (fun t => decide (s.pan.ms - t < s.get PBS.ADMIT_STAGGER_T))).length

/-- A request stays pending: PBS.EVT bit 0 once (R318). -/
def defer (s : State) (r : AdmReq) : State :=
  if r.noted then s else
    let s := { s with pan := { s.pan with reqs := s.pan.reqs.map (fun (x : AdmReq) => if x.ax == r.ax then { x with noted := true } else x) } }
    (s.inc PBS.DEFER_CNT).raise 0x06 0

/-- R320: every P2 channel shed, then admitted whatever the budget and the stagger hold. -/
def overrun (s : State) (r : AdmReq) : State × Int :=
  let sh := s.shedAll
  let s := (sh.1.inc PBS.OVERRUN_CNT).raise 0x06 0
  let n := r.ax / 2
  let s := s.event 7 11 n r.pred s.pNow (s.pan.ms - r.since) n
  (s.admitReq r, sh.2 + s.ownResv r.ax - r.pred)

/-- One request of step 4. -/
def takeReq (sh : State × Int) (r : AdmReq) : State × Int :=
  let s := sh.1
  if !s.pageOn 0x06 then (s.admitReq r, sh.2 + s.ownResv r.ax - r.pred)
  else if s.get PBS.ADMIT_DEFER_MAX ≤ s.pan.ms - r.since then s.overrun r
  else if s.recentStarts < s.get PBS.ADMIT_START_MAX then
    let own := s.ownResv r.ax
    let sh := shedUntil 48 sh ((r.pred : Int) - own)
    if (r.pred : Int) - own ≤ sh.2 then (sh.1.admitReq r, sh.2 + own - r.pred) else (sh.1.defer r, sh.2)
  else (s.defer r, sh.2)

def admitStep (sh : State × Int) : State × Int :=
  let s := sh.1
  let s := { s with pan := { s.pan with starts := s.pan.starts.filter (fun t => decide (s.pan.ms - t < s.get PBS.ADMIT_STAGGER_T)) } }
  (sortReqs s.pan.reqs).foldl takeReq (s, sh.2)

/-! ### Stages (R324 to R327) -/

/-- RATE_LIM is the lowest rate that the stages allow (R327), and a change of it is decided (R202). -/
def showRateLim (s : State) : State :=
  let h := s.get PBS.HEAT_HEAT_STAGE
  let r := max h (if s.get PBS.HEAT_PKG_STAGE = 0 ∧ s.get PBS.HEAT_E_STAGE = 0 then 0 else 1)
  ((s.set PBS.HEAT_RATE_LIM r).set OCC.RATE_RATE_LIM r).decideRate

/-- The entry to heat stage `st` (R324). -/
def enterHeat (s : State) (st : Nat) (tj : Int) : State :=
  if st ≤ s.get PBS.HEAT_HEAT_STAGE then s else
    let s := (s.set PBS.HEAT_HEAT_STAGE st).raise 0x05 1
    s.event 8 11 0 st (codeOf tj 32) (s.get PWR.PKG_PKG_P) 8

/-- The tick since which a condition holds. -/
def sinceTick (now : Nat) (holds : Bool) (since : Option Nat) : Option Nat :=
  if holds then some (since.getD now) else none

/-- 10 s of pantry ticks have passed. -/
def tenSec (s : State) (since : Option Nat) : Bool :=
  match since with
  | some t => decide (10000 ≤ s.pan.ms - t)
  | none => false

/-- The heat stage falls one step. -/
def heatDown (s : State) : State := s.set PBS.HEAT_HEAT_STAGE (s.get PBS.HEAT_HEAT_STAGE - 1)

def heatStep (s : State) (tj : Int) : State :=
  let s := if 1100 ≤ tj then s.enterHeat 1 tj else s
  let s := if 1200 ≤ tj then s.enterHeat 2 tj else s
  let p := s.pan
  let s := { s with pan := { p with below2 := sinceTick p.ms (decide (tj < 1150)) p.below2,
                                    below1 := sinceTick p.ms (decide (tj < 1050)) p.below1 } }
  let s := if s.get PBS.HEAT_HEAT_STAGE = 2 ∧ s.tenSec s.pan.below2 then s.heatDown else s
  if s.get PBS.HEAT_HEAT_STAGE = 1 ∧ s.tenSec s.pan.below1 then s.heatDown else s

/-- At or below 90 % of PKG_MAX. -/
def pkgLow (s : State) : Bool := decide (10 * s.get PWR.PKG_PKG_P ≤ 9 * s.get PBS.THERM_PKG_MAX)

/-- The ceiling stage (R325). -/
def pkgStep (s : State) : State :=
  let p := s.pan
  let s := { s with pan := { p with pkgBelow := sinceTick p.ms s.pkgLow p.pkgBelow } }
  if s.get PBS.THERM_PKG_MAX < s.get PWR.PKG_PKG_P then s.set PBS.HEAT_PKG_STAGE 1
  else if s.tenSec s.pan.pkgBelow then s.set PBS.HEAT_PKG_STAGE 0 else s

/-- The energy stage that E_LEFT gives (R326). -/
def energyStage (s : State) : Nat :=
  if s.get PBS.E_LEFT = 0 then 2
  else if s.get PBS.E_ALLOW * s.get PBS.ENERGY_E_LOW ≤ 100 * s.get PBS.E_LEFT then 0 else 1

/-- Each change of energy stage raises PBS.EVT bit 2. -/
def setEStage (s : State) (st : Nat) : State :=
  if s.get PBS.HEAT_E_STAGE = st then s else (s.set PBS.HEAT_E_STAGE st).raise 0x06 2

/-- Entry to and end of the accounting (R326). -/
def evalAccount (s : State) : State :=
  let run := s.get PWR.STATE_STATE == 2 || s.on PBS.ENERGY_STABLED
  if run && !s.pan.account then
    let s := { s with pan := { s.pan with account := true, mJ := 0 } }
    let s := s.set PBS.E_LEFT (s.get PBS.E_ALLOW)
    s.setEStage s.energyStage
  else if !run && s.pan.account then { s with pan := { s.pan with account := false } }.setEStage 0
  else s

/-- The energy of `ms` milliseconds at P_NOW (R326). -/
def spend (s : State) (ms : Nat) : State :=
  if !s.pan.account then s else
    let e := s.pan.mJ + s.pNow * ms
    let s := { s with pan := { s.pan with mJ := e % 1000 } }
    let s := s.set PBS.E_LEFT (s.get PBS.E_LEFT - e / 1000)
    s.setEStage s.energyStage

/-! ### Housekeeping (R323) -/

/-- A P3 task may run: not while P1 waits or holds, nor above stage 0. -/
def p3Quiet (s : State) : Bool :=
  s.pan.reqs.isEmpty && s.pan.resv.isEmpty &&
  s.get PBS.HEAT_HEAT_STAGE == 0 && s.get PBS.HEAT_PKG_STAGE == 0 && s.get PBS.HEAT_E_STAGE == 0

/-- A P3 task without a bit of P3_STAT may run: no gating while PBS is disabled (R327; log entry 157). -/
def slack (s : State) : Bool := !s.pageOn 0x06 || s.p3Quiet

/-- An escalated refresh makes room and pauses for P1 only. -/
def escalated (sh : State × Int) : State × Int × Nat :=
  let s := sh.1
  if s.get PBS.P3_STAT_DUE % 2 = 1 && s.on PBS.P3_STAT_ESC && s.pan.reqs.isEmpty && s.pan.resv.isEmpty then
    let sh := shedUntil 48 sh (taskPower 0)
    (sh.1, sh.2 - taskPower 0, 1)
  else (sh.1, sh.2, 0)

/-- RUN, and REFRESHING of the ledger (R373). -/
def showRun (s : State) (run : Nat) : State := (s.set PBS.P3_STAT_RUN run).setB LDG.STAT_REFRESHING (run.testBit 0)

/-- Step 5: RUN shows the due tasks that run, taken in the order of their bits while their power fits (log entry 54). -/
def p3Step (sh : State × Int) : State :=
  let due := sh.1.get PBS.P3_STAT_DUE
  if !sh.1.pageOn 0x06 then sh.1.showRun due else
  let (s, hr, esc) := escalated sh
  let run := if s.p3Quiet then
      ((List.range 4).foldl (fun (a : Nat × Int) k =>
        if due.testBit k && !a.1.testBit k && decide ((taskPower k : Int) ≤ a.2) then (a.1 + 2 ^ k, a.2 - taskPower k) else a)
        (esc, hr)).1
    else esc
  let next := ((List.range 4).find? (fun k => due.testBit k)).map taskPower
  (s.showRun run).set PBS.P3_STAT_P_TASK (next.getD 0)

/-- Whether a P3 task (0 refresh, 1 NAND scrub, 2 vault scrub, 3 standby test) runs now; no gating while PBS is disabled (R327). -/
def p3Runs (s : State) (k : Nat) : Bool := !s.pageOn 0x06 || (s.get PBS.P3_STAT_RUN).testBit k

def setTask (s : State) (k : Nat) (b : Bool) : State :=
  let d := s.get PBS.P3_STAT_DUE
  s.set PBS.P3_STAT_DUE (if b then d ||| 2 ^ k else if d.testBit k then d - 2 ^ k else d)

/-- The NAND scrub (task 1) and the vault scrub (task 2) of a day (R317). The spec states neither when they fall due nor how long they run
nor what they change beyond the errors they find, which come as rows of their own: whether a day's scrub is due and the time it runs are
the implementation's (log entry 152). -/
def scrubDue (s : State) (day : Nat) : State :=
  [1, 2].foldl (fun (s : State) (k : Nat) => if Config.scrubDue k day then s.setTask k true else s) s

/-- A ms of a scrub that runs; it ends after its time. -/
def scrubStep (s : State) (k : Fin 2) : State :=
  let t := k.val + 1
  if !(s.get PBS.P3_STAT_RUN).testBit t then s else
    let ms := s.pan.scrubMs[k] + 1
    if (Config.scrubTime t).toNat ≤ ms then
      let s := { s with pan := { s.pan with scrubMs := s.pan.scrubMs.set k 0 } }
      (s.setTask t false).set PBS.P3_STAT_RUN (s.get PBS.P3_STAT_RUN - 2 ^ t)
    else { s with pan := { s.pan with scrubMs := s.pan.scrubMs.set k ms } }

/-! ### The tick (R318) -/

/-- The measurements of a channel; LIMITING while the current of an on channel is held at its limit (R295). -/
def showChannel (s : State) (c : Fin 48) (i : Nat) (t : Int) : State :=
  let s := (s.set (LSG.CH_MEAS_I (groupOf c) (inGroup c)) (s.shownI c i)).setI (LSG.CH_MEAS_T (groupOf c) (inGroup c)) t
  s.setB (LSG.CH_STAT_LIMITING (groupOf c) (inGroup c)) (s.on (chOut c) && decide (s.chLimit c ≤ i))

/-- The measurements of a group in their registers. -/
def showGroup (s : State) (g : Fin 4) (m : GroupMeas) : State :=
  let s := (List.range 12).foldl (fun (s : State) (i : Nat) =>
    s.showChannel (fin48 (12 * g + i)) (m.i.getD i 0) (m.t.getD i 0)) s
  ((s.setI (LSG.DIE_MEAS_TEMP g) m.die).setVbat g m.vbat).set (LSG.GRP_STAT_I_GRP g) m.iGrp

def groupMeas (m : PantryMeas) (g : Nat) : GroupMeas := m.groups.getD g ⟨[], [], 0, 0, 0⟩

/-- TJ_MAX: the highest of C, G0, G1 and S0 to S3 (R324). -/
def tjMaxOf (m : PantryMeas) : Int :=
  (List.range 4).foldl (fun (t : Int) g => max t (groupMeas m g).die) (max m.tjC (max m.tjG0 m.tjG1))

/-- The measurements of the tick in the LSG and PWR pages. -/
def showMeas (s : State) (m : PantryMeas) : State :=
  let s := ((List.range 4).map fin4).foldl (fun (s : State) (g : Fin 4) => s.showGroup g (groupMeas m g)) s
  let s := ((s.setI PWR.TEMP_A_TJ0 m.tjC).setI PWR.TEMP_A_TJ1 m.tjG0).setI PWR.TEMP_B_TJ0 m.tjG1
  let s := (s.setI PWR.TEMP_B_TJ1 (groupMeas m 0).die).setI PWR.TEMP_C_TJ0 (groupMeas m 1).die
  let s := (s.setI PWR.TEMP_C_TJ1 (groupMeas m 2).die).setI PWR.TEMP_D_TJ0 (groupMeas m 3).die
  let s := s.setI PWR.TEMP_D_TJ1 (tjMaxOf m)
  let s := if 1050 ≤ m.vgd then s.vgdBack else s
  let s := (s.set PWR.PKG_PKG_P m.pkg).set PWR.PKG_PKG_PEAK (max (s.get PWR.PKG_PKG_PEAK) m.pkg)
  let s := ((s.set PWR.VDD_A_VDD08 m.vdd08).set PWR.VDD_A_VDD11 m.vdd11).set PWR.VDD_B_VDD33 m.vdd33
  ((s.set PWR.VDD_B_VGD m.vgd).set PWR.VHOLD_VCEL_VHOLD m.vhold).set PWR.VHOLD_VCEL_VCEL m.vcel

/-- A ms at or above a temperature counts towards a cellar minute counter (R334). -/
def minuteOf (s : State) (f : Fld) (ms : Nat) : State × Nat := if 60000 ≤ ms + 1 then (s.inc f, 0) else (s, ms + 1)

/-- T_WARN_M, T_HOT_M, T_OVER_M and TJ_PEAK of the cellar (R324, R337). -/
def countHeat (s : State) (tj : Int) : State :=
  let (s, w) := if 1100 ≤ tj then s.minuteOf CEL.T_WARN_M s.cel.warnMs else (s, s.cel.warnMs)
  let (s, h) := if 1200 ≤ tj then s.minuteOf CEL.T_HOT_M s.cel.hotMs else (s, s.cel.hotMs)
  let (s, o) := if 1250 ≤ tj then s.minuteOf CEL.T_OVER_M s.cel.overMs else (s, s.cel.overMs)
  let s := { s with cel := { s.cel with warnMs := w, hotMs := h, overMs := o } }
  if s.getI CEL.TJ_PEAK_T < tj then s.setI CEL.TJ_PEAK_T tj else s

/-- What the day gathers in a ms (R366): heater time, degraded time, the highest TJ_MAX. -/
def countDay (s : State) (tj : Int) : State :=
  let heat := (List.range 16).foldl (fun (v : Vector Nat 16) i =>
    match s.roleLs (i / 2) (i % 2) with
    | some c => if s.on (chOut (fin48 c)) then v.set (fin16 i) (v[fin16 i] + 1) else v
    | none => v) s.ldg.heatMs
  let degr := (List.range 8).foldl (fun (v : Vector Nat 8) n =>
    if s.on (DW.STATE_DEGRADED n) then v.set (fin8 n) (v[fin8 n] + 1) else v) s.ldg.degrMs
  { s with ldg := { s.ldg with heatMs := heat, degrMs := degr, tjMax := max s.ldg.tjMax tj } }

/-- Step 1: the stages. -/
def stageStep (s : State) (tj : Int) : State :=
  (((((s.heatStep tj).pkgStep).evalAccount).spend 1).showRateLim)

/-- The pantry's tick. -/
def pantryTick (s : State) (m : PantryMeas) : State :=
  let s := { s with pan := { s.pan with ms := s.pan.ms + 1 } }
  let s := s.showMeas m
  let tj := tjMaxOf m
  let s := ((s.countHeat tj).countDay tj).stageStep tj
  (((p3Step (admitStep s.shedStep)).scrubStep 0).scrubStep 1).showBudget

/-- The request of an axis that has waited for DEFER_MAX (R320). -/
def deferMax (s : State) (ax : Fin 16) : State :=
  match s.pan.reqs.find? (fun r => r.ax == ax.val) with
  | some r => (s.overrun r).1.showBudget
  | none => s

end State

/-! ### Meanings -/

/-- R320. -/
def execDeferMaxExpired (ax : Fin 16) (s : State) : Host.Outcome State Fault Refusal := .next (s.whenRunning (fun s => s.deferMax ax))

/-- R322. -/
def execShedRotation (s : State) : Host.Outcome State Fault Refusal := .next (s.whenRunning (fun s => s.rotate.showBudget))



/-- R324: the stage falls one step, where TJ_MAX is below its release temperature. -/
def execHeatStageRelease (s : State) : Host.Outcome State Fault Refusal :=
  let st := s.get PBS.HEAT_HEAT_STAGE
  let tj := s.getI PWR.TEMP_D_TJ1
  .next (s.whenRunning (fun s =>
    if (st = 2 ∧ tj < 1150) ∨ (st = 1 ∧ tj < 1050) then s.heatDown.showRateLim else s))

/-- R325. -/
def execPkgCeilingRelease (s : State) : Host.Outcome State Fault Refusal :=
  .next (s.whenRunning (fun s => if s.pkgLow then (s.set PBS.HEAT_PKG_STAGE 0).showRateLim else s))

end Sys2Proof.Machine
end

