-- ==== Sys2Proof/Machine/Ledger.lean ====
section
/-! DEFINITION. The cycle ledger (R363 to R382): journal slots into NAND, refresh and retention, the daily summaries, queries and
export, warnings and faults. -/

namespace Sys2Proof.Machine

/-- Milliseconds of a day, and the ledger day of a time. -/
def dayMs : Nat := 86400000
def dayOf (t : Nat) : Nat := t / dayMs

/-- Data pages of a block: 256 pages, the last of every 16 its parity (R371). -/
def pagesPerBlock : Nat := 240

/-- Blocks of the data area and spares, pages of the journal area's ring (R371). -/
def dataBlocks : Nat := 8740
def spareBlocks : Nat := 336
def areaPages : Nat := 16384

/-- A data page's number in its block, which counts the parity pages, and the data page of a number; a parity page is none (R371). -/
def rawPage (i : Nat) : Nat := 16 * (i / 15) + i % 15
def dataPage (p : Nat) : Option Nat := if p % 16 = 15 then none else some (15 * (p / 16) + p % 16)

def lowest (l : List Nat) : Option Nat := l.foldl (fun (m : Option Nat) k => some ((m.map (min k)).getD k)) none
def highest (l : List Nat) : Option Nat := l.foldl (fun (m : Option Nat) k => some ((m.map (max k)).getD k)) none

/-- What the block index holds of a data page for a unit: the lowest and the highest TIME and RSEQ (R371). Both copies of the index hold
what the pages give; the program date stands with the block (log entry 158). -/
structure IndexEntry where
  lowTime  : Nat
  highTime : Nat
  lowSeq   : Nat
  highSeq  : Nat

def indexOf (page : List Record) (unitB : Bool) : Option IndexEntry :=
  let rs := page.filter (fun r => r.unitB == unitB)
  let times := rs.map (·.time)
  let seqs := rs.map (·.rseq)
  if rs.isEmpty then none
  else some ⟨(lowest times).getD 0, (highest times).getD 0, (lowest seqs).getD 0, (highest seqs).getD 0⟩

/-- The index entries of a unit over a block's pages. -/
def DataBlock.entries (b : DataBlock) (unitB : Bool) : List IndexEntry := b.pages.filterMap (fun p => indexOf p unitB)

/-- The entries of both units. -/
def DataBlock.index (b : DataBlock) : List IndexEntry := b.entries false ++ b.entries true

/-- A record as its slots hold it: the header with its HCRC (R363), the payload, zeros to the end of the slots (R365). -/
def recordBytes (r : Record) : List Byte :=
  let flags (unrel : Bool) : Byte :=
    BitVec.ofNat 8 (r.unitB.toNat + 2 * r.timeInvalid.toNat + 8 * unrel.toNat + 16 * r.dw)
  let typ := leBytes 1 (Payload.typeCode r.payload)
  let rest := leBytes 6 r.time ++ leBytes 4 r.rseq
  let crc := wordBytes (crc32 (typ ++ flags false :: rest))
  let bs := typ ++ flags r.unreliable :: rest ++ crc ++ Payload.bytes r.payload
  bs ++ List.replicate (64 * Payload.slots r.payload - bs.length) 0

namespace State

def modLdg (s : State) (g : Ledger → Ledger) : State := { s with ldg := g s.ldg }

/-- A POWER record (R365): its KIND, the power states before and after, ARG. -/
def powerRec (s : State) (kind before after arg : Nat) : State :=
  s.submit (.power kind (before + 16 * after) (s.get CEL.WAKE_SRC_SRC) (s.get CEL.RST_CAUSE_CAUSE) (s.get PWR.VBAT_AB_VBAT0)
    (s.get PWR.VHOLD_VCEL_VHOLD) (s.get PWR.SUP_STAT_UV + 256 * s.get PWR.SUP_STAT_OV) (s.get PWR.TEMP_D_TJ1) arg) 8

/-! ### What the page shows (R381, R382) -/

/-- A warning bit that follows its condition (R381). -/
def warnFollow (s : State) (bit : Nat) (holds : Bool) (value : Nat) : State :=
  if holds then s.warn bit value else
    let w := s.get LDG.STAT_WARN
    if w.testBit bit then s.set LDG.STAT_WARN (w - 2 ^ bit) else s

/-- The TIME of the oldest record held. -/
def oldestTime (s : State) : Option Nat :=
  lowest (s.ldg.blocks.flatMap (fun b => b.index.map (·.lowTime)) ++ s.journal.map (fun (e : JEntry) => e.entry.time))

/-- The age of a block in ledger days. -/
def blockAge (s : State) (b : DataBlock) : Nat := dayOf s.rtc - b.date

def blockDue (s : State) (b : DataBlock) : Bool := b.worn || decide (s.get LDG.CFG_REFRESH_DUE ≤ s.blockAge b)

/-- REFRESH: the blocks due and the lateness of the most overdue one; the task that is due and its escalation (R323, R373). -/
def showRefresh (s : State) : State :=
  let due := (s.ldg.blocks.filter s.blockDue).length
  let late := s.ldg.blocks.foldl (fun (m : Nat) b => max m (s.blockAge b - s.get LDG.CFG_REFRESH_DUE)) 0
  let s := (s.set LDG.REFRESH_DUE (min due 65535)).set LDG.REFRESH_OVERDUE (min late 65535)
  let s := s.setTask 0 (due != 0 || s.on LDG.STAT_CHECKING)
  let s := s.setB PBS.P3_STAT_ESC (decide (30 < late) || s.on LDG.STAT_CHECKING)
  s.warnFollow 2 (decide (30 < late)) late

/-- Unreadable segments. -/
def badCount (s : State) : Nat := s.ldg.blocks.foldl (fun (k : Nat) b => k + b.bad.length) 0

/-- FILL, OLDEST, SEG_BAD and the warnings that follow the fill and the spares. -/
def showFill (s : State) : State :=
  let n := s.ldg.blocks.length
  let s := (s.set LDG.FILL_DATA n).set LDG.FILL_SPARES s.ldg.spares
  let t := s.oldestTime.getD 0
  let s := (s.set LDG.OLDEST_LO (t % 2 ^ 32)).set LDG.OLDEST_HI_TIME (t / 2 ^ 32)
  let s := s.set LDG.SEG_BAD s.badCount
  let s := s.warnFollow 0 (decide (dataBlocks * s.get LDG.CFG_WARN_PCT ≤ 100 * n)) n
  (s.warnFollow 3 (decide (4 * s.ldg.spares < spareBlocks)) s.ldg.spares).showJournal

/-! ### Faults (R381, R395) -/

/-- An LDG fault: the register, the FAULT record. -/
def ldgFault (s : State) (cause : Nat) (loc : Word) (kind : Nat) (active : Bool) : State :=
  let s := ((s.set LDG.FAULT_CAUSE cause).setB LDG.FAULT_ACTIVE active).set LDG.FAULT_LOC loc.toNat
  s.logFault 0x0C cause loc kind 0 (s.word LDG.FAULT.addr).toNat none

/-- The location of a NAND die's area: dies 8 and 9 of the table of dies are N0 and N1. -/
def nandLoc (die : Bool) (area : Nat) : Word := locBlock (if die then 9 else 8) 14 area

/-- A die answers: cause 1 is over once both do. -/
def dieAnswers (s : State) (d : Bool) : State :=
  if !s.ldg.dead.contains d then s else
    let s := s.modLdg (fun l => { l with dead := l.dead.filter (· != d) })
    if s.ldg.dead.isEmpty ∧ s.get LDG.FAULT_CAUSE = 1 then s.setB LDG.FAULT_ACTIVE false else s

/-- What an operation on a NAND die reports: a retired block takes a spare, cause 2, or a reserve block once they are gone, cause 3; a die
that newly does not answer is cause 1 (R372, R381). -/
def nandResult (s : State) (die : Bool) (r : NandResult) : State :=
  match r with
  | .ok => s.dieAnswers die
  | .dieDead d =>
    if s.ldg.dead.contains d then s
    else ((s.modLdg (fun l => { l with dead := d :: l.dead })).ldgFault 1 (nandLoc d 0) 2 true).raise 0x0C 1
  | .blockFails d =>
    let s := s.dieAnswers d
    if s.ldg.spares = 0 then
      ((s.modLdg (fun l => { l with reserve := l.reserve - 1 })).ldgFault 2 (nandLoc d 0) 2 false).ldgFault 3 (nandLoc d 0) 2 true
    else (s.modLdg (fun l => { l with spares := l.spares - 1 })).ldgFault 2 (nandLoc d 0) 2 false

/-! ### Journal slots into NAND (R367 to R371, R375) -/

/-- The entries of the next data page: the oldest that fill 256 slots. -/
def pageSplit : Nat → List JEntry → List JEntry × List JEntry
  | _, [] => ([], [])
  | room, e :: t =>
    let k := Payload.slots e.entry.payload
    if k ≤ room then
      let (a, b) := pageSplit (room - k) t
      (e :: a, b)
    else ([], e :: t)

/-- The highest TIME of a block. -/
def blockTime (b : DataBlock) : Nat := (highest (b.index.map (·.highTime))).getD 0

/-- The oldest block, which is the one with the lowest highest TIME (R375). -/
def oldestBlock (bs : List DataBlock) : Option Nat :=
  bs.findIdx? (fun b => some (blockTime b) == lowest (bs.map blockTime))

/-- The newest block of a die, where it has room for a page. -/
def openBlock (s : State) (die : Bool) : Option Nat :=
  ((((List.range s.ldg.blocks.length).filter (fun i => (s.ldg.blocks[i]?.map (·.die)) == some die)).getLast?).filter
    (fun i => decide (((s.ldg.blocks[i]?.map (fun b => b.pages.length)).getD 0) < pagesPerBlock)))

/-- The die that takes the next data page: pages are striped over both, and go to the other one while a die does not answer (R371, R381).
The spec does not say in what unit they are striped: the model takes the dies in turn, page by page, with the 16 pages of a parity group
in one block (DESIGN CHOICE, log entry 158). -/
def pageDie (s : State) : Option Bool := [s.ldg.turn, !s.ldg.turn].find? (fun d => !s.ldg.dead.contains d)

/-- A page goes to the open block of its die, or to a new block; with none free the oldest block is erased and taken into use (R375). -/
def addPage (s : State) (die : Bool) (page : List Record) : State :=
  let s := s.modLdg (fun l => { l with turn := !l.turn })
  match s.openBlock die with
  | some i => s.modLdg (fun l => { l with blocks := l.blocks.modify i (fun b => { b with pages := b.pages ++ [page] }) })
  | none =>
    let fresh (d : Bool) : DataBlock := { date := dayOf s.rtc, pages := [page], bad := [], worn := false, die := d, lost := [] }
    if s.ldg.blocks.length < dataBlocks then s.modLdg (fun l => { l with blocks := l.blocks ++ [fresh die] })
    else
      let old := oldestBlock s.ldg.blocks
      let d := (old.bind (fun i => s.ldg.blocks[i]?.map (·.die))).getD die
      (s.setB LDG.STAT_WRAPPED true).modLdg (fun l => { l with blocks := l.blocks.eraseIdx (old.getD 0) ++ [fresh d] })

/-- The data-page write: where 256 slots wait they become a page and are freed (R368); while no die answers they go on waiting. -/
def dataPageWrite (s : State) (r : NandResult) : State :=
  if s.journalUsed < 256 then s else
    let s := s.nandResult s.ldg.turn r
    match s.pageDie with
    | none => s
    | some d =>
      let (page, rest) := pageSplit 256 s.journal
      let s := ({ s with journal := rest }).addPage d (page.map (fun (e : JEntry) => e.entry))
      ((s.inc LDG.FLUSH_CNT).raise 0x0C 0).showFill

/-- The pages that entries fill, in their order. -/
def toPages : Nat → List JEntry → List (List Record)
  | 0, _ => []
  | _, [] => []
  | k + 1, es =>
    let (page, rest) := pageSplit 256 es
    page.map (fun (e : JEntry) => e.entry) :: toPages k rest

/-- Every slot not yet durable goes to the next pages of the journal area's ring (R368, R371). -/
def journalDurable (s : State) : State :=
  let es := s.journal.filter (fun (e : JEntry) => !e.durable)
  let area := s.ldg.area ++ toPages es.length es
  let s := s.modLdg (fun l => { l with area := area.drop (area.length - areaPages) })
  ({ s with journal := s.journal.map (fun (e : JEntry) => { e with durable := true }) }).showJournal

/-- The flush on a power fail (R369): the POWER record of KIND 0 is its last slot; without hold-up it is cut. -/
def powerFailFlush (s : State) (holdsUp : Bool) (before after : Nat) : State :=
  if holdsUp then
    let n := s.journalVolatile
    let s := (s.powerRec 0 before after n).journalDurable
    (s.inc LDG.FLUSH_CNT).raise 0x0C 0
  else (s.powerRec 0 before after 0).modLdg (fun l => { l with cut := true })

/-- The number after the highest RSEQ of this unit that the NAND holds: a record's number is never given twice (log entry 61). -/
def nextAfterLoss (s : State) : State :=
  let own := s.ldg.blocks.flatMap (fun b => (b.entries s.boot.unitB).map (·.highSeq)) ++
    (s.journal.filter (fun (e : JEntry) => e.entry.unitB == s.boot.unitB)).map (fun (e : JEntry) => e.entry.rseq)
  s.set LDG.NEXT_RSEQ ((max (s.get LDG.NEXT_RSEQ) (((highest own).map (· + 1)).getD 0)) % 2 ^ 32)

/-- A record is identified by its unit and its RSEQ (R370). -/
def sameRecord (x y : Record) : Bool := x.unitB == y.unitB && x.rseq == y.rseq

/-- A data page holds the record. -/
def inData (s : State) (r : Record) : Bool := s.ldg.blocks.any (fun b => b.pages.any (fun p => p.any (sameRecord r)))

/-- The reconciliation of journal SRAM, journal area and data pages (R370): a slot in a data page is freed, one found only in the journal
area is restored; after a loss of the journal SRAM that is every record of the area without a data page. -/
def restore (s : State) : State :=
  let s := { s with journal := s.journal.filter (fun (e : JEntry) => !s.inData e.entry) }
  let gone := s.ldg.area.flatten.filter (fun (r : Record) => !s.inData r && !s.journal.any (fun (e : JEntry) => sameRecord r e.entry))
  gone.foldl (fun (s : State) (r : Record) =>
    { s with journal := s.journal ++ [⟨r, true, s.clk32, s.ldg.jnext⟩],
             ldg := { s.ldg with jnext := (s.ldg.jnext + Payload.slots r.payload) % 1024 } }) s

/-- What the boot records and shows of the ledger once it is reconciled (R370, R381). -/
def reconciled (s : State) : State :=
  let s := s.setB LDG.STAT_READY true
  let s := if s.ldg.cut then (s.modLdg (fun l => { l with cut := false })).ldgFault 5 (locBlock 0 14 0) 2 false else s
  let s := s.showFill.showRefresh
  if s.badCount = 0 then s else s.warn 1 s.badCount

/-! ### Refresh and the retention check (R373, R374) -/

/-- The due block that is refreshed next: the one with the oldest program date. -/
def oldestDue (s : State) : Option Nat :=
  (List.range s.ldg.blocks.length).foldl (fun (best : Option Nat) i =>
    match s.ldg.blocks[i]? with
    | none => best
    | some b =>
      if !s.blockDue b then best else
        match best.bind (fun j => s.ldg.blocks[j]?) with
        | some x => if b.date < x.date then some i else best
        | none => some i) none

/-- The readable pages of a block. -/
def readable (b : DataBlock) : List (List Record) :=
  ((List.range b.pages.length).filter (fun i => !b.bad.contains i)).map (fun i => b.pages.getD i [])

/-- One block is copied into an erased reserve block of its die and takes today's program date; the source joins the reserve. The refresh
journal, with which a reset between its entries repeats the copy or the erase, has no step of its own here (log entry 158). -/
def refreshBlock (s : State) (r : NandResult) : State :=
  match s.oldestDue with
  | none => s
  | some i =>
    match s.ldg.blocks[i]? with
    | none => s
    | some b =>
      let s := s.nandResult b.die r
      if s.ldg.dead.contains b.die then s else
        let fresh : DataBlock := { date := dayOf s.rtc, pages := readable b, bad := [], worn := false, die := b.die, lost := [] }
        let s := s.modLdg (fun l => { l with blocks := l.blocks.set i fresh, refreshed := l.refreshed + 1 })
        s.showFill.showRefresh

/-- A parity group has all its data pages, and so its parity page (R371). -/
def wholeGroup (b : DataBlock) (g : Nat) : Bool := decide (15 * (g + 1) ≤ b.pages.length)

/-- Page ECC cannot recover a data page, nor can its parity group: it has no parity yet, or another of its pages is lost too (R372). -/
def unreadable (b : DataBlock) (i : Nat) : Bool :=
  b.lost.contains (rawPage i) && (!wholeGroup b (i / 15) || b.lost.any (fun p => p != rawPage i && p / 16 == i / 15))

/-- A page holds something: a data page, or the parity page of a whole group. -/
def programmed (b : DataBlock) (p : Nat) : Bool := if p % 16 = 15 then wholeGroup b (p / 16) else decide (15 * (p / 16) + p % 16 < b.pages.length)

/-- A block of which ECC cannot recover a page: the data pages that parity cannot rebuild either become unreadable segments. -/
def losePage (b : DataBlock) (p : Nat) : DataBlock :=
  if !programmed b p || b.lost.contains p then b else
    let b := { b with lost := p :: b.lost }
    { b with bad := b.bad ++ (List.range b.pages.length).filter (fun i => unreadable b i && !b.bad.contains i) }

/-- A data page that is held becomes an unreadable segment whatever its content (R27). -/
def spoilPage (b : DataBlock) (p : Nat) : DataBlock :=
  match dataPage p with
  | some i => if i < b.pages.length ∧ !b.bad.contains i then { b with bad := b.bad ++ [i] } else b
  | none => b

/-- A block changes by the pages that have become unreadable, which the day counts. -/
def changeBlock (s : State) (k : Nat) (f : DataBlock → DataBlock) : State :=
  let before := s.badCount
  let s := s.modLdg (fun l => { l with blocks := l.blocks.modify k f })
  s.modLdg (fun l => { l with newBad := l.newBad + (s.badCount - before) })

/-- SEG_BAD, and the warning where segments are newly unreadable (R381). -/
def noteBad (s : State) (before : Nat) : State :=
  if s.badCount ≤ before then s else s.showFill.warn 1 s.badCount

def markLost (s : State) (block p : Nat) : State := (s.changeBlock block (fun b => losePage b p)).noteBad s.badCount
def markBad (s : State) (block p : Nat) : State := (s.changeBlock block (fun b => spoilPage b p)).noteBad s.badCount

/-- The index of a page fails its check: cause 6, and the rebuild from page headers begins, a P3 task (R381). -/
def indexLost (s : State) (loc : Word) : State :=
  (s.ldgFault 6 loc 1 true).modLdg (fun l => { l with rebuild := some (l.rebuild.getD 0) })

/-- A ms of the rebuild, while no housekeeping is held back; cause 6 ends with it (log entries 157 and 158). -/
def rebuildStep (s : State) : State :=
  match s.ldg.rebuild with
  | none => s
  | some k =>
    if s.boot.leDown || !s.slack then s
    else if k + 1 < Config.rebuildTime.toNat then s.modLdg (fun l => { l with rebuild := some (k + 1) })
    else
      let s := s.modLdg (fun l => { l with rebuild := none })
      if s.get LDG.FAULT_CAUSE = 6 then s.setB LDG.FAULT_ACTIVE false else s

/-- A read that needed more than ECC_TH corrections makes its block due for refresh at once (R372). -/
def markWorn (s : State) (block : Nat) : State :=
  (s.modLdg (fun l => { l with blocks := l.blocks.modify block (fun b => { b with worn := true }) })).showRefresh

/-- A record whose HCRC fails is skipped from then on, and its segment is marked (R27, R364); the journal area no longer supplies it. -/
def skipRecord (s : State) (block p k : Nat) : State :=
  match (s.ldg.blocks[block]?).bind (fun b => (dataPage p).bind (fun i => (b.pages[i]?).bind (fun l => l[k]?.map (fun r => (i, r))))) with
  | none => s
  | some (i, r) =>
    ((s.modLdg (fun l => { l with
      blocks := l.blocks.modify block (fun b => { b with pages := b.pages.modify i (fun l => l.eraseIdx k) })
      area := l.area.map (fun l => l.filter (fun x => !sameRecord r x)) })).markBad block p).showFill

/-- The journal slots that a location names: blocks 1 and 2 are the halves of the SRAM, a slot is 32 cells (R22, R395). -/
def slotOfLoc (loc : Word) : Nat := (512 * (fieldOf loc 19 5 - 1) + (1022 * fieldOf loc 14 5 + fieldOf loc 4 10) / 32) % 1024

/-- The record in a slot is discarded (R381, cause 4). -/
def dropSlot (s : State) (x : Nat) : State :=
  ({ s with journal := s.journal.filter (fun (e : JEntry) =>
      decide (Payload.slots e.entry.payload ≤ (x + 1024 - e.slot) % 1024)) }).showJournal

/-- The check has read its blocks, which as a P3 task it does while the pantry lets the refresh task run: pages that cannot be recovered
are marked, a POWER record of KIND 8 follows (R374). `lost` names the pages that ECC cannot recover. -/
def retention (s : State) (lost : List (Nat × Nat)) : State :=
  if !(s.on LDG.STAT_CHECKING && s.p3Runs 0) then s else
    let before := s.badCount
    let s := lost.foldl (fun (s : State) x => s.changeBlock x.1 (fun b => losePage b x.2)) s
    let s := (s.setB LDG.STAT_CHECKING false).powerRec 8 (s.get PWR.STATE_STATE) (s.get PWR.STATE_STATE) (s.badCount - before)
    (s.noteBad before).showFill.showRefresh

def startCheck (s : State) : State := (s.setB LDG.STAT_CHECKING true).showRefresh

/-- Blocks whose retention is in doubt at a boot: every one where the time without power is unknown, else those above 5 years. -/
def checkDue (s : State) : Bool :=
  if s.on TMR.STAT_RTC_VALID && !s.cel.cold then s.ldg.blocks.any (fun b => decide (1826 < s.blockAge b))
  else !s.ldg.blocks.isEmpty

/-! ### The daily summaries (R366) -/

/-- The increase of a counter since the last boundary. -/
def dayInc (s : State) (f : Fld) : Nat :=
  let a := fieldOf (cellGet regReset s.ldg.dayRegs f.addr) f.lo f.width
  let b := s.get f
  if a ≤ b then b - a else b

/-- Every record that this controller holds, data pages first; UNRELIABLE marks those of an unreadable segment (R364). A die that does not
answer supplies none (R381, log entry 158). -/
def heldRecords (s : State) : List Record :=
  ((s.ldg.blocks.filter (fun b => !s.ldg.dead.contains b.die)).flatMap (fun b => (List.range b.pages.length).flatMap (fun i =>
    (b.pages.getD i []).map (fun r => if b.bad.contains i then { r with unreliable := true } else r)))) ++
  s.journal.map (·.entry)

/-- A mean of a list, 0 of an empty one; its maximum; a value as a word of a summary, limited to it. -/
def mean (l : List Nat) : Nat := if l.isEmpty then 0 else l.foldl (· + ·) 0 / l.length
def maxOf (l : List Nat) : Nat := l.foldl max 0
def le2 (v : Nat) : List Byte := leBytes 2 (min v 65535)

/-- The axis block. -/
def axisBlock (s : State) (ax : Fin 16) (fPeak : Nat) : List Byte :=
  let n := doorwayOf ax
  let fr := (List.range 128).map (fun b => s.get (fricF ax b))
  let dev := (List.range 128).map (fun b =>
    max ((s.get (fricF ax b) : Int) - s.get (baseFricF ax b)).natAbs (s.getI (springF ax b) - s.getI (baseSpringF ax b)).natAbs)
  le2 (mean fr) ++ le2 (maxOf dev) ++ leBytes 1 (s.get (satF ax)) ++ leBytes 1 (s.on (validF ax)).toNat ++
  le2 s.ldg.adapted[ax] ++ le2 fPeak ++ le2 (s.get (if isStep ax then DW.LEARN_AGE_STEP n else DW.LEARN_AGE_DOOR n)) ++
  le2 (s.dayInc (AX.DESAT_CNT ax) + s.dayInc (AX.OC_CNT ax)) ++ le2 s.ldg.inpos[ax]

/-- The channels that a doorway's load roles map to. -/
def doorChannels (s : State) (n : Nat) : List (Fin 48) := (List.range 8).filterMap (fun r => (s.roleLs n r).map fin48)

/-- The payload of a doorway's summary. -/
def doorSummary (s : State) (n : Fin 8) (day : Nat) : List Byte :=
  let d := s.ldg.dayAcc[n]
  let heat (k : Nat) : Nat := s.ldg.heatMs[fin16 (2 * n + k)] / 60000
  let sheds := [0, 1].foldl (fun (t : Nat) k => t + ((s.roleLs n k).map (fun c => s.ldg.sheds[fin48 c])).getD 0) 0
  le2 day ++ le2 (s.dayInc (DW.CYCLE_CNT n)) ++ leBytes 4 (s.get (DW.CYCLE_CNT n)) ++
  le2 (s.dayInc (DW.OBST_CNT n)) ++ le2 (s.dayInc (DW.PORCH_HOLD_CNT n)) ++ le2 d.reopens ++
  le2 ((s.doorChannels n).foldl (fun (t : Nat) c => t + s.dayInc (LSG.TRIP_CNT (groupOf c) (inGroup c))) 0) ++
  s.axisBlock (doorAxis n) d.fPeak ++ s.axisBlock (stepAxis n) 0 ++
  le2 (d.openSum / max 1 d.opens) ++ le2 (d.closeSum / max 1 d.closes) ++ le2 d.closeMax ++ le2 (d.waitSum / max 1 d.closes) ++
  le2 (heat 0) ++ le2 (heat 1) ++ le2 sheds ++ le2 (s.ldg.degrMs[n] / 1000) ++ List.replicate 48 0

/-- The payload of the car's summary. -/
def carSummary (s : State) (day : Nat) : List Byte :=
  le2 day ++
  [TIL.TRAC_DROP_CNT, TIL.ZSP_DISC_CNT, STL.TMO_CNT, PBS.OVERRUN_CNT, PBS.SHED_CNT, BRV.HO_CNT, OCC.OVERLOAD_CNT].flatMap
    (fun f => le2 (s.dayInc f)) ++
  le2 s.ldg.refreshed ++ le2 s.ldg.newBad ++ leBytes 2 (codeOf s.ldg.tjMax 16) ++ le2 (s.dayInc CEL.T_WARN_M) ++
  leBytes 4 (s.dayInc LDG.NEXT_RSEQ) ++ leBytes 4 (s.get VLT.GEN) ++ List.replicate 80 0

/-- The cellar counters and the sequence ceilings, which are saved with the record section (R276, R334). -/
def cellarWords : List (Nat × Word) := (List.range 10).map (fun i => (0x03080 + 4 * i, 0xFFFFFFFF#32))
def ceilWords : List (Nat × Word) := (List.range 8).map (fun j => ((STL.CONN_SEQ_CEIL j).addr, 0xFFFFFFFF#32))

/-- The record section goes to the copy not written last (R393). -/
def saveRecords (s : State) : State :=
  let seq0 := (s.vlt.rec0.map (·.seq)).getD 0
  let seq1 := (s.vlt.rec1.map (·.seq)).getD 0
  let cells := (wordsOf .record ++ cellarWords ++ ceilWords).foldl (fun (m : Cells) w => cellSet zeroWord m w.1 (s.word w.1 &&& w.2)) []
  if seq0 ≤ seq1 then { s with vlt := { s.vlt with rec0 := some ⟨seq1 + 1, cells⟩ } }
  else { s with vlt := { s.vlt with rec1 := some ⟨seq0 + 1, cells⟩ } }

/-- LEARN_AGE counts the days since the learn run. -/
def ageModels (s : State) : State :=
  (List.range 8).foldl (fun (s : State) n => (s.inc (DW.LEARN_AGE_DOOR n)).inc (DW.LEARN_AGE_STEP n)) s

/-- DW_USED as a test. -/
def doorUsed (s : State) (n : Nat) : Bool := (s.get SAF.CFG_DW_USED).testBit n

/-- The summaries of a day and the save of the record section, and the next day begins. -/
def summarise (s : State) (day : Nat) : State :=
  let s := ((List.range 8).map fin8).foldl (fun (s : State) (n : Fin 8) =>
    if s.doorUsed n then s.submit (.summary (s.doorSummary n day)) n else s) s
  let s := (s.submit (.summary (s.carSummary day)) 8).ageModels.saveRecords
  let z := Ledger.reset
  let s := s.modLdg (fun l => { l with
    day := dayOf s.rtc, dayRegs := s.regs, dayAcc := z.dayAcc, heatMs := z.heatMs, sheds := z.sheds, degrMs := z.degrMs, adapted := z.adapted,
    inpos := z.inpos, tjMax := s.getI PWR.TEMP_D_TJ1, refreshed := 0, newBad := 0, runMs := 0 })
  s.showRefresh.scrubDue (dayOf s.rtc)

/-! ### Queries and export (R378 to R380) -/

def qryFrom (s : State) : Nat := s.get LDG.QRY_FROM_LO + 2 ^ 32 * s.get LDG.QRY_FROM_HI_FROM
def qryTo (s : State) : Nat := s.get LDG.QRY_TO_LO + 2 ^ 32 * s.get LDG.QRY_TO_HI_TO

def qryMatch (s : State) (r : Record) : Bool :=
  (s.get LDG.QRY_SEL_TYPES).testBit (Payload.typeCode r.payload - 1) && (s.get LDG.QRY_SEL_DW).testBit r.dw &&
  (s.get LDG.QRY_SEL_UNIT).testBit r.unitB.toNat && decide (s.qryFrom ≤ r.time) && decide (r.time ≤ s.qryTo)

/-- The order of matches: TIME, UNIT, RSEQ. -/
def recBefore (a b : Record) : Bool :=
  a.time < b.time || (a.time == b.time && (a.unitB.toNat < b.unitB.toNat || (a.unitB == b.unitB && decide (a.rseq < b.rseq))))

def insertRec (r : Record) : List Record → List Record
  | [] => [r]
  | x :: t => if recBefore r x then r :: x :: t else x :: insertRec r t

def sortRecs (rs : List Record) : List Record := rs.foldl (fun (l : List Record) r => insertRec r l) []

/-- A request starts: VALID = 0, and REQ takes the matches among the records journalled by now. -/
def startQuery (s : State) (q : QryReq) : State :=
  let s := s.resClear LDG.QRY_STAT
  let s := s.modLdg (fun l => { l with req := some q })
  if q = .first then s.modLdg (fun l => { l with query := ⟨sortRecs (s.heldRecords.filter s.qryMatch)⟩ }) else s

/-- While a DMA transfer runs a request is carried out when the transfer ends. -/
def requestQuery (s : State) (q : QryReq) : State :=
  if s.ldg.dma then (s.resClear LDG.QRY_STAT).modLdg (fun l => { l with held := some q }) else s.startQuery q

/-- The slots of a chunk as words. -/
def slotWords (rs : List Record) : List Word :=
  rs.flatMap (fun r =>
    let bs := recordBytes r
    (List.range (16 * Payload.slots r.payload)).map (fun i => BitVec.ofNat 32 (ofLeBytes ((bs.drop (4 * i)).take 4))))

/-- The slots of the staging area (R209, R378). -/
def stagingSlots : Nat := 2097152

/-- The next chunk: at most `k` records, in at most the slots that are left. -/
def takeChunk : Nat → Nat → List Record → List Record × List Record
  | _, _, [] => ([], [])
  | k, room, r :: t =>
    if k = 0 ∨ room < Payload.slots r.payload then ([], r :: t) else
      let (a, b) := takeChunk (k - 1) (room - Payload.slots r.payload) t
      (r :: a, b)

/-- The chunk is staged: the result block, the window at its first word, EVT bit 2. -/
def queryDone (s : State) : State :=
  match s.ldg.req with
  | none => s
  | some _ =>
    let s := s.modLdg (fun l => { l with req := none })
    if s.qryTo < s.qryFrom then (s.resDone LDG.QRY_STAT true).raise 0x0C 2 else
      let (chunk, rest) := takeChunk (s.get LDG.QRY_MAX_MAX) stagingSlots s.ldg.query.rest
      let words := slotWords chunk
      let s := s.modLdg (fun l => { l with query := ⟨rest⟩, staged := words })
      let s := (s.set LDG.QRY_COUNT chunk.length).set LDG.QRY_SLOTS (words.length / 16)
      let s := (s.setB LDG.QRY_MORE_MORE (!rest.isEmpty)).set LDG.QRY_UNREL (chunk.filter (·.unreliable)).length
      let s := (s.set LDG.RD_STAT_LEFT (words.length / 16)).set LDG.RD_STAT_WORD 0
      (s.resDone LDG.QRY_STAT false).raise 0x0C 2

/-- The word that RD_WIN shows: 0 once every slot has been read (R48, R379). -/
def rdWord (s : State) : Word :=
  let slots := s.ldg.staged.length / 16
  if s.get LDG.RD_STAT_LEFT = 0 then 0
  else s.ldg.staged.getD (16 * (slots - s.get LDG.RD_STAT_LEFT) + s.get LDG.RD_STAT_WORD) 0

/-- A full read of RD_WIN pops its word. -/
def rdPop (s : State) : State :=
  if s.get LDG.RD_STAT_LEFT = 0 then s
  else if s.get LDG.RD_STAT_WORD = 15 then (s.set LDG.RD_STAT_WORD 0).set LDG.RD_STAT_LEFT (s.get LDG.RD_STAT_LEFT - 1)
  else s.set LDG.RD_STAT_WORD (s.get LDG.RD_STAT_WORD + 1)

def dmaAddr (s : State) : Nat := s.get LDG.DMA_ADDR_LO + 2 ^ 32 * s.get LDG.DMA_ADDR_HI

/-- No transfer runs any more: a request held meanwhile is carried out (R378). -/
def runHeld (s : State) : State :=
  match s.ldg.held with
  | some q => (s.modLdg (fun l => { l with held := none })).startQuery q
  | none => s

/-- DMA_CTRL.GO: refused with ERR where the port is not PCIe or the address not 64-byte aligned (R380). A transfer that still runs is
abandoned (R49, R55). -/
def dmaGo (s : State) : State :=
  let s := (s.resClear LDG.DMA_STAT).modLdg (fun l => { l with dma := false })
  if s.get HIF.HOST_CFG_HOSTSEL ≠ 2 ∨ s.dmaAddr % 64 ≠ 0 then ((s.resDone LDG.DMA_STAT true).raise 0x0C 3).runHeld
  else s.modLdg (fun l => { l with dma := true })

/-- A transfer ends after `k` words. -/
def dmaEnd (s : State) (k : Nat) : State :=
  if !s.ldg.dma then s else
    let s := s.emit (.dmaWrite s.dmaAddr (s.ldg.staged.take k))
    let s := (s.modLdg (fun l => { l with dma := false })).set LDG.DMA_BYTES (4 * min k s.ldg.staged.length)
    ((s.resDone LDG.DMA_STAT false).raise 0x0C 3).runHeld

/-- CTRL.CLR (R382). -/
def ldgClear (s : State) : State :=
  let w := s.get LDG.STAT_WARN
  let s := s.set LDG.STAT_WARN (w &&& 0b001101)
  if s.on LDG.FAULT_ACTIVE then s else (s.set LDG.FAULT_CAUSE 0).set LDG.FAULT_LOC 0

end State

/-! ### Meanings -/

/-- R367: a record is submitted to the journal port. -/
def execRecordSubmit (p : Payload) (dw : Fin 9) (s : State) : Host.Outcome State Fault Refusal := .next (s.submit p dw)

/-- R368, R371, R375. -/
def execDataPageWrite (r : NandResult) (s : State) : Host.Outcome State Fault Refusal := .next (s.whenLe fun s => (s.dataPageWrite r))

/-- R368: the oldest slot that is not durable has waited 60 s. -/
def execJournalAreaWrite (s : State) : Host.Outcome State Fault Refusal := .next (s.whenLe fun s => s.journalDurable)

/-- R368: CTRL.FLUSH. -/
def execLdgFlush (s : State) : Host.Outcome State Fault Refusal := .next (s.whenLe fun s => s.journalDurable)

/-- R373. -/
def execBlockRefresh (r : NandResult) (s : State) : Host.Outcome State Fault Refusal :=
  .next (s.whenLe fun s => (if s.p3Runs 0 then s.refreshBlock r else s))

/-- R323, R381: the refresh is more than 30 days overdue, by the program dates. -/
def execRefreshEscalation (s : State) : Host.Outcome State Fault Refusal := .next (s.whenLe fun s => s.showRefresh)

/-- R374. -/
def execRetentionCheck (bad : List (Nat × Nat)) (s : State) : Host.Outcome State Fault Refusal := .next (s.whenLe fun s => (s.retention bad))

/-- R374, R382: CTRL.CHECK. -/
def execLdgCheck (s : State) : Host.Outcome State Fault Refusal := .next (s.whenReady fun s => s.startCheck)

/-- R366: the day that ends is summarised; while the RTC is not valid, 24 h in SERVICE or WATCH. -/
def execDayBoundary (s : State) : Host.Outcome State Fault Refusal :=
  .next (s.whenLe fun s =>
    if (if s.on TMR.STAT_RTC_VALID then dayOf s.rtc != s.ldg.day else decide (dayMs ≤ s.ldg.runMs)) then s.summarise s.ldg.day else s)

/-- R378. -/
def execLdgQryReq (s : State) : Host.Outcome State Fault Refusal := .next (s.whenReady fun s => (s.requestQuery .first))

/-- R378. -/
def execLdgQryNext (s : State) : Host.Outcome State Fault Refusal := .next (s.whenReady fun s => (s.requestQuery .next))

/-- R378. -/
def execLdgQryDone (s : State) : Host.Outcome State Fault Refusal := .next (s.whenLe fun s => s.queryDone)

/-- R379. -/
def execRdWinRead (s : State) : Host.Outcome State Fault Refusal := 
  .next (if s.ready then s.rdPop.emit (.readData (wordBytes s.rdWord)) else s.emit (.readData (wordBytes 0)))

/-- R380. -/
def execDmaGo (s : State) : Host.Outcome State Fault Refusal := .next (s.whenReady fun s => s.dmaGo)

/-- R380: the transfer ends at a payload boundary, which the spec does not fix further (log entry 57). -/
def execDmaAbort (s : State) : Host.Outcome State Fault Refusal :=
  .next (s.whenReady fun s => (if s.ldg.dma then (s.dmaEnd (16 * (s.freeWord.toNat % (s.ldg.staged.length / 16 + 1)))).bumpFree else s))

/-- R380. -/
def execDmaDone (s : State) : Host.Outcome State Fault Refusal := .next (s.whenLe fun s => (s.dmaEnd s.ldg.staged.length))

/-- R382. -/
def execLdgClr (s : State) : Host.Outcome State Fault Refusal := .next (s.whenReady fun s => s.ldgClear)

end Sys2Proof.Machine
end

