-- ==== Sys2Proof/Machine/Vault.lean ====
section
/-! DEFINITION. The configuration vault (R383 to R396): edit sessions and the password, the commit and its refusals, the push of the
fail-safe copies, the load at boot, and CLR_MODEL (R181). -/

namespace Sys2Proof.Machine

namespace State

def modVlt (s : State) (g : Vault → Vault) : State := { s with vlt := g s.vlt }

/-! ### Faults (R395, R396) -/

def vltFault (s : State) (cause : Nat) (loc : Word) (kind : Nat) (active : Bool) : State :=
  let s := ((s.set VLT.FAULT_CAUSE cause).setB VLT.FAULT_ACTIVE active).set VLT.FAULT_LOC loc.toNat
  s.logFault 0x07 cause loc kind 0 (s.word VLT.FAULT.addr).toNat none

def vltLoc (block : Nat) : Word := locBlock 0 15 block

/-! ### Sessions (R385 to R388) -/

/-- CTRL of the page is at this offset. -/
def vltReject (s : State) : State := s.reject 0x07 0x078

def clearPw (s : State) : State := s.modVlt (fun v => { v with pw := [] })

/-- An EVENT of code 14. -/
def sessionEvent (s : State) (what why : Nat) : State := s.event 14 15 0 what (s.vlt.sessions % 65536) why 8

/-- An open session ends for the reason of *Session end reasons*. -/
def endSession (s : State) (why : Nat) : State :=
  if !s.on VLT.STAT_SESSION then s else
    let s := ((s.setB VLT.STAT_SESSION false).set VLT.SESSION_LEFT_S 0).clearPw.modVlt (fun v => { v with newPw := none })
    (s.sessionEvent 2 why).raise 0x07 2

/-- The RWS words of the pages that are no doorway page, and the session-gated words of SAF. -/
def storedWords : List (Nat × Word) :=
  ((List.range 256).filter (fun p => !(0x10 ≤ p && p < 0x18))).flatMap rwsWords ++
  [SAF.CFG, SAF.TP, SAF.BRIGHT0, SAF.BRIGHT1, SAF.EGR].map (fun f => (f.addr, 0xFFFFFFFF#32))

/-- The stored values return to the committed ones (R388, R88). -/
def returnStored (s : State) : State :=
  let s := storedWords.foldl (fun (s : State) w => s.loadWord w) s
  let s := (s.setB SAF.STAT_CFG_PENDING false).showSenses
  ((List.range 8).map fin8).foldl (fun (s : State) (n : Fin 8) => s.returnDoor n) s

/-- The end of a session without a commit: CONFIG_CHANGE of source 3 and result 3, and the values return. A commit that is under way runs
to its result, and ends the session then (R389). -/
def dropSession (s : State) (why : Nat) : State :=
  if !s.on VLT.STAT_SESSION || s.on VLT.STAT_COMMITTING then s else
    ((s.endSession why).configChange 3 3 0 s.bankInForce s.bankInForce).returnStored

/-- The password in the window: PW_LEN bytes of its words. -/
def pwBytes (s : State) : List Byte := (s.vlt.pw.flatMap wordBytes).take (s.get VLT.PW_LEN_LEN)



/-- CTRL.UNLOCK (R385, R386). -/
def unlock (s : State) : State :=
  if s.on VLT.STAT_LOCKOUT || !s.active || s.on VLT.STAT_SESSION || s.on VLT.STAT_COMMITTING then s.vltReject
  else s.modVlt (fun v => { v with checking := true })

/-- The comparison is done: the window is cleared in every case. -/
def passwordDone (s : State) : State :=
  if !s.vlt.checking then s else
    let good := sha256 (s.bankInForce.salt ++ s.pwBytes) == s.bankInForce.hash
    let s := s.clearPw.modVlt (fun v => { v with checking := false })
    if good then
      let s := ((s.setB VLT.STAT_SESSION true).set VLT.SESSION_LEFT_S 600).set VLT.STAT_FAIL_CNT 0
      let s := s.modVlt (fun v => { v with sessions := v.sessions + 1, sessAt := s.clk32 })
      (s.sessionEvent 1 0).raise 0x07 2
    else
      let s := s.inc VLT.FAIL_TOTAL
      if s.get VLT.STAT_FAIL_CNT < 4 then s.set VLT.STAT_FAIL_CNT (s.get VLT.STAT_FAIL_CNT + 1) else
        let s := ((s.setB VLT.STAT_LOCKOUT true).set VLT.LOCK_LEFT_S 60).set VLT.STAT_FAIL_CNT 0
        let s := (s.modVlt (fun v => { v with lockAt := s.clk32 })).inc VLT.LOCKOUT_CNT
        (s.raise 0x07 1).sessionEvent 3 0

def lockoutEnd (s : State) : State := (s.setB VLT.STAT_LOCKOUT false).set VLT.LOCK_LEFT_S 0

/-- CTRL.ABORT; without a session nothing is to end. -/
def abortSession (s : State) : State := if s.on VLT.STAT_COMMITTING then s.vltReject else s.dropSession 3

/-- CTRL.NEWPW: the window is the new password, with a new salt (R387, log entry 6). -/
def newPassword (s : State) : State :=
  if !s.editable then s.vltReject else
    let salt := (List.range 16).map (fun i => Config.saltByte s.free i)
    (s.modVlt (fun v => { v with newPw := some (sha256 (salt ++ s.pwBytes), salt) })).clearPw.bumpFree

/-! ### The commit (R389, R390) -/

/-- A safety-marked channel with FS other than OFF or SRC other than 0. -/
def unsafeFs (s : State) : Bool :=
  (List.range 48).any (fun c =>
    (s.get (LSG.SAFE (c / 12))).testBit (c % 12) &&
    (s.get (LSG.FS (c / 12)) / 4 ^ (c % 12) % 4 != 0 || s.get (LSG.SRC (c / 12)) / 4 ^ (c % 12) % 4 != 0))

/-- The first refusal reason that applies, 0 for none. -/
def refusal (s : State) : Nat :=
  if !s.on VLT.STAT_SESSION then 1
  else if s.unsafeFs then 2
  else if s.on VLT.STAT_DELIVERY && s.vlt.newPw.isNone then 3
  else if !s.active then 4
  else 0

/-- The result of a commit: the result block, EVT bit 0. -/
def commitResult (s : State) (reason : Nat) : State :=
  ((s.set VLT.CMT_REASON_REASON reason).resDone VLT.CMT_STAT (reason != 0)).raise 0x07 0

/-- A refusal: the record, the end of the session, the return of the stored values. -/
def refuse (s : State) (reason : Nat) : State :=
  let s := s.configChange 0 1 reason s.bankInForce s.bankInForce
  let s := if reason = 1 then s else (s.endSession 2).returnStored
  s.commitResult reason

/-- A commit stores 50 for each safety-marked input whose FILT reads above 50 (R256). -/
def capFilters (s : State) : State :=
  (List.range 64).foldl (fun (s : State) (i : Nat) =>
    if s.diSafe i && decide (50 < s.get (DIN.FILT_FILT i)) then s.set (DIN.FILT_FILT i) 50 else s) s

/-- CTRL.COMMIT: the image is built from the registers as they stand. -/
def commit (s : State) : State :=
  if s.on VLT.STAT_COMMITTING then s.vltReject else
    let s := s.resClear VLT.CMT_STAT
    if s.refusal = 0 then
      let s := s.capFilters
      (s.modVlt (fun v => { v with building := some (s.buildBank ((s.bankInForce.gen + 1) % 2 ^ 32)) })).setB VLT.STAT_COMMITTING true
    else s.refuse s.refusal

/-- The host commit ends: the bank comes into force, or the write failed twice (reason 5). -/
def commitDone (s : State) (good : Bool) : State :=
  match s.vlt.building with
  | none => s
  | some b =>
    let s := (s.modVlt (fun v => { v with building := none })).setB VLT.STAT_COMMITTING false
    if good then
      let s := ((s.switchBank b 0 true).inc VLT.COMMIT_CNT).judgeModels
      let s := (s.set VLT.CMT_REASON_REASON 0).resDone VLT.CMT_STAT false
      let s := s.setB SAF.STAT_CFG_PENDING false
      s.endSession 1
    else s.refuse 5

/-! ### The fail-safe copies (R390) -/

def fsBit (s : State) (g : Fin 4) (b : Bool) : State :=
  let w := s.get VLT.STAT_FS_UNCONF
  if w.testBit g == b then s else s.set VLT.STAT_FS_UNCONF (if b then w + 2 ^ g.val else w - 2 ^ g.val)

/-- A die that has not confirmed its copy keeps the previous one: the first failure of ten (R390, R395). -/
def unconfirmed (s : State) (g : Fin 4) : State :=
  let p := s.vlt.before[g]
  let s := s.modDie g (fun d => { d with src := p.src, safe := p.safe, fs := p.fs, holdT := p.holdT, prof := p.prof })
  let s := s.modVlt (fun v => { v with pushes := v.pushes.set g 1 })
  (s.fsBit g true).evalGroup g

/-- A repeated push: confirmed, or the next failure; the tenth is VLT fault cause 3, after which the retries go on. -/
def retryPush (s : State) (g : Fin 4) (confirmed : Bool) : State :=
  if !(s.get VLT.STAT_FS_UNCONF).testBit g then s
  else if confirmed then
    let s := (s.pushDie g).fsBit g false
    if s.get VLT.STAT_FS_UNCONF = 0 ∧ s.get VLT.FAULT_CAUSE = 3 then s.setB VLT.FAULT_ACTIVE false else s
  else if 10 ≤ s.vlt.pushes[g] then s
  else
    let s := s.modVlt (fun v => { v with pushes := v.pushes.set g (v.pushes[g] + 1) })
    if s.vlt.pushes[g] = 10 then s.vltFault 3 (vltLoc 31) 2 true else s

/-! ### The load at boot (R384, R392, R393) -/



/-- The record section: the copy with the higher sequence; with neither, counters of 0 and tables from the baselines, and VLT fault
cause 5. After a loss of the cellar its counters come from the copy. -/
def loadRecords (s : State) : State :=
  let best := match s.vlt.rec0, s.vlt.rec1 with
    | some a, some b => some (if a.seq < b.seq then b else a)
    | some a, none => some a
    | none, r => r
  match best with
  | some r =>
    let put (s : State) (w : Nat × Word) : State :=
      s.setWord w.1 ((s.word w.1 &&& ~~~ w.2) ||| (cellGet zeroWord r.cells w.1 &&& w.2))
    let s := (wordsOf .record).foldl put s
    if s.cel.cold then
      (List.range 8).foldl (fun (s : State) (j : Nat) => s.set (STL.CONN_SEQ_CEIL j) (ceilAdd (s.get (STL.CONN_SEQ_CEIL j)) (2 ^ 24)))
        ((cellarWords ++ ceilWords).foldl put s)
    else s
  | none =>
    let s := (wordsOf .record).foldl (fun (s : State) w => s.setWord w.1 (s.word w.1 &&& ~~~ w.2)) s
    let s := ((List.range 16).map fin16).foldl (fun (s : State) (ax : Fin 16) => s.resetAdapt ax) s
    s.vltFault 5 (vltLoc 13) 2 false

/-- The newest change-log entry's bank and GEN. -/
def lastLog (s : State) : Option (Bool × Nat) :=
  match s.vlt.log with
  | ⟨_, _, _, _, _, _, .configChange c⟩ :: _ => some (c.bank == 1, c.gen)
  | _ => none

/-- The entries that a commit cut by a reset leaves open (R392). -/
def logCut (s : State) : State :=
  let cur := s.bankInForce
  let other := if s.vlt.inB then s.vlt.a else s.vlt.b
  let s := match s.lastLog with
    | some (_, g) => if g = cur.gen then s else s.configChange 6 0 0 cur other
    | none => s.configChange 6 0 0 cur other
  if other.magic == bankMagic && other.commit != bankCommit && decide (cur.gen < other.gen) then s.configChange 0 2 0 other cur else s

/-- The choice of the bank. With neither valid no previous image can be read: the record of source 5 names the delivery image as both
(DESIGN CHOICE, log entry 6). -/
def chooseBank (s : State) : State :=
  let va := Bank.valid s.vlt.a
  let vb := Bank.valid s.vlt.b
  let s := (s.setB VLT.STAT_A_VALID va).setB VLT.STAT_B_VALID vb
  if !va && !vb then (s.vltFault 1 (vltLoc 31) 2 true).configChange 5 0 0 deliveryBank deliveryBank
  else
    let inB := vb && (!va || decide (s.vlt.a.gen < s.vlt.b.gen))
    let s := s.modVlt (fun v => { v with inB := inB })
    let s := if va && vb then s else
      let s := s.vltFault 2 (vltLoc (if va then 6 else 0)) 2 true
      if s.lastLog.map (·.1) == some inB then s else s.configChange 4 0 0 s.bankInForce s.bankInForce
    s.logCut

/-- What LE records of a session that a reset ended: the EVENT, and where no commit was under way the CONFIG_CHANGE (R387, R388). -/
def recordCut (s : State) : State :=
  let s := if s.vlt.cut then s.sessionEvent 2 5 else s
  let s := if s.vlt.dropped then s.configChange 3 3 0 s.bankInForce s.bankInForce else s
  s.modVlt (fun v => { v with cut := false, dropped := false })

/-- The vault is loaded: bank, image, record section; GEN and the hash show it; a session that a reset ended is recorded; SC takes
its copies, and the dies theirs. -/
def loadVault (s : State) : State :=
  let s := s.chooseBank
  let s := (wordsOf .image).foldl (fun (s : State) w => s.loadWord w) s
  let s := s.set VLT.LOG_HEAD_COUNT (min 256 s.vlt.log.length)
  ((s.loadRecords).judgeModels.recordCut.showInForce).showSenses

/-! ### Errors of the eNVM (R27, R395) -/

/-- A bank with an uncorrectable error is invalid; where it was in force, the other one is loaded, or with none valid the delivery image:
SC's copies, the pushes, the record of source 4 or 5, and the words that a session's end also returns (R27, R384, log entry 125). -/
def bankLost (s : State) (b : Bool) : State :=
  let old := s.bankInForce
  let s := s.modVlt (fun v => if b then { v with b := { v.b with good := false } } else { v with a := { v.a with good := false } })
  if s.vlt.inB != b || !Bank.valid old then s.showBanks else
    let falls := Bank.valid (if b then s.vlt.a else s.vlt.b)
    let s := (s.modVlt (fun v => { v with inB := if falls then !b else b })).showInForce
    let s := if falls then s else s.vltFault 1 (vltLoc 31) 2 true
    ((s.configChange (if falls then 4 else 5) 0 0 s.bankInForce old).returnStored).judgeModels

/-- The eNVM block that a location names decides what is lost: a bank, or a copy of the record section; VLT fault cause 4. -/
def vaultEcc (s : State) (loc : Word) : State :=
  let blk := fieldOf loc 19 5
  let cell := 1022 * fieldOf loc 14 5 + fieldOf loc 4 10
  let s := if blk < 6 then s.bankLost false
    else if blk < 12 then s.bankLost true
    else if blk = 13 ∨ (blk = 14 ∧ cell < 8192) then s.modVlt (fun v => { v with rec0 := none })
    else if blk = 14 ∨ blk = 15 then s.modVlt (fun v => { v with rec1 := none })
    else s
  s.vltFault 4 loc 1 false

/-- A change-log entry whose HCRC fails is dropped: VLT fault cause 6. -/
def logLost (s : State) (back : Nat) : State :=
  let s := s.modVlt (fun v => { v with log := v.log.eraseIdx back })
  (s.set VLT.LOG_HEAD_COUNT (min 256 s.vlt.log.length)).vltFault 6 (vltLoc 12) 2 false

/-- What a reset leaves of the vault (R392, R427, R436): a commit under way leaves its bank without a commit word. -/
def vaultReset (v : Vault) (open_ : Bool) : Vault :=
  let v := match v.building with
    | none => v
    | some b => if v.inB then { v with a := { b with commit := 0 } } else { v with b := { b with commit := 0 } }
  { v with building := none, checking := false, pw := [], newPw := none, cut := v.cut || open_,
           dropped := v.dropped || (open_ && v.building.isNone), pushes := Vector.replicate 4 0 }

/-- The change-log entry that LOG_SEL selects, as words (R394). -/
def logEntry (s : State) (k : Nat) : Word :=
  match s.vlt.log[s.get VLT.LOG_SEL_BACK]? with
  | some r => BitVec.ofNat 32 (ofLeBytes (((recordBytes r).drop (4 * k)).take 4))
  | none => 0

/-! ### CLR_MODEL (R181) -/

/-- The baseline of an axis is cleared. -/
def clearAxisModel (s : State) (ax : Fin 16) : State :=
  let n := doorwayOf ax
  let s := (List.range 128).foldl (fun (s : State) b =>
    let s := (s.setI (baseSpringF ax b) 0).setI (baseFricF ax b) 0
    (s.setI (springF ax b) 0).setI (fricF ax b) 0) s
  let s := if isStep ax then (s.set (DW.M_C_STEP_M_EQ n) 0).set (DW.M_C_STEP_C_VISC n) 0
    else (s.set (DW.M_C_DOOR_M_EQ n) 0).set (DW.M_C_DOOR_C_VISC n) 0
  let s := s.set (crcF ax) (s.baseCrc ax).toNat
  (s.set (satF ax) 0).setB (validF ax) false

def clearModel (s : State) (n : Fin 8) : State :=
  if s.dwState n = .closedLocked ∧ !s.pageOn (pgDW n) ∧ s.editable then
    ((s.clearAxisModel (doorAxis n)).clearAxisModel (stepAxis n)).setDegr n 4 true
  else s.reject (pgDW n) 0x148

end State

/-! ### Meanings -/

/-- R385: one full word of the password window; the window holds eight. -/
def execPwWinWrite (w : Word) (s : State) : Host.Outcome State Fault Refusal :=
  .next (s.whenReady fun s => (if s.vlt.pw.length < 8 then s.modVlt (fun v => { v with pw := v.pw ++ [w] }) else s))

/-- R385, R386. -/
def execUnlock (s : State) : Host.Outcome State Fault Refusal := .next (s.whenReady fun s => s.unlock)

/-- R385. -/
def execPasswordCheckDone (s : State) : Host.Outcome State Fault Refusal := .next (s.whenLe fun s => s.passwordDone)

/-- R385. -/
def execLockoutEnd (s : State) : Host.Outcome State Fault Refusal := .next s.lockoutEnd

/-- R387: SESSION_LEFT has reached 0; a commit that runs goes on to its result (R389). -/
def execSessionTimeout (s : State) : Host.Outcome State Fault Refusal :=
  .next (s.whenReady fun s => (if s.on VLT.STAT_COMMITTING then s.set VLT.SESSION_LEFT_S 0 else s.dropSession 4))

/-- R387. -/
def execAbort (s : State) : Host.Outcome State Fault Refusal := .next (s.whenReady fun s => s.abortSession)

/-- R387. -/
def execNewpw (s : State) : Host.Outcome State Fault Refusal := .next (s.whenReady fun s => s.newPassword)

/-- R389. -/
def execCommit (s : State) : Host.Outcome State Fault Refusal := .next (s.whenReady fun s => s.commit)

/-- R389, R390: the eNVM holds the image and its read-back matches, or not. -/
def execCommitDone (good : Bool) (s : State) : Host.Outcome State Fault Refusal := .next (s.whenLe fun s => (s.commitDone good))

/-- R390. -/
def execFsConfirmTimeout (g : Fin 4) (s : State) : Host.Outcome State Fault Refusal := .next (s.whenReady fun s => (s.unconfirmed g))

/-- R390. -/
def execFsPushRetry (g : Fin 4) (confirmed : Bool) (s : State) : Host.Outcome State Fault Refusal := .next (s.whenLe fun s => (s.retryPush g confirmed))

/-- R181. -/
def execClrModel (n : Fin 8) (s : State) : Host.Outcome State Fault Refusal := .next (s.whenReady fun s => (s.clearModel n))

end Sys2Proof.Machine
end

