-- ==== Sys2Proof/Machine/Partner.lean ====
section
/-! DEFINITION. The active and standby partners (R339 to R362): the mirror, the link and its lanes, heartbeats, roles, the health
report, handover and takeover, the returning unit. -/

namespace Sys2Proof.Machine

/-- PART_ROLE and ROLE codes (R361). -/
def roleSyncing : Nat := 0
def roleStandby : Nat := 1
def roleActive : Nat := 2
def roleOut : Nat := 3

namespace State

def modPar (s : State) (g : Partner → Partner) : State := { s with par := g s.par }
def role_ (s : State) : Nat := s.get BRV.STAT_ROLE
def isB (s : State) : Bool := s.on BRV.STAT_UNITSEL
/-- Microseconds since a CLK32 edge. -/
def usSince (s : State) (t : Nat) : Nat := (s.clk32 - t) * 15625 / 512

/-! ### BRV faults (R362) -/

/-- The block of *BRV fault causes*. -/
def brvBlock (cause : Nat) : Nat :=
  match cause with
  | 1 => 1
  | 7 => 1
  | 4 => 2
  | 5 => 2
  | _ => 0

/-- A BRV fault: `macro_` is the lane of cause 3, 31 for the rest. -/
def brvFault (s : State) (cause macro_ : Nat) (active : Bool) : State :=
  let loc := locCode 0 13 (brvBlock cause) macro_ 1023 0
  let s := ((s.set BRV.FAULT (cause + 256 * active.toNat)).set BRV.FAULT_LOC loc.toNat).raise 0x0B 1
  s.logFault 0x0B cause loc 2 0 (s.get BRV.FAULT) none



/-- CTRL.CLR. -/
def brvClear (s : State) : State :=
  if s.on BRV.FAULT_ACTIVE then s else (s.set BRV.FAULT 0).set BRV.FAULT_LOC 0

/-! ### The mirror that the ACTIVE unit sends (R345) -/

def axisMirror (s : State) (ax : Fin 16) : AxisMirror where
  target := s.word (AX.TARGET ax).addr
  profs := [false, true].flatMap (fun up => (List.range 6).map (fun k => BitVec.ofNat 32 (s.prof ax up k)))
  posOfs := s.word (AX.POS_OFS ax).addr

def doorMirror (s : State) (n : Fin 8) : DoorMirror where
  flags := s.word (DW.STATE n).addr
  degr := s.word (DW.DEGR n).addr
  fault := s.get (DW.FAULT_CAUSE n)
  exec := s.word (DW.SECT n).addr
  reopens := s.dw[n].reopenings
  elapsed := s.dw[n].closeWait.map (fun t => (s.tick n - t) / 5)
  axes := [s.axisMirror (doorAxis n), s.axisMirror (stepAxis n)]
  cause := s.get (SAF.DEGR_CAUSE n)
  left := s.get (SAF.DEGR_LEFT n)
  cycles := s.get (DW.CYCLE_CNT n)
  obst := s.get (DW.OBST_CNT n)
  holds := s.get (DW.PORCH_HOLD_CNT n)

/-- A connection; send times go as ticks before the frame. -/
def connMirror (s : State) (j : Fin 8) : ConnMirror where
  state := s.connState j
  txSeq := s.get (STL.CONN_TX_SEQ j)
  rxSeq := s.get (STL.CONN_RX_SEQ j)
  sent := s.stl.conn[j].sent.map (fun x => (x.1, s.sc.tick - x.2))

def mirrorOf (s : State) : MirrorFrame where
  doors := (List.range 8).map (fun n => s.doorMirror (fin8 n))
  on := (List.range 48).foldl (fun (w : BitVec 48) c => if s.on (onBit (fin48 c)) then w ||| (1#48 <<< c) else w) 0
  conns := (List.range 8).map (fun j => s.connMirror (fin8 j))

/-! ### What a unit that is not ACTIVE shows of the mirror (R349, R360) -/

def showAxis (s : State) (ax : Fin 16) (m : AxisMirror) : State :=
  let s := (s.setWord (AX.TARGET ax).addr m.target).setWord (AX.POS_OFS ax).addr m.posOfs
  let s := s.sampleAxis ax
  if isStep ax then s.setI (DW.STEP_POS (doorwayOf ax)) (s.getI (AX.POS ax))
  else s.setI (DW.DOOR_POS (doorwayOf ax)) (s.getI (AX.POS ax))

def showDoor (s : State) (n : Fin 8) (m : DoorMirror) : State :=
  let ev := s.get (DW.STATE_DW_STATE n) != fieldOf m.flags 0 4 || s.get (DW.STATE_STEP_STATE n) != fieldOf m.flags 4 3
  let s := ((s.setWord (DW.STATE n).addr m.flags).setWord (DW.DEGR n).addr m.degr).setWord (DW.SECT n).addr m.exec
  let s := ((s.set (DW.FAULT_CAUSE n) m.fault).set (DW.CYCLE_CNT n) m.cycles).set (DW.OBST_CNT n) m.obst
  let s := (s.set (DW.PORCH_HOLD_CNT n) m.holds).gapFreeze n true (StepState.ofCode (fieldOf m.flags 4 3))
  let s := match m.axes with
    | d :: t :: _ => (s.showAxis (doorAxis n) d).showAxis (stepAxis n) t
    | _ => s
  s.raiseIf ev (pgDW n) 0

/-- RX_SEQ follows the mirror and the own reception, whichever is later (0: none); the mirrored SEQ values serve check 6 (R285); the
ceiling stays 65,536 above TX_SEQ (R276). -/
def showConnMirror (s : State) (j : Fin 8) (m : ConnMirror) : State :=
  let own := s.get (STL.CONN_RX_SEQ j)
  let s := s.set (STL.CONN_TX_SEQ j) m.txSeq
  let s := s.set (STL.CONN_RX_SEQ j) (if own = 0 ∨ (m.rxSeq ≠ 0 ∧ seqDiff m.rxSeq own < 2 ^ 31) then m.rxSeq else own)
  let ahead := seqDiff (s.get (STL.CONN_SEQ_CEIL j)) m.txSeq
  let s := if 65536 ≤ ahead ∧ ahead < 2 ^ 31 then s else s.set (STL.CONN_SEQ_CEIL j) (ceilAdd m.txSeq 65536)
  s.modConn j (fun c => { c with partner := m.sent.map (fun x => (x.1, s.sc.tick - x.2)) })

/-- Folds over a list with its index. -/
def eachIdx {α : Type} (s : State) (l : List α) (f : State → Nat → α → State) : State :=
  (l.foldl (fun (x : State × Nat) a => (f x.1 x.2 a, x.2 + 1)) (s, 0)).1

def showMirror (s : State) (m : MirrorFrame) : State :=
  let s := s.eachIdx (m.doors.take 8) (fun s n d => s.showDoor (fin8 n) d)
  s.eachIdx (m.conns.take 8) (fun s j c => s.showConnMirror (fin8 j) c)

/-! ### Roles (R347) -/

/-- A unit that leaves STANDBY ends its self-test (R358). -/
def endTest (s : State) : State :=
  if s.role_ = roleStandby then s else (s.modPar (fun p => { p with testing := false, testAt := none })).setTask 3 false

/-- A change of role: EVT bit 0, PREV_ROLE, its cause where it has one, EVENT 13. -/
def setRole (s : State) (r : Nat) (cause : Option Nat) : State :=
  let old := s.role_
  if old = r then s else
    let s := ((s.set BRV.STAT_ROLE r).set BRV.LAST_HO_PREV_ROLE old)
    let s := match cause with
      | some c => s.set BRV.LAST_HO_CAUSE c
      | none => s
    let s := s.endTest.showAlive.raise 0x0B 0
    s.event 13 13 0 old r (s.get BRV.LAST_HO_CAUSE) 8

/-- The dies follow the unit's role at their next link frame; one without a heartbeat keeps what its last one named (R312). -/
def diesFollow (s : State) : State :=
  ((List.range 4).foldl (fun (s : State) (g : Nat) =>
    s.modDie (fin4 g) (fun d => { d with active := if d.alive then s.active else d.active })) s).evalAll

/-- SC's outputs and the gate enables follow at once (R264, R354, R355). -/
def outputsFollow (s : State) : State :=
  let s := (s.tracTick).loopEval
  let s := (List.range 16).foldl (fun (s : State) (ax : Nat) =>
    let s := s.driveGate (fin16 ax)
    if s.active then s else s.setB (AX.STAT_OWNED ax) false) s
  s.showSaf

/-- CAN controllers and the MVB follow the role (R341). -/
def busesFollow (s : State) : State :=
  ((List.range 4).foldl (fun (s : State) (b : Nat) =>
    let s := if s.active then s else s.cancelAll (fin4 b)
    s.showCan (fin4 b)) s).showMvb

/-! ### Leaving ACTIVE (R349, R352, R354) -/

/-- The engine of a doorway lets go: nothing moves and nothing waits. -/
def dropDoor (s : State) (n : Fin 8) : State :=
  let s := (s.haltAxis (doorAxis n)).haltAxis (stepAxis n)
  s.modDw n (fun e => { DwEng.reset with tick := e.tick, since := e.tick, offers := e.offers, stillFrom := e.tick })

/-- Every gate of the unit goes to high impedance (R126), and so does every shared SSI clock (R140). -/
def gatesHigh (s : State) : State :=
  let s := (List.range 16).foldl (fun (s : State) (ax : Nat) => (s.setGateEn (fin16 ax) false).setB (AX.STAT_OWNED ax) false) s
  (List.range 16).foldl (fun (s : State) (p : Nat) =>
    if s.on (FB.CFG_SSI_SHARE p) then s.modFb (fin16 p) (fun e => { e with clocking := false }) else s) s

def closeConns (s : State) : State :=
  s.eachConn (fun (s : State) (j : Fin 8) => if s.connState j = 0 then s else (s.dropOffers j).setConn j 0)

/-- What a unit forgets of its partner when it comes to follow one. -/
def freshMirror (s : State) : State :=
  (s.setB BRV.STAT_MIRROR_STALE false).modPar (fun p => { p with
    mirror := none, stateAt := none, decided := none, incoming := none, overlap := false, leadFrom := none })

/-- Nothing more of a catch-up is sent. -/
def dropOwed (s : State) : State := (s.setB LDG.STAT_CATCHUP false).modPar (fun p => { p with owed := [] })

def leaveActive (s : State) (r : Nat) (cause : Option Nat) : State :=
  let s := ((List.range 8).foldl (fun (s : State) (n : Nat) => s.dropDoor (fin8 n)) s).gatesHigh
  let s := s.setRole r cause
  let s := (s.diesFollow).outputsFollow
  let s := (s.dropSession 6).closeConns.dropOwed
  ((s.busesFollow).encsFollow).freshMirror

/-- A unit enters SYNCING: it has to see its partner, match the hashes and take a mirror again (R360). -/
def beginSync (s : State) : State :=
  ((s.freshMirror).setB BRV.STAT_HASH_MATCH false).modPar (fun p => { p with
    seen := s.on BRV.STAT_PART_SEEN, seenAct := false, lost := false, asked := false, diffFrom := none })

/-! ### Becoming ACTIVE (R92, R129, R285, R352, R353, R356) -/

/-- An axis past its start sequence, whose gates wait for GATE_TAKEOVER (R128). -/
def awaitBridge (s : State) (ax : Fin 16) : State :=
  if s.pageOn (pgAX ax) && s.get (AX.FAULT_CAUSE ax) == 0 then s.modAx ax (fun e => { e with start := .ready }) else s

/-- The axis goes on from where its port shows it. A motion under way is replanned from the present position and speed; the axis
is past its start sequence, and its gates wait for GATE_TAKEOVER (R128, R129). -/
def takeAxis (s : State) (ax : Fin 16) (m : AxisMirror) (posValid goes closing : Bool) (limit : Nat) : State :=
  let s := (s.haltAxis ax).sampleAxis ax
  let s := [false, true].foldl (fun (s : State) (up : Bool) => (List.range 6).foldl (fun (s : State) (k : Nat) =>
    s.set (profFld ax up k) ((m.profs.getD (6 * up.toNat + k) 0).toNat)) s) s
  let target := s.getI (AX.TARGET ax)
  let c := s.axPosQ ax
  let v := s.axSpeedQ ax
  let s := (s.awaitBridge ax).modAx ax (fun e => { e with posQ := c, posValid := posValid })
  if goes then
    (s.startMotion ax target limit .move closing).modAx ax (fun e => { e with velQ := v })
  else s

/-- A motion is under way where the axis stands outside the window of its target. -/
def underWay (s : State) (ax : Fin 16) : Bool :=
  decide (s.get (AX.IN_POS_WIN ax) < (s.getI (AX.POS ax) - s.getI (AX.TARGET ax)).natAbs)

/-- A doorway state in which an axis may run a MOVE, of its section or one that has outlived it (R92). -/
def mayMove (st : DwState) : Bool :=
  !(st == .homing || st == .learning || st == .fault || st == .isolated || st == .egress || st == .manual || st == .unknown)

/-- The last MOVE of an axis in the running section, up to the present step: the one that gave its target. -/
def lastMove (s : State) (n : Fin 8) (step : Bool) : Option Step :=
  let steps := (List.range 48).filter (fun i => decide (s.entryOf n (s.sect n) ≤ i ∧ i ≤ s.get (DW.SECT_STEP n)))
  ((steps.map (fun i => s.recipeStep n i)).filter (fun t => t.op == 1 && t.step == step)).getLast?

/-- The closing MOVE of the section that the mirror shows waiting for its start, or held by the porch (R83, R92). -/
def heldClose (s : State) (n : Fin 8) : Option Want :=
  if s.on (DW.STATE_CLOSE_PEND n) || s.on (DW.STATE_RESUME_PEND n) then
    ((s.lastMove n false).filter (fun t => s.isClosing n t (s.moveTarget n t))).map (fun t =>
      { s.moveWant n t with resumed := s.on (DW.STATE_RESUME_PEND n) })
  else none

/-- A retraction that does not move at the takeover: within 2 mm of its end it is latched within T_LOCK from now, elsewhere it is tried
again after 1 s (R75; DESIGN CHOICE, log entry 128). -/
def takeRetraction (s : State) (n : Fin 8) : State :=
  if s.stepState n ≠ .retracting ∨ s.ax[stepAxis n].moving then s
  else if (s.getI (DW.STEP_POS n) - s.getI (DW.STEP_RET_POS n)).natAbs ≤ 200 then s.modDw n (fun e => { e with latchFrom := some e.tick })
  else
    let w : Want := { target := s.getI (DW.STEP_RET_POS n), limit := 0, closing := false, free := false, reopen := false, home := none,
                      learn := false, resumed := false }
    (s.modDw n (fun e => { e with stepRetry := some e.tick })).setWant (stepAxis n) w

/-- The mirror shows an OPEN that came from REOPENING with a re-close to follow (R85). -/
def awaitsReclose (s : State) (n : Fin 8) : Bool :=
  s.dwState n == .opn && s.get (DW.STATE_PREV_STATE n) == DwState.code .reopening && !s.on (DW.STATE_REOPEN_EXH n) &&
    !s.on (DW.STATE_CLOSE_PEND n) && s.sect n == .none

/-- The engine's own data at a takeover, from the mirror (R92). The test dwell and the re-close restart with their full time; the wish
for the lock is what the mirrored demand of the lock channel shows. The command behind UNLOCKING is not in the mirror: the doorway
goes on as for OPEN (DESIGN CHOICE, log entry 128). -/
def takeEngine (s : State) (n : Fin 8) (m : DoorMirror) (on : BitVec 48) : State :=
  let st := s.dwState n
  let test := s.sect n == .testDwell
  let lock := ((s.roleLs n 2).map (fun c => on.getLsbD c)).getD false
  s.modDw n (fun e =>
    let t := max e.tick (5 * m.elapsed.getD 0)
    { DwEng.reset with
      tick := t, since := t, stillFrom := t, stepSince := t, closeWait := m.elapsed.map (fun ms => t - 5 * ms),
      reopenings := m.reopens, lockAsk := lockWish st lock, modelFail := e.modelFail,
      testFrom := if test then some t else none, reclose := if s.awaitsReclose n then some t else none,
      cyc := { CycleAcc.zero with start := t, test := test },
      inCycle := !(st == .closedLocked || st == .isolated || st == .fault || st == .unknown) })

/-- The doorway's engine takes the mirror and goes on at the mirrored step; a wait restarts with its full timeout (R92). A MOVE under way
is replanned, also one whose section has ended; the speed limit of such a one is not in the mirror and no longer applies (DESIGN CHOICE,
log entry 128). -/
def takeDoor (s : State) (n : Fin 8) (m : DoorMirror) (on : BitVec 48) : State :=
  let s := s.showDoor n m
  let st := s.dwState n
  let s := s.takeEngine n m on
  let t := s.currentStep n
  let limit (step : Bool) : Nat := ((s.lastMove n step).map (fun t => 10 * t.b)).getD 0
  let goD := mayMove st && s.underWay (doorAxis n) && !s.on (DW.STATE_RESUME_PEND n)
  let goS := mayMove st && s.underWay (stepAxis n)
  let closes := st == .closing && s.towardsClosed n (s.getI (AX.TARGET (doorAxis n)))
  let held := s.heldClose n
  let ms := match m.axes with
    | d :: x :: _ => (d, x)
    | _ => (s.axisMirror (doorAxis n), s.axisMirror (stepAxis n))
  let s := s.takeAxis (doorAxis n) ms.1 (s.on (DW.STATE_POS_VALID n)) goD closes (limit false)
  let s := s.takeAxis (stepAxis n) ms.2 (s.stepState n != .fault) goS false (limit true)
  let s := match held with
    | some w => s.setWant (doorAxis n) w
    | none => s
  let moves := if t.step then goS else goD || held.isSome
  let s := s.modDw n (fun e => { e with
      waitFrom := if t.op = 1 ∧ !t.nw ∧ moves then some e.tick else none, driveAsk := s.wantsDrive n st })
  let s := (s.takeRetraction n).judgePorch n
  let s := if closes && goD && s.verdict n == 5 then s.setB (DW.STATE_WAITING n) true else s
  if st == .learning then s.learnAbort n else s

/-- DEGRn goes on from the mirrored values: a handover never renews the time allowed (R345). A LEFT held after the last cause goes on being
held, from the own count of the hold where one runs, else from now (DESIGN CHOICE, log entry 155). -/
def takeDegr (s : State) (n : Fin 8) (m : DoorMirror) : State :=
  let s := (s.set (SAF.DEGR_CAUSE n) (s.get (SAF.DEGR_CAUSE n) ||| m.cause)).set (SAF.DEGR_LEFT n) m.left
  let held := s.get (SAF.DEGR_CAUSE n) == 0 && decide (m.left < s.scGet SAF.CFG_DEGR_TMAX)
  let s := if held then s.modScD n (fun d => { d with degrHold := some (d.degrHold.getD s.sc.tick) }) else s
  if m.left = 0 then s.degrExpire n else s.showDegr

/-- The ON demands of the mirror; SC demands its own channels itself (R352). -/
def takeDemands (s : State) (on : BitVec 48) : State :=
  (List.range 48).foldl (fun (s : State) (c : Nat) =>
    if s.chSafe (fin48 c) then s else s.setB (onBit (fin48 c)) (on.getLsbD c)) s

/-- A connection that was OPEN on the partner enters RESUMING with the mirrored TX_SEQ + 16, any other CONNECTING; of the mirrored SEQ
values those sent within T_EXP before the handover serve check 6 (R285). -/
def takeConn (s : State) (j : Fin 8) (m : ConnMirror) : State :=
  if !(s.stlOn && s.connGood j) then s
  else if m.state = 2 then
    (s.modConn j (fun c => { c with
      next := ceilAdd m.txSeq 16
      partner := c.partner.filter (fun e => decide (s.sc.tick ≤ e.2 + 5 * s.scGet (STL.CONN_TIME_T_EXP j)))
      newSeq := 0
      newRes := 0xFFFFFFFF
      cmdSeq := 0
      result := 0xFFFFFFFF
      waits := 0 })).setConn j 3
  else s.startConn j

/-- Without a mirror each doorway is set by R70 and every connection starts anew (R353). The gates of the axes are taken over by R128;
at the first start of a pair, where nobody drives yet, each axis has its start sequence instead (R127). -/
def takeBlind (s : State) (first : Bool) : State :=
  let s := ((List.range 8).map fin8).foldl (fun (s : State) (n : Fin 8) =>
    let s := ((s.dropDoor n).sampleAxis (doorAxis n)).sampleAxis (stepAxis n)
    let s := if first then s else (s.awaitBridge (doorAxis n)).awaitBridge (stepAxis n)
    ((s.dropSection n).determine n).modDw n (fun e => { e with driveAsk := true })) s
  s.eachConn (fun (s : State) (j : Fin 8) => if s.stlOn && s.connGood j then s.startConn j else s)

/-- The later of the highest RSEQ so far and another one. -/
def laterSeq (m : Option Nat) (k : Nat) : Option Nat := some ((m.map (max k)).getD k)

/-- The highest RSEQ that this unit holds of its partner; none where it holds no record of it (R360, R376). -/
def partnerSeq (s : State) : Option Nat :=
  s.heldRecords.foldl (fun (m : Option Nat) (r : Record) => if r.unitB != s.isB then laterSeq m r.rseq else m) none

/-- The unit becomes ACTIVE: the T_H row of R352. -/
def becomeActive (s : State) (cause : Nat) : State :=
  let m := if s.on BRV.STAT_MIRROR_STALE || cause == 6 then none else s.par.mirror
  let s := s.setRole roleActive (some cause)
  let s := s.modPar (fun p => { p with wasActive := true, incoming := none, lost := false, asked := false })
  let s := (s.setB BRV.STAT_MIRROR_STALE false).setB LDG.STAT_CATCHUP false
  let s := if 1 ≤ cause ∧ cause ≤ 4 then s.inc BRV.HO_CNT else s
  let s := match m with
    | some f =>
      let s := s.eachIdx (f.doors.take 8) (fun (s : State) (n : Nat) (d : DoorMirror) =>
        (s.takeDoor (fin8 n) d f.on).takeDegr (fin8 n) d)
      (s.takeDemands f.on).eachIdx (f.conns.take 8) (fun (s : State) (j : Nat) (c : ConnMirror) => s.takeConn (fin8 j) c)
    | none => s.takeBlind (cause == 6)
  let s := (((s.diesFollow).outputsFollow).busesFollow).encsFollow
  if cause = 1 then
    let s := s.event 11 14 0 (!s.isB).toNat (s.partnerSeq.getD 0) 0 8
    (s.inc LDG.GAP_CNT).warn 5 (s.get LDG.GAP_CNT + 1)
  else s

/-! ### Heartbeats and takeover (R346, R347, R353, R354) -/

/-- No STATE frame of the partner has been accepted for 300 µs. -/
def noState (s : State) : Bool := (s.par.stateAt.map (fun t => decide (300 ≤ s.usSince t))).getD true

/-- The partner's link frames still arrive. -/
def framesArrive (s : State) : Bool :=
  !s.noState || (s.get BRV.STAT_PART_ROLE != roleActive && (s.par.healthAt.map (fun t => decide (s.usSince t ≤ 20000))).getD false)

/-- A unit is synchronised far enough to take over. -/
def mirrored (s : State) : Bool := s.on BRV.STAT_HASH_MATCH && s.par.mirror.isSome

/-- The partner's heartbeat is lost before the hashes matched: OUT_OF_SERVICE, whether or not its frames arrive (R347). -/
def lostEarly (s : State) : State :=
  if s.role_ = roleSyncing ∧ !s.on BRV.STAT_HASH_MATCH then (s.set BRV.STAT_OOS_WHY 3).setRole roleOut none else s

/-- A detected loss of the partner, at a tick: OUT_OF_SERVICE of a unit that has not matched the hashes, or a takeover. -/
def takeoverCheck (s : State) : State :=
  if !s.par.lost then s
  else
    let s := s.lostEarly
    if s.noState && (s.role_ == roleStandby || (s.role_ == roleSyncing && s.mirrored)) then s.becomeActive 1 else s

def partnerLost (s : State) : State :=
  if !s.on BRV.STAT_PART_SEEN then s else
    let s := (s.setB BRV.STAT_PART_SEEN false).inc BRV.ALIVE_LOSS_CNT
    let s := s.modPar (fun p => { p with lost := true })
    if s.framesArrive then (s.brvFault 1 31 true).lostEarly else s.takeoverCheck

def partnerBack (s : State) : State :=
  ((s.setB BRV.STAT_PART_SEEN true).modPar (fun p => { p with lost := false, seen := true })).brvEnd 1

def ownLost (s : State) : State :=
  if !s.pair || s.role_ = roleOut then s else
    let s := (s.setB BRV.STAT_OWN_ALIVE false).brvFault 7 31 true
    if s.active then (s.set BRV.STAT_OOS_WHY 2).leaveActive roleOut none else s

/-! ### Synchronising (R348, R360) -/

/-- Two units report the same UNITSEL (R437). -/
def clash (s : State) : Bool := s.on SYS.RECOV_UNITSEL_CLASH

/-- The steps 1 to 4 of R360 are done. -/
def synced (s : State) : Bool :=
  s.role_ == roleSyncing && !s.clash && s.get BRV.STAT_PART_ROLE == roleActive && s.mirrored && s.on BRV.STAT_PWM_LOCK

/-- What follows in SYNCING from the partner's report: the first start, or the request for the missing records, whose number no
frame names (log entry 58). -/
def evalSync (s : State) : State :=
  if s.role_ ≠ roleSyncing ∨ s.clash then s
  else if s.par.healthAt.isSome && s.get BRV.STAT_PART_ROLE == roleSyncing && !s.par.seenAct && !s.isB then s.becomeActive 6
  else if s.synced && !s.par.asked then
    let s := (s.sendBruvan (.catchup s.partnerSeq)).modPar (fun p => { p with asked := true })
    ((s.set BRV.LDG_BEHIND s.freeWord.toNat).bumpFree).setB LDG.STAT_CATCHUP true
  else s

/-- Step 5 is done too. -/
def syncDone (s : State) : State :=
  if s.synced && s.par.asked then ((s.set BRV.LDG_BEHIND 0).setB LDG.STAT_CATCHUP false).setRole roleStandby none else s

def waitExpiredSync (s : State) : State :=
  if s.role_ = roleSyncing ∧ !s.clash ∧ !s.par.seen then s.becomeActive 6 else s

def resync (s : State) : State := if s.role_ = roleOut then (s.setRole roleSyncing none).beginSync else s

/-! ### The mirror and the health report as received (R343, R350, R391, R437) -/

def stateFrame (s : State) (m : MirrorFrame) : State :=
  let s := s.modPar (fun p => { p with stateAt := some s.clk32, seen := true, seenAct := true })
  if s.active then s else
    let s := if s.on BRV.LINK_STAT_LOST then s else s.setB BRV.STAT_MIRROR_STALE false
    ((s.modPar (fun p => { p with mirror := some m })).showMirror m).evalSync

/-- The hashes or the GEN differ: fault cause 4; a SYNCING unit with an ACTIVE partner goes out of service. -/
def hashDiffers (s : State) : State :=
  let s := s.setB BRV.STAT_HASH_MATCH false
  let s := if s.get BRV.FAULT_CAUSE = 4 ∧ s.on BRV.FAULT_ACTIVE then s else s.brvFault 4 31 true
  if s.role_ = roleSyncing ∧ s.get BRV.STAT_PART_ROLE = roleActive then (s.set BRV.STAT_OOS_WHY 1).setRole roleOut none else s

def hashWords (s : State) : List Word := (List.range 8).map (fun i => s.word (VLT.HASH i).addr)

/-- R391: hashes count only at the same GEN, a difference in GEN once it has lasted 5 s, from its first report or the last commit here. -/
def compareHash (s : State) (gen : Word) (hash : List Word) : State :=
  if gen.toNat = s.get VLT.GEN then
    let s := s.modPar (fun p => { p with diffFrom := none })
    if hash = s.hashWords then (s.setB BRV.STAT_HASH_MATCH true).brvEnd 4 else s.hashDiffers
  else
    let from_ := max (s.par.diffFrom.getD s.clk32) s.vlt.changed
    let s := s.modPar (fun p => { p with diffFrom := some from_ })
    if 5000000 ≤ s.usSince from_ then s.hashDiffers else s

/-- Both units report the same UNITSEL (R437). -/
def noteClash (s : State) : State :=
  if s.clash then s else
    ((s.setB SYS.RECOV_UNITSEL_CLASH true).raise 0x00 2).powerRec 4 (s.get PWR.STATE_STATE) (s.get PWR.STATE_STATE) 0

/-- The partner's grade leads by HO_MARGIN, since when (R351). -/
def followLead (s : State) : State :=
  let m := s.get BRV.HO_CFG_HO_MARGIN
  let leads := s.active && m != 0 && decide (s.get BRV.GRADE_OWN + m ≤ s.get BRV.GRADE_PART)
  s.modPar (fun p => { p with leadFrom := if leads then some (p.leadFrom.getD s.clk32) else none })

def healthFrame (s : State) (m : HealthFrame) : State :=
  let roleNew := s.get BRV.STAT_PART_ROLE != m.role.val
  let healthNew := s.word BRV.HEALTH_PART.addr != m.check || s.get BRV.GRADE_PART != m.grade.val
  let s := ((s.set BRV.STAT_PART_ROLE m.role).raiseIf roleNew 0x0B 0).setWord BRV.HEALTH_PART.addr m.check
  let s := (s.set BRV.GRADE_PART m.grade).raiseIf healthNew 0x0B 1
  let s := s.modPar (fun p => { p with healthAt := some s.clk32, seen := true, seenAct := p.seenAct || m.role.val == 2 })
  let s := if s.active then s else s.set BRV.LINK_DELAY_T m.delay.toNat
  let s := if m.unitB == s.isB then s.noteClash else s
  ((s.compareHash m.gen m.hash).followLead).evalSync

/-! ### The own health (R350) -/

def portFaulty (s : State) (ax : Fin 16) : Bool :=
  ((s.portOf ax).map (fun p => s.get (FB.FAULT_CAUSE p) != 0 && s.on (FB.FAULT_ACTIVE p))).getD false

def axisGood (s : State) (ax : Fin 16) : Bool :=
  !(s.get (AX.FAULT_CAUSE ax) != 0 && s.on (AX.FAULT_ACTIVE ax)) && !s.portFaulty ax

def doorGood (s : State) (n : Fin 8) : Bool :=
  !s.doorUsed n || (s.dwState n != .fault && s.axisGood (doorAxis n) && s.axisGood (stepAxis n))

/-- Every enabled connection OPEN; on a unit that is not ACTIVE, received within T_EXP. -/
def connsGood (s : State) : Bool :=
  (List.range 8).all (fun j => !(s.stlOn && s.connGood j) ||
    (if s.active then s.connState j == 2
     else match s.stl.conn[fin8 j].heard with
      | some t => !s.scPast t (s.scGet (STL.CONN_TIME_T_EXP j))
      | none => false))

def busesGood (s : State) : Bool :=
  (List.range 4).all (fun b => s.get (CAN.STAT_BUS b) != 4) &&
    (!s.mvbOn || ((!s.on MVB.CFG_LINE_A_EN || s.on MVB.STAT_A_OK) && (!s.on MVB.CFG_LINE_B_EN || s.on MVB.STAT_B_OK)))

/-- The checks of bits 8 to 20, in order. -/
def checksOf (s : State) : List Bool :=
  [s.scRun, s.get TIL.FAULT_CAUSE == 0,
   s.boot.gAlive[0] && s.boot.gAlive[1] && (List.range 4).all (fun g => s.die[fin4 g].alive) && s.get VLT.STAT_FS_UNCONF == 0,
   !s.oe.down && !s.oe.stopped,
   (List.range 16).all (fun l => !s.on (SL.CFG_PRESENT l) || !(s.get (SL.FAULT_CAUSE l) != 0 && s.on (SL.FAULT_ACTIVE l))),
   s.get HIF.WD_STAT_STATE == 1, s.connsGood, s.busesGood, s.get LDG.STAT_WARN == 0,
   s.on VLT.STAT_A_VALID && s.on VLT.STAT_B_VALID, s.get PWR.SUP_STAT == 0,
   s.get PBS.HEAT_HEAT_STAGE == 0 && s.get PBS.HEAT_PKG_STAGE == 0, s.par.testOk || s.par.wasActive]

/-- The deductions of bits 9 to 20. -/
def deductions : List Nat := [4, 4, 1, 1, 3, 2, 1, 1, 1, 2, 1, 2]

def checkBits (s : State) : List Bool := (List.range 8).map (fun n => s.doorGood (fin8 n)) ++ s.checksOf

def bitsWord (l : List Bool) : Nat := (l.foldl (fun (x : Nat × Nat) b => (x.1 + b.toNat * 2 ^ x.2, x.2 + 1)) (0, 0)).1

/-- 15 less the deductions of the bits that are 0; 0 where bit 8 is 0, otherwise at least 1. -/
def gradeOf (bits : List Bool) : Nat :=
  if !(bits.getD 8 false) then 0 else
    let lost := (List.zip bits (List.replicate 8 2 ++ [0] ++ deductions)).foldl (fun (k : Nat) x => if x.1 then k else k + x.2) 0
    max 1 (15 - lost)

/-! ### Handover (R351, R352) -/

/-- The conditions of R351, as this unit knows them (log entry 59). -/
def mayHandOver (s : State) : Bool :=
  s.active && s.get BRV.STAT_PART_ROLE == roleStandby && s.on BRV.STAT_HASH_MATCH && s.on BRV.STAT_PWM_LOCK &&
    !s.on BRV.STAT_MIRROR_STALE && decide (1 ≤ s.get BRV.GRADE_PART)

/-- The PWM period in µs, rounded up. -/
def pwmPeriod (s : State) : Nat := ceilDiv 1000000 (max 1 (s.get (AX.PWM_FREQ 0)))

/-- T_H in the unit's own porch time: a counter zero at least 25 ms ahead; which one of a period is a free value (log entry 59). -/
def handoverAt (s : State) : Nat := s.porchTime + 25000 + s.freeWord.toNat % s.pwmPeriod

def decideHandover (s : State) (cause : Nat) : State :=
  if s.par.decided.isSome || !s.mayHandOver then s else
    let th := s.handoverAt
    let s := s.bumpFree.modPar (fun p => { p with decided := some (th, cause) })
    (s.set BRV.LAST_HO_CAUSE cause).sendBruvan (.handover th cause)

def handoverRequest (s : State) : State := if s.mayHandOver then s.decideHandover 2 else s.reject 0x0B 0x04C

def healthHandover (s : State) : State := if s.par.leadFrom.isSome then s.decideHandover 3 else s

/-- The frame arrives at the incoming unit. The T_H it carries is in the sender's porch time; how the two porch times relate the spec does
not state, so the same counter zero stands in the own time as a free value of the same range (log entry 59). -/
def handoverFrame (s : State) (cause : Nat) : State :=
  if s.role_ ≠ roleStandby then s else
    let th := s.handoverAt
    (s.bumpFree.modPar (fun p => { p with incoming := some (th, cause) })).set BRV.LAST_HO_CAUSE cause

/-- The engine stops commanding at T_H; SC goes on driving the lock channel by its wish until the overlap ends (R352). -/
def pauseDoor (s : State) (n : Fin 8) : State :=
  let ask := s.dw[n].lockAsk
  (s.dropDoor n).modDw n (fun e => { e with lockAsk := ask })

/-- T_H: the outgoing unit stops commanding and releases its gates, the incoming one becomes ACTIVE. -/
def handoverTime (s : State) : State :=
  if s.active then
    if s.par.decided.isSome && !s.par.overlap then
      let s := ((List.range 8).foldl (fun (s : State) (n : Nat) => s.pauseDoor (fin8 n)) s).gatesHigh
      s.modPar (fun p => { p with overlap := true })
    else s
  else match s.par.incoming with
    | some (_, cause) => if s.role_ = roleStandby then s.becomeActive cause else s
    | none => s

def overlapEnd (s : State) : State := if s.active && s.par.overlap then s.leaveActive roleStandby none else s

/-- 20 ms before T_H both units stop their test pulses. -/
def pauseTick (s : State) : State :=
  let near (x : Option (Nat × Nat)) : Bool := (x.map (fun y => decide (y.1 ≤ s.porchTime + 20000))).getD false
  if near s.par.decided || near s.par.incoming then (s.modSc (fun c => { c with paused := true, pulses := [] })).showSaf else s

def healthCompute (s : State) : State :=
  let bits := s.checkBits
  let w := BitVec.ofNat 32 (bitsWord bits)
  let g := gradeOf bits
  let new := s.word BRV.HEALTH_OWN.addr != w || s.get BRV.GRADE_OWN != g
  let s := ((s.setWord BRV.HEALTH_OWN.addr w).set BRV.GRADE_OWN g).raiseIf new 0x0B 1
  let s := s.followLead
  let s := match s.par.leadFrom with
    | some t => if 1000 * s.get BRV.HO_CFG_HO_T ≤ s.usSince t then s.decideHandover 3 else s
    | none => s
  if s.pair && !s.boot.xeDown then
    s.sendBruvan (.health ⟨fin4 s.role_, s.isB, w, fin16 g, BitVec.ofNat 16 (s.get BRV.LINK_DELAY_T), s.word VLT.GEN.addr, s.hashWords⟩)
  else s

/-- Both units ACTIVE for 2 ms: unit B gives way. -/
def bothActive (s : State) : State :=
  if s.active && s.pair && s.isB then ((s.leaveActive roleSyncing (some 5)).brvFault 5 31 false).beginSync else s

/-- A self-test of a STANDBY unit becomes due as a P3 task (R358). -/
def startTest (s : State) : State := (s.modPar (fun p => { p with testing := true, testAt := some s.clk32 })).setTask 3 true

/-- The self-test of every 24 h, counted from the entry to STANDBY and from each start (DESIGN CHOICE, log entry 156). -/
def testTick (s : State) : State :=
  if s.role_ ≠ roleStandby then s else
    match s.par.testAt with
    | none => s.modPar (fun p => { p with testAt := some s.clk32 })
    | some t => if 86400000000 ≤ s.usSince t then s.startTest else s

/-- What the pair does in every 200 µs tick: the STATE frame, the pause of test pulses, a takeover, the periodic self-test. -/
def parTick (s : State) : State :=
  if !s.pair then s else
    let s := if s.active && s.on BRV.STAT_OWN_ALIVE && !s.boot.xeDown then s.sendBruvan (.state s.mirrorOf) else s
    (s.pauseTick).takeoverCheck.testTick

/-! ### The link (R342 to R344) -/

def laneFld (rx : Bool) : Fld := if rx then BRV.LINK_STAT_RX_UP else BRV.LINK_STAT_TX_UP

def laneDown (s : State) (rx : Bool) (lane : Fin 2) : State :=
  let f := laneFld rx
  if !(s.get f).testBit lane then s else
    ((s.set f (s.get f - 2 ^ lane.val)).raise 0x0B 2).brvFault 3 lane true

/-- Insertion in the order of RSEQ. -/
def insertSeq (r : Record) : List Record → List Record
  | [] => [r]
  | x :: t => if r.rseq < x.rseq then r :: x :: t else x :: insertSeq r t

/-- The own records after an RSEQ, all of them where there is none, in the order of RSEQ (R376). -/
def ownAfter (s : State) (rseq : Option Nat) : List Record :=
  (s.heldRecords.filter (fun (r : Record) =>
    r.unitB == s.isB && (rseq.map (fun k => decide (k < r.rseq))).getD true)).foldl (fun (l : List Record) r => insertSeq r l) []

/-- A lane is back: the link is no longer lost once each direction has one, and what the partner has not acknowledged is sent again
(R376). An ACTIVE unit, which receives no STATE frame, is rid of MIRROR_STALE (log entry 60). -/
def laneUp (s : State) (rx : Bool) (lane : Fin 2) : State :=
  let f := laneFld rx
  if (s.get f).testBit lane then s else
    let s := (s.set f (s.get f + 2 ^ lane.val)).raise 0x0B 2
    let s := if s.get BRV.LINK_STAT_TX_UP = 3 ∧ s.get BRV.LINK_STAT_RX_UP = 3 then s.brvEnd 3 else s
    if s.on BRV.LINK_STAT_LOST && s.get BRV.LINK_STAT_TX_UP != 0 && s.get BRV.LINK_STAT_RX_UP != 0 then
      let s := ((s.setB BRV.LINK_STAT_LOST false).raise 0x0B 2).brvEnd 2
      let s := if s.active then s.setB BRV.STAT_MIRROR_STALE false else s
      let again := s.ownAfter s.ldg.acked
      again.foldl (fun (s : State) (r : Record) => s.sendBruvan (.records [r]))
        (s.modPar (fun p => { p with unacked := p.unacked.filter (fun x => match x.2 with
          | .records _ => false
          | _ => true) }))
    else s

def linkLost (s : State) : State :=
  if (s.get BRV.LINK_STAT_TX_UP = 0 ∨ s.get BRV.LINK_STAT_RX_UP = 0) ∧ !s.on BRV.LINK_STAT_LOST then
    let s := ((s.setB BRV.LINK_STAT_LOST true).raise 0x0B 2).setB BRV.STAT_MIRROR_STALE true
    if s.on BRV.STAT_PART_SEEN then s.brvFault 2 31 true else s
  else s

def pwmUnlock (s : State) : State :=
  let s := (s.setB BRV.STAT_PWM_LOCK false).modPar (fun p => { p with pwmGood := 0 })
  if s.role_ = roleStandby then s.brvFault 6 31 true else s

/-- A comma arrives: the error of the counter zero in ns, and on the ACTIVE unit half the measured round trip. -/
def pwmComma (s : State) (err : Int) (delay : Nat) : State :=
  let s := if s.active then s.set BRV.LINK_DELAY_T (min delay 65535) else s
  if err.natAbs ≤ 50 then
    let s := s.modPar (fun p => { p with pwmGood := min 100 (p.pwmGood + 1) })
    if s.par.pwmGood = 100 then ((s.setB BRV.STAT_PWM_LOCK true).brvEnd 6).evalSync else s
  else
    let s := s.modPar (fun p => { p with pwmGood := 0 })
    if 200 < err.natAbs ∧ s.on BRV.STAT_PWM_LOCK then s.pwmUnlock else s

/-- The acknowledgement of a lane-1 frame; of records it moves the highest acknowledged RSEQ (R376). While the lanes share one, two frames
can wait with the same SEQ: it is the oldest that is acknowledged (DESIGN CHOICE, log entry 153). -/
def ackFrame (s : State) (seq : Nat) : State :=
  match s.par.unacked.find? (fun x => x.1 == seq) with
  | none => s
  | some x =>
    let top := match x.2 with
      | .records rs => rs.foldl (fun (m : Option Nat) (r : Record) => if r.unitB == s.isB then laterSeq m r.rseq else m) s.ldg.acked
      | _ => s.ldg.acked
    (s.modPar (fun p => { p with unacked := p.unacked.eraseP (fun x => x.1 == seq) })).modLdg (fun l => { l with acked := top })

/-- The frame that has waited longest since it was sent is sent again, with its SEQ, and waits anew. -/
def retransmit (s : State) : State :=
  match s.par.unacked with
  | [] => s
  | x :: t =>
    ((s.modPar (fun p => { p with unacked := t ++ [x] })).inc BRV.RETX_CNT).emit (.bruvan (s.txLane true).toNat x.1 x.2)

def sendAck (s : State) (seq : BitVec 16) : State := s.sendBruvan (.ack seq)

/-- A record of the partner, journalled with its header unchanged; one already held is not journalled twice. -/
def takeRecord (s : State) (r : Record) : State :=
  if s.heldRecords.any (fun (x : Record) => x.unitB == r.unitB && x.rseq == r.rseq) then s
  else if s.journalUsed + Payload.slots r.payload ≤ 1024 then
    (s.pushJournal r).showJournal
  else (s.inc LDG.DROP_CNT).warn 4 (s.get LDG.DROP_CNT + 1)

def recordsFrame (s : State) (rs : List Record) : State :=
  let s := rs.foldl (fun (s : State) (r : Record) => s.takeRecord r) s
  s.set BRV.LDG_BEHIND (s.get BRV.LDG_BEHIND - rs.length)

/-- The words that a learn run commits for one axis. -/
def axisWords (ax : Fin 16) : List (Nat × Word) :=
  (learnWords (doorwayOf ax)).filter (fun w =>
    let off := w.1 % 4096
    isStep ax == (decide (0xE00 ≤ off) || off == 0x134 || off == 0x140))

/-- The model that an image holds of an axis differs from the one in force: the partner has learned it, or cleared it. -/
def modelDiffers (x y : Bank) (ax : Fin 16) : Bool :=
  (axisWords ax).any (fun w => (cellGet zeroWord x.cells w.1 &&& w.2) != (cellGet zeroWord y.cells w.1 &&& w.2))

/-- An axis takes the committed model: the baseline with M_EQ, C_VISC and CRC, and the adapted tables from it; LEARN_AGE starts at 0, and
the accepted learn run ends a failed check of R171 (R171, R182). -/
def takeModel (s : State) (ax : Fin 16) : State :=
  let n := doorwayOf ax
  let s := ((axisWords ax).foldl (fun (s : State) w => s.loadWord w) s).resetAdapt ax
  let s := s.set (if isStep ax then DW.LEARN_AGE_STEP n else DW.LEARN_AGE_DOOR n) 0
  if s.mEq ax = 0 then s else s.modDw n (fun e => { e with modelFail := false })

/-- The partner's image goes into the inactive bank, with the sender's GEN, and comes into force (R391), with the models it brings. -/
def vaultFrame (s : State) (f : VaultFrame) : State :=
  let new : Bank := Bank.sealed { Bank.empty with cells := f.cells, unitB := f.unitB, salt := f.salt, hash := f.hash } f.gen
  let learned := ((List.range 16).map fin16).filter (fun ax => modelDiffers s.bankInForce new ax)
  let s := s.switchBank new 2 false
  let s := if s.on VLT.STAT_SESSION then s else s.returnStored
  (learned.foldl (fun (s : State) (ax : Fin 16) => s.takeModel ax) s).judgeModels

/-- Words into consecutive table words of an axis. -/
def putTable (s : State) (ax : Fin 16) (ws : List Word) : State :=
  s.eachIdx (ws.take 128) (fun (s : State) (b : Nat) (w : Word) => s.setWord (fricF ax b).addr w)

def adaptFrame (s : State) (n : Fin 8) (f : AdaptFrame) : State :=
  let s := (s.putTable (doorAxis n) f.door).putTable (stepAxis n) f.step
  ((s.set (satF (doorAxis n)) f.satD).set (satF (stepAxis n)) f.satS).judgeModel n

/-- Records in frames of at most 16 slots. -/
def recordFrames : Nat → List Record → List (List Record)
  | 0, _ => []
  | _, [] => []
  | k + 1, rs => rs.take 8 :: recordFrames k (rs.drop 8)

/-- The ACTIVE unit owes every later record written by itself (R360, R376). -/
def catchup (s : State) (rseq : Option Nat) : State :=
  if !s.active then s else
    let rs := s.ownAfter rseq
    (s.modPar (fun p => { p with owed := rs })).setB LDG.STAT_CATCHUP (!rs.isEmpty)

/-- A ms of the catch-up, a P3 task of LE and XE without a bit of its own in P3_STAT: while no housekeeping is held back, up to 100 Mbit/s,
which is 12 frames of 1,024 bytes (R323, R360; log entry 157). -/
def catchupStep (s : State) : State :=
  if s.par.owed.isEmpty || s.boot.leDown || s.boot.xeDown || !s.slack then s else
    let now := s.par.owed.take 96
    let s := s.modPar (fun p => { p with owed := p.owed.drop 96 })
    let s := (recordFrames 12 now).foldl (fun (s : State) (f : List Record) => s.sendBruvan (.records f)) s
    s.setB LDG.STAT_CATCHUP (!s.par.owed.isEmpty)

/-! ### Standby self-test and claim numbers (R358, R359) -/

def stbyTest (s : State) : State :=
  if s.role_ = roleActive ∨ s.role_ = roleSyncing then s.reject 0x0B 0x04C
  else if s.role_ = roleStandby then s.startTest
  else s

/-- The self-test is complete, which as a P3 task it only is while the pantry lets it run (R317). -/
def stbyTestDone (s : State) (pass : Bool) : State :=
  if !(s.par.testing && s.p3Runs 3) then s else
    let s := (s.modPar (fun p => { p with testing := false, testOk := pass, wasActive := p.wasActive && pass })).setTask 3 false
    if pass then s else s.logFault 0x0B 0 (locBlock 0 13 2) 2 0 (s.get BRV.FAULT) none

def claimStrobe (s : State) : State :=
  if s.on BRV.CFG_COMPAT then s.set BRV.STAT_CLAIM (if s.active then s.get BRV.GRADE_OWN else 0) else s

end State

/-! ### Meanings -/

/-- R230, with the 200 µs tick of the pair (R342, R353). -/
def execScTick (m : ScSample) (s : State) : Host.Outcome State Fault Refusal :=
  .next (s.whenRunning fun s => (((s.agePorts).scTick m).stlTick).parTick)

/-- A received frame: a unit that is not one of a pair has no link. -/
def whenPair (s : State) (f : State → State) : State := s.whenRunning fun s => if s.pair then f s else s

/-- A frame with a code violation or a CRC error is discarded and counted (R342). -/
def whenGood (good : Bool) (s : State) (f : State → State) : State :=
  whenPair s fun s => if good then f s else s.inc BRV.CRC_CNT

/-- R345, R343. -/
def execBruvanState (m : Checked MirrorFrame) (s : State) : Host.Outcome State Fault Refusal :=
  .next (whenGood m.good s fun s => s.stateFrame m.val)

/-- R350, R391, R437. -/
def execBruvanHealth (m : Checked HealthFrame) (s : State) : Host.Outcome State Fault Refusal :=
  .next (whenGood m.good s fun s => s.healthFrame m.val)

/-- R350. -/
def execHealthCompute (s : State) : Host.Outcome State Fault Refusal := .next (s.whenRunning fun s => s.healthCompute)

/-- R352. -/
def execBruvanHandover (th : Checked Nat) (cause : Nat) (s : State) : Host.Outcome State Fault Refusal :=
  .next (whenGood th.good s fun s => s.handoverFrame cause)

/-- R376. -/
def execBruvanRecords (seq : Checked (BitVec 16)) (rs : List Record) (s : State) : Host.Outcome State Fault Refusal :=
  .next (whenGood seq.good s fun s => (s.sendAck seq.val).recordsFrame rs)

/-- R391. -/
def execBruvanVault (seq : Checked (BitVec 16)) (m : VaultFrame) (s : State) : Host.Outcome State Fault Refusal :=
  .next (whenGood seq.good s fun s => (s.sendAck seq.val).vaultFrame m)

/-- R185. -/
def execBruvanAdapt (seq : Checked (BitVec 16)) (n : Fin 8) (m : AdaptFrame) (s : State) : Host.Outcome State Fault Refusal :=
  .next (whenGood seq.good s fun s => (s.sendAck seq.val).adaptFrame n m)

/-- R360, R376. -/
def execCatchupReq (seq : Checked (BitVec 16)) (rseq : Option Nat) (s : State) : Host.Outcome State Fault Refusal :=
  .next (whenGood seq.good s fun s => (s.sendAck seq.val).catchup rseq)

/-- R342. -/
def execBruvanAck (seq : Checked (BitVec 16)) (s : State) : Host.Outcome State Fault Refusal :=
  .next (whenGood seq.good s fun s => s.ackFrame seq.val.toNat)

/-- R342. -/
def execLane1Retransmit (s : State) : Host.Outcome State Fault Refusal := .next (whenPair s fun s => s.retransmit)

/-- R343. -/
def execLaneDown (rx : Bool) (lane : Fin 2) (s : State) : Host.Outcome State Fault Refusal := .next (whenPair s fun s => s.laneDown rx lane)

/-- R343, R376. -/
def execLaneUp (rx : Bool) (lane : Fin 2) (s : State) : Host.Outcome State Fault Refusal := .next (whenPair s fun s => s.laneUp rx lane)

/-- R343. -/
def execLinkLost (s : State) : Host.Outcome State Fault Refusal := .next (whenPair s fun s => s.linkLost)

/-- R343: a STANDBY unit. -/
def execMirrorStale (s : State) : Host.Outcome State Fault Refusal :=
  .next (whenPair s fun s => if s.role_ = roleStandby then s.setB BRV.STAT_MIRROR_STALE true else s)

/-- R344: `err` is the error of the counter zero, `delay` half the round trip, in ns. -/
def execPwmComma (err : Int) (delay : Nat) (s : State) : Host.Outcome State Fault Refusal :=
  .next (whenPair s fun s => s.pwmComma err delay)

/-- R344: no comma for 4 periods; the good periods counted so far are not consecutive with later ones. -/
def execCommaTimeout (s : State) : Host.Outcome State Fault Refusal :=
  .next (whenPair s fun s =>
    if s.on BRV.STAT_PWM_LOCK then s.pwmUnlock else s.modPar (fun p => { p with pwmGood := 0 }))

/-- R346, R347, R353. -/
def execPartnerHeartbeatLoss (s : State) : Host.Outcome State Fault Refusal := .next (whenPair s fun s => s.partnerLost)

/-- R346. -/
def execPartnerHeartbeatReturn (s : State) : Host.Outcome State Fault Refusal := .next (whenPair s fun s => s.partnerBack)

/-- R354. -/
def execOwnHeartbeatLoss (s : State) : Host.Outcome State Fault Refusal := .next (s.whenRunning fun s => s.ownLost)

/-- R351. -/
def execHandoverRequest (s : State) : Host.Outcome State Fault Refusal := .next (s.whenRunning fun s => s.handoverRequest)

/-- R351: HO_T has passed without a break. -/
def execHealthHandover (s : State) : Host.Outcome State Fault Refusal := .next (s.whenRunning fun s => s.healthHandover)

/-- R352. -/
def execHandoverTime (s : State) : Host.Outcome State Fault Refusal := .next (s.whenRunning fun s => s.handoverTime)

/-- R352. -/
def execOverlapEnd (s : State) : Host.Outcome State Fault Refusal := .next (s.whenRunning fun s => s.overlapEnd)

/-- R352, R253. -/
def execTestPulseResume (s : State) : Host.Outcome State Fault Refusal :=
  .next (s.whenRunning fun s => (s.modSc (fun c => { c with paused := false })).showSaf)

/-- R357. -/
def execBothActive (s : State) : Host.Outcome State Fault Refusal := .next (s.whenRunning fun s => s.bothActive)

/-- R348. -/
def execPartnerWaitExpired (s : State) : Host.Outcome State Fault Refusal := .next (whenPair s fun s => s.waitExpiredSync)

/-- R360. -/
def execSyncComplete (s : State) : Host.Outcome State Fault Refusal := .next (whenPair s fun s => s.syncDone)

/-- R391: a difference in GEN has outlasted 5 s. -/
def execHashMismatchTimeout (s : State) : Host.Outcome State Fault Refusal :=
  .next (whenPair s fun s => if s.par.diffFrom.isSome then s.hashDiffers else s)

/-- R347. -/
def execResync (s : State) : Host.Outcome State Fault Refusal := .next (s.whenRunning fun s => s.resync)

/-- R358. -/
def execStbyTest (s : State) : Host.Outcome State Fault Refusal := .next (s.whenRunning fun s => s.stbyTest)

/-- R358. -/
def execStbyTestDone (pass : Bool) (s : State) : Host.Outcome State Fault Refusal := .next (s.whenRunning fun s => s.stbyTestDone pass)

/-- R359. -/
def execClaimStrobe (s : State) : Host.Outcome State Fault Refusal := .next (s.whenRunning fun s => s.claimStrobe)

/-- R361. -/
def execBrvClr (s : State) : Host.Outcome State Fault Refusal := .next (s.whenRunning fun s => s.brvClear)

end Sys2Proof.Machine
end

