-- ==== Sys2Proof/Machine/Watchdog.lean ====
section
/-! DEFINITION. The serial watchdog (R56 to R58): keys, violations, the entry to EXPIRED and what follows from it, and the first key
that ends HOST_BLOCK. -/

namespace Sys2Proof.Machine

/-- The two keys (R57). -/
def wdFirstKey : Word := 0x5AA5#32
def wdSecondKey : Word := 0xA55A#32

namespace State

def modHif (s : State) (g : HostIf → HostIf) : State := { s with hif := g s.hif }
def wdState (s : State) : Nat := s.get HIF.WD_STAT_STATE

/-- ELAPSED in ms since the time it counts from (R64); SUSPENDED holds its value. -/
def wdElapsed (s : State) : Nat := if s.wdState = 3 then s.get HIF.WD_STAT_ELAPSED else min 65535 (s.usSince s.hif.wdAt / 1000)

/-- A state is entered: ELAPSED starts, the next key is the first one. -/
def wdEnter (s : State) (st : Nat) : State :=
  ((s.set HIF.WD_STAT_STATE st).setB HIF.WD_STAT_NEXT false).modHif (fun h => { h with wdAt := s.clk32, warned := false })

/-- BOOT_WAIT, with the WD_BOOT then in force (R64). -/
def wdBootWait (s : State) : State := (s.wdEnter 0).modHif (fun h => { h with wdBoot := s.get HIF.WD_BOOT_BOOT })

/-- The entry to EXPIRED (R58): S7, the count, the load channels' patterns, R94 for every doorway, the end of an edit session
(R387), and the handover of R351. -/
def wdExpire (s : State) (cause : Nat) : State :=
  let s := (s.wdEnter 2).set HIF.WD_STAT_CAUSE cause
  let s := (s.raise 0x01 2).inc HIF.WD_EXP_CNT_COUNT
  let s := s.watchdogFailsafe
  let s := (List.range 8).foldl (fun (s : State) (n : Nat) => s.hostLost (fin8 n)) s
  let s := s.dropSession 7
  if s.pair && s.on BRV.CFG_WD_HO && (s.get BRV.HEALTH_PART).testBit 13 then s.decideHandover 4 else s

/-- An accepted key: WD_MIN and WD_MAX apply from it (R57). -/
def wdAccept (s : State) (next : Bool) : State :=
  ((s.set HIF.WD_STAT_STATE 1).setB HIF.WD_STAT_NEXT next).modHif (fun h => { h with
      wdAt := s.clk32, warned := false, wdMin := min (s.get HIF.WD_MIN_MIN) (s.get HIF.WD_MAX_MAX - 1), wdMax := s.get HIF.WD_MAX_MAX })

/-- The first key after a boot or an expiry ends HOST_BLOCK (R94) and lets ON be written (R312). -/
def wdFirst (s : State) : State :=
  let s := s.wdAccept true
  let s := (List.range 8).foldl (fun (s : State) (n : Nat) => s.setB (DW.STATE_HOST_BLOCK n) false) s
  { s with onBlocked := false }

/-- A full write of WD_KEY. -/
def wdKey (s : State) (w : Word) : State :=
  match s.wdState with
  | 0 => if w ≠ wdFirstKey then s.wdExpire 2
    else if 1000 * s.hif.wdBoot < s.usSince s.hif.wdAt then s.wdExpire 4
    else s.wdFirst
  | 1 =>
    let due := if s.on HIF.WD_STAT_NEXT then wdSecondKey else wdFirstKey
    if w ≠ due then s.wdExpire 2
    else if s.usSince s.hif.wdAt < 1000 * s.hif.wdMin then s.wdExpire 1
    else if 1000 * s.hif.wdMax < s.usSince s.hif.wdAt then s.wdExpire 3
    else s.wdAccept (!s.on HIF.WD_STAT_NEXT)
  | _ => s

/-- The watchdog after a boot and on a return to SERVICE: BOOT_WAIT, or EXPIRED where no host port is enabled (R31, R56). -/
def wdRestart (s : State) : State := if s.hostPort then s.wdBootWait else s.wdExpire 0

end State

/-- R56, R57; with no host port there is no key (R31). -/
def execWdKeyWrite (w : Word) (s : State) : Host.Outcome State Fault Refusal :=
  .next (if s.ready && s.hostPort then s.wdKey w else s)

/-- R57, cause 4. -/
def execWdBootExpired (s : State) : Host.Outcome State Fault Refusal :=
  .next (if s.ready && s.wdState == 0 then s.wdExpire 4 else s)

/-- R57, cause 3. -/
def execWdMaxExpired (s : State) : Host.Outcome State Fault Refusal :=
  .next (if s.ready && s.wdState == 1 then s.wdExpire 3 else s)

/-- R57: three quarters of WD_MAX without a key. -/
def execWdWarn (s : State) : Host.Outcome State Fault Refusal :=
  .next (if s.ready && s.wdState == 1 && !s.hif.warned then (s.raise 0x01 1).modHif (fun h => { h with warned := true }) else s)

/-- R56: ignored in other states than EXPIRED; with no host port nothing writes it (R31). -/
def execRearm (s : State) : Host.Outcome State Fault Refusal :=
  .next (if s.ready && s.hostPort && s.wdState == 2 then s.wdBootWait else s)

end Sys2Proof.Machine
end

