-- ==== Sys2Proof/Machine/Pages.lean ====
section
/-! DEFINITION. Page enables (R43): what an enable checks (R87, R127, R138, R163, R227, R257, R399, R404, R420), what it starts, and
what a disable is refused for and ends. -/

namespace Sys2Proof.Machine

namespace State

/-- A refused enable or disable: CFG_REJ at PAGE_CTRL. -/
def refuseEnable (s : State) (page : Nat) : State := s.reject page 0x004

/-- ENABLE and ACTIVE of a page. -/
def setPage (s : State) (page : Nat) (b : Bool) : State := (s.setB (HDR.ENABLE page) b).setB (HDR.ACTIVE page) b

/-! ### Feedback ports and axes (R127, R133, R138) -/

def ssiTooSlow (s : State) (p : Nat) : Bool := s.get (FB.CFG_TYPE p) == 2 && decide (4 < s.ssiDiv p)

def enablePort (s : State) (p : Fin 16) : State :=
  if s.pageOn (pgFB p) then s
  else if s.ssiTooSlow p then s.refuseEnable (pgFB p)
  else
    let s := (s.setPage (pgFB p) true).modFb p (fun e => { e with ssiSeen := false, ssiLoaded := false, ssiBad := 0 })
    (s.set (FB.STAT_SSI_DIV p) (if s.get (FB.CFG_TYPE p) = 2 then s.ssiDiv p else 0)).checkPairs p

/-- An enabled axis uses the port (R133). -/
def portUsed (s : State) (p : Nat) : Bool := (List.range 16).any (fun ax => s.pageOn (pgAX ax) && s.portOf ax == some p)

/-- The configuration is invalid (R127). -/
def axisInvalid (s : State) (ax : Fin 16) : Bool :=
  let motor := s.get (AX.CFG_MOTOR ax)
  motor != 2 &&
    ((motor == 0 && (s.cpe ax).isNone) ||
     (List.range 16).any (fun a => a != ax.val && (s.portOf a).isSome && s.portOf a == s.portOf ax) ||
     (motor == 0 && s.get (FB.CFG_TYPE (s.get (AX.CFG_FB_SEL ax))) == 2 && !s.on (AX.ELEC_ELEC_VALID ax)))

def enableAxis (s : State) (ax : Fin 16) : State :=
  if s.pageOn (pgAX ax) then s else
    let s := s.setPage (pgAX ax) true
    let s := match s.portOf ax with
      | some p => s.enablePort (fin16 p)
      | none => s
    let s := (s.showAngle ax).modAx ax (fun e => { e with firstFrom := none })
    if s.axisInvalid ax then s.axisFault ax 14 (driveLoc ax 31) else s

/-- R127: only while the doorway's page is disabled; the gates go off, and cause 14 is cleared. -/
def disableAxis (s : State) (ax : Fin 16) : State :=
  if s.pageOn (pgDW (doorwayOf ax)) then s.refuseEnable (pgAX ax) else
    let s := ((s.setPage (pgAX ax) false).setGateEn ax false).gatesOff ax
    let s := s.setB (AX.STAT_OWNED ax) false
    let s := if s.get (AX.FAULT_CAUSE ax) = 14 then (s.setB (AX.FAULT_ACTIVE ax) false).clearAxis ax else s
    s.set (AX.STAT_AX_STATE ax) 0

/-- The ENC page starts with accumulators at 0 (R154); disabled, its outputs are low (R157). -/
def encPage (s : State) (b : Bool) : State :=
  ((List.range 4).map fin4).foldl (fun (s : State) (e : Fin 4) => s.encLow e) (s.setPage 0x0F b)

/-! ### Doorways (R87, R89, R163, R257) -/

/-- An edge mode without its inputs (R163). -/
def edgesMissing (s : State) (n : Nat) : Bool :=
  let m := s.get (DW.EDGE_CFG_MODE n)
  (1 ≤ m && (s.roleDi n 8).isNone) || (2 ≤ m && (s.roleDi n 9).isNone)

/-- The safety roles that a doorway uses: D6 and D7 with a step (R240), D8 and D9 in the edge modes that read them (R163). -/
def safeRoles (s : State) (n : Nat) : List Nat :=
  [0, 1, 2, 3] ++ (if s.stepEn n then [6, 7] else []) ++ (if 1 ≤ s.get (DW.EDGE_CFG_MODE n) then [8] else []) ++
    (if 2 ≤ s.get (DW.EDGE_CFG_MODE n) then [9] else [])

/-- A safety role that the doorway uses, on an input that is not safety-marked (R257). -/
def roleUnsafe (s : State) (n : Nat) : Bool :=
  (s.safeRoles n).any (fun r => match s.roleDi n r with
    | some di => !s.diSafe di
    | none => false)

def enableDoor (s : State) (n : Fin 8) : State :=
  if s.pageOn (pgDW n) then s else
    let (s, good) := s.validateRecipe n
    if s.edgesMissing n || s.roleUnsafe n then s.refuseEnable (pgDW n)
    else if good then ((s.setPage (pgDW n) true).enableAxis (doorAxis n)).enableAxis (stepAxis n)
    else s

def mayDisableDoor (s : State) (n : Nat) : Bool :=
  match s.dwState n with
  | .closedLocked => true
  | .isolated => true
  | .fault => true
  | .unknown => true
  | _ => false

/-! ### CAN (R399, R400, R404) -/

/-- A bit in CANCLK periods. -/
def bitLen (s : State) (brp tseg1 tseg2 : Fld) : Nat := s.get brp * (1 + s.get tseg1 + s.get tseg2)

/-- The destination of a rule or of NOMATCH has no place to go. -/
def noQueue (s : State) (b : Fin 4) (q : Nat) : Bool := s.queueSize b q == 0

def ruleBad (s : State) (b : Fin 4) (k : Nat) : Bool :=
  let w0 := s.ruleWord b k 0
  let scope := fieldOf w0 0 2
  let dest := fieldOf w0 6 3
  let target := fieldOf w0 9 6
  let pages := if dest = 1 then s.rolePages b 3 (some target) else match s.mailbox b target with
    | some m => [m.1]
    | none => []
  scope != 0 &&
    ((dest == 1 && s.noQueue b target) || (dest == 2 && (s.mailbox b target).isNone) ||
     (s.get (CAN.CFG_MODE b) == 2 && scope == 3 && (dest == 1 || dest == 2) &&
       pages.all (fun p => s.get (CAN.RAM_MAP_ELEM b p) != 2)))

/-- Whether the enable is rejected. -/
def canInvalid (s : State) (b : Fin 4) : Bool :=
  let mode := s.get (CAN.CFG_MODE b)
  let nm := s.get (CAN.CFG_NOMATCH b)
  decide (s.bitLen (CAN.NBT_BRP b) (CAN.NBT_TSEG1 b) (CAN.NBT_TSEG2 b) < 80) ||
  (1 ≤ mode && decide (s.bitLen (CAN.DBT_BRP b) (CAN.DBT_TSEG1 b) (CAN.DBT_TSEG2 b) < 10)) ||
  (mode == 2 && decide (s.bitLen (CAN.XBT_BRP b) (CAN.XBT_TSEG1 b) (CAN.XBT_TSEG2 b) < 8)) ||
  decide (252 * (s.rolePages b 5 none).length < s.get (CAN.RULES_COUNT b)) ||
  (1 ≤ nm && nm ≤ 4 && s.noQueue b (nm - 1)) ||
  (List.range (s.get (CAN.RULES_COUNT b))).any (s.ruleBad b)

def clampSjw (s : State) (sjw tseg2 : Fld) : State := s.set sjw (min (s.get sjw) (s.get tseg2))

/-- An enabled controller integrates; SJW and, for triple sampling, TSEG1 are brought in range (R400, log entry 48). -/
def enableCan (s : State) (b : Fin 4) : State :=
  if s.pageOn (pgCAN b) then s
  else if s.canInvalid b then s.refuseEnable (pgCAN b)
  else
    let s := ((s.clampSjw (CAN.NBT_SJW b) (CAN.NBT_TSEG2 b)).clampSjw (CAN.DBT_SJW b) (CAN.DBT_TSEG2 b)).clampSjw (CAN.XBT_SJW b) (CAN.XBT_TSEG2 b)
    let s := if s.on (CAN.CFG_TRIPLE b) && s.get (CAN.CFG_MODE b) == 0 && decide (s.get (CAN.NBT_TSEG1 b) < 4) then s.set (CAN.NBT_TSEG1 b) 4 else s
    let s := (s.setPage (pgCAN b) true).set (CAN.STAT_BUS b) 1
    let s := (s.set (CAN.ERR_CNT b) 0).modCan b (fun _ => CanEng.reset)
    s.showCan b

/-- R402: the controller leaves the bus at the end of the present frame. -/
def disableCan (s : State) (b : Fin 4) : State :=
  let s := (s.cancelAll b).setPage (pgCAN b) false
  let s := if s.can[b].last then s else (s.set (CAN.STAT_BUS b) 0).modCan b (fun _ => CanEng.reset)
  s.showCan b

/-! ### Sensor links (R227) -/

/-- |a − 16,384² × want| within 1/128 of 16,384². -/
def nearUnit (v : Int) (want : Int) : Bool := decide ((v - want * 268435456).natAbs ≤ 2097152)

/-- |row|² within the bound that a length within 1/128 of 1 gives. -/
def unitRow (v : Int) : Bool := decide (16256 * 16256 ≤ v ∧ v ≤ 16512 * 16512)

def poseGood (s : State) (l : Nat) : Bool :=
  match s.rot l with
  | [a, b, c, d, e, f, g, h, i] =>
    unitRow (a * a + b * b + c * c) && unitRow (d * d + e * e + f * f) && unitRow (g * g + h * h + i * i) &&
    nearUnit (a * d + b * e + c * f) 0 && nearUnit (a * g + b * h + c * i) 0 && nearUnit (d * g + e * h + f * i) 0
  | _ => false

def enableLink (s : State) (l : Fin 16) : State :=
  if s.pageOn (pgSL l) then s
  else if s.poseGood l then (s.setPage (pgSL l) true).showPower l
  else s.refuseEnable (pgSL l)

/-! ### DIN (R271) -/

/-- The inversion in use: of safety-marked inputs the committed one, of the others the stored one; while DIN is disabled the committed one
of every input (R271). -/
def useInv (s : State) : State :=
  if !s.pageOn 0x0E then { s with diInv := s.committedInv } else
  let reg := BitVec.ofNat 64 (s.get (DIN.INV 0) + 2 ^ 32 * s.get (DIN.INV 1))
  let safe := BitVec.ofNat 64 (s.get (DIN.SAFE 0) + 2 ^ 32 * s.get (DIN.SAFE 1))
  { s with diInv := (reg &&& ~~~ safe) ||| (s.committedInv &&& safe) }

def enableDin (s : State) : State :=
  if s.pageOn 0x0E then s else
    (List.range 64).foldl (fun (s : State) (i : Nat) => s.showDi (fin64 i)) ((s.setPage 0x0E true).useInv)

/-! ### The two operations -/

def showPorches (s : State) : State := ((List.range 8).foldl (fun (s : State) (n : Nat) => s.showPorch (fin8 n)) s).showPowers

def badConn (s : State) (j : Nat) : Bool :=
  s.on (STL.CONN_CFG_EN j) && (s.get (STL.CONN_ID j) == 0 || s.get STL.NODE_OWN_ID == s.get (STL.CONN_CFG_PEER_ID j))

/-- The refusal of a bad connection at the enable of the STL page. -/
def reportBadConn (s : State) (page : Nat) : State := if (List.range 8).any s.badConn then s.refuseEnable page else s

/-- A write of 1 to ENABLE. -/
def enablePage (s : State) (page : Nat) : State :=
  match pageOf page with
  | none => s
  | some (k, i) =>
    if s.pageOn page then s else
    match k with
    | .dw => s.enableDoor (fin8 i)
    | .ax => s.enableAxis (fin16 i)
    | .fb => s.enablePort (fin16 i)
    | .can => s.enableCan (fin4 i)
    | .sl => s.enableLink (fin16 i)
    | .din => s.enableDin
    | .mvb => if s.portClash then s.refuseEnable page else ((s.setPage page true).setB MVB.STAT_DNR true).showMvb
    | .stl => (s.setPage page true).reportBadConn page
    | .occ => (s.setPage page true).showPorches
    | .pz => (s.setPage page true).showPorch (fin8 i)
    | .lsg => (s.setPage page true).evalGroup (fin4 i)
    | .enc => s.encPage true
    | _ => s.setPage page true

/-- A write of 0 to ENABLE. -/
def disablePage (s : State) (page : Nat) : State :=
  match pageOf page with
  | none => s
  | some (k, i) =>
    if alwaysEnabled k then s.refuseEnable page
    else if !s.pageOn page then s else
    match k with
    | .dw => if s.mayDisableDoor i then s.setPage page false else s.refuseEnable page
    | .ax => s.disableAxis (fin16 i)
    | .fb => if s.portUsed i then s.refuseEnable page else s.setPage page false
    | .can => s.disableCan (fin4 i)
    | .din => if (List.range 8).any (fun n => s.pageOn (pgDW n)) then s.refuseEnable page else (s.setPage page false).useInv
    | .brv => if s.pair then s.refuseEnable page else s.setPage page false
    | .mvb => (s.setPage page false).showMvb
    | .stl => (s.setPage page false).closeConns
    | .occ => (s.setPage page false).showPorches
    | .pz => (s.setPage page false).showPorch (fin8 i)
    | .sl => (s.setPage page false).showPower (fin16 i)
    | .lsg => (s.setPage page false).evalGroup (fin4 i)
    | .enc => s.encPage false
    | _ => s.setPage page false

/-- At the end of boot every page that the vault enables is enabled anew, with the checks of its enable; the pages that are always
enabled run from then on (R43). -/
def bootPages (s : State) : State :=
  let ons := (List.range 256).filter (fun p => match pageOf p with
    | some (k, _) => !alwaysEnabled k && s.pageOn p
    | none => false)
  let s := ons.foldl (fun (s : State) (p : Nat) => s.setPage p false) s
  let s := [0x00, 0x01, 0x02, 0x03, 0x04, 0x05, 0x08].foldl (fun (s : State) (p : Nat) => s.setB (HDR.ACTIVE p) true) s
  ons.foldl (fun (s : State) (p : Nat) => s.enablePage p) s

end State

/-- R43. -/
def execPageEnable (page : BitVec 8) (s : State) : Host.Outcome State Fault Refusal := .next (if s.ready then s.enablePage page.toNat else s)

/-- R43. -/
def execPageDisable (page : BitVec 8) (s : State) : Host.Outcome State Fault Refusal := .next (if s.ready then s.disablePage page.toNat else s)

end Sys2Proof.Machine
end

