-- ==== Sys2Proof/Machine/Boot.lean ====
section
/-! DEFINITION. Resets and what they clear (R426 to R430), the choice of the firmware image and the boot (R432, R433), firmware update
(R434), the software and the safety reset (R261, R262, R435), the links to the dies (R20, R24) and memory errors (R27, R28). -/

namespace Sys2Proof.Machine

namespace State

def modBoot (s : State) (g : Boot → Boot) : State := { s with boot := g s.boot }
def modCel (s : State) (g : Cellar → Cellar) : State := { s with cel := g s.cel }

/-! ### What a reset clears (R427) -/

/-- Words that a switch die holds: ON as its link last carried it, the states and measurements of its channels (R430). -/
def dieWord (a : Nat) : Bool :=
  let off := a % 4096
  0x40 ≤ a / 4096 && a / 4096 < 0x44 &&
    (off == 0x048 || off == 0x04C || off == 0x050 || (0x100 ≤ off && off < 0x1C0 && (off % 16 == 8 || off % 16 == 12)))

/-- The bits of a word that the cellar holds: the slow-domain registers, and every field whose reset value is "cellar". A slow-domain
field whose Reset is a number (TMR.SET_LO, SET_HI, CTRL.ALARM_EN, LAST_STEP, PWR.CTRL) goes with its domain: R427 keeps the cellar
through RESET_N, R3 gives Reset as the value after its release, and the model follows R427 (DESIGN CHOICE, log entry 102). -/
def cellarMask (a : Nat) : Word :=
  match pageOf (a / 4096) with
  | none => 0
  | some (k, _) =>
    let off := a % 4096
    if (k == .cel || k == .tmr) && 0x40 ≤ off then 0xFFFFFFFF
    else if k == .pwr && 0x800 ≤ off then 0xFFFFFFFF
    else match rowAt k.regs off with
      | none => 0
      | some r => fieldsMask r.fields (fun f => f.origin == .cellar)

/-- Register cells after a reset: the bits kept, the rest at their reset values. -/
def keptRegs (s : State) (mask : Nat → Word) : Cells :=
  s.regs.filterMap (fun c =>
    let r := regReset c.1
    let v := (c.2 &&& mask c.1) ||| (r &&& ~~~ mask c.1)
    if v = r then none else some (c.1, v))

/-- What the cellar shows of its clock since its start: XTAL32 and RC_SRC (R333, R337). -/
def clockMask (a : Nat) : Word :=
  if a = CEL.STAT_XTAL32.addr then fieldMask CEL.STAT_XTAL32.lo 1
  else if a = TMR.STAT_RC_SRC.addr then fieldMask TMR.STAT_RC_SRC.lo 1 else 0

/-- The bits kept through the reset of a code: those of the dies always, those of the cellar but at a cold start, which keeps only what
it shows of its clock, PE_STAT where the endpoint is not reset. -/
def keepMask (code a : Nat) : Word :=
  if dieWord a then 0xFFFFFFFF
  else if 4 ≤ code ∧ code ≤ 6 ∧ a = HIF.PE_STAT.addr then 0xFFFFFFFF
  else if code = 1 then clockMask a
  else cellarMask a

/-- A firmware command cut by a reset: an erased slot stays erased (R436). -/
def cutSlot (cmd : Option FwCmd) (x : Slot) : Slot := if cmd = some .erase then Slot.empty else { x with checked := none }

/-- The inactive slot is the one not booted; in recovery, slot B (log entry 63). -/
def norSlot (s : State) (b : Bool) : Slot := if b then s.boot.slotB else s.boot.slotA
def modSlot (s : State) (b : Bool) (g : Slot → Slot) : State :=
  s.modBoot (fun x => if b then { x with slotB := g x.slotB } else { x with slotA := g x.slotA })
def idle (s : State) : Bool := !s.on SYS.BOOT_STAT_SLOT

/-- The core domain is reset: engines, registers, porches, sections, connections, sessions, watchdog. The dies, the cellar, the
vault, the NOR slots and the ledger go on as R427 says; the levels of the feedback pins are the outside's. The encoder outputs drive low
(R157). -/
def clearCore (s : State) (code : Nat) : State :=
  let r := State.reset
  let pe := 4 ≤ code && code ≤ 6
  let s := s.modSlot s.idle (cutSlot s.boot.cmd)
  { r with
    pending := s.pending,
    out := s.out ++ (if s.ready then [.rstout false] else []) ++ (List.range 4).map (fun e => .encEdge e false false 0),
    free := s.free, clk32 := s.clk32,
    regs := s.keptRegs (keepMask code),
    dw := if code = 1 then r.dw else Vector.ofFn (fun (i : Fin 8) => { DwEng.reset with modelFail := s.dw[i].modelFail }),
    ax := if code = 1 then r.ax else
      Vector.ofFn (fun (i : Fin 16) => { AxEng.reset with hits := s.ax[i].hits, latched := s.ax[i].latched }),
    fb := Vector.ofFn (fun (i : Fin 16) => let e := s.fb[i]; { FbEng.reset with a := e.a, b := e.b, idx := e.idx }),
    journal := s.journal, rtc := s.rtc, rtcFrac := s.rtcFrac,
    pcieMask := if pe then s.pcieMask else 0,
    ch := s.ch, die := s.die, diFilt := s.diFilt, diInv := s.diInv, diRaw := s.diRaw, diPin := s.diPin, diCnt := s.diCnt,
    trips := if code = 1 then [] else s.trips,
    vlt := vaultReset s.vlt (s.on VLT.STAT_SESSION),
    ldg := { s.ldg with
      req := none, held := none, query := ⟨[]⟩, staged := [], dma := false, dead := [], rebuild := none,
      recheck := s.ldg.recheck || s.on LDG.STAT_CHECKING,
      dayRegs := s.ldg.dayRegs.filterMap (fun c =>
        if c.1 = LDG.NEXT_RSEQ.addr ∨ c.1 = CEL.T_WARN_M.addr then some c else
        match (wordsOfPage .record (c.1 / 4096)).find? (fun w => w.1 == c.1) with
        | some _ => some c
        | none => none) },
    cel := { s.cel with waking := false },
    boot := { s.boot with
      cmd := none, srstAt := none, stuck := false, fromHalt := s.get SAF.STAT_SC_STATE == 3, loaded := false, linkBad := [],
      leDown := false, xeDown := false },
    hif := { HostIf.reset with perst := s.hif.perst, pcie := if pe then s.hif.pcie else [], subsys := s.hif.subsys } }

/-- RST_CAUSE and its mirror (R428). -/
def setCause (s : State) (w : Nat) : State := (s.set CEL.RST_CAUSE_CAUSE w).set SYS.RST_CAUSE_CAUSE w

/-- A learn run that a reset has cut, in the state before it, shows code 2 (R91, R181). EFF_STAT has the reset value 0, and code 0 stands
for no learn run since power-on: only a reset without a loss of power leaves the 2 (DEDUCED, log entry 116). -/
def cutLearns (s before : State) (code : Nat) : State :=
  if code = 1 then s else
    (List.range 8).foldl (fun (s : State) (n : Nat) =>
      if before.on (DW.EFF_STAT_LEARN_RUN n) then s.set (DW.EFF_STAT_LEARN_RESULT n) 2 else s) s

/-- A reset of a kind: what it clears, its code and the flag FROM_HALT. -/
def coreReset (s : State) (code : Nat) : State :=
  let t := (s.clearCore code).cutLearns s code
  t.setCause (code + if t.boot.fromHalt then 128 else 0)

end State

/-! ### The image (R432, R434) -/

def Slot.version (x : Slot) : Word :=
  if x.shipped then Config.shippedVersion else if x.words.isEmpty then 0 else Config.imageVersion x.words

/-- Digest and signature hold. -/
def Slot.passes (x : Slot) : Bool := x.shipped || (!x.words.isEmpty && Config.signatureGood x.words)

def Slot.trial (x : Slot) : Bool := x.armed && !x.started

/-- FW_STAT.STATE of a slot as its header shows it after a boot. -/
def Slot.state (x : Slot) : Nat :=
  if x.trial then 3
  else if x.confirmed then 5
  else if !x.shipped && x.words.isEmpty && !x.armed && !x.started then 0
  else 4

/-- A slot that the second step may boot. -/
def Slot.candidate (x : Slot) : Bool := x.confirmed && !x.revoked && Slot.passes x

/-- A trial that is not booted again. -/
def Slot.passedOver (x : Slot) : Bool := x.armed && !x.confirmed

/-- The slot to boot and whether as a trial; none is recovery. -/
def chooseSlot (a b : Slot) : Option (Bool × Bool) :=
  if Slot.trial a && Slot.passes a then some (false, true)
  else if Slot.trial b && Slot.passes b then some (true, true)
  else if Slot.candidate a && (!Slot.candidate b || decide ((Slot.version b).toNat ≤ (Slot.version a).toNat)) then some (false, false)
  else if Slot.candidate b then some (true, false)
  else none

/-- A trial is marked STARTED as the ROM takes it. -/
def markStarted (x : Slot) : Slot := if Slot.trial x then { x with started := true } else x

namespace State

def showSlots (s : State) : State :=
  let s := ((s.set SYS.FW_VER_A (Slot.version s.boot.slotA).toNat).set SYS.FW_VER_B (Slot.version s.boot.slotB).toNat)
  (s.set SYS.FW_MIN s.boot.fwMin.toNat).set SYS.FW_STAT_STATE (Slot.state (s.norSlot s.idle))

/-- The ROM chooses; with no slot that passes it enters recovery. -/
def selectImage (s : State) : State :=
  let a := s.boot.slotA
  let b := s.boot.slotB
  let pick := chooseSlot a b
  let passed (isB : Bool) (x : Slot) : Bool := Slot.passedOver x && !(pick == some (isB, true))
  let s := s.modBoot (fun x => { x with slotA := markStarted a, slotB := if pick = some (false, true) then b else markStarted b })
  let s := if passed false a || passed true b then s.setCause (s.get CEL.RST_CAUSE_CAUSE ||| 32) else s
  match pick with
  | some (isB, trial) =>
    ((s.setB SYS.BOOT_STAT_SLOT isB).setB SYS.FW_STAT_TRIAL trial).showSlots
  | none => ((s.set SYS.BOOT_STAT_STAGE 15).set SYS.BOOT_STAT_ERR 1).showSlots

def recovery (s : State) : Bool := s.get SYS.BOOT_STAT_STAGE == 15

/-- Dies whose heartbeat ended with the core domain hold their patterns, whatever the boot loads after that (R430). -/
def bootDies (s : State) : State :=
  ((List.range 4).foldl (fun (s : State) (g : Nat) => if s.die[fin4 g].alive then s.dieFailsafe (fin4 g) else s) s).evalAll

/-- The boot up to the tests of SC (R433): straps, image, vault, journal. In State.reset no cause has been recorded: it is a cold
start. -/
def startBoot (s : State) : State :=
  let s := s.modBoot (fun x => { x with relAt := s.clk32, held := false, resetLow := false })
  let s := if s.get CEL.RST_CAUSE_CAUSE % 16 = 0 then s.setCause (1 + s.get CEL.RST_CAUSE_CAUSE) else s.setCause (s.get CEL.RST_CAUSE_CAUSE)
  let s := (s.set HIF.HOST_CFG_HOSTSEL s.boot.hostsel).setB BRV.STAT_UNITSEL s.boot.unitB
  let s := ((((s.set PWR.STATE_STATE 3).bootDies).setB (HDR.ACTIVE 0x00) true)).selectImage
  if s.recovery then s else
    let s := if s.cel.cold then s.setB CEL.STAT_CEL_LOST true else s
    let s := s.restore
    let s := ((if s.cel.cold then s.nextAfterLoss else s).loadVault).reconciled
    let s := if s.boot.hostsel = 3 then s.logFault 0x01 0 (locBlock 0 16 31) 2 0 0 none else s
    let s := if s.get CEL.RST_CAUSE_CAUSE % 16 = 4 then s.inc SAF.SRESET_CNT else s
    let c := s.get CEL.RST_CAUSE_CAUSE % 16
    let s := if 4 ≤ c ∧ c ≤ 6 then s else { s with hif := { s.hif with subsys := s.word VLT.SUBSYS_ID.addr } }
    (s.set SYS.BOOT_STAT_STAGE 5).modBoot (fun x => { x with loaded := true, gAlive := Vector.replicate 2 true })

/-! ### READY (R433) -/

/-- The links that came up carry heartbeats; a die that did not is taken as failed. -/
def linksUp (s : State) : State :=
  let s := (List.range 4).foldl (fun (s : State) (g : Nat) =>
    s.modDie (fin4 g) (fun d => { d with alive := !s.boot.linkBad.contains (.s (fin4 g)), lost := s.boot.linkBad.contains (.s (fin4 g)) })) s
  (List.range 2).foldl (fun (s : State) (d : Nat) =>
    if (s.boot.gAlive[d]?).getD true then s else
      (List.range 8).foldl (fun (s : State) (k : Nat) =>
        let ax := fin16 (8 * d + k)
        if s.pageOn (pgAX ax) then s.axisFault ax 11 (driveLoc ax 31) else s) s) s

/-- Each engine sets its doorway and step and raises STATE (R91). -/
def setDoorways (s : State) : State :=
  ((List.range 8).map fin8).foldl (fun (s : State) (n : Fin 8) =>
    let s := ((s.sampleAxis (doorAxis n)).sampleAxis (stepAxis n)).determine n
    s.doorEv n 0) s

/-- Roles and what follows from them (R347, R285). -/
def setRoles (s : State) : State :=
  if s.pair then ((s.beginSync).showAlive.diesFollow).busesFollow
  else
    let s := ((s.setRole roleActive none).diesFollow).busesFollow
    s.eachConn (fun (s : State) (j : Fin 8) => if s.stlOn && s.connGood j then s.startConn j else s)

/-- The records and events of the boot (R330, R334, R428, R366, R374, R436). -/
def bootRecords (s : State) : State :=
  let code := s.get CEL.RST_CAUSE_CAUSE
  let s := s.inc CEL.BOOT_CNT
  let s := s.powerRec 3 0 3 0
  let s := if code % 16 = 7 then (s.powerRec 2 1 3 0).raise 0x03 0 else s
  let s := s.raiseIf (code.testBit 6) 0x03 1
  let s := if s.on TMR.STAT_RTC_VALID && decide (s.ldg.day < dayOf s.rtc) then s.summarise s.ldg.day else s
  let s := if s.checkDue || s.ldg.recheck then (s.modLdg (fun l => { l with recheck := false })).startCheck else s
  s.modCel (fun c => { c with cold := false, stuck := false })

def bootReady (s : State) : State :=
  if s.ready || s.boot.held || s.boot.resetLow || s.recovery || s.get SAF.STAT_SC_STATE != 1 || s.get PWR.STATE_STATE == 1 then s else
    let s := if s.boot.loaded then s else s.startBoot
    if s.recovery then s else
      let s := (s.setB SYS.BOOT_STAT_READY true).set SYS.BOOT_STAT_STAGE 7
      let s := s.set SYS.BOOT_T_T (min 65535 (s.usSince s.boot.relAt / 1000))
      let s := s.modBoot (fun x => { x with readyAt := s.clk32 })
      let s := if s.on SYS.FW_STAT_TRIAL then s.set SYS.FW_STAT_TRIAL_LEFT 600 else s
      let s := (s.modOe (fun o => { o with origin := s.clk32 })).bootPages
      let s := (s.setDoorways).loadOn
      let s := (((s.linksUp).setRoles).encsFollow).decideRate
      (s.emit (.rstout true)).wdRestart.bootRecords

/-! ### RESET_N, the software reset, the safety reset -/

/-- RESET_N is low: the control die and the gate dies are reset at once (R426, R429). In CELLAR the core domain is off already. -/
def resetLow (s : State) : State :=
  if s.boot.resetLow then s
  else if s.cel.off || s.get PWR.STATE_STATE == 1 then s.modBoot (fun x => { x with resetLow := true, stuck := false })
  else (s.coreReset 3).modBoot (fun x => { x with resetLow := true, held := true, gAlive := Vector.replicate 2 false })

def resetHigh (s : State) (hostsel : Nat) (unitB : Bool) : State :=
  if !s.boot.resetLow then s else
    let s := s.modBoot (fun x => { x with resetLow := false, hostsel := hostsel, unitB := unitB })
    if s.boot.held && s.get PWR.STATE_STATE != 1 then s.startBoot else s

def sysReject (s : State) (offs : Nat) : State := s.reject 0x00 offs

/-- SRESET within 10 ms of the key (R435); the key is cleared in every case. HALT ends with power-on or RESET_N only (R262). -/
def softReset (s : State) : State :=
  let good := (s.boot.srstAt.map (fun t => decide (s.usSince t ≤ 10000))).getD false && s.get SAF.STAT_SC_STATE != 3
  let s := s.modBoot (fun x => { x with srstAt := none })
  if good then (s.coreReset 5).startBoot else s.sysReject 0x054

/-- Controller-level faults of the last hour (R262). -/
def recentTrips (s : State) : Nat := (s.trips.filter (fun t => decide (s.clk32 < t + 117964800))).length

/-- HALT in place of the third safety reset within an hour. -/
def halt (s : State) : State := ((s.set SAF.STAT_SC_STATE 3).gatesHigh).showAlive

def safetyReset (s : State) : State :=
  if s.get SAF.STAT_SC_STATE ≠ 2 then s
  else if 3 ≤ s.recentTrips then s.halt
  else (s.coreReset 4).startBoot

/-! ### Firmware update (R434) -/

def fwBusy (s : State) : Bool := s.on SYS.FW_STAT_BUSY
def fwReject (s : State) : State := s.sysReject 0x060

def startCmd (s : State) (c : FwCmd) : State :=
  if s.fwBusy then s.fwReject
  else ((s.modBoot (fun x => { x with cmd := some c })).setB SYS.FW_STAT_BUSY true).set SYS.FW_STAT_ERR 0

/-- A word is programmed: bits go from 1 to 0 only (log entry 64); FW_ADDR goes on. -/
def fwWord (s : State) (w : Word) : State :=
  if s.fwBusy || 1 < s.get SYS.FW_STAT_STATE then s else
    let a := s.get SYS.FW_ADDR_ADDR / 4 * 4
    let ones (_ : Nat) : Word := 0xFFFFFFFF
    let s := s.modSlot s.idle (fun x => { x with words := cellSet ones x.words a (cellGet ones x.words a &&& w), checked := none })
    (s.set SYS.FW_ADDR_ADDR ((a + 4) % 2 ^ 22)).set SYS.FW_STAT_STATE 1

/-- A running command finishes. -/
def fwDone (s : State) : State :=
  match s.boot.cmd with
  | none => s
  | some c =>
    let s := (s.modBoot (fun x => { x with cmd := none })).setB SYS.FW_STAT_BUSY false
    match c with
    | .erase => (s.modSlot s.idle (fun _ => Slot.empty)).showSlots
    | .verify =>
      let x := s.norSlot s.idle
      let err := if !Slot.passes x then 2 else if (Slot.version x).toNat < s.boot.fwMin.toNat then 3 else 0
      let s := (s.modSlot s.idle (fun x => { x with checked := some (err == 0) })).showSlots
      (s.set SYS.FW_STAT_ERR err).set SYS.FW_STAT_STATE (if err = 0 then 2 else 4)

/-- ALLOWED of R328: the reason why not, 0 where it holds. -/
def notAllowed (s : State) : Nat :=
  let doors := (List.range 8).filter s.doorUsed
  if doors.any (fun n => !(s.dwState n == .closedLocked || s.dwState n == .isolated || s.dwState n == .fault)) then 1
  else if !s.pan.resv.isEmpty || (List.range 16).any (fun ax => s.ax[fin16 ax].moving) then 2
  else if (List.range 8).any (fun n => s.on (PZ.STAT_RUNNING n)) then 3
  else if s.pair && s.active && s.on BRV.STAT_PART_SEEN && s.get BRV.STAT_PART_ROLE == roleSyncing then 4
  else 0

/-- ACTIVATE: the verified slot is ARMED and reset code 6 follows; an ACTIVE unit needs a session and ALLOWED. In HALT no reset of the
firmware's kind acts (R262). -/
def fwActivate (s : State) : State :=
  if s.fwBusy || s.get SYS.FW_STAT_STATE != 2 || s.get SAF.STAT_SC_STATE == 3 then s.fwReject
  else if s.ready && s.active && !s.on VLT.STAT_SESSION then s.set SYS.FW_STAT_ERR 1
  else if s.ready && s.active && s.notAllowed != 0 then s.set SYS.FW_STAT_ERR 4
  else ((s.modSlot s.idle (fun x => { x with armed := true })).coreReset 6).startBoot

/-- CONFIRM: the trial slot becomes CONFIRMED and FW_MIN takes its VERSION; refused outside a trial and after its time (log entry 65). -/
def fwConfirm (s : State) : State :=
  if s.fwBusy || !s.on SYS.FW_STAT_TRIAL || s.get SYS.FW_STAT_ERR == 6 || !s.ready then s.fwReject else
    let b := s.on SYS.BOOT_STAT_SLOT
    let s := s.modSlot b (fun x => { x with confirmed := true })
    let s := s.modBoot (fun x => { x with fwMin := Slot.version (s.norSlot b) })
    ((s.setB SYS.FW_STAT_TRIAL false).set SYS.FW_STAT_TRIAL_LEFT 0).set SYS.FW_MIN s.boot.fwMin.toNat

def trialOver (s : State) : State :=
  if s.on SYS.FW_STAT_TRIAL && s.ready && s.get SYS.FW_STAT_ERR != 6 then
    ((s.set SYS.FW_STAT_ERR 6).set SYS.FW_STAT_TRIAL_LEFT 0).raise 0x00 1
  else s

/-! ### Die links (R20) -/

/-- The control die sends heartbeats while SC is not in HALT, has its clock, and its core domain runs (R25, R262). -/
def beats (s : State) : Bool := s.ready && s.coreOn && s.get SAF.STAT_SC_STATE != 3 && !s.sc.clkLost

/-- A heartbeat frame; one with a CRC error counts as missing. A gate die's link fault ends with it. -/
def dieBeat (s : State) (d : Die) (delivered : Bool) : State :=
  if !s.beats then s else
    let s := s.emit (.heartbeat d)
    if !delivered then s else
      match d with
      | .s g => (s.modDie g (fun x => { x with alive := true, active := s.active })).evalGroup g
      | .g i =>
        let s := s.modBoot (fun x => { x with gAlive := x.gAlive.set i true })
        (List.range 8).foldl (fun (s : State) (k : Nat) =>
          let ax := fin16 (8 * i + k)
          if s.get (AX.FAULT_CAUSE ax) = 11 then s.setB (AX.FAULT_ACTIVE ax) false else s) s

/-- A switch die without a heartbeat for 1 ms applies its pattern; S0 drops TRAC_REL and opens the loop element, S1 takes LOOP_SRC
away (R20, R263). -/
def switchDieLost (s : State) (g : Fin 4) : State :=
  let s := s.dieFailsafe g
  match g.val with
  | 0 => s.tracTick.loopEval
  | 1 => s.loopEval
  | _ => s

/-- A gate die without a heartbeat for 1 ms: every gate of it at high impedance, cause 11 on its axes (R20, R123). -/
def gateDieLost (s : State) (i : Fin 2) : State :=
  let s := s.modBoot (fun x => { x with gAlive := x.gAlive.set i false })
  (List.range 8).foldl (fun (s : State) (k : Nat) =>
    let ax := fin16 (8 * i + k)
    let s := s.setGateEn ax false
    if s.running && s.pageOn (pgAX ax) then s.axisFault ax 11 (driveLoc ax 31) else s) s

/-- A die link has not come up within 50 ms of its start (R433); its FAULT record (log entry 62). -/
def linkTimeout (s : State) (d : Die) : State :=
  if s.ready || !s.boot.loaded then s else
    let s := s.set SYS.BOOT_STAT_ERR 3
    let s := s.modBoot (fun x => { x with
        linkBad := x.linkBad ++ [d],
        gAlive := match d with
          | .g i => x.gAlive.set i false
          | .s _ => x.gAlive })
    match d with
    | .g i => s.logFault 0x00 3 (locBlock (1 + i) 2 31) 2 0 (s.word SYS.BOOT_STAT.addr).toNat none
    | .s g => s.logFault 0x00 3 (locBlock (3 + g) 10 31) 2 0 (s.word SYS.BOOT_STAT.addr).toNat none

/-- A reversed VBAT: the group stays off, its REV bit, SYS.EVT bit 2, a POWER record of KIND 4 (R437). -/
def vbatReversed (s : State) (g : Fin 4) : State :=
  let s := if s.coreOn then (s.set SYS.RECOV_REV (s.get SYS.RECOV_REV ||| 2 ^ g.val)).raise 0x00 2 else s
  let s := (s.setB (LSG.GRP_STAT_UV g) true)
  let s := (List.range 12).foldl (fun (s : State) (i : Nat) =>
    let c := fin48 (12 * g + i)
    if s.get (chStat c) = 7 ∨ s.get (chStat c) = 4 then s else s.switchOff c 6) s
  s.powerRec 4 (s.get PWR.STATE_STATE) (s.get PWR.STATE_STATE) 0

/-! ### Memory errors (R27, R28) -/

/-- Whether a word of an element lies at a cell of the page. -/
def elemHolds (e : Nat × Nat × Nat) (p w : Nat) : Bool := e.1 == p && decide (e.2.1 ≤ w) && decide (4 * w < 4 * e.2.1 + e.2.2 + 16)

/-- An element with an uncorrectable error is discarded: a request for it fails, and its mailbox holds nothing new (R416). -/
def dropElement (s : State) (b : Fin 4) (p w : Nat) : State :=
  let s := (List.range 64).foldl (fun (s : State) (i : Nat) =>
    match s.txBuf b i with
    | some e => if elemHolds e p w && s.on (txReqF b i) then s.endTx b i CAN.TX_FAIL else s
    | none => s) s
  (List.range 64).foldl (fun (s : State) (i : Nat) =>
    match s.mailbox b i with
    | some e => if elemHolds e p w then s.setB (bufBit CAN.ND b i) false else s
    | none => s) s

/-- A corrected error: the counter of the reporting page, and S31. -/
def eccCorrected (s : State) (src : EccSource) : State :=
  match src with
  | .fabric (some _) => (s.inc HIF.ECC_CNT).raise 0x01 3
  | .vault => (s.inc VLT.ECC_CNT).raise 0x00 0
  | .journal => (s.inc LDG.ECC_CNT).raise 0x00 0
  | .changeLog _ => (s.inc VLT.ECC_CNT).raise 0x00 0
  | .nand b _ worn => let s := (s.inc LDG.ECC_CNT).raise 0x00 0; if worn then s.markWorn b else s
  | .index .. => (s.inc LDG.ECC_CNT).raise 0x00 0
  | .header .. => (s.inc LDG.ECC_CNT).raise 0x00 0
  | .canRam b p => (s.inc (CAN.RAM_ECC_CNT b)).raise (0x80 + 16 * b.val + p.val) 0
  | _ => (s.inc SYS.ECC_CNT).raise 0x00 0

/-- The FAULT register of a reporting page, as CTX0 of a record shows it; 0 for a page without one (R365). -/
def pageFault (s : State) (page : Nat) : Nat :=
  if page = 0x0C then (s.word LDG.FAULT.addr).toNat else if page = 0x0D then s.get OCC.FAULT else 0

/-- A FAULT record of kind 1 that sets no fault register. -/
def eccRecord (s : State) (page cause : Nat) (loc : Word) : State := s.logFault page cause loc 1 0 (s.pageFault page) none

/-- An uncorrectable error of a checked item: its FAULT record and the column *On an error that cannot be corrected* of R27. -/
def eccFatal (s : State) (src : EccSource) (loc : Word) : State :=
  match src with
  | .fabric (some x) => (s.accessErr x.1.toNat 8 x.2).eccRecord 0x01 8 loc
  | .fabric none => (s.eccRecord 0x00 0 loc).raise 0x00 0
  | .doorEngine n => s.dwFault n 11 loc 1
  | .le => ((s.eccRecord 0x00 0 loc).raise 0x00 0).modBoot (fun x => { x with leDown := true })
  | .xe => (((s.eccRecord 0x00 0 loc).raise 0x00 0).modBoot (fun x => { x with xeDown := true })).showAlive
  | .oe => ((s.oeDown 1 (locBlock 0 5 0)).eccRecord 0x0D 1 loc).raise 0x00 0
  | .sc => s.memoryTest 3 2 ⟨false, loc⟩
  | .vault => s.vaultEcc loc
  | .changeLog back => s.logLost back
  | .journal => ((s.dropSlot (slotOfLoc loc)).ldgFault 4 loc 1 false).raise 0x0C 1
  | .nand b p _ => ((s.eccRecord 0x0C 0 loc).markLost b p).showFill
  | .index b p => ((s.indexLost loc).markBad b p).showFill
  | .header b p k => (s.eccRecord 0x0C 0 loc).skipRecord b p k
  | .boot => (s.eccRecord 0x00 0 loc).raise 0x00 0
  | .canRam b p =>
    let s := s.canFault b 1 false loc 1
    (s.raise (0x80 + 16 * b.val + p.val) 1).dropElement b p (fieldOf loc 4 10 / 2 + 511 * (fieldOf loc 14 5 - 2 * (p.val % 4)))

/-- LE or XE has restarted from NOR (R27). -/
def restarted (s : State) (e : RestartEngine) : State :=
  match e with
  | .le => s.modBoot (fun x => { x with leDown := false })
  | .xe => (s.modBoot (fun x => { x with xeDown := false })).showAlive

end State

/-! ### Meanings -/

/-- R426, R429. -/
def execResetNAssert (s : State) : Host.Outcome State Fault Refusal := .next s.resetLow

/-- R429, R30, R432. -/
def execResetNRelease (hostsel : Fin 4) (unitB : Bool) (s : State) : Host.Outcome State Fault Refusal := .next (s.resetHigh hostsel unitB)

/-- R433. -/
def execBootReady (s : State) : Host.Outcome State Fault Refusal := .next s.bootReady

/-- R433. -/
def execDieLinkTimeout (die : Die) (s : State) : Host.Outcome State Fault Refusal := .next (s.linkTimeout die)

/-- R435: a write of the key; any other value arms nothing. -/
def execSrstKeyWrite (w : Word) (s : State) : Host.Outcome State Fault Refusal :=
  .next (if s.coreOn then s.modBoot (fun x => { x with srstAt := if w = 0xC3A5#32 then some s.clk32 else none }) else s)

/-- R435. -/
def execSreset (s : State) : Host.Outcome State Fault Refusal := .next (if s.coreOn then s.softReset else s)

/-- R261, R262. -/
def execSafetyReset (s : State) : Host.Outcome State Fault Refusal := .next s.safetyReset

/-- R434. -/
def execErase (s : State) : Host.Outcome State Fault Refusal := .next (if s.coreOn then s.startCmd .erase else s)

/-- R434. -/
def execVerify (s : State) : Host.Outcome State Fault Refusal := .next (if s.coreOn then s.startCmd .verify else s)

/-- R434: ignored unless STATE is ERASED or WRITING. -/
def execFwWinWrite (w : Word) (s : State) : Host.Outcome State Fault Refusal := .next (if s.coreOn then s.fwWord w else s)

/-- R434. -/
def execActivate (s : State) : Host.Outcome State Fault Refusal := .next (if s.coreOn then s.fwActivate else s)

/-- R434. -/
def execConfirm (s : State) : Host.Outcome State Fault Refusal := .next (if s.coreOn then s.fwConfirm else s)

/-- R434. -/
def execFwCommandDone (s : State) : Host.Outcome State Fault Refusal := .next s.fwDone

/-- R434. -/
def execTrialTimeout (s : State) : Host.Outcome State Fault Refusal := .next s.trialOver

/-- R437. -/
def execVbatReversed (g : Fin 4) (s : State) : Host.Outcome State Fault Refusal := .next (s.vbatReversed g)

/-- R20. -/
def execSwitchDieHeartbeatLoss (g : Fin 4) (s : State) : Host.Outcome State Fault Refusal := .next (s.switchDieLost g)

/-- R20. -/
def execGateDieHeartbeatLoss (die : Fin 2) (s : State) : Host.Outcome State Fault Refusal := .next (s.gateDieLost die)

/-- R20. -/
def execDieHeartbeat (die : Die) (delivered : Bool) (s : State) : Host.Outcome State Fault Refusal := .next (s.dieBeat die delivered)

/-- R28, R27. -/
def execEccError (src : EccSource) (loc : Word) (corrected : Bool) (s : State) : Host.Outcome State Fault Refusal :=
  .next (if corrected then s.eccCorrected src else s.eccFatal src loc)

/-- R27. -/
def execEngineRestartDone (e : RestartEngine) (s : State) : Host.Outcome State Fault Refusal := .next (s.restarted e)

end Sys2Proof.Machine
end

