-- ==== Sys2Proof/Machine/HostRegs.lean ====
section
/-! DEFINITION. How a write of a register is judged (R5, R51, R52, R268): each field by its access class, its Range and the limits
that other fields give; and what a stored write may change besides the word. -/

namespace Sys2Proof.Machine

/-- The two limits of a Range applied to a value; where they cross, the lower bound governs (R52). -/
def clampLim (lo hi v : Int) : Int := if hi < lo then lo else clampI lo hi v

/-- The event bits a page defines (R64, R65, R93, R130, R155, R158, R225 to R227, R268, R270, R271, R289, R314, R335 to R338, R361, R382,
R396, R416, R417, R424, R438). -/
def eventBits : PageKind → Nat
  | .sys => 0x7
  | .hif => 0xF
  | .eva => 0
  | .cel => 0x3
  | .tmr => 0x3
  | .pwr => 0x3
  | .pbs => 0x7
  | .vlt => 0x7
  | .saf => 0x1F
  | .til => 0x7
  | .stl => 0x7
  | .brv => 0x7
  | .ldg => 0xF
  | .occ => 0x7
  | .din => 0x3
  | .enc => 0xF
  | .dw => 0xFF
  | .pz => 0x3F
  | .ax => 0x3F
  | .fb => 0x7F
  | .lsg => 0xF
  | .can => 0x7FF
  | .mvb => 0xF
  | .sl => 0xFF
  | .cm => 0x3

/-- A register in the window: its address, its page kind and instance, its row and its index in the row. -/
structure Place where
  addr : Nat
  kind : PageKind
  inst : Nat
  row  : RegRow
  idx  : Nat
deriving DecidableEq, Repr

/-- The profile registers are one set, which lives on LSG0 (R315, log entry 18). -/
def homeAddr (a : Nat) : Nat :=
  if 0x41 ≤ a / 4096 ∧ a / 4096 < 0x44 ∧ 0x300 ≤ a % 4096 ∧ a % 4096 < 0x340 then 0x40000 + a % 4096 else a

/-- The register at a word address, none where the offset is reserved or belongs to the common header. -/
def placeOf (a : Nat) : Option Place :=
  match pageOf (a / 4096) with
  | none => none
  | some (k, inst) =>
    let off := a % 4096
    if off < 0x40 then none else (rowAt k.regs off).map (fun r => ⟨homeAddr a, k, inst, r, (off - r.off) / r.stride⟩)

/-- The offset of the register in its page. -/
def Place.off (p : Place) : Nat := p.addr % 4096
def Place.page (p : Place) : Nat := p.addr / 4096

namespace State

/-! ### Limits that other fields give (R52) -/

/-- A limiting field: where it lies in the register that is written, the value that this write stores. -/
def limitVal (s : State) (a : Nat) (new : Word) (f : Fld) : Nat := if f.addr = a then fieldOf new f.lo f.width else s.get f

/-- The Range of a field with a limit from elsewhere. -/
def dynRange (s : State) (p : Place) (new : Word) (f : FieldRow) (d : DynLimit) : Int × Int :=
  let n := p.inst
  let v (g : Fld) : Int := s.limitVal p.addr new g
  match d with
  | .wdMin => (0, v HIF.WD_MAX_MAX - 1)
  | .iCont => (100, v (AX.I_LIMIT_I_MAX n))
  | .iHold => (0, v (AX.I_LIMIT_I_MAX n))
  | .iHome => (100, v (AX.I_LIMIT_I_MAX n))
  | .curBw => (100, v (AX.PWM_FREQ n) / 10)
  | .ferrT => (v (AX.STALL_T_STALL n) + 20, 2000)
  | .iTrip => (100, 1567500000 / ((s.shuntGain n : Int) * max 1 (v (AX.SHUNT_R_R n))))
  | .encN => (1, v (ENC.RATIO_M p.idx))
  | .dragF => (10, v (DW.F_LIMIT_F_END n) - 1)
  | .edgeMute => (0, v (DW.END_ZONE_END_ZONE n))
  | .learnV2 => (v (DW.LEARN_V_V1 n) + 100, v (DW.V_WAIT_SPEED n))
  | .tTx => (5, v (STL.CONN_TIME_T_EXP p.idx) / 2)
  | .sjw lo w => (1, v ⟨p.addr, lo, w⟩)
  | .filt => (1, if s.diSafe (4 * p.idx + f.lo / 8) then 50 else 250)
  | .iNom => (1, if 12 * n + p.idx < 16 then 3000 else 1000)
  | .routeTarget => (0, 3)

/-- What a write of `v` stores in a field; none for an undefined code (R52, R61). -/
def judged (s : State) (p : Place) (new : Word) (f : FieldRow) (v : Nat) : Option Nat :=
  match f.limit with
  | .any => some v
  | .range lo hi => some (codeOf (clampLim lo hi (if lo < 0 then signedOf v f.width else v)) f.width)
  | .codes ok => if ok.any (fun r => decide (r.1 ≤ v ∧ v ≤ r.2)) then some v else none
  | .entry => if v ≤ 47 ∨ v = 63 then some v else none
  | .dyn .routeTarget => if v = 3 ∧ s.get HIF.HOST_CFG_HOSTSEL ≠ 2 then none else some v
  | .dyn d =>
    let r := s.dynRange p new f d
    some (codeOf (clampLim r.1 r.2 v) f.width)

/-! ### Access classes (R5, R51, R268) -/

/-- The fields of SAF that only a session may write (R268). -/
def sessionGated (p : Place) : Bool :=
  p.kind == .saf && (p.off == 0x040 || p.off == 0x044 || p.off == 0x048 || p.off == 0x04C || p.off == 0x054)

/-- An RWS field is stored only while the page is disabled and a session is open. -/
def rwsOpen (s : State) (page : Nat) : Bool := !s.pageOn page && s.editable

/-- The gate of a field: whether its class lets the write store. -/
def mayStore (s : State) (p : Place) (page : Nat) (f : FieldRow) : Bool :=
  match f.access with
  | .rws => s.rwsOpen page
  | _ => !sessionGated p || s.editable

/-- One field of a write: the word so far, and whether a field has been rejected. -/
def writeField (s : State) (p : Place) (page : Nat) (w : Word) (acc : Word × Bool) (f : FieldRow) : Word × Bool :=
  let v := fieldOf w f.lo f.width
  match f.access with
  | .ro => acc
  | .wo => acc
  | .w1s => acc
  | .w1c => (acc.1 &&& ~~~ (w &&& fieldMask f.lo f.width), acc.2)
  | .cnt => (fieldPut acc.1 f.lo f.width v, acc.2)
  | _ =>
    if !s.mayStore p page f then (acc.1, true)
    else match s.judged p acc.1 f v with
      | none => (acc.1, true)
      | some x => (fieldPut acc.1 f.lo f.width x, acc.2)

/-- A limit that the same write may move. -/
def moving (f : FieldRow) : Bool :=
  match f.limit with
  | .dyn _ => true
  | _ => false

/-- The bits of P2_MASK0 and P2_MASK1 that belong to safety-marked channels (R322). -/
def p2Safe (s : State) (a : Nat) : Word :=
  let ofCh (base k : Nat) : Word :=
    (List.range k).foldl (fun (m : Word) i => if s.chSafe (base + i) then m ||| BitVec.ofNat 32 (2 ^ i) else m) 0
  if a = PBS.P2_MASK0.addr then ofCh 0 32 else if a = PBS.P2_MASK1_LS.addr then ofCh 32 16 else 0

/-- What a write leaves in the register, and whether it sets CFG_REJ: the fields with fixed limits first, so that a limit that another
field gives is the value this write stores there. A bit of P2_MASK that a write sets for a safety-marked channel is ignored (R322). -/
def written (s : State) (p : Place) (page : Nat) (w : Word) : Word × Bool :=
  let acc := (p.row.fields.filter (fun f => !moving f)).foldl (s.writeField p page w) (s.word p.addr, false)
  let r := (p.row.fields.filter moving).foldl (s.writeField p page w) acc
  let m := w &&& s.p2Safe p.addr
  if m = 0 then r else ((r.1 &&& ~~~ m) ||| (s.word p.addr &&& m), true)

/-- STAT.CFG_PENDING of SAF (R268). -/
def showPending (s : State) : State :=
  let differs (a : Nat) (m : Word) : Bool := (s.word a &&& m) != s.committedWord (a, m)
  s.setB SAF.STAT_CFG_PENDING (differs SAF.CFG.addr 0xFF01FFFF || differs SAF.TP.addr 0xFFFFFFFF || differs SAF.BRIGHT0.addr 0xFFFFFFFF ||
    differs SAF.BRIGHT1.addr 0xFFFF || differs SAF.EGR.addr 0xFFFF)

/-- Stores a write of the register at `p`, reached through `page`; REJ_OFFS takes the offset of a rejected one. -/
def storeReg (s : State) (p : Place) (page : Nat) (w : Word) : State :=
  let r := s.written p page w
  let t := s.setWord p.addr r.1
  let t := if sessionGated p then t.showPending else t
  let t := if r.2 then t.reject page p.off else t
  if s.msiUsed then msiEdges s t else t

/-! ### The common header (R43) -/

/-- What RO and CNT fields of a page hold when FREEZE is set, as the host reads them. -/
def frozenMask (fs : List FieldRow) : Word :=
  fs.foldl (fun m f => if f.access == .ro || f.access == .cnt then m ||| fieldMask f.lo f.width else m) 0

/-- A write of EVT_EN: the bits the page defines. -/
def writeEvtEn (s : State) (k : PageKind) (page : Nat) (w : Word) : State :=
  let t := s.setWord (HDR.EVT_EN page).addr (w &&& BitVec.ofNat 32 (eventBits k))
  if s.msiUsed then msiEdges s t else t

/-- EVT_FORCE sets bits as the hardware would. -/
def forceEvents (s : State) (k : PageKind) (page : Nat) (w : Word) : State :=
  (List.range 32).foldl (fun (s : State) (i : Nat) => if w.getLsbD i && (eventBits k).testBit i then s.raise page i else s) s

/-- A write of EVT clears the bits written with 1; clearing ENC.EVT bit m clears OVERRUN of output m (R159). -/
def clearEvents (s : State) (k : PageKind) (page : Nat) (w : Word) : State :=
  let a := (HDR.EVT page).addr
  let s := s.setWord a (s.word a &&& ~~~ w)
  if k == .enc then
    (List.range 4).foldl (fun (s : State) (m : Nat) => if w.getLsbD m then s.setB (ENC.STAT_OVERRUN m) false else s) s
  else s

/-- A write of PAGE_STAT clears CFG_REJ and COLLIDE where it carries 1. -/
def clearStat (s : State) (page : Nat) (w : Word) : State :=
  let s := if w.getLsbD 2 then s.setB (HDR.CFG_REJ page) false else s
  if w.getLsbD 3 then s.setB (HDR.COLLIDE page) false else s

end State

end Sys2Proof.Machine
end

