-- ==== Sys2Proof/Machine/Power.lean ====
section
/-! DEFINITION. Power states and wake (R328 to R330), supplies (R331, R332), the RTC and the cellar's counters (R333, R334), posted
writes and the shadow of the slow domain (R53, R54), and the pantry's tick as a row (R318). -/

namespace Sys2Proof.Machine

/-- CLK32 edges of an hour. -/
def hourEdges : Nat := 117964800

namespace State

/-! ### Entering a state (R328) -/

/-- The core domain is gated off: what is written goes to the NAND, the dies keep their patterns. -/
def enterCellar (s : State) : State :=
  let s := (s.powerRec 1 (s.get PWR.STATE_STATE) 1 0).journalDurable
  let s := ((s.clearCore 7).set PWR.STATE_STATE 1).set PWR.STATE_REJ 0
  (s.modBoot (fun b => { b with held := true })).evalAll



/-- CAN controllers stop (R403); the page stays enabled and requests stay pending. -/
def stopCan (s : State) : State :=
  (List.range 4).foldl (fun (s : State) (b : Nat) =>
    let b := fin4 b
    (((s.set (CAN.STAT_BUS b) 0).modCan b (fun e => { e with last := false })).showCan b)) s

/-- CAN controllers integrate once the clocks are ready. -/
def startCan (s : State) : State :=
  (List.range 4).foldl (fun (s : State) (b : Nat) =>
    if s.pageOn (pgCAN b) then (s.set (CAN.STAT_BUS b) 1).showCan (fin4 b) else s) s

/-- WATCH: the gate domain and SC's outputs are off, the watchdog is SUSPENDED with its ELAPSED held (R56, R264, R329). SC leaves RUN, which
SC_STATE shows as BOOT_TEST (DESIGN CHOICE, log entry 140), so BLOCK names it and no condition closes an output. -/
def enterWatch (s : State) : State :=
  let s := s.powerRec 6 3 2 0
  let s := (s.set HIF.WD_STAT_ELAPSED s.wdElapsed).wdEnter 3
  let s := if s.scRun then s.set SAF.STAT_SC_STATE 0 else s
  let s := ((s.gatesHigh).safeOff).stopCan
  let s := (s.set PWR.STATE_STATE 2).set PWR.STATE_REJ 0
  (s.evalAccount).showPowers

/-- Back to SERVICE: SC starts in BOOT_TEST, the watchdog in BOOT_WAIT, the CAN controllers integrate, every porch is OFF and every
doorway determines its state (R264, R403, R56, R224, R91). -/
def toService (s : State) : State :=
  let s := ((s.set PWR.STATE_STATE 3).modCel (fun c => { c with waking := false })).powerRec 7 2 3 0
  let s := s.raiseIf (s.get CEL.WAKE_SRC_SRC != 0) 0x03 0
  let s := if s.get SAF.STAT_SC_STATE = 3 then s else (s.set SAF.STAT_SC_STATE 0).set SAF.SELFTEST 0
  let s := ((s.startCan).wdRestart).evalAccount
  let s := (List.range 8).foldl (fun (s : State) (n : Nat) => s.setDue (fin8 n) false) s
  ((s.setDoorways).decideRate).showPowers

/-- A request for a power state (R328): 1 CELLAR, 2 WATCH, 3 SERVICE. A refused one sets REJ. HALT is left by power-on and RESET_N only
(R262). -/
def powerRequest (s : State) (req : Nat) : State :=
  let st := s.get PWR.STATE_STATE
  if s.get SAF.STAT_SC_STATE = 3 then s
  else if s.cel.waking then s.set PWR.STATE_REJ 5
  else if req = 1 ∧ (st = 2 ∨ st = 3) then
    if s.notAllowed = 0 then s.enterCellar else s.set PWR.STATE_REJ s.notAllowed
  else if req = 2 ∧ st = 3 then
    if s.notAllowed = 0 then s.enterWatch else s.set PWR.STATE_REJ s.notAllowed
  else if req = 3 ∧ st = 2 then (s.set PWR.STATE_REJ 0).wakeWatch 0
  else s

/-- Stage 2 of the energy account asks for CELLAR where AUTO_CELLAR is set (R326). -/
def autoCellar (s : State) : State :=
  if s.get PBS.HEAT_E_STAGE = 2 && s.on PBS.ENERGY_AUTO_CELLAR then s.powerRequest 1 else s

/-- A request comes from the host: none where no port is enabled (R31). -/
def hostPower (s : State) (req : Nat) : State := if s.hostPort then s.powerRequest req else s

/-! ### Wake (R329, R330) -/

/-- The WAKE_EN bit of a source. -/
def wakeBit : WakeSrc → Nat
  | .rtcAlarm => 0
  | .di _ => 1
  | .release _ => 2
  | .dcl => 3
  | .zeroSpeed => 4
  | .can _ => 5
  | .host => 6
  | .partner => 7

/-- The source is enabled. -/
def wakeOn (s : State) (w : WakeSrc) : Bool :=
  (s.get CEL.WAKE_EN_EN).testBit (wakeBit w) &&
  (match w with
   | .di i => (s.get (if i.val < 32 then CEL.DI_WAKE0 else CEL.DI_WAKE1)).testBit (i.val % 32)
   | .can b => (s.get CEL.WAKE_EN_CAN_WAKE).testBit b.val
   | _ => true)

/-- A wake source acts: from WATCH the fast clocks start, from CELLAR they start where the core supplies are valid. -/
def wakeBy (s : State) (bit : Nat) : State :=
  if s.watching then s.wakeWatch (2 ^ bit)
  else if s.get PWR.STATE_STATE = 1 ∧ !s.cel.off ∧ s.cel.coreUp ∧ !s.boot.resetLow then
    let w := if s.cel.waking then s.get CEL.WAKE_SRC_SRC ||| 2 ^ bit else 2 ^ bit
    let s := (s.set CEL.WAKE_SRC_SRC w).set PWR.STATE_WAKE w
    s.modCel (fun c => { c with waking := true })
  else s

/-- On leaving CELLAR every input filter starts again from the raw level (R254). -/
def allFilters (s : State) : State := s.restartFilters ((List.range 64).map fin64)

/-- STUCK of RST_CAUSE (R428): RESET_STUCK has been recorded since the last boot. -/
def stuckMark (s : State) : Nat := if s.cel.stuck then 64 else 0

/-- The fast clocks are ready (R24): SERVICE from WATCH, a boot with reset code 7 from CELLAR. -/
def clocksReady (s : State) : State :=
  if !s.cel.waking then s
  else if s.watching then s.toService
  else if s.get PWR.STATE_STATE = 1 ∧ !s.cel.off ∧ !s.boot.resetLow then
    (((s.modCel (fun c => { c with waking := false })).allFilters).setCause (7 + s.stuckMark)).startBoot
  else s.modCel (fun c => { c with waking := false })

/-- SC samples every input in a burst of 2 ms, 40 samples at 50 µs (R254, R329): a change of a safety-marked input wakes the controller. -/
def burstInputs (s : State) : State :=
  let t := ((List.range 64).map fin64).foldl (fun (s : State) (i : Fin 64) => s.sampleInput 40 i) s
  if (List.range 64).any (fun i => s.diSafe i && (s.diFilt.getLsbD i != t.diFilt.getLsbD i)) then t.wakeWatch 0 else t

/-- A burst of WATCH (R329): the pantry accounts the energy of a WATCH_P, with what its stage brings (R326), SC samples the inputs, and a
command in a mailbox wakes the controller. -/
def watchBurst (s : State) : State :=
  if !s.watching then s else
    let s := ((s.spend (s.get PWR.WATCH_CFG_WATCH_P)).showRateLim).shedStep.1.showBudget.burstInputs
    let s := if (List.range 8).any (fun n => !(s.dw[fin8 n].offers).isEmpty) then s.wakeWatch 0 else s
    s.autoCellar

/-! ### Supplies (R328, R331, R332, R425) -/

/-- The cellar starts from OFF. -/
def cellarStart (s : State) (crystal : Bool) : State :=
  if !s.cel.off then s else
    let s := s.modCel (fun c => { c with off := false, cold := true, coreUp := false, waking := false })
    ((s.setB CEL.STAT_XTAL32 crystal).set PWR.STATE_STATE 1).modBoot (fun b => { b with held := true })

/-- The core supplies have become valid after being absent: a cold boot, with code 1 after a cellar start and 2 otherwise (R428). -/
def coreValid (s : State) (hostsel : Nat) (unitB : Bool) : State :=
  if s.cel.off || s.cel.coreUp || s.get PWR.STATE_STATE != 1 then s else
    let s := s.modBoot (fun b => { b with hostsel := hostsel, unitB := unitB })
    let s := s.modCel (fun c => { c with coreUp := true, waking := false })
    let code := if s.cel.cold then 1 else 2
    let s := (((s.clearCore code).setCause (code + s.stuckMark)).allFilters).set PWR.STATE_STATE 3
    if s.boot.resetLow then s.modBoot (fun b => { b with held := true }) else s.startBoot

/-- A power fail, in any state but OFF: the journal is flushed on VHOLD, and the core domain loses its supplies (R328, R331, R369). -/
def powerFail (s : State) (holdsUp : Bool) : State :=
  if s.cel.off then s
  else if s.get PWR.STATE_STATE = 1 then
    ((s.powerFailFlush holdsUp 1 1).inc CEL.PF_CNT).modCel (fun c => { c with coreUp := false, waking := false })
  else
    let s := (s.powerFailFlush holdsUp (s.get PWR.STATE_STATE) 1).inc CEL.PF_CNT
    let s := ((s.clearCore 2).set PWR.STATE_STATE 1).modCel (fun c => { c with coreUp := false })
    (s.modBoot (fun b => { b with held := true })).evalAll

/-- The cellar supply is lost: OFF. What the cellar and the journal SRAM held is gone (R334, R367). -/
def cellarLoss (s : State) : State :=
  if s.cel.off then s else
    let s := (((s.clearCore 1).set PWR.STATE_STATE 1).setB CEL.STAT_XTAL32 false).setB TMR.STAT_RC_SRC false
    let s := { s with
      journal := [], ldg := { s.ldg with jnext := 0 }, rtc := 0, rtcFrac := 0, posted := [], shadow := [],
      cel := { Cellar.reset with off := true, coreUp := false }, vlt := { s.vlt with sessions := 0 } }
    (s.modBoot (fun b => { b with held := true })).evalAll

/-- The SUP_STAT bit of a condition. -/
def supField : Monitor → Fld
  | .undervolt i => ⟨PWR.SUP_STAT.addr, i.val, 1⟩
  | .overvolt i => ⟨PWR.SUP_STAT.addr, 8 + i.val, 1⟩
  | .surge g => ⟨PWR.SUP_STAT.addr, 16 + g.val, 1⟩

/-- An entry to a condition while the core domain is off: the monitors go on (R26), and the cellar writes the record (R332, R367). -/
def cellarSupply (s : State) (m : Monitor) : State :=
  let st := s.get PWR.STATE_STATE
  ((s.setB (supField m) true).powerRec 4 st st 0).setB (supField m) (s.on (supField m))

/-- A supply crosses a monitor's threshold; a core rail below its own is absent from then on. -/
def supplyCrossing (s : State) (m : Monitor) (entered : Bool) : State :=
  let s := match m with
    | .undervolt i => if 5 ≤ i.val ∧ entered then s.modCel (fun c => { c with coreUp := false }) else s
    | _ => s
  if s.cel.off then s
  else if !s.coreOn then (if entered then s.cellarSupply m else s)
  else if s.on (supField m) == entered then s else
    let s := match m with
      | .undervolt i => if i.val = 4 ∧ !entered then s.vgdBack else s
      | _ => s
    let s := (s.setB (supField m) entered).raise 0x05 0
    if entered then (s.inc PWR.SUP_CNT).powerRec 4 (s.get PWR.STATE_STATE) (s.get PWR.STATE_STATE) 0 else s

/-! ### Time (R333, R334) -/

/-- RTC_LO and RTC_HI show the ledger time. -/
def showRtc (s : State) : State := (s.set TMR.RTC_LO (s.rtc % 2 ^ 32)).set TMR.RTC_HI_RTC (s.rtc / 2 ^ 32 % 2 ^ 16)

def setTime (s : State) : Nat := s.get TMR.SET_LO + 2 ^ 32 * s.get TMR.SET_HI_SET

/-- SET loads the RTC: LAST_STEP, TMR.EVT bit 0, an EVENT of code 9 for a step above SYNC_LOG. -/
def loadTime (s : State) : State :=
  let step : Int := (s.setTime : Int) - s.rtc
  let s := ({ s with rtc := s.setTime }).setB TMR.CTRL_SET false
  let s := ((s.setI TMR.LAST_STEP (clampI (-2147483648) 2147483647 step)).setB TMR.STAT_RTC_VALID true).showRtc
  let s := if s.coreOn then s.raise 0x04 0 else s
  let s := if s.get TMR.SYNC_LOG_T < step.natAbs then s.event 9 12 0 (codeOf step 32) (codeOf (step / 2 ^ 32) 32) 0 8 else s
  if s.ready then s.showRefresh else s

/-- The RTC has reached ALARM with ALARM_EN = 1: TMR.EVT bit 1, and wake source 0 where it is enabled. -/
def alarm (s : State) : State :=
  if s.cel.off || !s.on TMR.CTRL_ALARM_EN || decide (s.rtc < s.get TMR.ALARM_LO + 2 ^ 32 * s.get TMR.ALARM_HI_ALARM) then s else
    let s := if s.coreOn then s.raise 0x04 1 else s
    if s.wakeOn .rtcAlarm then s.wakeBy 0 else s

/-- RESET_N has been low for more than 5 s. -/
def resetStuck (s : State) (heldMs : Nat) : State :=
  if !s.boot.resetLow || s.cel.off || s.boot.stuck || heldMs ≤ 5000 then s else
    let s := (s.set CEL.RSTK_LO (s.rtc % 2 ^ 32)).set CEL.RSTK_HI_TIME (s.rtc / 2 ^ 32 % 2 ^ 16)
    let s := ((s.inc CEL.RSTK_CNT).modBoot (fun b => { b with stuck := true })).modCel (fun c => { c with stuck := true })
    let s := if s.get PWR.STATE_STATE = 1 then s else s.setCause (s.get CEL.RST_CAUSE_CAUSE ||| 64)
    s.powerRec 5 (s.get PWR.STATE_STATE) (s.get PWR.STATE_STATE) heldMs

/-- An hour counter of the cellar gains one edge. -/
def countHour (s : State) (f : Fld) (e : Nat) : State × Nat := if hourEdges ≤ e + 1 then (s.inc f, 0) else (s, e + 1)

/-- ON_H, SERVICE_H and WATCH_H. -/
def countHours (s : State) : State :=
  let st := s.get PWR.STATE_STATE
  let (s, on) := s.countHour CEL.ON_H s.cel.onE
  let (s, sv) := if st = 3 then s.countHour CEL.SERVICE_H s.cel.svcE else (s, s.cel.svcE)
  let (s, wa) := if st = 2 then s.countHour CEL.WATCH_H s.cel.watchE else (s, s.cel.watchE)
  s.modCel (fun c => { c with onE := on, svcE := sv, watchE := wa })

/-- The fraction that a CLK32 edge adds, in 1/32,768,000,000 ms: a period corrected by TRIM, in 0.1 ppm. -/
def edgeFrac (s : State) : Nat := (1000000000 + 100 * s.getI TMR.TRIM_TRIM).toNat

/-- One CLK32 edge of the RTC; a SET that waits is taken at the ms boundary. -/
def rtcEdge (s : State) : State :=
  let f := s.rtcFrac + s.edgeFrac
  if f < 32768000000 then { s with rtcFrac := f }
  else if s.on TMR.CTRL_SET then ({ s with rtcFrac := f - 32768000000 }).loadTime
  else
    let s := { s with rtc := (s.rtc + 1) % 2 ^ 48, rtcFrac := f - 32768000000 }
    (s.modLdg (fun l => { l with runMs := if s.ready then l.runMs + 1 else l.runMs })).showRtc

/-- Whole seconds left of a time that began at an edge. -/
def secsLeft (s : State) (total at_ : Nat) : Nat := total - (s.clk32 - at_) / 32768

/-- SESSION_LEFT, LOCK_LEFT and TRIAL_LEFT count down. -/
def countDown (s : State) : State :=
  let s := if s.on VLT.STAT_SESSION then s.set VLT.SESSION_LEFT_S (s.secsLeft 600 s.vlt.sessAt) else s
  let s := if s.on VLT.STAT_LOCKOUT then s.set VLT.LOCK_LEFT_S (s.secsLeft 60 s.vlt.lockAt) else s
  if s.on SYS.FW_STAT_TRIAL && s.ready then s.set SYS.FW_STAT_TRIAL_LEFT (s.secsLeft 600 s.boot.readyAt) else s

/-! ### The slow domain (R53, R54) -/

/-- The slow offsets of R42. -/
def slowAddr (a : Nat) : Bool :=
  match pageOf (a / 4096) with
  | some (.cel, _) => decide (0x40 ≤ a % 4096)
  | some (.tmr, _) => decide (0x40 ≤ a % 4096)
  | some (.pwr, _) => decide (0x800 ≤ a % 4096)
  | _ => false

/-- The shadow takes the slow-domain words. -/
def refresh (s : State) : State :=
  let s := s.set CEL.SESSION_SESSION (s.get STL.SESSION_SESSION)
  { s with shadow := s.regs.filter (fun c => slowAddr c.1) }

/-- What an applied write does beyond the word: GO of PWR.CTRL issues its request and clears itself. -/
def slowEffect (s : State) (a : Nat) : State :=
  if a = PWR.CTRL.addr ∧ s.on PWR.CTRL_GO then
    let s := s.setB PWR.CTRL_GO false
    if s.ready then s.powerRequest (s.get PWR.CTRL_REQ) else s
  else s

/-- A posted word is applied in the cellar. -/
def applyPosted (s : State) (a : Nat) (w : Word) : State :=
  match placeOf a with
  | some p => (s.storeReg p p.page w).slowEffect a
  | none => s

/-- The posted writes see an edge: applied at the second, shown and BUSY cleared at the third. -/
def postedEdge (s : State) : State :=
  let ps := s.posted.map (fun (p : Nat × Word × Nat) => (p.1, p.2.1, p.2.2 + 1))
  let done := ps.filter (fun p => decide (3 ≤ p.2.2))
  let s := { s with posted := ps.filter (fun p => decide (p.2.2 < 3)) }
  let s := done.foldl (fun (s : State) p => s.setB (HDR.BUSY (p.1 / 4096)) false) s
  (ps.filter (fun p => p.2.2 == 2)).foldl (fun (s : State) p => s.applyPosted p.1 p.2.1) s

/-- A CLK32 edge. SHADOW_SEQ counts the refreshes while the core domain runs, so it starts from its reset value at the release; the spec
does not say whether the shadow goes on while the core is held (DESIGN CHOICE, log entry 141). -/
def slowEdge (s : State) : State :=
  if s.cel.off then s else
    let s := ({ s with clk32 := s.clk32 + 1 }).rtcEdge
    let s := ((s.countHours).countDown).refresh
    let s := if s.coreOn then [0x03, 0x04, 0x05].foldl (fun (s : State) (p : Nat) => s.incWrap (HDR.SHADOW_SEQ p)) s else s
    s.postedEdge

/-- A write to a slow-domain register: posted, or refused with cause 4 while BUSY = 1. -/
def postSlow (s : State) (a : Nat) (w : Word) : State :=
  let busy := HDR.BUSY (a / 4096)
  if s.on busy then s.accessErr a 4 true
  else ({ s with posted := s.posted ++ [(a, w, 0)] }).setB busy true

end State

/-! ### Meanings -/

/-- R318, with the housekeeping of R360 and R381, and R326 for AUTO_CELLAR. -/
def execPantryTick (m : PantryMeas) (s : State) : Host.Outcome State Fault Refusal :=
  .next (s.whenRunning fun s => (s.pantryTick m).catchupStep.rebuildStep.autoCellar)

/-- R328. -/
def execPwrRequestCellar (s : State) : Host.Outcome State Fault Refusal := .next (s.whenReady fun s => s.hostPower 1)

/-- R328. -/
def execPwrRequestWatch (s : State) : Host.Outcome State Fault Refusal := .next (s.whenReady fun s => s.hostPower 2)

/-- R328. -/
def execPwrRequestService (s : State) : Host.Outcome State Fault Refusal := .next (s.whenReady fun s => s.hostPower 3)

/-- R329. -/
def execWatchBurst (s : State) : Host.Outcome State Fault Refusal := .next s.watchBurst

/-- R330. -/
def execWake (src : WakeSrc) (s : State) : Host.Outcome State Fault Refusal :=
  .next (if s.wakeOn src then s.wakeBy (State.wakeBit src) else s)

/-- R328. -/
def execCellarStart (crystal : Bool) (s : State) : Host.Outcome State Fault Refusal := .next (s.cellarStart crystal)

/-- R425, R328. -/
def execCoreSupplyValid (hostsel : Fin 4) (unitB : Bool) (s : State) : Host.Outcome State Fault Refusal :=
  .next (s.coreValid hostsel unitB)

/-- R331. -/
def execPowerFail (holdsUp : Bool) (s : State) : Host.Outcome State Fault Refusal := .next (s.powerFail holdsUp)

/-- R328. -/
def execCellarSupplyLoss (s : State) : Host.Outcome State Fault Refusal := .next s.cellarLoss

/-- R332. -/
def execSupplyMonitorCrossing (m : Monitor) (entered : Bool) (s : State) : Host.Outcome State Fault Refusal :=
  .next (s.supplyCrossing m entered)

/-- R333: the ms boundary at which a SET is taken. -/
def execRtcSet (s : State) : Host.Outcome State Fault Refusal := .next (if s.cel.off then s else s.loadTime)

/-- R330. -/
def execRtcAlarm (s : State) : Host.Outcome State Fault Refusal := .next s.alarm

/-- R334. -/
def execResetStuck (heldMs : Nat) (s : State) : Host.Outcome State Fault Refusal := .next (s.resetStuck heldMs)

/-- R54. -/
def execSlowDomainWrite (addr : BitVec 20) (w : Word) (s : State) : Host.Outcome State Fault Refusal :=
  let a := addr.toNat / 4 * 4
  .next (s.whenReady fun s => if s.hostPort && State.slowAddr a && (placeOf a).isSome then s.postSlow a w else s)

/-- R53. -/
def execShadowRefresh (s : State) : Host.Outcome State Fault Refusal := .next s.slowEdge

/-- R24. -/
def execClocksReady (s : State) : Host.Outcome State Fault Refusal := .next s.clocksReady

/-- R23: no crystal oscillates, CLK32 runs from the RC. -/
def execClk32RcFallback (s : State) : Host.Outcome State Fault Refusal :=
  .next (if s.cel.off || s.on CEL.STAT_XTAL32 then s else s.setB TMR.STAT_RC_SRC true)

end Sys2Proof.Machine
end

