-- ==== Sys2Proof/Machine/HostWrite.lean ====
section
/-! DEFINITION. What a full 32-bit write of a register does (R42, R43, R50 to R55): the common header, the registers with a command
or an effect of their own, and every other register by its fields. A register whose write is a row of the table by itself gets the
meaning of that row. -/

namespace Sys2Proof.Machine

/-- The state after a meaning. -/
def after (f : State → Host.Outcome State Fault Refusal) (s : State) : State :=
  match f s with
  | .next t => t
  | _ => s

/-- The effects of the bits of a command register that are written with 1, lowest first. -/
def bitCmds (w : Word) (cmds : List (Nat × (State → State))) (s : State) : State :=
  cmds.foldl (fun (s : State) c => if w.getLsbD c.1 then c.2 s else s) s

/-- The windows that a full read pops or that take a word per write (R37, R48): LDG.RD_WIN, STL.TX_WIN and STL.RX_WIN. R37 names none; the
model counts SYS.FW_WIN and VLT.PW_WIN, which R434 and R385 do not call FIFOs, as windows too (DEDUCED, log entry 72). -/
def fifoWindow (a : Nat) : Bool := a == 0x0006C || a == 0x07074 || a == 0x0A048 || a == 0x0A054 || a == 0x0C0B0

namespace State

/-! ### Reading (R43 to R48) -/

/-- A host command waits for the doorway's engine: CMD.GO reads 1. -/
def hostWaits (s : State) (n : Fin 8) : Bool := s.dw[n].offers.any (fun o => o.src == .host)

/-- A W1S register reads 1 in the bit of each command that is pending (R5). -/
def pendingBits (w : Word) (cmds : List Bool) : Word :=
  w ||| (List.range cmds.length).foldl (fun (m : Word) (i : Nat) => if cmds.getD i false then m ||| fieldMask i 1 else m) 0

/-- What a register shows now, where it is not a stored word. -/
def liveWord (s : State) (a : Nat) : Word :=
  let page := a / 4096
  let off := a % 4096
  if slowAddr a then cellGet regReset s.shadow a
  else if a = 0x01074 then fieldPut (s.word a) 16 16 s.wdElapsed
  else if page = 0x02 ∧ 0x040 ≤ off ∧ off < 0x04C then s.evtSum ((off - 0x040) / 4)
  else if a = 0x0204C then BitVec.ofNat 32 ((s.lineAsserted 1).toNat + 2 * (s.lineAsserted 2).toNat)
  else if a = 0x02054 then (List.range 16).foldl (fun (w : Word) (v : Nat) => if s.vectorPending v then w ||| (1#32 <<< v) else w) 0
  else if page = 0x07 ∧ 0x100 ≤ off ∧ off < 0x140 then s.logEntry ((off - 0x100) / 4)
  else if a = OCC.TIME_LO.addr then BitVec.ofNat 32 s.porchTime
  else if a = OCC.TIME_HI.addr then BitVec.ofNat 32 (s.porchTime / 2 ^ 32)
  else if a = 0x0A054 then s.txFront
  else if a = 0x0C0B0 then s.rdWord
  else if a = 0x0C080 then pendingBits (s.word a)
    [s.ldg.req == some .first || s.ldg.held == some .first, s.ldg.req == some .next || s.ldg.held == some .next]
  else if a = 0x0C0C8 then pendingBits (s.word a) [s.ldg.dma]
  else if a = 0x07078 then pendingBits (s.word a) [s.vlt.checking, s.on VLT.STAT_COMMITTING]
  else if a = 0x00060 then pendingBits (s.word a) [s.boot.cmd == some .erase, s.boot.cmd == some .verify]
  else if 0x10 ≤ page ∧ page < 0x18 ∧ off = 0x040 then fieldPut (s.word a) 31 1 (s.hostWaits (fin8 (page - 0x10))).toNat
  else if 0x10 ≤ page ∧ page < 0x18 ∧ off = 0x148 then pendingBits (s.word a) [(s.dw[fin8 (page - 0x10)].snap).isSome]
  else if 0x18 ≤ page ∧ page < 0x20 ∧ off = 0x0A0 then BitVec.ofNat 32 (s.pz[fin8 (page - 0x18)].query).toNat
  else s.word a

/-- The 64-bit counters by the address of their low word (R47). -/
def lowWord (a : Nat) : Bool :=
  a == TMR.RTC_LO.addr || a == CEL.RSTK_LO.addr || a == OCC.EPOCH_LO.addr || a == OCC.TIME_LO.addr || a == LDG.OLDEST_LO.addr ||
    (List.range 8).any (fun n => a == (PZ.PASS_T_LO n).addr)

/-- The bits of a word that FREEZE holds (log entry 69): RO and CNT fields, REJ_OFFS and SHADOW_SEQ of the header; no FIFO window. -/
def freezeMask (a : Nat) : Word :=
  if fifoWindow a then 0
  else if a % 4096 = 0x018 ∨ a % 4096 = 0x01C then 0xFFFFFFFF
  else match placeOf a with
    | some p => frozenMask p.row.fields
    | none => 0

/-- What the host reads at a word address, without a side effect. -/
def hostWord (s : State) (a : Nat) : Word :=
  match s.hiFrozen.find? (fun c => c.1 == a) with
  | some c => c.2
  | none =>
    let h := homeAddr a
    let w := s.liveWord h
    match s.frozen.find? (fun c => c.1 == a) with
    | some c => (w &&& ~~~ freezeMask a) ||| (c.2 &&& freezeMask a)
    | none => w

/-- FREEZE set: the page's words as they read now. -/
def freezePage (s : State) (k : PageKind) (page : Nat) : State :=
  let offs := [0x018, 0x01C] ++ k.regs.flatMap (fun r =>
    if frozenMask r.fields = 0 then [] else (List.range r.count).map (fun i => r.off + r.stride * i))
  let cells := offs.foldl (fun (cs : Cells) (o : Nat) =>
    let a := 4096 * page + o
    if fifoWindow a then cs else cellInsert a (s.hostWord a) cs) s.frozen
  { s with frozen := cells }

def thawPage (s : State) (page : Nat) : State := { s with frozen := s.frozen.filter (fun c => c.1 / 4096 != page) }

/-- The page is reached through the primary port: with HOSTSEL 3 there is none (R30, R31); before READY only SYS is (R431); an
unmapped page raises S27 with cause 3 (R42). -/
def reaches (s : State) (a : Nat) : Bool := s.coreOn && s.hostPort && (s.ready || a / 4096 == 0)

/-- In WATCH a host access wakes the controller (R329). -/
def hostWakes (s : State) : State := if s.watching then s.wakeWatch 64 else s

/-- A full 32-bit read: pops a FIFO window, freezes or releases the high word of a 64-bit counter (R47, R48). -/
def fullRead (s : State) (a : Nat) : Word × State :=
  if !s.reaches a then (0, s)
  else if (pageOf (a / 4096)).isNone then (0, s.accessErr a 3 false)
  else
    let w := s.hostWord a
    let t : State := { s with hiFrozen := s.hiFrozen.filter (fun c => c.1 != a) }
    let t :=
      if a = 0x0C0B0 then t.rdPop
      else if a = 0x0A054 then t.txPop
      else if lowWord a then
        let t : State := { t with hiFrozen := t.hiFrozen.filter (fun c => c.1 != a + 4) }
        { t with hiFrozen := cellInsert (a + 4) (t.hostWord (a + 4)) t.hiFrozen }
      else t
    (w, t.hostWakes)

/-- A narrow or unaligned read at a byte address: no side effect (R44), and an error is captured at that byte (R64). -/
def plainRead (s : State) (a : Nat) : Word × State :=
  if !s.reaches a then (0, s)
  else if (pageOf (a / 4096)).isNone then (0, s.accessErr a 3 false)
  else (s.hostWord (a / 4 * 4), s.hostWakes)

/-! ### The common header (R43) -/

/-- A write of a header register. -/
def headerWrite (s : State) (k : PageKind) (page off : Nat) (w : Word) : State :=
  if off = 0x004 then
    let s := if w.getLsbD 0 then s.enablePage page else s.disablePage page
    let now := s.on (HDR.FREEZE page)
    let s := s.setB (HDR.FREEZE page) (w.getLsbD 1)
    if w.getLsbD 1 then (if now then s else s.freezePage k page) else s.thawPage page
  else if off = 0x008 then s.clearStat page w
  else if off = 0x00C then s.clearEvents k page w
  else if off = 0x010 then s.writeEvtEn k page w
  else if off = 0x014 then s.forceEvents k page w
  else s

/-! ### Registers with an effect of their own -/

/-- R434, R435. -/
def writeSys (s : State) (p : Place) (page : Nat) (w : Word) : State :=
  if p.off = 0x050 then after (execSrstKeyWrite w) s
  else if p.off = 0x054 then bitCmds w [(0, after execSreset)] s
  else if p.off = 0x060 then bitCmds w [(0, after execErase), (1, after execVerify), (2, after execActivate), (3, after execConfirm)] s
  else if p.off = 0x06C then after (execFwWinWrite w) s
  else s.storeReg p page w

/-- R56, R57. -/
def writeHif (s : State) (p : Place) (page : Nat) (w : Word) : State :=
  if p.off = 0x060 then bitCmds w [(0, after execRearm)] s
  else if p.off = 0x064 then after (execWdKeyWrite w) s
  else s.storeReg p page w

/-- The message of a vector is sent again while its OR is 1 (R63). -/
def eoi (s : State) (w : Word) : State :=
  let v := fieldOf w 0 4
  if s.vectorPending v then s.sendMsi v else s

def writeEva (s : State) (p : Place) (page : Nat) (w : Word) : State :=
  if p.off = 0x050 then s.eoi w else s.storeReg p page w

/-- More than one command bit is refused with CFG_REJ (R386). -/
def writeVlt (s : State) (p : Place) (page : Nat) (w : Word) : State :=
  if p.off = 0x074 then after (execPwWinWrite w) s
  else if p.off = 0x078 then
    if 1 < ([0, 1, 2, 3].filter (fun (i : Nat) => w.getLsbD i)).length then s.reject page 0x078
    else bitCmds w [(0, after execUnlock), (1, after execCommit), (2, after execAbort), (3, after execNewpw)] s
  else s.storeReg p page w

def writeSaf (s : State) (p : Place) (page : Nat) (w : Word) : State :=
  if p.off = 0x0C8 then bitCmds w [(0, after execSafClr)] s else s.storeReg p page w

def writeTil (s : State) (p : Place) (page : Nat) (w : Word) : State :=
  if p.off = 0x084 then bitCmds w [(0, after execTilClr)] s else s.storeReg p page w

/-- R288. -/
def writeStl (s : State) (p : Place) (page : Nat) (w : Word) : State :=
  if p.off = 0x048 then after (execRxWinWrite w) s
  else if p.off = 0x050 then bitCmds w [(0, after execRxFlush)] s
  else s.storeReg p page w

/-- R351, R358, R361. -/
def writeBrv (s : State) (p : Place) (page : Nat) (w : Word) : State :=
  if p.off = 0x04C then
    bitCmds w [(0, after execHandoverRequest), (1, after execResync), (2, after execBrvClr), (3, after execStbyTest)] s
  else s.storeReg p page w

/-- R368, R374, R378, R380. -/
def writeLdg (s : State) (p : Place) (page : Nat) (w : Word) : State :=
  if p.off = 0x080 then bitCmds w [(0, after execLdgQryReq), (1, after execLdgQryNext)] s
  else if p.off = 0x0C8 then bitCmds w [(0, after execDmaGo), (1, after execDmaAbort)] s
  else if p.off = 0x0E8 then bitCmds w [(0, after execLdgClr), (1, after execLdgFlush), (2, after execLdgCheck)] s
  else s.storeReg p page w

/-- R190, R202, R223. -/
def writeOcc (s : State) (p : Place) (page : Nat) (w : Word) : State :=
  if p.addr = OCC.CFG.addr then (s.storeReg p page w).decideRate
  else if p.addr = OCC.PRE_REL.addr then s.writePreRel w
  else if p.off = 0x074 then bitCmds w [(0, after execOccClr)] s
  else s.storeReg p page w

/-- A write that sets SAFE on an input whose FILT exceeds 50 stores 50 there (R256). -/
def writeDin (s : State) (p : Place) (page : Nat) (w : Word) : State :=
  let t := s.storeReg p page w
  if p.off = 0x098 ∨ p.off = 0x09C then
    (List.range 32).foldl (fun (t : State) (i : Nat) =>
      let f := DIN.FILT_FILT (32 * p.idx + i)
      if (t.word p.addr).getLsbD i && !(s.word p.addr).getLsbD i && decide (50 < t.get f) then t.set f 50 else t) t
  else t

/-- CMD: refused while the host is blocked (R58); GO issues the OP that is stored then, in place of one that still waits (R49). -/
def writeCmd (s : State) (p : Place) (page : Nat) (n : Fin 8) (w : Word) : State :=
  if s.on (DW.STATE_HOST_BLOCK n) then s.reject page 0x040 else
    let s := s.storeReg p page w
    if !w.getLsbD 31 then s else
      match DwOp.ofCode (s.get (DW.CMD_OP n)) with
      | none => s
      | some op =>
        let s := s.modDw n (fun e => { e with offers := e.offers.filter (fun o => o.src != .host) })
        s.offer n { State.offerOf op .host with axsel := s.get (DW.CMD_AXSEL n) }

def writeDw (s : State) (p : Place) (page : Nat) (w : Word) : State :=
  let n := fin8 p.inst
  if p.off = 0x040 then s.writeCmd p page n w
  else if p.off = 0x078 then bitCmds w [(0, after (execLoadRef n))] (s.storeReg p page w)
  else if p.off = 0x148 then
    bitCmds w [(0, after (execEffSnap n)), (2, after (execClrModel n)), (3, after (execResetAdapt n))] (s.storeReg p page w)
  else if p.off = 0x058 then (s.storeReg p page w).showStep n
  else s.storeReg p page w

/-- R208, R221. -/
def writePz (s : State) (p : Place) (page : Nat) (w : Word) : State :=
  let n := fin8 p.inst
  if p.off = 0x040 then after (execFreezeGrid n (w.getLsbD 1)) (s.storeReg p page w)
  else if p.off = 0x0A0 then bitCmds w [(0, after (execPorchQuery n))] s
  else s.storeReg p page w

/-- HOLD set: the profile words in use are kept; cleared: the stored ones apply (R103). -/
def writeHold (s : State) (ax : Fin 16) (on_ : Bool) : State :=
  if on_ then
    if s.on (AX.PROF_CTRL_HOLD ax) then s else
      let ws := [true, false].flatMap (fun up => (List.range 6).map (fun k => s.word (profFld ax up k).addr))
      (s.modAx ax (fun e => { e with held := ws })).setB (AX.PROF_CTRL_HOLD ax) true
  else (s.setB (AX.PROF_CTRL_HOLD ax) false).modAx ax (fun e => { e with held := [] })

def writeAx (s : State) (p : Place) (page : Nat) (w : Word) : State :=
  let ax := fin16 p.inst
  if p.addr = (AX.PROF_CTRL ax).addr then s.writeHold ax (w.getLsbD 0)
  else if p.off = 0x130 then bitCmds w [(0, after (execAxisClr ax))] s
  else s.storeReg p page w

def writeFb (s : State) (p : Place) (page : Nat) (w : Word) : State :=
  if p.off = 0x09C then bitCmds w [(0, after (execFbClr (fin16 p.inst))), (1, after (execIdxRearm (fin16 p.inst)))] s
  else s.storeReg p page w



/-- The L channels of a group, whose LED bits a write reaches (R290, R306). -/
def lChannels (g : Fin 4) : Word := if g.val = 0 then 0 else if g.val = 1 then 0xFF0 else 0xFFF

/-- R303, R306, R308, R309, R312. A snapshot is taken by the row SENSE_SNAPSHOT; the request clears VALID and reads 1 until then. -/
def writeLsg (s : State) (p : Place) (page : Nat) (w : Word) : State :=
  let g := fin4 p.inst
  if p.off = 0x050 then after (execLsgOnWrite g w) s
  else if p.off = 0x064 then after (execLsgClr g (w.extractLsb' 0 12)) s
  else if p.off = 0x070 then (if w.getLsbD 0 then (s.resClear (LSG.SNAP_STAT g)).setB (LSG.SNAP_CTRL_REQ g) true else s)
  else if p.off = 0x040 ∨ p.off = 0x044 then (s.storeReg p page w).showSense g
  else if p.off = 0x060 then s.storeReg p page (w &&& lChannels g)
  else s.storeReg p page w

/-- TX_CANCEL of a buffer; whether the one on offer has won arbitration is free (log entry 71). -/
def cancelBuf (s : State) (b : Fin 4) (buf : Fin 64) : State :=
  if s.can[b].cur == some buf.val then (after (execTxCancel b buf (s.freeWord.getLsbD 0)) s).bumpFree
  else after (execTxCancel b buf false) s

def writeCan (s : State) (p : Place) (page : Nat) (w : Word) : State :=
  let b := fin4 p.inst
  if p.off = 0x0CC then bitCmds w [(0, after (execBoRecover b)), (1, after (execCanClr b))] s
  else if p.off = 0x0D0 ∨ p.off = 0x0D4 then
    bitCmds w ((List.range 32).map (fun i => (i, after (execCanTxReq b (fin64 (32 * p.idx + i)))))) s
  else if p.off = 0x0D8 ∨ p.off = 0x0DC then
    bitCmds w ((List.range 32).map (fun i => (i, fun (s : State) => s.cancelBuf b (fin64 (32 * p.idx + i))))) s
  else if p.off = 0x10C ∨ p.off = 0x114 ∨ p.off = 0x11C ∨ p.off = 0x124 then after (execQueueRel b (fin4 p.idx) w) s
  else if p.off = 0x12C then after (execTlogRel b w) s
  else if p.off = 0x054 then
    let t := s.storeReg p page w
    if t.pageOn (pgCAN b) then t.confine b else t
  else s.storeReg p page w

/-- R421. -/
def writeMvb (s : State) (p : Place) (page : Nat) (w : Word) : State :=
  if p.off = 0x064 then bitCmds w [(0, after execMvbPortSnap), (1, after execMvbPortCommit)] s else s.storeReg p page w

def writeSl (s : State) (p : Place) (page : Nat) (w : Word) : State :=
  if p.off = 0x0A0 then bitCmds w [(0, after (execSlClr (fin16 p.inst))), (1, after (execCalReq (fin16 p.inst)))] s
  else s.storeReg p page w

/-- An output whose CFG.EN changes starts anew, its lines low; one whose CFG.SHARED changes is driven or let go (R154, R157). -/
def writeEnc (s : State) (p : Place) (page : Nat) (w : Word) : State :=
  ((List.range 4).map fin4).foldl (fun (t : State) (e : Fin 4) =>
    if s.on (ENC.CFG_EN e) != t.on (ENC.CFG_EN e) then t.encLow e
    else if s.on (ENC.CFG_SHARED e) != t.on (ENC.CFG_SHARED e) then t.encDrive e
    else t) (s.storeReg p page w)

/-- A write of a register outside the header. -/
def regWrite (s : State) (p : Place) (page : Nat) (w : Word) : State :=
  match p.kind with
  | .sys => s.writeSys p page w
  | .hif => s.writeHif p page w
  | .eva => s.writeEva p page w
  | .vlt => s.writeVlt p page w
  | .saf => s.writeSaf p page w
  | .til => s.writeTil p page w
  | .stl => s.writeStl p page w
  | .brv => s.writeBrv p page w
  | .ldg => s.writeLdg p page w
  | .occ => s.writeOcc p page w
  | .din => s.writeDin p page w
  | .dw => s.writeDw p page w
  | .pz => s.writePz p page w
  | .ax => s.writeAx p page w
  | .fb => s.writeFb p page w
  | .lsg => s.writeLsg p page w
  | .can => s.writeCan p page w
  | .mvb => s.writeMvb p page w
  | .sl => s.writeSl p page w
  | .cel => s.storeReg p page w
  | .tmr => s.storeReg p page w
  | .pwr => s.storeReg p page w
  | .pbs => s.storeReg p page w
  | .enc => s.writeEnc p page w
  | .cm => s.storeReg p page w

/-- A write at a word address of a mapped page (R4, R42, R54). -/
def mappedWrite (s : State) (k : PageKind) (a : Nat) (w : Word) : State :=
  if a % 4096 < 0x40 then s.headerWrite k (a / 4096) (a % 4096) w
  else match placeOf a with
    | none => s
    | some p => if slowAddr a then s.postSlow a w else s.regWrite p (a / 4096) w

/-- A full 32-bit write at a word address of the register window. -/
def fullWrite (s : State) (a : Nat) (w : Word) : State :=
  if !s.reaches a then s
  else match pageOf (a / 4096) with
    | none => s.accessErr a 3 true
    | some (k, _) => (s.mappedWrite k a w).hostWakes

end State

end Sys2Proof.Machine
end

