-- ==== Sys2Proof/Machine/HostPort.lean ====
section
/-! DEFINITION. The three host ports (R30 to R41, R431): the parallel bus, quad SPI and the PCI Express endpoint with its
configuration space and its window onto the DRAM; and the accesses that the table names apart from a port (R42, R43, R47, R52,
R63). -/

namespace Sys2Proof.Machine

/-- The enables that are set stand in one run. -/
def contiguous (be : BitVec 4) : Bool :=
  [0x1#4, 0x2#4, 0x4#4, 0x8#4, 0x3#4, 0x6#4, 0xC#4, 0x7#4, 0xE#4, 0xF#4, 0x0#4].contains be

/-- The bytes of a list from a position on, zero beyond its end. -/
def sliceBytes (bs : List Byte) (from_ len : Nat) : List Byte := (List.range len).map (fun i => bs.getD (from_ + i) 0)

/-! ### The DRAM window (R208, R209) -/

/-- FRAME_START as it stands in its slot (R195). -/
def startBytes (m : FrameStartMsg) : List Byte :=
  wordBytes m.frameNo ++ leBytes 8 m.expEnd.toNat ++ wordBytes m.expDur ++ leBytes 2 m.width.toNat ++ leBytes 2 m.height.toNat ++
    leBytes 2 m.headStat.toNat ++ leBytes 2 m.syncErr.toNat ++ wordBytes m.calCrc ++ leBytes 4 0

/-- ROW as it stands in its slot (R196). -/
def rowBytes (m : RowMsg) : List Byte :=
  wordBytes m.frameNo ++ leBytes 2 m.row.toNat ++ leBytes 2 0 ++ m.depth.flatMap (fun d => leBytes 2 d.toNat) ++ m.conf

/-- A byte of a frame slot; none where nothing has been written. -/
def slotByte (f : FrameSlot) (o : Nat) : Option Byte :=
  if o < 0x020 then (startBytes f.start)[o]?
  else if o < 0x024 then some ((leBytes 4 (f.complete.toNat + 2 * f.accepted.toNat + 256 * f.cause)).getD (o - 0x020) 0)
  else if o < 0x040 then none
  else
    match f.rows.find? (fun r => r.row.toNat == (o - 0x040) / 968) with
    | some r => (rowBytes r)[(o - 0x040) % 968]?
    | none => none

namespace State

/-- A byte that the window shows; what the layout does not describe, and what nothing has been written to, is free (log entry 4). -/
def dramAt (s : State) (o : Nat) : Byte :=
  if o < 0x04000000 ∧ o % 0x400000 < 3932160 then
    gridByte (s.pz[fin8 (o / 0x800000)].bufs[(⟨o / 0x400000 % 2, by omega⟩ : Fin 2)]) (o % 0x400000)
  else if 0x04000000 ≤ o ∧ o < 0x05000000 then
    let k := o - 0x04000000
    match s.sl[fin16 (k / 0x100000)].slots[fin4 (k / 0x40000)] with
    | some f => (slotByte f (k % 0x40000)).getD (Config.dramByte o)
    | none => Config.dramByte o
  else if 0x08000000 ≤ o ∧ o < 0x10000000 then
    match s.ldg.staged[(o - 0x08000000) / 4]? with
    | some w => (wordBytes w).getD (o % 4) 0
    | none => Config.dramByte o
  else Config.dramByte o

/-! ### Reads of a span (R39, R44, R46) -/

/-- The words that a span of bytes touches: a whole word by a full read, a part of one by a narrow read. `step` says where the next
word lies; it is 0 on a FIFO window of the quad SPI port (R37). -/
def readSpan (step : Nat → Nat) (reach : Nat → Bool) : Nat → State → Nat → Nat → Nat → List Byte → List Byte × State
  | 0, s, _, _, _, acc => (acc, s)
  | k + 1, s, a, skip, len, acc =>
    if len = 0 then (acc, s) else
      let n := min (4 - skip) len
      let r := if !reach a then ((0 : Word), s.accessErr (a + skip) 3 false)
        else if n = 4 then s.fullRead (a % 2 ^ 20) else s.plainRead (a % 2 ^ 20 + skip)
      readSpan step reach k r.2 (a + step a) 0 (len - n) (acc ++ sliceBytes (wordBytes r.1) skip n)

/-! ### The parallel bus (R32, R33) -/

def onHpb (s : State) : Bool := s.coreOn && s.get HIF.HOST_CFG_HOSTSEL == 0

def wordOf (addr : BitVec 20) : Nat := addr.toNat / 4 * 4

/-- The high half of the word at `a`, which stands at byte `a + 2`. -/
def hpbHigh (s : State) (a : Nat) (v : BitVec 16) : State :=
  match s.hif.hold with
  | some (h, lo) =>
    if h = a then (s.modHif (fun x => { x with hold := none })).fullWrite a (v ++ lo)
    else if s.reaches a then (s.accessErr (a + 2) 6 true).hostWakes else s
  | none => if s.reaches a then (s.accessErr (a + 2) 6 true).hostWakes else s

def hpbReadLow (s : State) (a : Nat) : State :=
  let r := s.fullRead a
  let s := r.2.modHif (fun x => { x with latch := some (a, r.1.extractLsb' 16 16) })
  s.emit (.readData ((wordBytes r.1).take 2))

def hpbReadHigh (s : State) (a : Nat) : State :=
  match s.hif.latch with
  | some (h, v) =>
    if h = a then (s.modHif (fun x => { x with latch := none })).emit (.readData [v.extractLsb' 0 8, v.extractLsb' 8 8])
    else
      let r := s.plainRead (a + 2)
      r.2.emit (.readData ((wordBytes r.1).drop 2))
  | none =>
    let r := s.plainRead (a + 2)
    r.2.emit (.readData ((wordBytes r.1).drop 2))

/-! ### Quad SPI (R34 to R37) -/

def onQspi (s : State) : Bool := s.coreOn && s.get HIF.HOST_CFG_HOSTSEL == 1

/-- A byte that the command table of R34 does not name. -/
def qsUnknown (cmd : Byte) : Bool := !([0x02#8, 0x03#8, 0x0B#8, 0x05#8, 0xFF#8].contains cmd)

def qsStep (a : Nat) : Nat := if fifoWindow (a % 2 ^ 24) then 0 else 4

/-- The words of a write transaction; a rest of one to three bytes is a protocol error. -/
def qsWords : Nat → State → Nat → List Byte → State
  | 0, s, _, _ => s
  | k + 1, s, a, bs =>
    match bs with
    | [] => s
    | b0 :: b1 :: b2 :: b3 :: rest =>
      let w : Word := BitVec.ofNat 32 (ofLeBytes [b0, b1, b2, b3])
      let t := if a % 2 ^ 24 < 2 ^ 20 then s.fullWrite (a % 2 ^ 24) w else s.accessErr a 3 true
      qsWords k t (a + qsStep a) rest
    | _ => s.accessErr a 7 true

/-- The mode that QS_CTRL.QUAD selects is in force from the end of the transaction (R36). -/
def quadTakes (s : State) : State := s.modHif (fun x => { x with quad := s.on HIF.QS_CTRL_QUAD })

def qsWriteTo (s : State) (a : Nat) (bs : List Byte) : State :=
  if a % 4 ≠ 0 then s.accessErr a 7 true else (qsWords (bs.length / 4 + 1) s a bs).quadTakes

def qsReadFrom (s : State) (a len : Nat) : State :=
  let r := readSpan qsStep (fun a => decide (a % 2 ^ 24 < 2 ^ 20)) (len + 1) s (a / 4 * 4) (a % 4) len []
  r.2.emit (.readData r.1)

/-- The status byte. A served word reaches the fabric within its command, so WIP is 0 (timing, log entry 76). -/
def qsStatusByte (s : State) : Byte :=
  BitVec.ofNat 8 (2 * s.hif.qsErr.toNat + 4 * s.ready.toNat + 8 * s.hif.quad.toNat + 16 * (s.ready && s.wdState == 2).toNat)

/-! ### The endpoint (R38 to R41) -/

def onPcie (s : State) : Bool := s.coreOn && s.get HIF.HOST_CFG_HOSTSEL == 2 && !s.hif.perst

/-- The lowest enabled byte of a doubleword. -/
def lowByte (be : BitVec 4) : Nat := ((List.range 4).find? (fun i => be.getLsbD i)).getD 0

/-- The doublewords of a BAR0 write; one without all its enables is ignored with cause 1, or 2 where they are not contiguous, at the byte
address of the first one enabled (R64). -/
def barWrite : State → Nat → List (Word × BitVec 4) → State
  | s, _, [] => s
  | s, a, (w, be) :: rest =>
    let t :=
      if be = 0xF#4 then s.fullWrite a w
      else if !s.reaches a then s
      else (s.accessErr (a + lowByte be) (if contiguous be then 1 else 2) true).hostWakes
    barWrite t ((a + 4) % 2 ^ 20) rest

/-- The endpoint's registers at their reset (R41). -/
def endpointReset (s : State) : State :=
  ({ s with pcieMask := 0 }.modHif (fun x => { x with pcie := [] })).set HIF.PE_STAT 0

/-- Messages held for a vector that is not masked are sent; one whose source is no longer pending is not (R63). -/
def sendHeld (s : State) : State :=
  (List.range 16).foldl (fun (s : State) (v : Nat) =>
    if s.hif.msiHeld.testBit v && !s.pcieMask.testBit v && s.get HIF.PE_STAT_GRANTED != 0 then
      let s := s.modHif (fun x => { x with msiHeld := x.msiHeld - 2 ^ v })
      if s.vectorPending v then s.sendMsi v else s
    else s) s

/-! The configuration space: what R38 states, at the places of the PCI Express Base Specification; where the capabilities stand is
this model's choice (log entry 67). -/

/-- The bits of a word that a configuration write stores. -/
def configRw (o : Nat) : Word :=
  if o = 0x004 then 0x00000546
  else if o = 0x010 then 0xFFF00000
  else if o = 0x018 then 0xE0000000
  else if o = 0x01C then 0xFFFFFFFF
  else if o = 0x03C then 0x000000FF
  else if o = 0x044 then 0x00000003
  else if o = 0x050 then 0x00710000
  else if o = 0x054 then 0xFFFFFFFC
  else if o = 0x058 then 0xFFFFFFFF
  else if o = 0x05C then 0x0000FFFF
  else if o = 0x060 then 0x0000FFFF
  else 0

/-- The fixed part of a word the spec describes; none for the others. -/
def configFixed (s : State) (o : Nat) : Option Word :=
  if o = 0x000 then some 0x8D161F6E
  else if o = 0x004 then some 0x00100000
  else if o = 0x008 then some (0x11800000#32 ||| (Config.pcieConfigWord 0x008 &&& 0xFF))
  else if o = 0x010 then some 0
  else if o = 0x014 then some 0
  else if o = 0x018 then some 0x0000000C
  else if o = 0x01C then some 0
  else if o = 0x020 then some 0
  else if o = 0x024 then some 0
  else if o = 0x02C then some s.hif.subsys
  else if o = 0x030 then some 0
  else if o = 0x034 then some 0x00000040
  else if o = 0x03C then some 0
  else if o = 0x040 then some 0x00035001
  else if o = 0x044 then some 0
  else if o = 0x050 then some 0x01887005
  else if o = 0x054 then some 0
  else if o = 0x058 then some 0
  else if o = 0x05C then some 0
  else if o = 0x060 then some 0
  else if o = 0x064 then some (BitVec.ofNat 32 s.hif.msiHeld)
  else if o = 0x070 then some ((Config.pcieConfigWord 0x070 &&& 0xFFFF0000) ||| 0x0010)
  else if o = 0x074 then some ((Config.pcieConfigWord 0x074 &&& 0xFFFFFFF8) ||| 1)
  else if o = 0x100 then some ((Config.pcieConfigWord 0x100 &&& 0xFFFF0000) ||| 0x0001)
  else none

def configWord (s : State) (o : Nat) : Word :=
  let stored := s.hif.pcie.find? (fun c => c.1 == o)
  match s.configFixed o with
  | some f => f ||| ((stored.map (·.2)).getD 0)
  | none => (stored.map (·.2)).getD (Config.pcieConfigWord (BitVec.ofNat 12 o))

def putConfig (s : State) (o : Nat) (w : Word) : State :=
  s.modHif (fun x => { x with pcie := cellInsert o w (x.pcie.filter (fun c => c.1 != o)) })

/-- The byte mask of four enables. -/
def beMask (be : BitVec 4) : Word :=
  (List.range 4).foldl (fun (m : Word) (i : Nat) => if be.getLsbD i then m ||| fieldMask (8 * i) 8 else m) 0

/-- GRANTED: 0 while MSI is disabled, else the vectors that the host allows, at most 16. -/
def showGranted (s : State) : State :=
  let c := s.configWord 0x050
  let g := if c.getLsbD 16 then 2 ^ min (fieldOf c 20 3) 4 else 0
  (s.set HIF.PE_STAT_GRANTED g).sendHeld

/-- A configuration write. A power state other than D0 and D3hot is not taken. -/
def configWrite (s : State) (o : Nat) (w : Word) (be : BitVec 4) : State :=
  match s.configFixed o with
  | none => (s.putConfig o s.freeWord).bumpFree
  | some _ =>
    let old := ((s.hif.pcie.find? (fun c => c.1 == o)).map (·.2)).getD 0
    let m := configRw o &&& beMask be
    let new := (old &&& ~~~ m) ||| (w &&& m)
    if o = 0x044 ∧ (fieldOf new 0 2 = 1 ∨ fieldOf new 0 2 = 2) then s else
      let s := s.putConfig o new
      if o = 0x050 then s.showGranted
      else if o = 0x060 then ({ s with pcieMask := fieldOf new 0 16 }).sendHeld
      else s

end State

/-! ### Meanings: the parallel bus -/

/-- R32: the low half waits in the write-hold register. -/
def execHpbLowHalfWrite (addr : BitVec 20) (v : BitVec 16) (s : State) : Host.Outcome State Fault Refusal :=
  .next (if s.onHpb then (s.modHif (fun x => { x with hold := some (State.wordOf addr, v) })).hostWakes else s)

/-- R32: the high half commits the word, or is an orphan (cause 6). -/
def execHpbHighHalfWrite (addr : BitVec 20) (v : BitVec 16) (s : State) : Host.Outcome State Fault Refusal :=
  .next (if s.onHpb then s.hpbHigh (State.wordOf addr) v else s)

/-- R33. -/
def execHpbLowHalfRead (addr : BitVec 20) (s : State) : Host.Outcome State Fault Refusal :=
  .next (if s.onHpb then s.hpbReadLow (State.wordOf addr) else s)

/-- R33. -/
def execHpbHighHalfRead (addr : BitVec 20) (s : State) : Host.Outcome State Fault Refusal :=
  .next (if s.onHpb then s.hpbReadHigh (State.wordOf addr) else s)

/-! ### Meanings: quad SPI -/

/-- R34, R37. -/
def execQsWrite (addr : BitVec 24) (bytes : List Byte) (s : State) : Host.Outcome State Fault Refusal :=
  .next (if s.onQspi && s.ready then (s.qsWriteTo addr.toNat bytes).hostWakes else s)

/-- R34, R37: command byte 0x03 reads; in 4-4-4 mode it is a protocol error, as is in either mode a byte that is no command of R34
(`qsUnknown`). The spec does not state the address of such an error, nor which direction an unknown command counts as: ERR_INFO.WRITE
reads 0 (DESIGN CHOICE, log entry 76). The other commands of R34 are rows of their own. -/
def execQsRead (head : QsHead) (len : Nat) (s : State) : Host.Outcome State Fault Refusal :=
  .next (if s.onQspi && s.ready then
    if State.qsUnknown head.cmd || (head.cmd == 0x03#8 && s.hif.quad) then ((s.accessErr s.freeWord.toNat 7 false).bumpFree).hostWakes
    else if head.cmd = 0x03#8 then s.qsReadFrom head.addr.toNat len else s
  else s)

/-- R34. -/
def execQsFastRead (addr : BitVec 24) (len : Nat) (s : State) : Host.Outcome State Fault Refusal :=
  .next (if s.onQspi && s.ready then s.qsReadFrom addr.toNat len else s)

/-- R35: the status byte is repeated while clocked; reading it clears ERR. -/
def execQsStatus (len : Nat) (s : State) : Host.Outcome State Fault Refusal :=
  .next (if s.onQspi then
    let t := s.emit (.readData (List.replicate len s.qsStatusByte))
    (if len = 0 then t else t.modHif (fun x => { x with qsErr := false })).hostWakes
  else s)

/-- R36: 1-1-1 mode, at the end of the command. -/
def execQsModeReset (s : State) : Host.Outcome State Fault Refusal :=
  .next (if s.onQspi then ((s.setB HIF.QS_CTRL_QUAD false).modHif (fun x => { x with quad := false })).hostWakes else s)

/-! ### Meanings: the endpoint -/

/-- R39. -/
def execPcieBar0Write (addr : BitVec 20) (dws : List (Word × BitVec 4)) (s : State) : Host.Outcome State Fault Refusal :=
  .next (if s.onPcie then s.barWrite (State.wordOf addr) dws else s)

/-- R39. -/
def execPcieBar0Read (addr : BitVec 20) (len : Nat) (s : State) : Host.Outcome State Fault Refusal :=
  .next (if s.onPcie then
    let r := State.readSpan (fun _ => 4) (fun _ => true) (len + 1) s (State.wordOf addr) (addr.toNat % 4) len []
    r.2.emit (.readData r.1)
  else s)

/-- R40, R209. -/
def execPcieBar2Read (addr : BitVec 29) (len : Nat) (s : State) : Host.Outcome State Fault Refusal :=
  .next (if s.onPcie && s.ready then
    (s.emit (.readData ((List.range len).map (fun i => s.dramAt ((addr.toNat + i) % 2 ^ 29))))).hostWakes
  else s)

/-- R40: dropped, with cause 5. -/
def execPcieBar2Write (addr : BitVec 29) (s : State) : Host.Outcome State Fault Refusal :=
  .next (if s.onPcie && s.ready then (s.accessErr addr.toNat 5 true).hostWakes else s)

/-- R41: the endpoint alone is reset. -/
def execPePerstAssert (s : State) : Host.Outcome State Fault Refusal :=
  .next ((s.endpointReset).modHif (fun x => { x with perst := true }))

/-- R41; the Subsystem IDs are taken from the vault's register. -/
def execPePerstRelease (s : State) : Host.Outcome State Fault Refusal :=
  .next (if s.hif.perst then
    s.modHif (fun x => { x with perst := false, subsys := if s.boot.loaded then s.word VLT.SUBSYS_ID.addr else x.subsys })
  else s)

/-- R38; before the endpoint is ready, Configuration Request Retry Status (R431). -/
def execPcieConfigRequest (offset : BitVec 12) (wr : Option (Word × BitVec 4)) (s : State) : Host.Outcome State Fault Refusal :=
  let o := offset.toNat / 4 * 4
  .next (if !s.onPcie then s
    else if !s.boot.loaded then s.emit .configRetry
    else match wr with
      | none => s.emit (.readData (wordBytes (s.configWord o)))
      | some (w, be) => s.configWrite o w be)

/-- R41, R64: PE_STAT; the loss of the link resets the endpoint's registers (log entry 77). -/
def execPcieLinkChange (up : Bool) (gen2 : Bool) (s : State) : Host.Outcome State Fault Refusal :=
  .next (if !s.onPcie then s
    else if up then (s.setB HIF.PE_STAT_LINK_UP true).set HIF.PE_STAT_SPEED (if gen2 then 2 else 1)
    else s.endpointReset)

/-! ### Meanings: accesses on any port -/

/-- R42, R64: a page not in the page map, at the byte address of the access; a read answers 0. On a mapped page the command does
nothing. -/
def execUnmappedPageAccess (addr : BitVec 20) (write : Bool) (s : State) : Host.Outcome State Fault Refusal :=
  let a := addr.toNat
  let t := if s.reaches a then s.accessErr a 3 write else s
  .next (if (pageOf (a / 4096)).isSome then s else if write then t else t.emit (.readData (wordBytes 0)))

/-- R47. -/
def execCounter64LowRead (addr : BitVec 20) (s : State) : Host.Outcome State Fault Refusal :=
  let r := s.fullRead (State.wordOf addr)
  .next (r.2.emit (.readData (wordBytes r.1)))

/-- R47. -/
def execCounter64HighRead (addr : BitVec 20) (s : State) : Host.Outcome State Fault Refusal :=
  let r := s.fullRead (State.wordOf addr)
  .next (r.2.emit (.readData (wordBytes r.1)))

/-- R50 to R52: a full 32-bit write. -/
def execRegisterWrite (addr : BitVec 20) (w : Word) (s : State) : Host.Outcome State Fault Refusal :=
  .next (s.fullWrite (State.wordOf addr) w).quadTakes

/-- R43: EVT_FORCE of a page. -/
def execEvtForce (page : BitVec 8) (w : Word) (s : State) : Host.Outcome State Fault Refusal :=
  .next (s.fullWrite (4096 * page.toNat + 0x014) w)

/-- R63. -/
def execMsiEoi (w : Word) (s : State) : Host.Outcome State Fault Refusal := .next (s.whenReady fun s => s.eoi w)

/-- R63: the mask bit of a vector is cleared, and a message held for it is sent. -/
def execMsiUnmask (v : Fin 16) (s : State) : Host.Outcome State Fault Refusal :=
  .next (if !s.onPcie || !s.pcieMask.testBit v then s else
    let m := s.pcieMask - 2 ^ v.val
    (({ s with pcieMask := m } : State).putConfig 0x060 (BitVec.ofNat 32 m)).sendHeld)

end Sys2Proof.Machine
end

