-- ==== Sys2Proof/Machine/Dispatch.lean ====
section
/-! DEFINITION. One arm per command: a direct call of its meaning, or its rejection by name. -/

namespace Sys2Proof.Machine

def exec (i : Instr) (s : State) : Host.Outcome State Fault Refusal :=
  match i with
  | .doorwayTick n => Sys2Proof.Machine.execDoorwayTick n s
  | .openCmd n src => Sys2Proof.Machine.execOpenCmd n src s
  | .closeCmd n src => Sys2Proof.Machine.execCloseCmd n src s
  | .closeWait n src => Sys2Proof.Machine.execCloseWait n src s
  | .stopCmd n src => Sys2Proof.Machine.execStopCmd n src s
  | .isolate n src => Sys2Proof.Machine.execIsolate n src s
  | .restore n src => Sys2Proof.Machine.execRestore n src s
  | .home n axsel src => Sys2Proof.Machine.execHome n axsel src s
  | .learn n axsel src => Sys2Proof.Machine.execLearn n axsel src s
  | .testCycle n src => Sys2Proof.Machine.execTestCycle n src s
  | .dclRise => Sys2Proof.Machine.execDclRise s
  | .sideReleaseRise side => Sys2Proof.Machine.execSideReleaseRise side s
  | .sideReleaseWithdrawn side => Sys2Proof.Machine.execSideReleaseWithdrawn side s
  | .openButtonPress n => Sys2Proof.Machine.execOpenButtonPress n s
  | .isolationActive n => Sys2Proof.Machine.execIsolationActive n s
  | .egressActive n => Sys2Proof.Machine.execEgressActive n s
  | .unlockConfirmed n => Sys2Proof.Machine.execUnlockConfirmed n s
  | .tUnlockExpired n => Sys2Proof.Machine.execTUnlockExpired n s
  | .lockConfirmed n => Sys2Proof.Machine.execLockConfirmed n s
  | .tLockExpired n => Sys2Proof.Machine.execTLockExpired n s
  | .lockedLost n moved => Sys2Proof.Machine.execLockedLost n moved s
  | .leavesPushed n => Sys2Proof.Machine.execLeavesPushed n s
  | .closedLost n => Sys2Proof.Machine.execClosedLost n s
  | .manualStillExpired n => Sys2Proof.Machine.execManualStillExpired n s
  | .homingNoStall ax => Sys2Proof.Machine.execHomingNoStall ax s
  | .stepRetractRetry n => Sys2Proof.Machine.execStepRetractRetry n s
  | .stepLatchTimeout n => Sys2Proof.Machine.execStepLatchTimeout n s
  | .recipeEnd n => Sys2Proof.Machine.execRecipeEnd n s
  | .recipeMove n => Sys2Proof.Machine.execRecipeMove n s
  | .recipeHome n => Sys2Proof.Machine.execRecipeHome n s
  | .recipeSetLs n => Sys2Proof.Machine.execRecipeSetLs n s
  | .recipeClrLs n => Sys2Proof.Machine.execRecipeClrLs n s
  | .recipeWaitDi n => Sys2Proof.Machine.execRecipeWaitDi n s
  | .recipeWaitPos n => Sys2Proof.Machine.execRecipeWaitPos n s
  | .recipeWaitPorch n => Sys2Proof.Machine.execRecipeWaitPorch n s
  | .recipeDelay n => Sys2Proof.Machine.execRecipeDelay n s
  | .recipeBranch n => Sys2Proof.Machine.execRecipeBranch n s
  | .delayExpired n => Sys2Proof.Machine.execDelayExpired n s
  | .waitTimeout n => Sys2Proof.Machine.execWaitTimeout n s
  | .recipeRunaway n => Sys2Proof.Machine.execRecipeRunaway n s
  | .reopenDwellExpired n => Sys2Proof.Machine.execReopenDwellExpired n s
  | .testDwellExpired n => Sys2Proof.Machine.execTestDwellExpired n s
  | .porchWaitExpired n => Sys2Proof.Machine.execPorchWaitExpired n s
  | .loadRef n => Sys2Proof.Machine.execLoadRef n s
  | .doorwayReload n => Sys2Proof.Machine.execDoorwayReload n s
  | .currentLoopCycle ax iu iv iw => Sys2Proof.Machine.execCurrentLoopCycle ax iu iv iw s
  | .profHoldClear ax => Sys2Proof.Machine.execProfHoldClear ax s
  | .motionEnd ax => Sys2Proof.Machine.execMotionEnd ax s
  | .inposFail ax => Sys2Proof.Machine.execInposFail ax s
  | .followingError ax => Sys2Proof.Machine.execFollowingError ax s
  | .stall ax => Sys2Proof.Machine.execStall ax s
  | .alignmentDone ax d0 d1 d2 d3 => Sys2Proof.Machine.execAlignmentDone ax d0 d1 d2 d3 s
  | .i2t ax => Sys2Proof.Machine.execI2t ax s
  | .i2tRelease ax => Sys2Proof.Machine.execI2tRelease ax s
  | .bootstrapUndervoltage ax phase => Sys2Proof.Machine.execBootstrapUndervoltage ax phase s
  | .vgdUndervoltage die below5V => Sys2Proof.Machine.execVgdUndervoltage die below5V s
  | .desaturation ax phase high => Sys2Proof.Machine.execDesaturation ax phase high s
  | .shuntOvercurrent ax phase => Sys2Proof.Machine.execShuntOvercurrent ax phase s
  | .shuntOffsetFault ax phase => Sys2Proof.Machine.execShuntOffsetFault ax phase s
  | .phaseSumFault ax => Sys2Proof.Machine.execPhaseSumFault ax s
  | .openPhase ax => Sys2Proof.Machine.execOpenPhase ax s
  | .gateReadbackMismatch ax phase high => Sys2Proof.Machine.execGateReadbackMismatch ax phase high s
  | .axisClr ax => Sys2Proof.Machine.execAxisClr ax s
  | .axisOffsetMeasured ax offsetsGood bootstrapsHigh => Sys2Proof.Machine.execAxisOffsetMeasured ax offsetsGood bootstrapsHigh s
  | .prechargeEnd ax bootstrapsHigh => Sys2Proof.Machine.execPrechargeEnd ax bootstrapsHigh s
  | .gateTakeover ax bridge => Sys2Proof.Machine.execGateTakeover ax bridge s
  | .quadEdge p a b idx dt => Sys2Proof.Machine.execQuadEdge p a b idx dt s
  | .hallSectorChange p code dt => Sys2Proof.Machine.execHallSectorChange p code dt s
  | .hallInvalidTimeout p => Sys2Proof.Machine.execHallInvalidTimeout p s
  | .ssiFrameStart p => Sys2Proof.Machine.execSsiFrameStart p s
  | .ssiFrameReceived p f dt => Sys2Proof.Machine.execSsiFrameReceived p f dt s
  | .ssiClockTakeover p => Sys2Proof.Machine.execSsiClockTakeover p s
  | .index p => Sys2Proof.Machine.execIndex p s
  | .indexStuck p => Sys2Proof.Machine.execIndexStuck p s
  | .idxMiss p => Sys2Proof.Machine.execIdxMiss p s
  | .idxRearm p => Sys2Proof.Machine.execIdxRearm p s
  | .stillTimeout p => Sys2Proof.Machine.execStillTimeout p s
  | .wireBreak p pair => Sys2Proof.Machine.execWireBreak p pair s
  | .directionMismatch p => Sys2Proof.Machine.execDirectionMismatch p s
  | .fbClr p => Sys2Proof.Machine.execFbClr p s
  | .encoOutputEdge e => Sys2Proof.Machine.execEncoOutputEdge e s
  | .edgeDiscrepancyTimeout n => Sys2Proof.Machine.execEdgeDiscrepancyTimeout n s
  | .forceLimitExceeded n => Sys2Proof.Machine.execForceLimitExceeded n s
  | .cbLimitExceeded n => Sys2Proof.Machine.execCbLimitExceeded n s
  | .modelCrossCheck n => Sys2Proof.Machine.execModelCrossCheck n s
  | .forceCheckDivergence n => Sys2Proof.Machine.execForceCheckDivergence n s
  | .obstacleStopRest n => Sys2Proof.Machine.execObstacleStopRest n s
  | .learnRunEnd n => Sys2Proof.Machine.execLearnRunEnd n s
  | .learnTimeout n => Sys2Proof.Machine.execLearnTimeout n s
  | .effSnap n => Sys2Proof.Machine.execEffSnap n s
  | .clrModel n => Sys2Proof.Machine.execClrModel n s
  | .resetAdapt n => Sys2Proof.Machine.execResetAdapt n s
  | .porchStart n => Sys2Proof.Machine.execPorchStart n s
  | .porchStop n => Sys2Proof.Machine.execPorchStop n s
  | .preRelWrite w => Sys2Proof.Machine.execPreRelWrite w s
  | .preRelWindowOpen side => Sys2Proof.Machine.execPreRelWindowOpen side s
  | .preRelWindowClose side => Sys2Proof.Machine.execPreRelWindowClose side s
  | .frameStart l m => Sys2Proof.Machine.execFrameStart l m s
  | .row l m => Sys2Proof.Machine.execRow l m s
  | .cal l m => Sys2Proof.Machine.execCal l m s
  | .sync => Sys2Proof.Machine.execSync s
  | .calReq l => Sys2Proof.Machine.execCalReq l s
  | .linkUp l polInv => Sys2Proof.Machine.execLinkUp l polInv s
  | .pwrfltActive l => Sys2Proof.Machine.execPwrfltActive l s
  | .podlRetry l => Sys2Proof.Machine.execPodlRetry l s
  | .frameDeadline n => Sys2Proof.Machine.execFrameDeadline n s
  | .passPublish n => Sys2Proof.Machine.execPassPublish n s
  | .staleTimeout n => Sys2Proof.Machine.execStaleTimeout n s
  | .rateEpoch => Sys2Proof.Machine.execRateEpoch s
  | .porchQuery n => Sys2Proof.Machine.execPorchQuery n s
  | .freezeGrid n on => Sys2Proof.Machine.execFreezeGrid n on s
  | .linkDownTimeout l => Sys2Proof.Machine.execLinkDownTimeout l s
  | .calTimeout l => Sys2Proof.Machine.execCalTimeout l s
  | .syncErrTimeout l => Sys2Proof.Machine.execSyncErrTimeout l s
  | .noFrameTimeout l => Sys2Proof.Machine.execNoFrameTimeout l s
  | .slClr l => Sys2Proof.Machine.execSlClr l s
  | .oeFault cause => Sys2Proof.Machine.execOeFault cause s
  | .oeRestartDone => Sys2Proof.Machine.execOeRestartDone s
  | .occClr => Sys2Proof.Machine.execOccClr s
  | .scTick m => Sys2Proof.Machine.execScTick m s
  | .tracSettleElapsed => Sys2Proof.Machine.execTracSettleElapsed s
  | .tracFbMismatch => Sys2Proof.Machine.execTracFbMismatch s
  | .zspDiscrepancy => Sys2Proof.Machine.execZspDiscrepancy s
  | .zspAgree => Sys2Proof.Machine.execZspAgree s
  | .stepOutNoRelease n => Sys2Proof.Machine.execStepOutNoRelease n s
  | .egressStop n => Sys2Proof.Machine.execEgressStop n s
  | .commandDisagreement n => Sys2Proof.Machine.execCommandDisagreement n s
  | .loopDarkPulse low => Sys2Proof.Machine.execLoopDarkPulse low s
  | .loopOpen => Sys2Proof.Machine.execLoopOpen s
  | .loopSrcOvercurrent => Sys2Proof.Machine.execLoopSrcOvercurrent s
  | .tracRelOvercurrent => Sys2Proof.Machine.execTracRelOvercurrent s
  | .testPulse o bright => Sys2Proof.Machine.execTestPulse o bright s
  | .testPulseReadback o r => Sys2Proof.Machine.execTestPulseReadback o r s
  | .diLevelChange di level => Sys2Proof.Machine.execDiLevelChange di level s
  | .wettingPulse di levelIn => Sys2Proof.Machine.execWettingPulse di levelIn s
  | .comparatorDisagreement di => Sys2Proof.Machine.execComparatorDisagreement di s
  | .scBootTestsDone => Sys2Proof.Machine.execScBootTestsDone s
  | .lockstepMismatch => Sys2Proof.Machine.execLockstepMismatch s
  | .lockstepInjectionTest pass => Sys2Proof.Machine.execLockstepInjectionTest pass s
  | .scMemoryScrub m => Sys2Proof.Machine.execScMemoryScrub m s
  | .instructionSetTest pass => Sys2Proof.Machine.execInstructionSetTest pass s
  | .inputComparatorTest di pass => Sys2Proof.Machine.execInputComparatorTest di pass s
  | .adcReferenceCheck pass => Sys2Proof.Machine.execAdcReferenceCheck pass s
  | .configCrcCheck => Sys2Proof.Machine.execConfigCrcCheck s
  | .clockCrossCheck sysclk safclk ref25 => Sys2Proof.Machine.execClockCrossCheck sysclk safclk ref25 s
  | .safetyReset => Sys2Proof.Machine.execSafetyReset s
  | .degradedCauseEnd n cause => Sys2Proof.Machine.execDegradedCauseEnd n cause s
  | .degradedExpired n => Sys2Proof.Machine.execDegradedExpired n s
  | .degradedHoldExpired n => Sys2Proof.Machine.execDegradedHoldExpired n s
  | .safClr => Sys2Proof.Machine.execSafClr s
  | .tilClr => Sys2Proof.Machine.execTilClr s
  | .connect t via => Sys2Proof.Machine.execConnect t via s
  | .command t via => Sys2Proof.Machine.execCommand t via s
  | .transmitPeriod k => Sys2Proof.Machine.execTransmitPeriod k s
  | .connectionTimeout k => Sys2Proof.Machine.execConnectionTimeout k s
  | .rxWinWrite w => Sys2Proof.Machine.execRxWinWrite w s
  | .rxPartialTimeout => Sys2Proof.Machine.execRxPartialTimeout s
  | .rxFlush => Sys2Proof.Machine.execRxFlush s
  | .txWinRead => Sys2Proof.Machine.execTxWinRead s
  | .lsinChange c level => Sys2Proof.Machine.execLsinChange c level s
  | .lsgOnWrite g w => Sys2Proof.Machine.execLsgOnWrite g w s
  | .inrushWindowEnd c => Sys2Proof.Machine.execInrushWindowEnd c s
  | .limitHoldTrip c => Sys2Proof.Machine.execLimitHoldTrip c s
  | .overloadTrip c => Sys2Proof.Machine.execOverloadTrip c s
  | .shortToGround c => Sys2Proof.Machine.execShortToGround c s
  | .thermalShutdown c => Sys2Proof.Machine.execThermalShutdown c s
  | .channelCooled c => Sys2Proof.Machine.execChannelCooled c s
  | .freewheelMissing c => Sys2Proof.Machine.execFreewheelMissing c s
  | .retryTimer c => Sys2Proof.Machine.execRetryTimer c s
  | .retryRefill c => Sys2Proof.Machine.execRetryRefill c s
  | .lsgClr g mask => Sys2Proof.Machine.execLsgClr g mask s
  | .groupUndervoltage g mv10 => Sys2Proof.Machine.execGroupUndervoltage g mv10 s
  | .groupVoltageReturn g mv10 => Sys2Proof.Machine.execGroupVoltageReturn g mv10 s
  | .openLoadOn c cleared => Sys2Proof.Machine.execOpenLoadOn c cleared s
  | .offStateTest c result => Sys2Proof.Machine.execOffStateTest c result s
  | .senseSnapshot g m => Sys2Proof.Machine.execSenseSnapshot g m s
  | .sselChange g code => Sys2Proof.Machine.execSselChange g code s
  | .holdTimeout c => Sys2Proof.Machine.execHoldTimeout c s
  | .groupOvercurrent g => Sys2Proof.Machine.execGroupOvercurrent g s
  | .groupOverClear g => Sys2Proof.Machine.execGroupOverClear g s
  | .pantryTick m => Sys2Proof.Machine.execPantryTick m s
  | .deferMaxExpired ax => Sys2Proof.Machine.execDeferMaxExpired ax s
  | .shedRotation => Sys2Proof.Machine.execShedRotation s
  | .refreshEscalation => Sys2Proof.Machine.execRefreshEscalation s
  | .heatStageRelease => Sys2Proof.Machine.execHeatStageRelease s
  | .pkgCeilingRelease => Sys2Proof.Machine.execPkgCeilingRelease s
  | .pwrRequestCellar => Sys2Proof.Machine.execPwrRequestCellar s
  | .pwrRequestWatch => Sys2Proof.Machine.execPwrRequestWatch s
  | .pwrRequestService => Sys2Proof.Machine.execPwrRequestService s
  | .watchBurst => Sys2Proof.Machine.execWatchBurst s
  | .wake src => Sys2Proof.Machine.execWake src s
  | .cellarStart crystal => Sys2Proof.Machine.execCellarStart crystal s
  | .coreSupplyValid hostsel unitB => Sys2Proof.Machine.execCoreSupplyValid hostsel unitB s
  | .powerFail holdsUp => Sys2Proof.Machine.execPowerFail holdsUp s
  | .cellarSupplyLoss => Sys2Proof.Machine.execCellarSupplyLoss s
  | .supplyMonitorCrossing m entered => Sys2Proof.Machine.execSupplyMonitorCrossing m entered s
  | .rtcSet => Sys2Proof.Machine.execRtcSet s
  | .rtcAlarm => Sys2Proof.Machine.execRtcAlarm s
  | .resetStuck heldMs => Sys2Proof.Machine.execResetStuck heldMs s
  | .slowDomainWrite addr w => Sys2Proof.Machine.execSlowDomainWrite addr w s
  | .shadowRefresh => Sys2Proof.Machine.execShadowRefresh s
  | .bruvanState m => Sys2Proof.Machine.execBruvanState m s
  | .bruvanHealth m => Sys2Proof.Machine.execBruvanHealth m s
  | .healthCompute => Sys2Proof.Machine.execHealthCompute s
  | .bruvanHandover th cause => Sys2Proof.Machine.execBruvanHandover th cause s
  | .bruvanRecords seq rs => Sys2Proof.Machine.execBruvanRecords seq rs s
  | .bruvanVault seq m => Sys2Proof.Machine.execBruvanVault seq m s
  | .bruvanAdapt seq n m => Sys2Proof.Machine.execBruvanAdapt seq n m s
  | .catchupReq seq rseq => Sys2Proof.Machine.execCatchupReq seq rseq s
  | .bruvanAck seq => Sys2Proof.Machine.execBruvanAck seq s
  | .lane1Retransmit => Sys2Proof.Machine.execLane1Retransmit s
  | .laneDown rx lane => Sys2Proof.Machine.execLaneDown rx lane s
  | .linkLost => Sys2Proof.Machine.execLinkLost s
  | .mirrorStale => Sys2Proof.Machine.execMirrorStale s
  | .pwmComma err delay => Sys2Proof.Machine.execPwmComma err delay s
  | .partnerHeartbeatLoss => Sys2Proof.Machine.execPartnerHeartbeatLoss s
  | .ownHeartbeatLoss => Sys2Proof.Machine.execOwnHeartbeatLoss s
  | .handoverRequest => Sys2Proof.Machine.execHandoverRequest s
  | .healthHandover => Sys2Proof.Machine.execHealthHandover s
  | .handoverTime => Sys2Proof.Machine.execHandoverTime s
  | .overlapEnd => Sys2Proof.Machine.execOverlapEnd s
  | .testPulseResume => Sys2Proof.Machine.execTestPulseResume s
  | .bothActive => Sys2Proof.Machine.execBothActive s
  | .partnerWaitExpired => Sys2Proof.Machine.execPartnerWaitExpired s
  | .syncComplete => Sys2Proof.Machine.execSyncComplete s
  | .hashMismatchTimeout => Sys2Proof.Machine.execHashMismatchTimeout s
  | .resync => Sys2Proof.Machine.execResync s
  | .stbyTest => Sys2Proof.Machine.execStbyTest s
  | .stbyTestDone pass => Sys2Proof.Machine.execStbyTestDone pass s
  | .claimStrobe => Sys2Proof.Machine.execClaimStrobe s
  | .brvClr => Sys2Proof.Machine.execBrvClr s
  | .recordSubmit p dw => Sys2Proof.Machine.execRecordSubmit p dw s
  | .dataPageWrite r => Sys2Proof.Machine.execDataPageWrite r s
  | .journalAreaWrite => Sys2Proof.Machine.execJournalAreaWrite s
  | .ldgFlush => Sys2Proof.Machine.execLdgFlush s
  | .blockRefresh r => Sys2Proof.Machine.execBlockRefresh r s
  | .retentionCheck bad => Sys2Proof.Machine.execRetentionCheck bad s
  | .ldgCheck => Sys2Proof.Machine.execLdgCheck s
  | .dayBoundary => Sys2Proof.Machine.execDayBoundary s
  | .ldgQryReq => Sys2Proof.Machine.execLdgQryReq s
  | .ldgQryNext => Sys2Proof.Machine.execLdgQryNext s
  | .ldgQryDone => Sys2Proof.Machine.execLdgQryDone s
  | .rdWinRead => Sys2Proof.Machine.execRdWinRead s
  | .dmaGo => Sys2Proof.Machine.execDmaGo s
  | .dmaAbort => Sys2Proof.Machine.execDmaAbort s
  | .dmaDone => Sys2Proof.Machine.execDmaDone s
  | .ldgClr => Sys2Proof.Machine.execLdgClr s
  | .pwWinWrite w => Sys2Proof.Machine.execPwWinWrite w s
  | .unlock => Sys2Proof.Machine.execUnlock s
  | .passwordCheckDone => Sys2Proof.Machine.execPasswordCheckDone s
  | .lockoutEnd => Sys2Proof.Machine.execLockoutEnd s
  | .sessionTimeout => Sys2Proof.Machine.execSessionTimeout s
  | .abort => Sys2Proof.Machine.execAbort s
  | .newpw => Sys2Proof.Machine.execNewpw s
  | .commit => Sys2Proof.Machine.execCommit s
  | .commitDone good => Sys2Proof.Machine.execCommitDone good s
  | .fsConfirmTimeout g => Sys2Proof.Machine.execFsConfirmTimeout g s
  | .fsPushRetry g confirmed => Sys2Proof.Machine.execFsPushRetry g confirmed s
  | .canFrameReceived b f => Sys2Proof.Machine.execCanFrameReceived b f s
  | .canTxReq b buf => Sys2Proof.Machine.execCanTxReq b buf s
  | .txCancel b buf won => Sys2Proof.Machine.execTxCancel b buf won s
  | .canTxComplete b => Sys2Proof.Machine.execCanTxComplete b s
  | .canTxError b err data => Sys2Proof.Machine.execCanTxError b err data s
  | .boRecover b => Sys2Proof.Machine.execBoRecover b s
  | .boDelayExpired b => Sys2Proof.Machine.execBoDelayExpired b s
  | .busOffRecoveryDone b => Sys2Proof.Machine.execBusOffRecoveryDone b s
  | .canIntegrated b => Sys2Proof.Machine.execCanIntegrated b s
  | .queueRel b q w => Sys2Proof.Machine.execQueueRel b q w s
  | .tlogRel b w => Sys2Proof.Machine.execTlogRel b w s
  | .canRxStuck b => Sys2Proof.Machine.execCanRxStuck b s
  | .canClr b => Sys2Proof.Machine.execCanClr b s
  | .mvbMasterFrame a b fcode addr => Sys2Proof.Machine.execMvbMasterFrame a b fcode addr s
  | .mvbSlaveFrame a b data => Sys2Proof.Machine.execMvbSlaveFrame a b data s
  | .mvbLineTimeout line => Sys2Proof.Machine.execMvbLineTimeout line s
  | .portFreshnessTimeout k => Sys2Proof.Machine.execPortFreshnessTimeout k s
  | .mvbPortSnap => Sys2Proof.Machine.execMvbPortSnap s
  | .mvbPortCommit => Sys2Proof.Machine.execMvbPortCommit s
  | .resetNAssert => Sys2Proof.Machine.execResetNAssert s
  | .resetNRelease hostsel unitB => Sys2Proof.Machine.execResetNRelease hostsel unitB s
  | .bootReady => Sys2Proof.Machine.execBootReady s
  | .dieLinkTimeout die => Sys2Proof.Machine.execDieLinkTimeout die s
  | .srstKeyWrite w => Sys2Proof.Machine.execSrstKeyWrite w s
  | .sreset => Sys2Proof.Machine.execSreset s
  | .erase => Sys2Proof.Machine.execErase s
  | .fwWinWrite w => Sys2Proof.Machine.execFwWinWrite w s
  | .verify => Sys2Proof.Machine.execVerify s
  | .activate => Sys2Proof.Machine.execActivate s
  | .confirm => Sys2Proof.Machine.execConfirm s
  | .fwCommandDone => Sys2Proof.Machine.execFwCommandDone s
  | .trialTimeout => Sys2Proof.Machine.execTrialTimeout s
  | .vbatReversed g => Sys2Proof.Machine.execVbatReversed g s
  | .switchDieHeartbeatLoss g => Sys2Proof.Machine.execSwitchDieHeartbeatLoss g s
  | .gateDieHeartbeatLoss die => Sys2Proof.Machine.execGateDieHeartbeatLoss die s
  | .dieHeartbeat die delivered => Sys2Proof.Machine.execDieHeartbeat die delivered s
  | .clocksReady => Sys2Proof.Machine.execClocksReady s
  | .eccError src loc corrected => Sys2Proof.Machine.execEccError src loc corrected s
  | .hpbLowHalfWrite addr v => Sys2Proof.Machine.execHpbLowHalfWrite addr v s
  | .hpbHighHalfWrite addr v => Sys2Proof.Machine.execHpbHighHalfWrite addr v s
  | .hpbLowHalfRead addr => Sys2Proof.Machine.execHpbLowHalfRead addr s
  | .hpbHighHalfRead addr => Sys2Proof.Machine.execHpbHighHalfRead addr s
  | .qsWrite addr bytes => Sys2Proof.Machine.execQsWrite addr bytes s
  | .qsRead head len => Sys2Proof.Machine.execQsRead head len s
  | .qsFastRead addr len => Sys2Proof.Machine.execQsFastRead addr len s
  | .qsStatus len => Sys2Proof.Machine.execQsStatus len s
  | .qsModeReset => Sys2Proof.Machine.execQsModeReset s
  | .pcieBar0Write addr dws => Sys2Proof.Machine.execPcieBar0Write addr dws s
  | .pcieBar0Read addr len => Sys2Proof.Machine.execPcieBar0Read addr len s
  | .pcieBar2Read addr len => Sys2Proof.Machine.execPcieBar2Read addr len s
  | .pcieBar2Write addr => Sys2Proof.Machine.execPcieBar2Write addr s
  | .pePerstAssert => Sys2Proof.Machine.execPePerstAssert s
  | .unmappedPageAccess addr write => Sys2Proof.Machine.execUnmappedPageAccess addr write s
  | .counter64LowRead addr => Sys2Proof.Machine.execCounter64LowRead addr s
  | .counter64HighRead addr => Sys2Proof.Machine.execCounter64HighRead addr s
  | .registerWrite addr w => Sys2Proof.Machine.execRegisterWrite addr w s
  | .pageEnable page => Sys2Proof.Machine.execPageEnable page s
  | .pageDisable page => Sys2Proof.Machine.execPageDisable page s
  | .evtForce page w => Sys2Proof.Machine.execEvtForce page w s
  | .wdKeyWrite w => Sys2Proof.Machine.execWdKeyWrite w s
  | .wdBootExpired => Sys2Proof.Machine.execWdBootExpired s
  | .wdMaxExpired => Sys2Proof.Machine.execWdMaxExpired s
  | .wdWarn => Sys2Proof.Machine.execWdWarn s
  | .rearm => Sys2Proof.Machine.execRearm s
  | .msiEoi w => Sys2Proof.Machine.execMsiEoi w s
  | .msiUnmask v => Sys2Proof.Machine.execMsiUnmask v s
  | .clk32RcFallback => Sys2Proof.Machine.execClk32RcFallback s
  | .pePerstRelease => Sys2Proof.Machine.execPePerstRelease s
  | .pcieConfigRequest offset wr => Sys2Proof.Machine.execPcieConfigRequest offset wr s
  | .pcieLinkChange up gen2 => Sys2Proof.Machine.execPcieLinkChange up gen2 s
  | .slLinkDown l => Sys2Proof.Machine.execSlLinkDown l s
  | .laneUp rx lane => Sys2Proof.Machine.execLaneUp rx lane s
  | .partnerHeartbeatReturn => Sys2Proof.Machine.execPartnerHeartbeatReturn s
  | .commaTimeout => Sys2Proof.Machine.execCommaTimeout s
  | .canRxError b err data => Sys2Proof.Machine.execCanRxError b err data s
  | .wireBreakCleared p pair => Sys2Proof.Machine.execWireBreakCleared p pair s
  | .engineRestartDone e => Sys2Proof.Machine.execEngineRestartDone e s

end Sys2Proof.Machine
end

