-- ==== Sys2Proof/Machine/Flags.lean ====
section
/-! DEFINITION. The block's flags as the outside sees them: event bits, their enables and sources (R43, R59), the two interrupt lines
(R62) and the status bits of a page (R43). They are read from the registers and from the rules of R59; nothing is stored beside
them. -/

namespace Sys2Proof.Machine.State

/-- An EVT bit of a page. -/
def evt (s : State) (page bit : Nat) : Bool := s.on (HDR.EVT_BIT page bit)

/-- Its enable. -/
def evtEn (s : State) (page bit : Nat) : Bool := s.on (HDR.EVT_EN_BIT page bit)

/-- INT_N and SINT_N are asserted (R62). -/
def intAsserted (s : State) : Bool := s.lineAsserted 1
def sintAsserted (s : State) : Bool := s.lineAsserted 2

/-- PAGE_STAT.CFG_REJ of a page, with the offset that set it last. -/
def rejected (s : State) (page offs : Nat) : Bool := s.on (HDR.CFG_REJ page) && s.get (HDR.REJ_OFFS page) == offs

/-- PAGE_STAT.BUSY of a slow page (R54). -/
def busy (s : State) (page : Nat) : Bool := s.on (HDR.BUSY page)

/-- A result register shows an answer: VALID, with ERR or without it (R55). -/
def answered (s : State) (f : Fld) (err : Bool) : Bool := s.get f / 2 ^ 30 == 2 + err.toNat

end Sys2Proof.Machine.State
end

