-- ==== Sys2Proof/WellFormed.lean ====
section
/-! DEFINITION. Which commands can arrive: the operands whose type is wider than what the spec gives the access, frame or
measurement. A command that is not listed can carry every value of its operands. -/

namespace Sys2Proof

open Sys2Proof.Machine (pageOf fifoWindow)
open Sys2Proof.Machine.State (qsUnknown)
open Sys2Proof.Machine.State (slowAddr lowWord)

/-- A group measures 12 channels (R309). -/
def GroupMeas.wf (m : GroupMeas) : Bool := m.i.length == 12 && m.t.length == 12

/-- 40 bytes of the type that the row names (R274): 1 CONNECT, 2 COMMAND. -/
def Telegram.wf (typ : Nat) (t : Telegram) : Bool := t.bytes.length == 40 && (t.bytes.head?.map BitVec.toNat) == some typ

/-- Lengths and identifiers of a CAN frame (R397, R405). -/
def CanFrame.wf (f : CanFrame) : Bool :=
  (match f.fmt with
   | 0 => decide (f.data.length ≤ 8)
   | 1 => decide (f.data.length ≤ 64)
   | _ => decide (1 ≤ f.data.length ∧ f.data.length ≤ 2048)) &&
  (f.ide || decide (f.ident.toNat < 2048))

/-- The eight doorways with two axes each, and the eight connections (R345). -/
def MirrorFrame.wf (m : MirrorFrame) : Bool :=
  m.doors.length == 8 && m.conns.length == 8 &&
  m.doors.all (fun d => d.axes.length == 2 && d.axes.all (fun a => a.profs.length == 12))

namespace Instr

/-- The check of a command. -/
def wf : Instr → Bool
  | .hpbLowHalfWrite addr _ => addr.toNat % 4 == 0
  | .hpbHighHalfWrite addr _ => addr.toNat % 4 == 2
  | .hpbLowHalfRead addr => addr.toNat % 4 == 0
  | .hpbHighHalfRead addr => addr.toNat % 4 == 2
  | .pcieBar0Write addr dws => addr.toNat % 4 == 0 && decide (1 ≤ dws.length ∧ dws.length ≤ 64)
  | .pcieBar0Read addr len => decide (1 ≤ len ∧ len ≤ 64 ∧ addr.toNat + len ≤ 2 ^ 20)
  | .pcieBar2Read addr len => decide (1 ≤ len ∧ addr.toNat + len ≤ 2 ^ 29)
  | .pcieConfigRequest offset _ => offset.toNat % 4 == 0
  | .qsRead head _ => head.cmd == 0x03#8 || qsUnknown head.cmd
  | .unmappedPageAccess addr _ => (pageOf (addr.toNat / 4096)).isNone
  | .counter64LowRead addr => lowWord addr.toNat
  | .counter64HighRead addr => decide (4 ≤ addr.toNat) && lowWord (addr.toNat - 4)
  | .registerWrite addr _ => addr.toNat % 4 == 0
  | .slowDomainWrite addr _ => addr.toNat % 4 == 0 && slowAddr addr.toNat
  | .pageEnable page => (pageOf page.toNat).isSome
  | .pageDisable page => (pageOf page.toNat).isSome
  | .evtForce page _ => (pageOf page.toNat).isSome
  | .connect t _ => Telegram.wf 1 t
  | .command t _ => Telegram.wf 2 t
  | .row _ m => m.depth.length == 320 && m.conf.length == 320
  | .senseSnapshot _ m => GroupMeas.wf m
  | .pantryTick m => m.groups.length == 4 && m.groups.all GroupMeas.wf
  | .canFrameReceived _ f => CanFrame.wf f
  | .mvbSlaveFrame _ _ data => decide (data.length ≤ 32)
  | .bruvanState m => MirrorFrame.wf m.val
  | .bruvanHealth m => m.val.hash.length == 8
  | .bruvanHandover _ cause => decide (1 ≤ cause ∧ cause ≤ 6)
  | .bruvanAdapt _ _ m => m.door.length == 128 && m.step.length == 128
  | .recordSubmit (.fault _ _ _ _ _ _ ctx) _ => ctx.length == 8
  | _ => true

end Instr

end Sys2Proof
end

