-- ==== Sys2Proof/Safety.lean ====
section
/-! DEFINITION. What holds of the block at every step, in the terms that the statements use: the register window in its one canonical
form, and a queue of commands that can arrive. -/

namespace Sys2Proof.Machine.State

/-- The register window is in canonical form: addresses strictly rising, no word listed that holds its reset value. -/
def regsWf (s : State) : Bool := cellsWf regReset s.regs

/-- Every command that waits is one that can arrive. -/
def queueWf (s : State) : Bool := s.pending.all Instr.wf

/-- The invariant that every step keeps. -/
def Inv (s : State) : Prop := s.regsWf = true ∧ s.queueWf = true

end Sys2Proof.Machine.State

namespace Sys2Proof.Machine

/-- The command completes in this state: its meaning answers a next state, of which `p` holds. -/
def Completes (c : Instr) (s : State) (p : State → Prop) : Prop := ∃ t, exec c s = .next t ∧ p t

end Sys2Proof.Machine
end

