-- ==== Sys2Proof/Certificates/Slice0/Obligations.lean ====
section
/-! DEFINITION. The statements for the provers. Each says in its comment which rules of the spec it states. -/

section
open Sys2Proof Sys2Proof.Machine

/-- A step takes the command at the front of the queue and runs it on the state with the rest of the queue; on an empty queue the
block idles, which is the model's choice (log entry 1). -/
def Obligations.StepRunsFront : Prop :=
  (∀ (c : Instr) (s : State) (rest : List Instr), s.pending = c :: rest → step s = exec c { s with pending := rest }) ∧
  ∀ s : State, s.pending = [] → step s = .next s

/-- The canonical form of the register window and the well-formed queue hold at reset. -/
def Obligations.InvAtReset : Prop := State.reset.Inv

/-- The canonical form of the register window and the well-formedness of the waiting commands are kept by every step. -/
def Obligations.InvKept : Prop := ∀ s t : State, s.Inv → step s = .next t → t.Inv

/-- Every command is taken in every state: it leaves the queue alone and takes back nothing that was sent. -/
def Obligations.NoCommandStops : Prop :=
  ∀ (c : Instr) (s : State), Completes c s fun t => t.pending = s.pending ∧ s.out <+: t.out

/-- R71, R75, R77, R78, R93, R349: what a doorway command does that its acceptance table admits, in every state that the table names: the
unit ACTIVE and not in a handover, the page enabled, no HOST_BLOCK for a host command or a button, and the conditions of the command.
Each shows itself in LAST_CMD. What a CLOSE does to a closure that is pending already is log entry 106. -/
def Obligations.DoorwayCommandsAct : Prop :=
  ∀ (s : State) (n : Fin 8) (src : CmdSrc), s.running = true → s.active = true → s.par.overlap = false → s.pageOn (pgDW n) = true →
    (src = .host ∨ src = .button → s.on (DW.STATE_HOST_BLOCK n) = false) →
    let st := s.dwState n
    let taken (op : DwOp) (t : State) : Prop := t.get (DW.LAST_CMD_OP n) = DwOp.code op ∧ t.get (DW.LAST_CMD_SRC n) = CmdSrc.code src
    let goes (op : DwOp) (dst : DwState) (t : State) : Prop := taken op t ∧ t.dwState n = dst
    let stays (op : DwOp) (t : State) : Prop := taken op t ∧ t.get (DW.STATE n) = s.get (DW.STATE n) ∧ t.sect n = s.sect n
    let closing (t : State) : Prop := t.on (DW.STATE_CLOSE_PEND n) = true ∧ t.sect n = .close
    let closes (op : DwOp) (c : Instr) (timed : State → Prop) : Prop :=
      ((st = .opn ∨ st = .manual) ∧ s.on (DW.STATE_CLOSE_PEND n) = false →
        Completes c s fun t => goes op st t ∧ closing t ∧ timed t) ∧
      (st = .held → s.on (DW.STATE_CLOSE_PEND n) = false → s.on (DW.STATE_RESUME_PEND n) = false →
        Completes c s fun t => goes op .held t ∧ closing t ∧ timed t) ∧
      (st = .opening → Completes c s fun t => goes op .held t ∧ closing t ∧ timed t) ∧
      (st = .reopening → Completes c s fun t => goes op .reopening t ∧ t.dw[n].closeAfter = true ∧ timed t) ∧
      (st = .unlocking ∨ st = .closedUnlocked → Completes c s fun t => goes op .locking t ∧ t.dw[n].lockAsk = false) ∧
      (st = .closing ∨ st = .locking ∨ st = .closedLocked → Completes c s (stays op))
    let restored (c : Instr) : Prop :=
      let lands (closed locked valid : Bool) (dst : DwState) : Prop :=
        s.closedIn n = closed → s.lockedIn n = locked → s.ax[doorAxis n].posValid = valid →
          Completes c s fun t => goes .restore dst t ∧ t.dw[n].driveAsk = true
      lands false true true .held ∧ lands false false true .held ∧ lands false true false .unknown ∧ lands false false false .unknown ∧
        lands true true true .closedLocked ∧ lands true true false .closedLocked ∧ lands true false true .closedUnlocked ∧ lands true false false .unknown
    (s.released n = true → s.dcl = false →
      (st = .closedLocked ∨ st = .locking → Completes (.openCmd n src) s fun t =>
        goes .opn .unlocking t ∧ t.dw[n].purpose = .opn ∧ t.dw[n].lockAsk = true) ∧
      (st = .unlocking ∨ st = .opening → Completes (.openCmd n src) s (stays .opn)) ∧
      (st = .opn → Completes (.openCmd n src) s fun t =>
        goes .opn .opn t ∧ t.on (DW.STATE_CLOSE_PEND n) = false ∧ t.dw[n].closeWait = none ∧ t.dw[n].reclose = none) ∧
      (st = .held ∨ st = .manual ∨ st = .closedUnlocked ∨ st = .closing ∨ st = .reopening → Completes (.openCmd n src) s fun t =>
        goes .opn .opening t ∧ t.sect n = .opn ∧ t.on (DW.STATE_CLOSE_PEND n) = false) ∧
      (s.get (DW.RCP_ENTRY_HOME n) ≠ 63 →
        st = .unknown ∨ st = .closedLocked ∨ st = .closedUnlocked ∨ st = .held ∨ st = .opn → ∀ axsel : Fin 3,
          (s.lockedIn n = false → Completes (.home n axsel src) s fun t =>
            goes .home .homing t ∧ t.sect n = .home ∧ t.dw[n].axsel = axsel.val) ∧
          (s.lockedIn n = true → Completes (.home n axsel src) s fun t =>
            goes .home .unlocking t ∧ t.dw[n].purpose = .home ∧ t.dw[n].axsel = axsel.val)) ∧
      (st = .closedLocked → s.on (DW.STATE_POS_VALID n) = true → ∀ axsel : Fin 3, Completes (.learn n axsel src) s fun t =>
        goes .learn .unlocking t ∧ t.dw[n].purpose = .learn ∧ t.dw[n].axsel = axsel.val) ∧
      (st = .closedLocked → Completes (.testCycle n src) s fun t => goes .testCycle .unlocking t ∧ t.dw[n].purpose = .testCycle)) ∧
    closes .close (.closeCmd n src) (fun _ => True) ∧
    closes .closeWait (.closeWait n src) (fun t => t.dw[n].closeWait = some s.dw[n].tick) ∧
    (st = .unlocking → Completes (.stopCmd n src) s fun t => goes .stop .locking t ∧ t.dw[n].lockAsk = false) ∧
    (st = .opening ∨ st = .closing ∨ st = .reopening → Completes (.stopCmd n src) s fun t => goes .stop .held t ∧ t.sect n = .none) ∧
    (st = .homing → Completes (.stopCmd n src) s (goes .stop .unknown)) ∧
    (st = .learning → Completes (.stopCmd n src) s fun t => goes .stop .held t ∧ t.get (DW.EFF_STAT_LEARN_RESULT n) = 2) ∧
    (st = .opn ∨ st = .held ∨ st = .manual → Completes (.stopCmd n src) s fun t =>
      goes .stop st t ∧ t.on (DW.STATE_CLOSE_PEND n) = false ∧ t.on (DW.STATE_RESUME_PEND n) = false) ∧
    (st = .closedLocked ∨ st = .closedUnlocked ∨ st = .locking ∨ st = .fault ∨ st = .unknown ∨ st = .isolated ∨ st = .egress →
      Completes (.stopCmd n src) s (stays .stop)) ∧
    (st = .closedLocked ∨ st = .fault ∨ st = .unknown → s.closedIn n = true → s.lockedIn n = true → Completes (.isolate n src) s fun t =>
      goes .isolate .isolated t ∧ (s.stepEn n = true → t.stepState n = .isolated)) ∧
    ((st = .isolated ∧ s.role n 3 = false) ∨ (st = .egress ∧ s.role n 2 = false) ∨
        (st = .fault ∧ s.get (DW.FAULT_CAUSE_CAUSE n) ≠ 7 ∧ s.get (DW.FAULT_CAUSE_CAUSE n) ≠ 10) → restored (.restore n src))

/-- R78, R93: a host command that is rejected answers with its reason, clears GO and does nothing else to the doorway. -/
def Obligations.RejectedCommandsAnswer : Prop :=
  ∀ (s : State) (n : Fin 8), s.running = true →
    let rejected (op : DwOp) (t : State) : Prop :=
      t.get (DW.CMD_STAT_REASON n) = s.rejectReason n op .host ∧ t.get (DW.CMD_STAT_OP n) = DwOp.code op ∧ t.get (DW.CMD_GO n) = 0 ∧
        t.get (DW.CMD_STAT_SEQ n) = (s.get (DW.CMD_STAT_SEQ n) + 1) % 2 ^ 16 ∧
        t.get (DW.STATE n) = s.get (DW.STATE n) ∧ t.get (DW.LAST_CMD n) = s.get (DW.LAST_CMD n) ∧ t.dw = s.dw
    let no (op : DwOp) : Prop := s.rejectReason n op .host ≠ 0
    (no .opn → Completes (.openCmd n .host) s (rejected .opn)) ∧
    (no .close → Completes (.closeCmd n .host) s (rejected .close)) ∧
    (no .closeWait → Completes (.closeWait n .host) s (rejected .closeWait)) ∧
    (no .stop → Completes (.stopCmd n .host) s (rejected .stop)) ∧
    (no .isolate → Completes (.isolate n .host) s (rejected .isolate)) ∧
    (no .restore → Completes (.restore n .host) s (rejected .restore)) ∧
    (∀ axsel, no .home → Completes (.home n axsel .host) s (rejected .home)) ∧
    (∀ axsel, no .learn → Completes (.learn n axsel .host) s (rejected .learn)) ∧
    (no .testCycle → Completes (.testCycle n .host) s (rejected .testCycle))

/-- R69 to R71, R75, R77, R79 to R81, R85, R89, R349, R352: what the events that reach a doorway do; the tick of a unit that is not
ACTIVE; and what an engine completes of itself, which on such a unit, in the overlap of a handover or with its page disabled it does not. -/
def Obligations.DoorwayEventsAct : Prop :=
  ∀ (s : State) (n : Fin 8), s.running = true →
    let st := s.dwState n
    (s.active = false → s.dw[n].offers = [] → Completes (.doorwayTick n) s fun t =>
      t.dw[n].tick = s.dw[n].tick + 1 ∧ t.get (DW.STATE n) = s.get (DW.STATE n) ∧ t.get (DW.SECT n) = s.get (DW.SECT n)) ∧
    Completes .dclRise s (fun t => t.on TIL.STAT_DCL = true ∧
      t.dw[n].offers = s.dw[n].offers ++
        (if st = .opn ∨ st = .held ∨ st = .manual ∨ st = .opening ∨ st = .unlocking ∨ st = .closedUnlocked then
          [State.offerOf .closeWait .dcl] else [])) ∧
    (∀ side, s.scGet (DW.CFG_SIDE n) = State.sideNo side →
      Completes (.sideReleaseRise side) s (fun t => t.on (State.relFld side) = true ∧ t.released n = true ∧
        t.dw[n].offers = s.dw[n].offers ++
          (if s.on (DW.CFG_AUTO_OPEN n) = true ∨ s.on (DW.STATE_HOST_BLOCK n) = true then [State.offerOf .opn .sideRel] else [])) ∧
      Completes (.sideReleaseWithdrawn side) s fun t => t.on (State.relFld side) = false ∧ t.released n = false ∧
        t.dwState n = if st = .closedUnlocked ∧ s.active = true ∧ s.par.overlap = false ∧ s.pageOn (pgDW n) = true then .locking else st) ∧
    Completes (.openButtonPress n) s (fun t => t.dw[n].offers = s.dw[n].offers ++
      (if s.on (DW.CFG_BTN_EN n) then [State.offerOf .opn .button] else [])) ∧
    (s.active = false ∨ s.par.overlap = true ∨ s.pageOn (pgDW n) = false →
      ∀ c ∈ [Instr.unlockConfirmed n, .lockConfirmed n, .leavesPushed n, .closedLost n, .manualStillExpired n, .reopenDwellExpired n,
        .testDwellExpired n, .porchWaitExpired n], Completes c s fun t => t = s) ∧
    (s.active = true → s.par.overlap = false →
      (st ≠ .isolated → Completes (.isolationActive n) s fun t =>
        t.dwState n = .isolated ∧ (s.stepEn n = true → t.stepState n = .isolated)) ∧
      (st ≠ .isolated → st ≠ .fault → st ≠ .egress → Completes (.egressActive n) s fun t =>
        t.dwState n = .egress ∧ t.evt (pgDW n) 6 = true) ∧
      (∀ w, s.dw[n].stepRetry.isSome = true → s.stepState n = .retracting → s.ax[stepAxis n].want = some w →
        s.ax[stepAxis n].start = .ready → s.ax[stepAxis n].stopNow = false →
          (s.pageOn 0x06 = false → Completes (.stepRetractRetry n) s fun t =>
            t.dw[n].stepRetry = none ∧ t.ax[stepAxis n].moving = true ∧ t.ax[stepAxis n].want = none) ∧
          (s.pageOn 0x06 = true → w.free = false → s.ax[stepAxis n].adm = .none → Completes (.stepRetractRetry n) s fun t =>
            t.dw[n].stepRetry = none ∧ t.ax[stepAxis n].adm = .asked)) ∧
      (s.pageOn (pgDW n) = true →
        (st = .unlocking →
          (s.dw[n].purpose = .opn ∨ s.dw[n].purpose = .testCycle → Completes (.unlockConfirmed n) s fun t =>
            t.dwState n = .opening ∧ t.sect n = .opn ∧ t.evt (pgDW n) 0 = true) ∧
          (s.dw[n].purpose = .home → Completes (.unlockConfirmed n) s fun t => t.dwState n = .homing ∧ t.sect n = .home) ∧
          (s.dw[n].purpose = .learn → Completes (.unlockConfirmed n) s fun t =>
            (t.dwState n = .learning ∧ t.on (DW.EFF_STAT_LEARN_RUN n) = true) ∨
              (t.dwState n = .locking ∧ t.get (DW.EFF_STAT_LEARN_RESULT n) = 10))) ∧
        (st = .locking → Completes (.lockConfirmed n) s fun t =>
          t.dwState n = .closedLocked ∧ t.dw[n].lockAsk = false ∧ t.dw[n].inCycle = false ∧ t.evt (pgDW n) 0 = true) ∧
        (st = .opn ∨ st = .held → Completes (.leavesPushed n) s fun t => t.dwState n = .manual ∧ t.dw[n].driveAsk = false) ∧
        (st = .closedUnlocked → Completes (.closedLost n) s fun t => t.dwState n = .manual ∧ t.dw[n].driveAsk = false) ∧
        (st = .manual → Completes (.manualStillExpired n) s fun t => t.dw[n].driveAsk = true ∧
          t.dwState n = (if s.closedIn n = true ∧ s.lockedIn n = true then .closedLocked
            else if s.ax[doorAxis n].posValid = false then .unknown
            else if s.closedIn n = true then .closedUnlocked else .held)) ∧
        (s.dw[n].reclose.isSome = true → Completes (.reopenDwellExpired n) s fun t =>
          t.dw[n].reclose = none ∧ t.dw[n].offers = s.dw[n].offers ++ [State.offerOf .closeWait .internal]) ∧
        (s.dw[n].testFrom.isSome = true → Completes (.testDwellExpired n) s fun t =>
          t.dw[n].testFrom = none ∧ t.sect n = .none ∧ t.dw[n].offers = s.dw[n].offers ++ [State.offerOf .closeWait .internal]) ∧
        (s.dw[n].closeWait.isSome = true → s.ax[doorAxis n].want = none → Completes (.porchWaitExpired n) s fun t =>
          t.dw[n].waitOver = true)))

/-- R69, R71, R75, R86, R93, R110: the timeouts and losses that put a doorway of an ACTIVE unit into FAULT, from a state other than FAULT
and ISOLATED. -/
def Obligations.DoorwayFaults : Prop :=
  ∀ (s : State) (n : Fin 8), s.running = true → s.active = true → s.par.overlap = false →
    let faulted (cause : Nat) (t : State) : Prop :=
      t.get (DW.FAULT_CAUSE_CAUSE n) = cause ∧ t.dwState n = .fault ∧ t.evt (pgDW n) 5 = true ∧ t.dw[n].lockAsk = false ∧
        t.dw[n].driveAsk = false
    (s.dwState n = .unlocking → Completes (.tUnlockExpired n) s (faulted 1)) ∧
    (s.dwState n = .locking → Completes (.tLockExpired n) s (faulted 2)) ∧
    (s.dwState n = .closedLocked → ∀ moved, Completes (.lockedLost n moved) s (faulted (if moved then 4 else 3))) ∧
    (s.dwState n ≠ .fault → s.dwState n ≠ .isolated →
      (s.dw[n].latchFrom.isSome = true → Completes (.stepLatchTimeout n) s fun t => faulted 8 t ∧ t.stepState n = .fault) ∧
      (s.pageOn (pgDW n) = true → s.sect n ≠ .none → s.sect n ≠ .testDwell → Completes (.recipeRunaway n) s (faulted 9)) ∧
      (∀ ax d, (ax = doorAxis n ∨ ax = stepAxis n) → s.ax[ax].moving = true → s.ax[ax].kind = .home d →
        Completes (.homingNoStall ax) s (faulted 5)))

/-- R67, R230: every tick of a doorway's engine and of SC is counted. -/
def Obligations.TicksCount : Prop :=
  ∀ s : State, s.running = true →
    (∀ n : Fin 8, Completes (.doorwayTick n) s fun t => t.dw[n].tick = s.dw[n].tick + 1) ∧
    ∀ m, Completes (.scTick m) s fun t => t.sc.tick = s.sc.tick + 1

/-- R71, R84 to R86, R177: what the present step of a running section does on an ACTIVE unit, its page enabled, where it does not wait and 255
steps have not yet run. That the END of a CLOSE comes after its closing motion is log entry 160. -/
def Obligations.RecipeStepsRun : Prop :=
  ∀ (s : State) (n : Fin 8), s.running = true → s.active = true → s.par.overlap = false → s.pageOn (pgDW n) = true →
    s.sect n ≠ .none → s.sect n ≠ .testDwell → s.get (DW.SECT_STEP n) < 48 → s.dw[n].waitFrom = none → s.dw[n].run < 255 →
    let p := s.recipeStep n (s.get (DW.SECT_STEP n))
    let goesOn (t : State) : Prop := t.get (DW.SECT_STEP n) = s.get (DW.SECT_STEP n) + 1 ∧ t.dw[n].run = s.dw[n].run + 1
    let waits (t : State) : Prop := t.dw[n].waitFrom = some s.dw[n].tick ∧ t.get (DW.SECT_STEP n) = s.get (DW.SECT_STEP n)
    let timed (holds : Prop) (t : State) : Prop :=
      t.on (DW.SECT_TIMEOUT n) = false ∧ (holds → goesOn t) ∧ (¬ holds → waits t)
    (p.op = 0 →
      (s.sect n = .opn → s.dwState n = .opening → Completes (.recipeEnd n) s fun t => t.dwState n = .opn ∧
        if s.dw[n].inCycle = true ∧ s.dw[n].cyc.test = true then t.sect n = .testDwell ∧ t.dw[n].testFrom = some s.dw[n].tick
        else t.sect n = .none) ∧
      (s.closingPends n = true → Completes (.recipeEnd n) s fun t => t = s) ∧
      (s.sect n = .close → s.closingPends n = false → s.dwState n = .closing → Completes (.recipeEnd n) s fun t =>
        t.sect n = .none ∧ t.on (DW.STATE_WAITING n) = false ∧ t.dwState n =
          if s.on (DW.CFG_LOCK_WHILE_REL n) = false ∧ s.released n = true then .closedUnlocked else .locking) ∧
      (s.sect n = .close → s.closingPends n = false → s.dwState n ≠ .closing → Completes (.recipeEnd n) s fun t =>
        t.sect n = .none ∧ t.on (DW.STATE_CLOSE_PEND n) = false ∧ t.dwState n = s.dwState n) ∧
      (s.sect n = .reopen → s.dwState n = .reopening → Completes (.recipeEnd n) s fun t => t.dwState n = .opn ∧
        if s.dw[n].closeAfter then t.sect n = .close ∧ t.on (DW.STATE_CLOSE_PEND n) = true
        else if s.dw[n].reopenings < s.get (DW.REOPEN_REOPEN_MAX n) then t.dw[n].reclose = some s.dw[n].tick
        else t.on (DW.STATE_REOPEN_EXH n) = true) ∧
      (s.sect n = .home → s.dwState n = .homing → Completes (.recipeEnd n) s fun t =>
        t.sect n = .none ∧ t.dwState n = .locking ∧ (s.dw[n].axsel ≠ 2 → t.on (DW.STATE_POS_VALID n) = true))) ∧
    (p.op = 1 → Completes (.recipeMove n) s fun t =>
      t.ax[p.axis n].want = some (s.moveWant n p) ∧ if p.nw then goesOn t else waits t) ∧
    (p.op = 2 →
      if s.sect n = .home ∧ (s.dw[n].axsel = 1 ∧ p.step = true ∨ s.dw[n].axsel = 2 ∧ p.step = false) then
        Completes (.recipeHome n) s goesOn
      else Completes (.recipeHome n) s fun t => t.ax[p.axis n].want = some (s.homeWant n p) ∧ waits t) ∧
    (∀ c, s.roleLs n p.a = some c →
      (p.op = 3 → Completes (.recipeSetLs n) s fun t =>
        goesOn t ∧ (s.chSafe (fin48 c) = false → t.on (State.onBit (fin48 c)) = true)) ∧
      (p.op = 4 → Completes (.recipeClrLs n) s fun t =>
        goesOn t ∧ (s.chSafe (fin48 c) = false → t.on (State.onBit (fin48 c)) = false))) ∧
    (p.op = 5 → Completes (.recipeWaitDi n) s (timed (s.role n (p.a % 16) = decide (p.b % 2 = 1)))) ∧
    (p.op = 6 → p.b / 2 % 2 = 0 → Completes (.recipeWaitPos n) s (timed
      (if p.b % 2 = 0 then p.pos ≤ s.getI (AX.POS (p.axis n)) else s.getI (AX.POS (p.axis n)) ≤ p.pos))) ∧
    (p.op = 6 → p.b / 2 % 2 = 1 → Completes (.recipeWaitPos n) s (timed
      (s.ax[p.axis n].moving = false ∧ s.ax[p.axis n].want = none ∧ s.ax[p.axis n].ended = none))) ∧
    (p.op = 7 → Completes (.recipeWaitPorch n) s (timed
      (∀ z, z < 8 → p.a.testBit z = true → s.get (PZ.ZONE_STAT_ZONE n z) = 1))) ∧
    (p.op = 8 → Completes (.recipeDelay n) s fun t => t.on (DW.SECT_TIMEOUT n) = false ∧ waits t) ∧
    (p.op = 9 → Completes (.recipeBranch n) s fun t =>
      t.get (DW.SECT_STEP n) = (if s.branchTaken n p then p.b % 64 else s.get (DW.SECT_STEP n) + 1) ∧ t.dw[n].run = s.dw[n].run + 1)

/-- R84, R85, R88, R90: the end of a delay and of a wait, the reload of the committed values and the reference recipes. -/
def Obligations.RecipesLoadAndGoOn : Prop :=
  ∀ (s : State) (n : Fin 8),
    (s.running = true → s.active = true → s.par.overlap = false → s.pageOn (pgDW n) = true →
      s.sect n ≠ .none → s.sect n ≠ .testDwell → s.get (DW.SECT_STEP n) < 48 → s.dw[n].waitFrom.isSome = true →
      let p := s.recipeStep n (s.get (DW.SECT_STEP n))
      let goesOn (t : State) : Prop := t.get (DW.SECT_STEP n) = s.get (DW.SECT_STEP n) + 1 ∧ t.dw[n].waitFrom = none
      (p.op = 8 → Completes (.delayExpired n) s goesOn) ∧
      (((p.op = 5 ∨ p.op = 7) ∧ p.c ≠ 0) ∨ (p.op = 6 ∧ p.a ≠ 0) → Completes (.waitTimeout n) s fun t =>
        goesOn t ∧ t.on (DW.SECT_TIMEOUT n) = true)) ∧
    (s.ready = true →
      let sel := s.get (DW.RCP_CTRL_REF_SEL n)
      (s.pageOn (pgDW n) = false → s.editable = true → Completes (.loadRef n) s fun t =>
        t.get (DW.RCP_ENTRY n) = refEntry sel ∧ ∀ i, i < 48 →
          t.get (DW.RECIPE n (2 * i)) = ((refRecipe sel).getD i (0, 0)).1 ∧
          t.get (DW.RECIPE n (2 * i + 1)) = ((refRecipe sel).getD i (0, 0)).2) ∧
      (s.pageOn (pgDW n) = true → Completes (.loadRef n) s fun t =>
        t.rejected (pgDW n) 0x078 = true ∧ t.get (DW.RCP_ENTRY n) = s.get (DW.RCP_ENTRY n)) ∧
      (s.dwState n = .held → Completes (.doorwayReload n) s fun t => t.dw[n].reload = true ∧ t.regs = s.regs) ∧
      (s.dwState n = .closedLocked → Completes (.doorwayReload n) s fun t => t.dw[n].reload = false ∧
        ∀ w ∈ State.rwsWords (pgDW n), t.word w.1 &&& w.2 = s.committedWord w &&& w.2))

/-- R161, R170 to R172, R174 to R176, R181, R184, R186: the detections, checks and snapshots of the force layer, in the states named. -/
def Obligations.EffortCommandsAct : Prop :=
  ∀ (s : State) (n : Fin 8), s.running = true →
    (s.active = true → s.par.overlap = false → s.dw[n].obstStop = false →
      (s.dwState n = .closing → s.on (DW.CFG_OBST_REACT n) = false → Completes (.forceLimitExceeded n) s fun t =>
        t.dwState n = .reopening ∧ t.sect n = .reopen ∧ t.get (DW.EFF_STAT_LAST_CAUSE n) = 4 ∧ t.dw[n].obstStop = true ∧
          t.get (DW.OBST_CNT n) = min (s.get (DW.OBST_CNT n) + 1) (2 ^ 32 - 1)) ∧
      (s.dwState n = .closing → s.on (DW.CFG_OBST_REACT n) = true → Completes (.forceLimitExceeded n) s fun t =>
        t.dwState n = .held ∧ t.get (DW.EFF_STAT_LAST_CAUSE n) = 4 ∧ t.dw[n].obstStop = true ∧ t.dw[n].relief = true) ∧
      (s.dwState n = .opening → s.leavesClose n = false → s.ax[doorAxis n].moving = true → Completes (.forceLimitExceeded n) s fun t =>
        t.dwState n = .held ∧ t.get (DW.EFF_STAT_LAST_CAUSE n) = 9 ∧ t.dw[n].obstStop = true)) ∧
    (s.dwState n = .closing ∨ s.leavesClose n = true →
      Completes (.cbLimitExceeded n) s fun t => t.dw[n].dets = s.dw[n].dets ++ [5] ∧ t.sc.dw[n].react.isSome = true) ∧
    (s.mEq (doorAxis n) ≠ 0 → (s.baseCrc (doorAxis n)).toNat ≠ s.get (State.crcF (doorAxis n)) → s.mEq (stepAxis n) = 0 →
      Completes (.modelCrossCheck n) s fun t => t.on (DW.EFF_STAT_D_VALID n) = false ∧ (t.get (DW.DEGR n)).testBit 4 = true) ∧
    Completes (.forceCheckDivergence n) s (fun t => t.on (DW.EFF_STAT_D_VALID n) = false ∧ (t.get (DW.DEGR n)).testBit 4 = true) ∧
    (s.active = true → s.par.overlap = false → s.dw[n].obstStop = true →
      Completes (.obstacleStopRest n) s fun t => t.dw[n].obstStop = false ∧ t.dw[n].relief = false) ∧
    (s.active = true → s.par.overlap = false → s.pageOn (pgDW n) = true → s.dwState n = .learning →
      Completes (.learnRunEnd n) s (fun t => t.dwState n = .locking ∧ t.dw[n].learnSum = [] ∧ t.dw[n].ramps = []) ∧
      Completes (.learnTimeout n) s fun t => t.dwState n = .locking ∧ t.get (DW.EFF_STAT_LEARN_RESULT n) = 3 ∧
        t.on (DW.EFF_STAT_LEARN_RUN n) = false) ∧
    Completes (.effSnap n) s (fun t => t.dw[n].snap = some (s.on (DW.EFF_CTRL_SNAP_AX n)) ∧ t.get (DW.SNAP_STAT n) < 2 ^ 31) ∧
    (s.active = false → s.dw[n].offers = [] → s.dw[n].snap = some false → Completes (.doorwayTick n) s fun t =>
      t.dw[n].snap = none ∧ t.answered (DW.SNAP_STAT n) (!s.pageOn (pgAX (doorAxis n)) || s.mEq (doorAxis n) == 0) = true) ∧
    (s.dwState n = .closedLocked →
      Completes (.resetAdapt n) s (fun t =>
        (s.get (DW.DRIFT_DRIFT_MAX n) ≠ 0 → t.get (State.satF (doorAxis n)) = 0 ∧ t.get (State.satF (stepAxis n)) = 0) ∧
        ∀ b, b < 128 → t.word (State.fricF (doorAxis n) b).addr = s.word (State.baseFricF (doorAxis n) b).addr ∧
          t.word (State.fricF (stepAxis n) b).addr = s.word (State.baseFricF (stepAxis n) b).addr) ∧
      (s.pageOn (pgDW n) = false → s.editable = true → Completes (.clrModel n) s fun t => (t.get (DW.DEGR n)).testBit 4 = true)) ∧
    (s.dwState n ≠ .closedLocked →
      Completes (.resetAdapt n) s (fun t => t.rejected (pgDW n) 0x148 = true) ∧
      Completes (.clrModel n) s fun t => t.rejected (pgDW n) 0x148 = true)

/-- The faults of an axis (R97, R107, R118 to R124, R127): each stops the axis with its cause, where no earlier fault is still ACTIVE. -/
def Obligations.DriveFaultsStopTheirAxis : Prop :=
  ∀ (s : State) (ax : Fin 16), s.running = true → s.on (AX.FAULT_ACTIVE ax) = false →
    let stopped (cause : Nat) (t : State) : Prop :=
      t.get (AX.FAULT_CAUSE ax) = cause ∧ t.get (AX.STAT_AX_STATE ax) = 5 ∧ t.evt (pgAX ax) 2 = true ∧
        t.ax[ax].moving = false ∧ t.ax[ax].start = .off
    (s.active = true → s.par.overlap = false → s.ax[ax].moving = true → Completes (.followingError ax) s (stopped 9)) ∧
    (∀ ph, Completes (.bootstrapUndervoltage ax ph) s (stopped 4)) ∧
    (∀ die low, ax.val / 8 = die.val → Completes (.vgdUndervoltage die low) s (stopped 5)) ∧
    (∀ ph high, Completes (.desaturation ax ph high) s (stopped (if high then 1 else 2))) ∧
    (∀ ph, Completes (.shuntOvercurrent ax ph) s (stopped 3)) ∧
    (∀ ph, Completes (.shuntOffsetFault ax ph) s (stopped 6)) ∧
    (s.get (AX.CFG_MOTOR ax) = 0 → Completes (.phaseSumFault ax) s (stopped 7)) ∧
    Completes (.openPhase ax) s (stopped 8) ∧
    (∀ ph high, Completes (.gateReadbackMismatch ax ph high) s (stopped 13)) ∧
    (s.ax[ax].start = .precharge → Completes (.prechargeEnd ax false) s (stopped 4)) ∧
    (s.ax[ax].start = .measuring → ∀ high, Completes (.axisOffsetMeasured ax false high) s (stopped 6) ∧
      (s.boot.vgd[State.gateDie ax] ≠ .good → Completes (.axisOffsetMeasured ax true high) s (stopped 5))) ∧
    (s.ax[ax].moving = true → s.ax[ax].kind = .align → ∀ d0 d1 d2 d3 : Int,
      d0.natAbs ≤ 4 → d1.natAbs ≤ 4 → d2.natAbs ≤ 4 → d3.natAbs ≤ 4 → Completes (.alignmentDone ax d0 d1 d2 d3) s (stopped 12))

/-- R97, R103, R113, R114, R124, R127, R128: what the drive commands write. -/
def Obligations.DriveCommandsAct : Prop :=
  ∀ (s : State) (ax : Fin 16), s.running = true →
    (∀ iu iv iw : Int, s.get (AX.CFG_MOTOR ax) = 1 → -(2 ^ 31) < iu → iu < 2 ^ 31 → -(2 ^ 31) < iv → iv < 2 ^ 31 →
      Completes (.currentLoopCycle ax iu iv iw) s fun t =>
        t.getI (AX.IQ ax) = if 0 ≤ s.getI (AX.IQ_CMD ax) then iv else -iu) ∧
    (∀ iu iv iw : Int, s.get (AX.CFG_MOTOR ax) = 0 → s.aligning ax = false →
      let i := clarkePark iu iv iw (s.elecAngle ax)
      Completes (.currentLoopCycle ax iu iv iw) s fun t => t.get (AX.ID ax) = codeOf i.1 32 ∧ t.get (AX.IQ ax) = codeOf i.2 32) ∧
    Completes (.profHoldClear ax) s (fun t => t.on (AX.PROF_CTRL_HOLD ax) = false ∧ t.ax[ax].held = []) ∧
    Completes (.i2t ax) s (fun t => t.on (AX.STAT_I_LIMITED ax) = true ∧ t.evt (pgAX ax) 4 = true ∧ t.ax[ax].i2tOn = true) ∧
    Completes (.i2tRelease ax) s (fun t => t.on (AX.STAT_I_LIMITED ax) = false ∧ t.ax[ax].i2tOn = false) ∧
    (s.get (AX.FAULT_CAUSE ax) ≠ 0 → s.on (AX.FAULT_ACTIVE ax) = false → s.standing ax = [] →
      Completes (.axisClr ax) s fun t =>
        t.get (AX.FAULT ax) = 0 ∧ t.get (AX.FAULT_LOC ax) = 0 ∧ t.get (AX.STAT_AX_STATE ax) = 0) ∧
    (s.ax[ax].start = .measuring → s.boot.vgd[State.gateDie ax] = .good → s.ax[ax].moving = false →
      Completes (.axisOffsetMeasured ax true true) s (fun t =>
        t.get (AX.STAT_AX_STATE ax) = 1 ∧ t.on (AX.STAT_OWNED ax) = true ∧ t.ax[ax].start = .ready) ∧
      Completes (.axisOffsetMeasured ax true false) s (fun t => t.ax[ax].start = .precharge)) ∧
    (s.ax[ax].start = .precharge → s.ax[ax].moving = false → Completes (.prechargeEnd ax true) s fun t =>
      t.get (AX.STAT_AX_STATE ax) = 1 ∧ t.on (AX.STAT_OWNED ax) = true ∧ t.ax[ax].start = .ready) ∧
    (s.active = true → s.on (AX.STAT_GATE_EN ax) = true → s.on (AX.STAT_OWNED ax) = false → s.get (AX.STAT_AX_STATE ax) ≠ 5 →
      Completes (.gateTakeover ax ⟨true, true⟩) s (fun t => t.on (AX.STAT_OWNED ax) = true ∧ t.ax[ax].start = .ready ∧ t.ax[ax].integ = 0) ∧
      Completes (.gateTakeover ax ⟨true, false⟩) s (fun t =>
        t.on (AX.STAT_OWNED ax) = true ∧ t.ax[ax].start = .precharge ∧ t.ax[ax].integ = 0) ∧
      ∀ high, Completes (.gateTakeover ax ⟨false, high⟩) s fun t => t.regs = s.regs ∧ t.ax = s.ax) ∧
    (s.ax[ax].moving = true → s.ax[ax].kind = .align → ∀ d0 d1 d2 d3 : Int,
      4 < d0.natAbs ∨ 4 < d1.natAbs ∨ 4 < d2.natAbs ∨ 4 < d3.natAbs →
        (-4 ≤ d1 → -4 ≤ d2 → -4 ≤ d3 → Completes (.alignmentDone ax d0 d1 d2 d3) s fun t =>
          t.on (AX.STAT_ANGLE_OK ax) = true ∧ (t.ax[ax].elecPend = true ∨ t.on (AX.ELEC_ELEC_VALID ax) = true)) ∧
        (d1 < -4 ∨ d2 < -4 ∨ d3 < -4 → Completes (.alignmentDone ax d0 d1 d2 d3) s fun t =>
          t.get (FB.FAULT_CAUSE (s.get (AX.CFG_FB_SEL ax))) = 9))

/-- R105, R108: how a MOVE of the door axis ends on an ACTIVE unit, in OPEN and with nothing else to judge. -/
def Obligations.MotionsEnd : Prop :=
  ∀ (s : State) (n : Fin 8), s.running = true → s.active = true → s.par.overlap = false → s.dwState n = .opn → s.dw[n].dets = [] →
    s.ax[doorAxis n].moving = true → s.ax[doorAxis n].kind = .move → s.ax[doorAxis n].closing = false →
    (s.ax[doorAxis n].trajDone = true → s.ax[doorAxis n].travelOut = false →
      Completes (.motionEnd (doorAxis n)) s (fun t =>
        t.ax[doorAxis n].moving = false ∧ t.on (AX.STAT_IN_POS (doorAxis n)) = true ∧ t.evt (pgAX (doorAxis n)) 0 = true) ∧
      Completes (.inposFail (doorAxis n)) s (fun t =>
        t.ax[doorAxis n].moving = false ∧ t.on (AX.STAT_INPOS_FAIL (doorAxis n)) = true ∧ t.evt (pgAX (doorAxis n)) 3 = true ∧
          t.evt (pgAX (doorAxis n)) 0 = true)) ∧
    Completes (.stall (doorAxis n)) s fun t =>
      t.ax[doorAxis n].moving = false ∧ t.on (AX.STAT_STALL (doorAxis n)) = true ∧ t.evt (pgAX (doorAxis n)) 1 = true

/-- R133, R145, R150 to R153: a port fault shows its cause and its event on the port, and stops every axis that uses the port with
fault cause 10, but for an axis whose earlier fault is still ACTIVE. -/
def Obligations.PortFaultsStopTheirAxes : Prop :=
  ∀ (s : State) (p : Fin 16), s.running = true →
    let faulted (cause : Nat) (t : State) : Prop :=
      t.get (FB.FAULT_CAUSE p) = cause ∧ t.evt (pgFB p) 3 = true ∧
        ∀ ax : Fin 16, s.portOf ax = some p.val → s.on (AX.FAULT_ACTIVE ax) = false → t.get (AX.FAULT_CAUSE ax) = 10 ∧ t.get (AX.STAT_AX_STATE ax) = 5
    (s.counts p = true → s.get (FB.CFG_TYPE p) = 1 → s.get (FB.HALL_SECTOR p) = 7 →
      Completes (.hallInvalidTimeout p) s (faulted 5)) ∧
    (s.counts p = true → s.get (FB.CFG_TYPE p) = 0 → s.on (FB.CFG_IDX_EN p) = true → Completes (.indexStuck p) s (faulted 8)) ∧
    (∀ ax : Fin 16, s.counts p = true → s.portOf ax = some p.val → s.ax[ax].moving = true →
      (s.ax[ax].kind = .align ∨ ∃ k c, s.ax[ax].firstFrom = some (k, c) ∧ k < 2500) →
        Completes (.directionMismatch p) s (faulted 9)) ∧
    (s.pageOn (pgFB p) = true → s.get (FB.FAULT_CAUSE p) = 0 → ∀ pair, s.pairUsed p pair = true →
      Completes (.wireBreak p pair) s fun t => faulted (State.pairCause pair) t ∧ t.on (State.pairFlag p pair) = true)

/-- R138, R140, R142, R145, R147, R150, R152, R155: what the commands of a port and of the encoder outputs write. -/
def Obligations.PortCommandsAct : Prop :=
  ∀ (s : State) (p : Fin 16), s.running = true →
    (s.pageOn (pgFB p) = true → s.get (FB.CFG_TYPE p) = 2 →
      (s.on (FB.CFG_SSI_SHARE p) = true → s.active = false →
        Completes (.ssiFrameStart p) s fun t => t.on (FB.STAT_LISTEN p) = true ∧ t.fb[p].clocking = false) ∧
      (s.on (FB.CFG_SSI_SHARE p) = false ∨ (s.active = true ∧ s.fb[p].clocking = true) →
        Completes (.ssiFrameStart p) s (fun t =>
          t.on (FB.STAT_LISTEN p) = false ∧ t.fb[p].clocking = true ∧ t.out = s.out ++ [.ssiFrame p])) ∧
      (s.active = true →
        Completes (.ssiClockTakeover p) s fun t => t.on (FB.STAT_LISTEN p) = false ∧ t.fb[p].clocking = true)) ∧
    (s.on (FB.CFG_IDX_EN p) = true → s.get (FB.CFG_TYPE p) = 0 → s.counts p = true →
      Completes (.idxMiss p) s fun t => t.evt (pgFB p) 6 = true ∧ t.get (FB.FAULT p) = s.get (FB.FAULT p)) ∧
    Completes (.idxRearm p) s (fun t => t.on (FB.STAT_IDX_SEEN p) = false ∧ t.get (FB.IDX_REF p) = s.get (FB.IDX_REF p)) ∧
    Completes (.stillTimeout p) s (fun t => t.on (FB.STAT_STILL p) = true ∧ t.getI (FB.SPEED p) = 0) ∧
    (∀ pair, s.on (State.pairFlag p pair) = true → s.pageOn (pgFB p) = true →
      Completes (.wireBreakCleared p pair) s fun t => t.on (State.pairFlag p pair) = false ∧ t.evt (pgFB p) 4 = true) ∧
    (s.get (FB.FAULT_CAUSE p) ≠ 0 → s.on (FB.FAULT_ACTIVE p) = false → (∀ pair, s.on (State.pairFlag p pair) = false) →
      Completes (.fbClr p) s fun t => t.get (FB.FAULT p) = 0 ∧ t.get (FB.FAULT_LOC p) = 0 ∧
        (s.get (FB.CFG_TYPE p) ≤ 1 → t.on (FB.STAT_POS_UNCERT p) = true)) ∧
    ∀ e : Fin 4, s.pageOn 0x0F = true → s.on (ENC.CFG_EN e) = true → s.enc[e].back ≠ 0 → s.on (ENC.CFG_SHARED e) = false ∨ s.active = true →
      Completes (.encoOutputEdge e) s fun t =>
        t.enc[e].back = s.enc[e].back - (if 0 < s.enc[e].back then 1 else -1) ∧
        ∃ a b z, t.out = s.out ++ [.encEdge e a b z]

/-- R135 to R137, R141, R142, R148, R149: what an edge of a port counts, where the index line does not change; what an invalid Hall
code shows; what the first index sets; and an illegal transition. -/
def Obligations.PortsCount : Prop :=
  ∀ (s : State) (p : Fin 16), s.running = true → s.counts p = true →
    (s.get (FB.CFG_TYPE p) = 0 → s.on (FB.CFG_IDX_EN p) = false → ∀ (a b : Bool) (dt : Nat),
      (a ≠ s.fb[p].a → b = s.fb[p].b → Completes (.quadEdge p a b s.fb[p].idx dt) s fun t =>
        t.on (FB.STAT_DIR p) = (a == b) ∧
        t.get (FB.COUNT p) = if a = b then (s.get (FB.COUNT p) + (2 ^ 32 - 1)) % 2 ^ 32 else (s.get (FB.COUNT p) + 1) % 2 ^ 32) ∧
      (a = s.fb[p].a → b ≠ s.fb[p].b → Completes (.quadEdge p a b s.fb[p].idx dt) s fun t =>
        t.on (FB.STAT_DIR p) = (a != b) ∧
        t.get (FB.COUNT p) = if a = b then (s.get (FB.COUNT p) + 1) % 2 ^ 32 else (s.get (FB.COUNT p) + (2 ^ 32 - 1)) % 2 ^ 32) ∧
      (a ≠ s.fb[p].a → b ≠ s.fb[p].b → Completes (.quadEdge p a b s.fb[p].idx dt) s fun t =>
        t.evt (pgFB p) 0 = true ∧ t.on (FB.STAT_POS_UNCERT p) = true ∧ t.get (FB.COUNT p) = s.get (FB.COUNT p))) ∧
    (∀ (code : Fin 8) (dt : Nat), s.get (FB.CFG_TYPE p) = 1 → code.val = 0 ∨ code.val = 7 → Completes (.hallSectorChange p code dt) s fun t =>
      t.get (FB.HALL_SECTOR p) = 7 ∧ t.get (FB.COUNT p) = s.get (FB.COUNT p)) ∧
    (s.get (FB.CFG_TYPE p) = 1 → s.on (FB.CFG_HALL_INV p) = false → s.fb[p].hallSec = some 0 → ∀ dt,
      Completes (.hallSectorChange p 3 dt) s fun t =>
        t.get (FB.HALL_SECTOR p) = 1 ∧ t.get (FB.COUNT p) = (s.get (FB.COUNT p) + 1) % 2 ^ 32) ∧
    (s.get (FB.CFG_TYPE p) = 0 → s.on (FB.CFG_IDX_EN p) = true → s.on (FB.CFG_IDX_QUAL p) = false → s.fb[p].idx = false →
      s.on (FB.STAT_IDX_SEEN p) = false →
      Completes (.index p) s fun t => t.on (FB.STAT_IDX_SEEN p) = true ∧ t.get (FB.IDX_POS p) = s.get (FB.COUNT p) ∧
        t.get (FB.IDX_REF p) = s.get (FB.COUNT p) ∧ t.evt (pgFB p) 1 = true) ∧
    (∀ (f : SsiFrame) (dt : Nat), s.get (FB.CFG_TYPE p) = 2 → s.fb[p].ssiSeen = false → s.on (FB.SSI_CFG_CODE p) = false →
      (s.ssiGood p f 0 = true → Completes (.ssiFrameReceived p f dt) s fun t =>
        t.get (FB.COUNT p) = f.data.toNat % 2 ^ s.get (FB.SSI_CFG_BITS p) ∧
        t.get (FB.SSI_RAW p) = f.data.toNat % 2 ^ s.get (FB.SSI_CFG_BITS p)) ∧
      (s.ssiGood p f 0 = false → s.fb[p].ssiBad = 0 → Completes (.ssiFrameReceived p f dt) s fun t =>
        t.get (FB.COUNT p) = s.get (FB.COUNT p) ∧ t.evt (pgFB p) 5 = true))

/-- R295, R297 to R301, R307: a trip in INRUSH or ON counts, shows its cause and its event, turns the channel off and leads to
TRIPPED, or to LATCHED where no retry is left; a missing freewheeling path, a conducting switch and one that does not turn on latch from
every state but LATCHED, where a missing path shows itself and its event again (R314). How cause 7 of a switch that does not turn on
arrives is log entry 139. -/
def Obligations.ChannelsTrip : Prop :=
  ∀ (s : State) (c : Fin 48),
    let tripped (cause state : Nat) (t : State) : Prop :=
      t.get (State.chCause c) = cause ∧ t.get (State.chStat c) = state ∧ t.on (State.chOut c) = false ∧ t.evt (State.chPage c) 0 = true ∧
        t.get (LSG.TRIP_CNT (groupOf c) (inGroup c)) = min (s.get (LSG.TRIP_CNT (groupOf c) (inGroup c)) + 1) (2 ^ 32 - 1)
    let next := if s.get (State.chRetry c) = 0 then 4 else 3
    let bright := (s.scGet (if c.val < 32 then SAF.BRIGHT0 else SAF.BRIGHT1)).testBit (c.val % 32)
    (s.get (State.chStat c) = 1 ∨ s.get (State.chStat c) = 2 →
      Completes (.limitHoldTrip c) s (tripped 3 next) ∧
      Completes (.thermalShutdown c) s fun t => tripped 4 next t ∧ t.getI (LSG.CH_MEAS_T (groupOf c) (inGroup c)) = 1700) ∧
    (s.get (State.chStat c) = 2 →
      Completes (.overloadTrip c) s (tripped 2 next) ∧ Completes (.shortToGround c) s (tripped 1 next)) ∧
    (s.get (State.chStat c) ≠ 4 →
      Completes (.freewheelMissing c) s (fun t =>
        tripped 5 4 t ∧ t.on (LSG.CH_STAT_FW_MISSING (groupOf c) (inGroup c)) = true) ∧
      (s.on (State.chOut c) = true → Completes (.offStateTest c .notOn) s fun t => tripped 7 4 t ∧ t.on (State.chActive c) = true) ∧
      (s.on (LSG.CH_CFG_OL_OFF_EN (groupOf c) (inGroup c)) = true → s.die[groupOf c].active = true → s.on (State.chOut c) = false →
        s.longOff c = true → s.pulseOn (.channel c) = none → s.pulseDue c = false → (s.chSafe c = true → bright = false) →
        Completes (.offStateTest c .conducts) s fun t => tripped 7 4 t ∧ t.on (State.chActive c) = true)) ∧
    (s.get (State.chStat c) = 4 → Completes (.freewheelMissing c) s fun t =>
      t.on (LSG.CH_STAT_FW_MISSING (groupOf c) (inGroup c)) = true ∧ t.evt (State.chPage c) 0 = true ∧
        t.get (LSG.TRIP_CNT (groupOf c) (inGroup c)) = s.get (LSG.TRIP_CNT (groupOf c) (inGroup c)))

/-- R292, R294, R296, R299, R301 to R303, R311: how a channel of an ACTIVE unit follows its demand, restarts and is cleared, and what a
write of ON does where no channel of the group is safety-marked. -/
def Obligations.ChannelsFollowTheirDemand : Prop :=
  ∀ (s : State) (c : Fin 48),
    let g := groupOf c
    let i := inGroup c
    let isOn (state : Nat) (t : State) : Prop := t.get (State.chStat c) = state ∧ t.on (State.chOut c) = true
    let isOff (state : Nat) (t : State) : Prop := t.get (State.chStat c) = state ∧ t.on (State.chOut c) = false
    let turnedOn := if s.chTin c = 0 then 2 else 1
    (s.die[g].active = true →
      (s.get (State.chStat c) = 0 → s.chCool c = true → s.longOff c = true → s.isP2 c = false → s.pulsedOff c = false →
        (s.setB (LSG.CH_STAT_LSIN g i) true).chWanted c = true →
        Completes (.lsinChange c true) s fun t => isOn turnedOn t ∧ t.on (LSG.CH_STAT_LSIN g i) = true) ∧
      (s.get (State.chStat c) = 1 ∨ s.get (State.chStat c) = 2 → (s.setB (LSG.CH_STAT_LSIN g i) false).chDemand c = false →
        Completes (.lsinChange c false) s fun t => isOff 0 t ∧ t.on (LSG.CH_STAT_LSIN g i) = false) ∧
      (s.chWanted c = true →
        (s.get (State.chStat c) = 5 → Completes (.channelCooled c) s fun t =>
          isOn 2 t ∧ t.get (State.chRetry c) = s.get (State.chRetryMax c)) ∧
        (s.chCool c = true →
          (s.get (State.chStat c) = 3 → Completes (.retryTimer c) s fun t =>
            isOn 2 t ∧ t.get (State.chRetry c) = s.get (State.chRetry c) - 1) ∧
          (s.ready = true → s.get (State.chStat c) = 4 → s.get (State.chCause c) ≠ 7 → s.on (LSG.GRP_STAT_UV g) = false →
            Completes (.lsgClr g (BitVec.ofNat 12 (2 ^ i))) s fun t => isOn 2 t ∧ t.get (State.chRetry c) = s.get (State.chRetryMax c)))) ∧
      (s.get (State.chStat c) = 6 → s.chWanted c = true → s.chCool c = true → ∀ mv10, 1700 < mv10 →
        Completes (.groupVoltageReturn g mv10) s fun t => isOn turnedOn t ∧ t.on (LSG.GRP_STAT_UV g) = false)) ∧
    (s.get (State.chStat c) = 1 → Completes (.inrushWindowEnd c) s fun t => isOn 2 t ∧ t.ch[c].window = false) ∧
    (s.on (State.chOut c) = true → Completes (.retryRefill c) s fun t => t.get (State.chRetry c) = s.get (State.chRetryMax c)) ∧
    (s.get (State.chStat c) ≠ 4 → ∀ mv10, mv10 < 1600 →
      Completes (.groupUndervoltage g mv10) s fun t => isOff 6 t ∧ t.on (LSG.GRP_STAT_UV g) = true) ∧
    (s.ch[c].hold.isSome = true → Completes (.holdTimeout c) s fun t => t.on (State.onBit c) = false ∧ t.ch[c].hold = none) ∧
    (s.ready = true → ∀ w : Word,
      (s.onBlocked = true → Completes (.lsgOnWrite g w) s fun t =>
        t.rejected (pgLSG g) 0x050 = true ∧ t.on (State.onBit c) = s.on (State.onBit c)) ∧
      (s.onBlocked = false → (∀ j, j < 12 → s.chSafe (12 * g + j) = false) → Completes (.lsgOnWrite g w) s fun t =>
        t.on (State.onBit c) = w.getLsbD i ∧ t.on (LSG.CH_STAT_FS_APPLIED g i) = false))

/-- R306 to R309, R313: what the diagnoses and measurements of a channel and of a group show. -/
def Obligations.GroupsMeasure : Prop :=
  ∀ (s : State) (c : Fin 48) (g : Fin 4),
    let k := groupOf c
    let i := inGroup c
    let bright := (s.scGet (if c.val < 32 then SAF.BRIGHT0 else SAF.BRIGHT1)).testBit (c.val % 32)
    (Completes (.openLoadOn c true) s fun t => t.on (LSG.CH_STAT_OL_ON k i) = false) ∧
    (s.on (LSG.CH_CFG_OL_ON_EN k i) = true → s.on (State.chOut c) = true → s.on (LSG.CH_STAT_OL_ON k i) = false →
      Completes (.openLoadOn c false) s fun t => t.on (LSG.CH_STAT_OL_ON k i) = true ∧ t.evt (State.chPage c) 1 = true) ∧
    (s.on (LSG.CH_CFG_OL_OFF_EN k i) = true → s.die[k].active = true → s.on (State.chOut c) = false → s.longOff c = true →
      s.pulseOn (.channel c) = none → s.pulseDue c = false → (s.chSafe c = true → bright = false) →
      Completes (.offStateTest c .pass) s (fun t =>
        t.on (LSG.CH_STAT_OL_OFF k i) = false ∧ t.on (LSG.CH_STAT_SHORT_BAT k i) = false) ∧
      Completes (.offStateTest c .shortBat) s (fun t => t.on (LSG.CH_STAT_SHORT_BAT k i) = true ∧ t.evt (State.chPage c) 0 = true) ∧
      Completes (.offStateTest c .openLoad) s fun t => t.on (LSG.CH_STAT_OL_OFF k i) = true ∧ t.evt (State.chPage c) 1 = true) ∧
    (∀ m : GroupMeas,
      (s.pageOn (pgLSG g) = true → Completes (.senseSnapshot g m) s fun t =>
        t.answered (LSG.SNAP_STAT g) false = true ∧ t.evt (pgLSG g) 3 = true ∧
          ∀ j, j < 12 → t.get (LSG.SNAP_I_I g j) = s.shownI (fin48 (12 * g + j)) (m.i.getD j 0) % 2 ^ 16) ∧
      (s.pageOn (pgLSG g) = false → Completes (.senseSnapshot g m) s fun t =>
        t.answered (LSG.SNAP_STAT g) true = true ∧ t.evt (pgLSG g) 3 = true)) ∧
    (∀ code : Fin 16, Completes (.sselChange g code) s fun t => ∀ g' : Fin 4,
      t.get (LSG.GRP_STAT_SSEL_PIN g') = code.val ∧
        t.get (LSG.GRP_STAT_SEL_USED g') = if s.on (LSG.GRP_CFG_SSEL_SRC g') then s.get (LSG.SENSE_SEL_SEL g') else code.val) ∧
    (s.on (LSG.GRP_STAT_GRP_OVER g) = false →
      Completes (.groupOvercurrent g) s fun t => t.on (LSG.GRP_STAT_GRP_OVER g) = true ∧ t.evt (pgLSG g) 0 = true) ∧
    Completes (.groupOverClear g) s fun t => t.on (LSG.GRP_STAT_GRP_OVER g) = false

/-- R190, R193, R202, R208, R213, R221, R223: the porches start and stop, and what OE's own commands show. -/
def Obligations.PorchesRun : Prop :=
  ∀ (s : State) (n : Fin 8),
    (s.porchWanted n = true → s.pz[n].due = false → Completes (.porchStart n) s fun t =>
      t.pz[n].due = true ∧ t.on (PZ.STAT_RUNNING n) = (s.porchEnabled n && !s.oe.down)) ∧
    (s.porchWanted n = false → s.pz[n].due = true → Completes (.porchStop n) s fun t =>
      t.pz[n].due = false ∧ t.on (PZ.STAT_RUNNING n) = false ∧ t.get (PZ.STAT_VERDICT n) = 0) ∧
    (s.ready = true →
      (∀ w : Word, Completes (.preRelWrite w) s fun t =>
        t.on OCC.PRE_REL_LEFT = w.getLsbD 0 ∧ t.on OCC.PRE_REL_RIGHT = w.getLsbD 1 ∧ t.get OCC.PRE_REL_ETA = fieldOf w 16 16 ∧
          (w.getLsbD 0 = true → t.oe.preSet.1 = true) ∧ (w.getLsbD 1 = true → t.oe.preSet.2 = true)) ∧
      (∀ on, Completes (.freezeGrid n on) s fun t => t.on (PZ.CTRL_FREEZE_GRID n) = on ∧ t.on (PZ.STAT_FROZEN n) = on ∧
        (on = false → t.on (PZ.STAT_BUF n) = s.pz[n].shown))) ∧
    (∀ side, State.sideGet s.oe.preSet side = true →
      Completes (.preRelWindowOpen side) s fun t => State.sideGet t.oe.preOpen side = true) ∧
    (∀ side, Completes (.preRelWindowClose side) s fun t =>
      State.sideGet t.oe.preSet side = false ∧ State.sideGet t.oe.preOpen side = false) ∧
    (s.running = true →
      (s.on (PZ.STAT_RUNNING n) = true →
        (s.pz[n].got = [] → s.sl[2 * n.val].frame = none → s.sl[2 * n.val + 1].frame = none →
          Completes (.frameDeadline n) s fun t => t.pz[n].miss0 = s.pz[n].miss0 + 1 ∧ t.pz[n].miss1 = s.pz[n].miss1 + 1 ∧
            t.pz[n].ek = s.nextExposure n (s.pz[n].ek + 1)) ∧
        (∀ p rest, s.pz[n].closed = p :: rest → Completes (.passPublish n) s fun t =>
          t.pz[n].closed = rest ∧ t.get (PZ.PASS_CNT n) = min (s.get (PZ.PASS_CNT n) + 1) (2 ^ 32 - 1) ∧ t.on (PZ.STAT_HEAD0 n) = p.head0 ∧ t.on (PZ.STAT_HEAD1 n) = p.head1 ∧
            t.get (PZ.PASS_T_LO n) = p.ek % 2 ^ 32) ∧
        (s.oe.down = false → s.porchEnabled n = true → s.pz[n].miss0 < 3 →
          Completes (.staleTimeout n) s fun t => t.pz[n].stale = true ∧ t.get (PZ.STAT_VERDICT n) = 4) ∧
        (s.queryBad n = false → Completes (.porchQuery n) s fun t => t.pz[n].query = true)) ∧
      (s.on (PZ.STAT_RUNNING n) = false ∨ s.queryBad n = true → Completes (.porchQuery n) s fun t =>
        t.answered (PZ.QRY_STAT n) true = true ∧ t.evt (pgPZ n) 5 = true) ∧
      (∀ e r, s.oe.next = some (e, r) → r < 4 → Completes .rateEpoch s fun t =>
        t.oe.next = none ∧ t.oe.epoch = e ∧ t.get OCC.RATE_RATE = r ∧ t.on OCC.RATE_PENDING = false ∧ t.evt 0x0D 1 = true) ∧
      (∀ c, Completes (.oeFault c) s fun t => t.oe.down = true ∧ t.get OCC.FAULT_CAUSE = State.oeCauseNo c ∧ t.evt 0x0D 0 = true ∧
        (s.pz[n].due = true → t.get (PZ.STAT_VERDICT n) = 5 ∧ t.on (PZ.STAT_RUNNING n) = false)) ∧
      (s.oe.down = true → s.oe.stopped = false → Completes .oeRestartDone s fun t =>
        t.oe.down = false ∧ t.on OCC.FAULT_ACTIVE = false ∧
          t.get OCC.OE_RST_CNT = min (s.get OCC.OE_RST_CNT + 1) (2 ^ OCC.OE_RST_CNT.width - 1)) ∧
      (s.oe.stopped = true → Completes .occClr s fun t => t.oe.stopped = false ∧ t.oe.faults = []) ∧
      (s.oe.stopped = false → s.on OCC.FAULT_ACTIVE = false → Completes .occClr s fun t => t.get OCC.FAULT_CAUSE = 0))

/-- R192 to R198, R200, R222, R227: the sensor links take frames and calibrations, answer with SYNC and CAL_REQ, and report their faults. -/
def Obligations.SensorLinksAct : Prop :=
  ∀ (s : State) (l : Fin 16), s.running = true →
    let faulted (cause : Nat) (t : State) : Prop :=
      t.get (SL.FAULT_CAUSE l) = cause ∧ t.on (SL.FAULT_ACTIVE l) = true ∧ t.evt (pgSL l) 6 = true
    let dropped (cause : Nat) (t : State) : Prop :=
      t.get (SL.DROP_CAUSE_CAUSE l) = cause ∧ t.evt (pgSL l) 2 = true ∧ t.sl[l].frame = none
    let sent (typ : Nat) (body : List Byte) (t : State) : Prop := .jubido l (State.jubidoFrame l s.sl[l].seq typ body) ∈ t.out
    (s.listens l = true →
      (∀ m : FrameStartMsg, State.jubido m.hdr = true → m.hdr.fcs = true → s.sl[l].frame = none → State.headOk m.hdr 1 32 = true →
        s.sl[l].calCrc = some m.calCrc → (s.exposureOf (State.doorOfLink l) m.expEnd.toNat).isSome = true → m.width.toNat = 320 →
        m.height.toNat = 240 → m.headStat.getLsbD 2 = false → s.linkFault l = false →
        Completes (.frameStart l m) s fun t => t.sl[l].frame = some (fin4 m.frameNo.toNat) ∧ t.get (SL.LINK_STAT_LINK l) = 3 ∧
          t.get (SL.SYNC_ERR_ERR l) = m.syncErr.toNat) ∧
      (∀ m : FrameStartMsg, State.jubido m.hdr = false → Completes (.frameStart l m) s fun t => t.regs = s.regs ∧ t.sl = s.sl) ∧
      (∀ m : FrameStartMsg, State.jubido m.hdr = true → m.hdr.fcs = false → Completes (.frameStart l m) s (dropped 1)) ∧
      (∀ (m : RowMsg) (k : Fin 4) (f : FrameSlot), s.sl[l].frame = some k → s.sl[l].slots[k] = some f →
        State.jubido m.hdr = true → m.hdr.fcs = true → State.headOk m.hdr 2 968 = true → m.depth.length = 320 → m.conf.length = 320 →
        (m.frameNo = f.start.frameNo → m.row.toNat = f.rows.length → f.rows.length + 1 < 240 →
          Completes (.row l m) s fun t => t.sl[l].slots[k] = some { f with rows := f.rows ++ [m] } ∧ t.regs = s.regs) ∧
        (m.frameNo ≠ f.start.frameNo → Completes (.row l m) s (dropped 3))) ∧
      (∀ m : CalMsg, State.jubido m.hdr = true → m.hdr.fcs = true → State.headOk m.hdr 3 32 = true → crc32 (State.calBytes m) = m.crc → m.fmt ≠ 0 →
        m.rangeMax.toNat ≤ 6553 → m.rangeMin.toNat < m.rangeMax.toNat → s.word (SL.HEAD_ID_EXP l).addr = 0 →
        Completes (.cal l m) s fun t => t.on (SL.LINK_STAT_CAL_OK l) = true ∧ t.get (SL.HEAD_ID l) = m.headId.toNat ∧
          t.sl[l].calCrc = some m.crc) ∧
      Completes .sync s (fun t => sent 0x10 (s.syncBody l) t ∧ t.sl[l].seq = (s.sl[l].seq + 1) % 2 ^ 32) ∧
      Completes (.calReq l) s (fun t => sent 0x12 (leBytes 4 0) t ∧ t.sl[l].seq = (s.sl[l].seq + 1) % 2 ^ 32) ∧
      (s.sl[l].calTries = 1 ∨ s.sl[l].calTries = 2 → Completes (.calTimeout l) s fun t =>
        sent 0x12 (leBytes 4 0) t ∧ t.sl[l].calTries = s.sl[l].calTries + 1) ∧
      (s.sl[l].calTries = 3 → s.sl[l].present.contains 4 = false → Completes (.calTimeout l) s (faulted 4)) ∧
      (s.sl[l].present.contains 5 = false → Completes (.syncErrTimeout l) s (faulted 5)) ∧
      (s.on (PZ.STAT_RUNNING (l.val / 2)) = true → s.sl[l].present.contains 6 = false → Completes (.noFrameTimeout l) s (faulted 6))) ∧
    (s.isUp l = false → s.on (SL.LINK_STAT_PWREN l) = true → s.on (SL.CFG_PRESENT l) = true → s.sl[l].present.contains 1 = false →
      Completes (.linkDownTimeout l) s (faulted 1)) ∧
    (∀ polInv, Completes (.linkUp l polInv) s fun t => t.get (SL.LINK_STAT_LINK l) = 2 ∧ t.on (SL.LINK_STAT_POL_INV l) = polInv ∧
      (s.linkUsed l = true → sent 0x12 (leBytes 4 0) t)) ∧
    Completes (.slLinkDown l) s (fun t => t.get (SL.LINK_STAT_LINK l) = 0 ∧ t.sl[l].frame = none) ∧
    Completes (.pwrfltActive l) s (fun t => t.on (SL.LINK_STAT_PWRFLT l) = true ∧ t.on (SL.LINK_STAT_PWREN l) = false ∧
      t.evt (pgSL l) 1 = true ∧
      (3 ≤ (s.sl[l].podl.filter (fun x => decide (s.clk32 < x + 60 * 32768))).length →
        t.on (SL.LINK_STAT_PWR_LATCHED l) = true ∧ faulted 2 t)) ∧
    (s.sl[l].podlOff = true → s.on (SL.LINK_STAT_PWR_LATCHED l) = false → Completes (.podlRetry l) s fun t =>
      t.sl[l].podlOff = false ∧ t.on (SL.LINK_STAT_PWRFLT l) = false) ∧
    (s.on (SL.FAULT_ACTIVE l) = false → Completes (.slClr l) s fun t =>
      t.get (SL.FAULT l) = 0 ∧ t.get (SL.FAULT_LOC l) = 0 ∧ t.on (SL.LINK_STAT_PWR_LATCHED l) = false)

/-- R25, R258, R261, R269: a self-test that fails in RUN takes SC to SAFE_STOP with its controller-level fault and TRAC_REL off; one that
passes shows itself in SELFTEST. In BOOT_TEST a failed march, injection or stage test stops SC or is a TIL fault, and SC_BOOT_TESTS_DONE
leads to RUN; how the failures arrive and what a failed stage test leads to is log entry 121. -/
def Obligations.SelfTestsJudge : Prop :=
  ∀ s : State, s.coreOn = true →
    let bit (row : Nat) (t : State) : Bool := t.on ⟨SAF.SELFTEST.addr, row, 1⟩
    let stopped (row cause : Nat) (t : State) : Prop :=
      t.get SAF.STAT_SC_STATE = 2 ∧ t.get SAF.FAULT_CAUSE = cause ∧ t.on SAF.FAULT_LEVEL = true ∧ t.evt 0x08 0 = true ∧
        t.on TIL.STAT_TRAC_REL = false ∧ bit row t = false
    (s.get SAF.STAT_SC_STATE = 1 →
      Completes .lockstepMismatch s (stopped 2 1) ∧
      Completes (.lockstepInjectionTest false) s (stopped 1 1) ∧
      (∀ loc, Completes (.scMemoryScrub ⟨false, loc⟩) s fun t => stopped 3 2 t ∧ t.word SAF.FAULT_LOC.addr = loc) ∧
      Completes (.instructionSetTest false) s (stopped 5 4) ∧
      Completes (.adcReferenceCheck false) s (stopped 7 6) ∧
      (∀ a b : Nat, Completes (.clockCrossCheck 0 a b) s (stopped 4 3)) ∧
      (s.running = true → s.get SAF.CFG_CRC ≠ s.copyCrc.toNat → Completes .configCrcCheck s (stopped 8 7)) ∧
      (∀ di : Fin 64, s.scDiSafe di = true → (s.sc.diag &&& ~~~ (1#64 <<< di.val)) ≠ 0 →
        Completes (.inputComparatorTest di false) s (stopped 6 6))) ∧
    Completes (.lockstepInjectionTest true) s (fun t => bit 1 t = true) ∧
    (s.booting = false → ∀ loc, Completes (.scMemoryScrub ⟨true, loc⟩) s fun t => bit 3 t = true) ∧
    Completes (.instructionSetTest true) s (fun t => bit 5 t = true) ∧
    (∀ di, Completes (.inputComparatorTest di true) s fun t => bit 6 t = true) ∧
    Completes (.adcReferenceCheck true) s (fun t => bit 7 t = true) ∧
    (s.get SAF.STAT_SC_STATE = 0 → Completes .scBootTestsDone s fun t =>
      t.get SAF.STAT_SC_STATE = 1 ∧ bit 0 t = true ∧ bit 1 t = true ∧ bit 2 t = true ∧
        bit 9 t = !(s.sc.tilAct.contains 2 || s.sc.tilAct.contains 3)) ∧
    (s.booting = true →
      (∀ loc, Completes (.scMemoryScrub ⟨false, loc⟩) s (fun t => stopped 0 5 t ∧ t.word SAF.FAULT_LOC.addr = loc) ∧
        Completes (.scMemoryScrub ⟨true, loc⟩) s fun t => bit 0 t = true) ∧
      Completes (.lockstepInjectionTest false) s (stopped 1 1) ∧
      ∀ second,
        Completes (.testPulseReadback .tracRel ⟨false, second⟩) s (fun t =>
          2 ∈ t.sc.tilAct ∧ bit 9 t = false ∧ t.get SAF.STAT_SC_STATE = 0) ∧
        Completes (.testPulseReadback .element ⟨false, second⟩) s fun t =>
          3 ∈ t.sc.tilAct ∧ bit 9 t = false ∧ t.get SAF.STAT_SC_STATE = 0)

/-- R232 to R235, R237, R247, R249, R250, R252, R270, R450: the train lines, TRAC_REL, the loop and the test pulses. -/
def Obligations.TrainLinesAct : Prop :=
  ∀ s : State, s.running = true →
    let faulted (cause : Nat) (t : State) : Prop := t.get TIL.FAULT_CAUSE = cause ∧ t.evt 0x08 1 = true
    (s.tracMissing = 0 → s.s0Alive = true → s.sc.settle.isSome = true → s.tracRel = false → Completes .tracSettleElapsed s fun t =>
      t.tracRel = true ∧ t.get TIL.BLOCK_WHY = 0 ∧ t.evt 0x09 0 = true) ∧
    (s.scOn TIL.CFG_FB_EN = true → s.sc.tilAct.contains 1 = false → Completes .tracFbMismatch s fun t =>
      faulted 1 t ∧ t.on TIL.FAULT_ACTIVE = true ∧ t.tracRel = false) ∧
    (s.on TIL.STAT_ZSP_DISC = false → Completes .zspDiscrepancy s fun t =>
      t.on TIL.STAT_ZSP_DISC = true ∧ t.evt 0x09 2 = true ∧ t.get TIL.ZSP_DISC_CNT = min (s.get TIL.ZSP_DISC_CNT + 1) (2 ^ 32 - 1)) ∧
    Completes .zspAgree s (fun t => t.on TIL.STAT_ZSP_DISC = false) ∧
    (∀ low, s.headMode = true → s.sc.srcOn = true → low ≠ 0 → 10 * s.scGet TIL.LOOP_CFG_LOOP_TP_W ≤ 2 * low →
      2 * low ≤ 30 * s.scGet TIL.LOOP_CFG_LOOP_TP_W → Completes (.loopDarkPulse low) s fun t =>
        t.sc.codedAt = some s.sc.tick ∧ t.out = s.out ++ [.loopPulse (10 * s.scGet TIL.LOOP_CFG_LOOP_TP_W)]) ∧
    (s.on TIL.STAT_IN_PRESENT = true → Completes .loopOpen s fun t =>
      t.on TIL.STAT_IN_PRESENT = false ∧ t.get TIL.LOOP_OPEN_CNT = min (s.get TIL.LOOP_OPEN_CNT + 1) (2 ^ 32 - 1)) ∧
    (s.sc.srcOn = true → s.sc.tilAct.contains 5 = false → Completes .loopSrcOvercurrent s fun t =>
      faulted 5 t ∧ t.sc.srcTrip = true ∧ t.sc.srcOn = false) ∧
    (s.tracRel = true → s.sc.tilAct.contains 6 = false → Completes .tracRelOvercurrent s fun t =>
      faulted 6 t ∧ t.tracRel = false ∧ t.sc.settle = none ∧ t.get TIL.TRAC_DROP_CNT = min (s.get TIL.TRAC_DROP_CNT + 1) (2 ^ 32 - 1)) ∧
    (∀ o bright, s.scRun = true → s.active = true → s.sc.paused = false → s.pulseFree (State.pulseDie o) = true →
      s.pulseApplies o bright = true →
      Completes (.testPulse o bright) s fun t =>
        t.sc.pulses = s.sc.pulses ++ [⟨o, bright, false, s.sc.tick⟩] ∧ t.out = s.out ++ [.testPulse o bright]) ∧
    (∀ o p second, s.pulseOn o = some p → p.changed = false → s.sc.paused = false → s.sc.failed.contains (s.pulseCode o) = false →
      Completes (.testPulseReadback o ⟨false, second⟩) s fun t =>
        t.sc.failed = s.pulseCode o :: s.sc.failed ∧ t.pulseOn o = none) ∧
    (∀ p second, s.pulseOn .tracRel = some p → p.changed = false → s.sc.paused = false →
      s.sc.failed.contains (s.pulseCode .tracRel) = true → s.sc.tilAct.contains 2 = false →
      Completes (.testPulseReadback .tracRel ⟨false, second⟩) s fun t => faulted 2 t ∧ t.tracRel = false) ∧
    (s.on TIL.FAULT_ACTIVE = false → Completes .tilClr s fun t =>
      t.get TIL.FAULT = 0 ∧ t.get TIL.FAULT_LOC = 0 ∧ t.sc.srcTrip = false)

/-- R164, R239 to R241, R244, R254 to R256, R259 to R261: SC's faults of a doorway, the degraded mode and the discrete inputs. -/
def Obligations.SafetyCoreJudges : Prop :=
  ∀ (s : State) (n : Fin 8) (di : Fin 64), s.running = true →
    let faulted (cause : Nat) (t : State) : Prop :=
      t.get SAF.FAULT_CAUSE = cause ∧ t.on SAF.FAULT_ACTIVE = true ∧ t.get SAF.FAULT_DOORWAY = n.val ∧ t.safActive n cause = true
    let gatesOff (t : State) : Prop := t.on (AX.STAT_GATE_EN (doorAxis n)) = false ∧ t.on (AX.STAT_GATE_EN (stepAxis n)) = false
    (s.safActive n 19 = false → Completes (.stepOutNoRelease n) s fun t => faulted 19 t ∧ gatesOff t) ∧
    (s.safActive n 17 = false → Completes (.commandDisagreement n) s fun t => faulted 17 t ∧ gatesOff t) ∧
    (s.safActive n 20 = false → Completes (.edgeDiscrepancyTimeout n) s fun t =>
      faulted 20 t ∧ (t.get (SAF.DEGR_CAUSE n)).testBit 0 = true) ∧
    Completes (.egressStop n) s (fun t => gatesOff t ∧ t.sc.dw[n].egrStop = true) ∧
    (∀ cause, (s.get (SAF.DEGR_CAUSE n)).testBit (State.degrBit cause) = true → Completes (.degradedCauseEnd n cause) s fun t =>
      (t.get (SAF.DEGR_CAUSE n)).testBit (State.degrBit cause) = false) ∧
    (s.get (SAF.DEGR_CAUSE n) ≠ 0 → Completes (.degradedExpired n) s fun t =>
      t.on (SAF.DEGR_EXPIRED n) = true ∧ t.get (SAF.DEGR_LEFT n) = 0) ∧
    (s.sc.dw[n].degrHold.isSome = true → Completes (.degradedHoldExpired n) s fun t =>
      t.get (SAF.DEGR_LEFT n) = s.scGet SAF.CFG_DEGR_TMAX ∧ t.sc.dw[n].degrHold = none) ∧
    (s.on SAF.FAULT_LEVEL = false → s.on SAF.FAULT_ACTIVE = false → Completes .safClr s fun t =>
      t.get SAF.FAULT = 0 ∧ t.get SAF.FAULT_LOC = 0) ∧
    (∀ level, Completes (.diLevelChange di level) s fun t => t.diFilt.getLsbD di = level ∧
      (s.pageOn 0x0E = true → t.on (State.bitFld (DIN.RAW 0).addr di) = level)) ∧
    (s.active = true → s.scOn (DIN.GRP_CFG_WET_I (di.val / 16)) = true →
      (∀ level, level = s.diFilt.getLsbD di → 9 ≤ s.sc.wetGood[di] → Completes (.wettingPulse di level) s fun t =>
        t.on (State.bitFld (DIN.WET_FAIL 0).addr di) = false) ∧
      (∀ level, level ≠ s.diFilt.getLsbD di → s.sc.wetBad.getLsbD di = true →
        s.on (State.bitFld (DIN.WET_FAIL 0).addr di) = false → Completes (.wettingPulse di level) s fun t =>
          t.on (State.bitFld (DIN.WET_FAIL 0).addr di) = true ∧ (s.pageOn 0x0E = true → t.evt 0x0E 1 = true))) ∧
    (s.scDiSafe di = true → Completes (.comparatorDisagreement di) s fun t => t.sc.diag.getLsbD di = true ∧
      (n ∈ s.doorsOf di → (t.get (SAF.DEGR_CAUSE n)).testBit 2 = true))

/-- R230, R262: an SC that is not in RUN gives no gate enable and no TRAC_REL at its tick; here without a partner. -/
def Obligations.NoEnableOutsideRun : Prop :=
  ∀ (s : State) (m : ScSample), s.running = true → s.scRun = false → s.pair = false →
    Completes (.scTick m) s fun t => t.tracRel = false ∧ ∀ ax : Fin 16, t.on (AX.STAT_GATE_EN ax) = false

/-- R276, R279 to R284, R288: an accepted CONNECT and COMMAND, a discarded telegram, the sending period, the timeout and the host's
windows. -/
def Obligations.TelegramsAct : Prop :=
  ∀ (s : State) (j : Fin 8),
    (s.running = true → s.active = true →
      (∀ (t : Telegram) (via : Carrier), s.named t.bytes via = some j → s.stl.conn[j].taken ≠ some s.sc.tick →
        (s.checkGood j t.bytes = true → State.formatGood t.bytes = true → s.laterClass j t.bytes via = none →
          (telField t.bytes 0 1 = 1 → telField t.bytes 12 4 ≠ 0 → s.connState j = 1 → Completes (.connect t via) s fun u =>
            u.connState j = 2 ∧ u.get (STL.CONN_RX_SEQ j) = telField t.bytes 8 4 ∧ u.evt 0x0A 0 = true) ∧
          (telField t.bytes 0 1 = 2 → s.connState j = 2 → Completes (.command t via) s fun u =>
            u.get (STL.CONN_RX_SEQ j) = telField t.bytes 8 4 ∧ u.stl.conn[j].taken = some s.sc.tick ∧
              ∀ (n : Fin 8) (op : DwOp), DwOp.ofCode (telField t.bytes 21 1) = some op → (telField t.bytes 20 1).testBit n = true →
                (s.scGet (STL.CONN_CFG_DW_MASK j)).testBit n = true → (s.scGet (STL.CONN_LIM_CMD_MASK j)).testBit (DwOp.code op - 1) = true →
                s.dw[n].offers = [] →
                u.dw[n].offers = [{ op := op, src := .telegram, axsel := telField t.bytes 22 1, conn := j.val,
                                    seq := telField t.bytes 8 4 }])) ∧
        (s.checkGood j t.bytes = false → s.connState j = 1 →
          let discarded (u : State) : Prop :=
            u.get (STL.CONN_STAT_LAST_ERR j) = 1 ∧ u.evt 0x0A 2 = true ∧ u.get (STL.CONN_RX_SEQ j) = s.get (STL.CONN_RX_SEQ j) ∧
              u.get (STL.CONN_ERR_CNT j) = min (s.get (STL.CONN_ERR_CNT j) + 1) (2 ^ 32 - 1) ∧ u.dw = s.dw
          Completes (.connect t via) s discarded ∧ Completes (.command t via) s discarded)) ∧
      (s.connState j = 1 ∨ s.connState j = 2 → Completes (.transmitPeriod j) s fun t =>
        t.get (STL.CONN_TX_SEQ j) = s.stl.conn[j].next % 2 ^ 32 ∧ t.stl.conn[j].next = seqNext s.stl.conn[j].next) ∧
      (2 ≤ s.connState j → Completes (.connectionTimeout j) s fun t =>
        t.connState j = 1 ∧ t.evt 0x0A 1 = true ∧ t.get STL.TMO_CNT = min (s.get STL.TMO_CNT + 1) (2 ^ 32 - 1))) ∧
    (s.ready = true →
      (∀ w : Word,
        (s.stl.words.length < 9 → Completes (.rxWinWrite w) s fun t =>
          t.stl.words = s.stl.words ++ [w] ∧ t.get STL.RX_STAT_WORDS = s.stl.words.length + 1) ∧
        (s.stl.words.length = 9 → (s.stl.rx.filter (fun x => x.2 == .host)).length < 8 → Completes (.rxWinWrite w) s fun t =>
          t.stl.words = [] ∧ t.stl.rx = s.stl.rx ++ [((s.stl.words ++ [w]).flatMap wordBytes, .host)])) ∧
      Completes .rxFlush s (fun t => t.stl.words = [] ∧ t.on STL.RX_STAT_PARTIAL_LOST = !s.stl.words.isEmpty) ∧
      Completes .txWinRead s (fun t => t.out = s.out ++ [.readData (wordBytes s.txFront)] ∧
        (s.stl.tx ≠ [] → s.get STL.TX_STAT_WORD < 9 → t.get STL.TX_STAT_WORD = s.get STL.TX_STAT_WORD + 1))) ∧
    (s.stl.words ≠ [] → Completes .rxPartialTimeout s fun t =>
      t.stl.words = [] ∧ t.on STL.RX_STAT_PARTIAL_LOST = true ∧ t.get STL.RX_STAT_WORDS = 0)

/-- R402, R406, R408, R412, R414, R416, R417: a CAN controller's reception, fault confinement, rings and faults. -/
def Obligations.CanReceivesAndConfines : Prop :=
  ∀ (s : State) (b : Fin 4),
    (s.running = true →
      (s.busOn b = true →
        (∀ (f : CanFrame) (q : Fin 4) (e : Nat × Nat × Nat), f.fmt.val ≤ s.get (CAN.CFG_MODE b) → s.get (CAN.RULES_COUNT b) = 0 →
          s.get (CAN.CFG_NOMATCH b) = q.val + 1 →
          let count := s.get (CAN.QUEUE_STAT_COUNT b q)
          count < s.queueSize b q → count + 1 < 2 ^ 11 →
          (s.elements b 3 (some q))[(s.get (CAN.QUEUE_STAT_HEAD b q) + count) % s.queueSize b q]? = some e → f.data.length ≤ e.2.2 →
          Completes (.canFrameReceived b f) s fun t => t.get (CAN.QUEUE_STAT_COUNT b q) = count + 1 ∧ t.evt (pgCAN b) 0 = true) ∧
        (∀ f : CanFrame, f.fmt.val ≤ s.get (CAN.CFG_MODE b) → s.get (CAN.RULES_COUNT b) = 0 → s.get (CAN.CFG_NOMATCH b) = 0 →
          Completes (.canFrameReceived b f) s fun t =>
            t.get (CAN.RX_CNT b) = min (s.get (CAN.RX_CNT b) + 1) (2 ^ 32 - 1) ∧ t.get (CAN.ACK_RUN_RUN b) = 0) ∧
        (∀ err : Fin 8, Completes (.canRxError b err false) s fun t =>
          t.get (CAN.ERR_CNT_REC b) = min 255 (s.get (CAN.ERR_CNT_REC b) + 1) ∧ t.get (CAN.STAT_LAST_ERR b) = err.val)) ∧
      (s.get (CAN.STAT_BUS b) = 4 →
        (s.on (CAN.CFG_BO_AUTO b) = false → Completes (.boRecover b) s fun t => t.get (CAN.STAT_BUS b) = 5) ∧
        (s.on (CAN.CFG_BO_AUTO b) = true → Completes (.boDelayExpired b) s fun t => t.get (CAN.STAT_BUS b) = 5)) ∧
      (s.get (CAN.STAT_BUS b) = 5 → Completes (.busOffRecoveryDone b) s fun t =>
        t.get (CAN.STAT_BUS b) = 2 ∧ t.get (CAN.ERR_CNT b) = 0) ∧
      (s.pageOn (pgCAN b) = true →
        (s.get (CAN.STAT_BUS b) = 1 → s.get (CAN.ERR_CNT_TEC b) < 128 → s.get (CAN.ERR_CNT_REC b) < 128 →
          Completes (.canIntegrated b) s fun t => t.get (CAN.STAT_BUS b) = 2) ∧
        Completes (.canRxStuck b) s fun t => t.get (CAN.FAULT_CAUSE b) = 2 ∧ t.on (CAN.FAULT_ACTIVE b) = true ∧ t.evt (pgCAN b) 10 = true)) ∧
    (s.ready = true →
      (∀ (q : Fin 4) (w : Word),
        (0 < fieldOf w 0 11 → fieldOf w 0 11 ≤ s.get (CAN.QUEUE_STAT_COUNT b q) → Completes (.queueRel b q w) s fun t =>
          t.get (CAN.QUEUE_STAT_COUNT b q) = s.get (CAN.QUEUE_STAT_COUNT b q) - fieldOf w 0 11 ∧
            t.on (CAN.QUEUE_STAT_FULL b q) = false) ∧
        (s.get (CAN.QUEUE_STAT_COUNT b q) < fieldOf w 0 11 → Completes (.queueRel b q w) s fun t =>
          t.rejected (pgCAN b) (0x10C + 8 * q.val) = true ∧ t.get (CAN.QUEUE_STAT b q) = s.get (CAN.QUEUE_STAT b q))) ∧
      (∀ w : Word,
        (0 < fieldOf w 0 11 → fieldOf w 0 11 ≤ s.get (CAN.TLOG_STAT_COUNT b) → Completes (.tlogRel b w) s fun t =>
          t.get (CAN.TLOG_STAT_COUNT b) = s.get (CAN.TLOG_STAT_COUNT b) - fieldOf w 0 11 ∧ t.on (CAN.TLOG_STAT_FULL b) = false) ∧
        (s.get (CAN.TLOG_STAT_COUNT b) < fieldOf w 0 11 → Completes (.tlogRel b w) s fun t => t.rejected (pgCAN b) 0x12C = true)) ∧
      (s.on (CAN.FAULT_ACTIVE b) = false → Completes (.canClr b) s fun t => t.get (CAN.FAULT b) = 0 ∧ t.get (CAN.FAULT_LOC b) = 0))

/-- R409 to R413, R415: the transmit requests of a CAN controller. -/
def Obligations.CanTransmits : Prop :=
  ∀ (s : State) (b : Fin 4) (buf : Fin 64), s.running = true →
    (s.reserved b buf = true →
      Completes (.canTxReq b buf) s (fun t => t.rejected (pgCAN b) (0x0D0 + 4 * (buf.val / 32)) = true) ∧
      ∀ won, Completes (.txCancel b buf won) s fun t => t.rejected (pgCAN b) (0x0D8 + 4 * (buf.val / 32)) = true) ∧
    (s.reserved b buf = false →
      (s.pageOn (pgCAN b) = true → s.badFormat b buf = false → Completes (.canTxReq b buf) s fun t =>
        t.on (State.txReqF b buf) = true ∧ (s.can[b].cur = none → t.can[b].cur = some buf.val)) ∧
      (s.pageOn (pgCAN b) = true → s.badFormat b buf = true → Completes (.canTxReq b buf) s fun t =>
        t.on (State.bufBit CAN.TX_FAIL b buf) = true ∧ t.evt (pgCAN b) 2 = true) ∧
      (s.on (State.txReqF b buf) = true →
        Completes (.txCancel b buf false) s (fun t =>
          t.on (State.txReqF b buf) = false ∧ t.on (State.bufBit CAN.CANCELLED b buf) = true) ∧
        (s.can[b].cur = some buf.val → Completes (.txCancel b buf true) s fun t =>
          t.can[b].late.contains buf.val = true ∧ t.on (State.txReqF b buf) = true))) ∧
    (s.maySend b = true → s.can[b].cur = some buf.val →
      (∀ f, s.bufFrame b buf = some f → s.get (CAN.CFG_OPMODE b) ≠ 2 → Completes (.canTxComplete b) s fun t =>
        t.on (State.txReqF b buf) = false ∧ t.on (State.bufBit CAN.TX_DONE b buf) = true ∧ t.evt (pgCAN b) 1 = true ∧
          .canFrame b f ∈ t.out) ∧
      (∀ err : Fin 8, err.val ≠ 3 → s.can[b].late.contains buf.val = false → s.can[b].last = false →
        s.get (CAN.CFG_RETRY_MAX b) = 15 →
        Completes (.canTxError b err false) s fun t =>
          t.get (CAN.ERR_CNT_TEC b) = min 256 (s.get (CAN.ERR_CNT_TEC b) + 8) ∧ t.get (CAN.STAT_LAST_ERR b) = err.val ∧
            t.failsOf b buf = s.failsOf b buf + 1 ∧ t.on (State.txReqF b buf) = s.on (State.txReqF b buf)))

/-- R418 to R423: the MVB device takes frames from two lines, answers, and exchanges its ports with the window. -/
def Obligations.MvbDeviceActs : Prop :=
  ∀ s : State,
    (s.running = true → s.mvbOn = true → s.on MVB.CFG_LINE_A_EN = true → s.on MVB.CFG_LINE_B_EN = true →
      (∀ (fcode : Fin 16) (addr : BitVec 12),
        (fcode.val ≤ 4 → Completes (.mvbMasterFrame .good .good fcode addr) s fun t =>
          t.mvb.master = some (fcode.val, addr.toNat) ∧ t.get MVB.FRAME_CNT = min (s.get MVB.FRAME_CNT + 1) (2 ^ 32 - 1) ∧
            t.on MVB.STAT_A_OK = true ∧ t.on MVB.STAT_B_OK = true) ∧
        (fcode.val = 15 → addr.toNat = s.get MVB.CFG_DEV_ADDR → s.on MVB.STAT_TX_ON = true →
          Completes (.mvbMasterFrame .good .good fcode addr) s fun t => ∃ w, .mvbSlave [BitVec.ofNat 8 (w / 256), BitVec.ofNat 8 w] ∈ t.out)) ∧
      (∀ fcode addr k data, s.mvb.master = some (fcode, addr) → s.portAt 1 fcode addr = none → s.portAt 2 fcode addr = some k →
        Completes (.mvbSlaveFrame .good .good data) s fun t => t.mvb.master = none ∧ t.portData k = data.take (portSize fcode)) ∧
      (∀ fcode addr data, s.mvb.master = some (fcode, addr) → (s.portAt 1 fcode addr).isSome = true → s.on MVB.STAT_TX_ON = true →
        s.mvb.mute.1 = false → Completes (.mvbSlaveFrame .none .good data) s fun t =>
          t.get MVB.FAULT_CAUSE = 1 ∧ t.on MVB.FAULT_ACTIVE = true ∧ t.evt 0x48 3 = true)) ∧
    (s.running = true →
      (∀ line, Completes (.mvbLineTimeout line) s fun t => t.on (if line then MVB.STAT_B_OK else MVB.STAT_A_OK) = false) ∧
      (∀ k : Fin 256, s.mvbOn = true → s.get (MVB.PORT_CFG_DIR k) = 2 → s.get (MVB.PORT_CFG_FRESH_MAX k) ≠ 0 →
        Completes (.portFreshnessTimeout k) s fun t => t.on ⟨(MVB.FRESH (k / 32)).addr, k % 32, 1⟩ = true ∧ t.evt 0x48 1 = true)) ∧
    (s.ready = true →
      let k := s.get MVB.PORT_SEL_PORT
      Completes .mvbPortSnap s (fun t => t.answered MVB.PORT_STAT false = true ∧ t.get MVB.PORT_FRESH_T = s.portAge k ∧
        ∀ i, i < 8 → t.get (MVB.PORT_DATA i) = ofLeBytes (((s.portBytes k).drop (4 * i)).take 4)) ∧
      (s.get (MVB.PORT_CFG_DIR k) = 1 → Completes .mvbPortCommit s fun t => t.on MVB.STAT_DNR = false ∧
        t.portData k = ((List.range 8).flatMap (fun i => wordBytes (s.word (MVB.PORT_DATA i).addr))).take
          (portSize (s.get (MVB.PORT_CFG_FCODE k)))) ∧
      (s.get (MVB.PORT_CFG_DIR k) ≠ 1 → Completes .mvbPortCommit s fun t => t.rejected 0x48 0x064 = true ∧ t.mvb = s.mvb))

/-- R318, R320, R322 to R325: the pantry's tick, an overrun, the rotation, the escalation and the releases. -/
def Obligations.PantryActs : Prop :=
  ∀ s : State, s.running = true →
    (∀ m, Completes (.pantryTick m) s fun t => t.get PWR.STATE_STATE ≠ 1 →
      t.get PBS.STAT_P_NOW = min 65535 t.pNow ∧ t.getI PBS.STAT_HEADROOM = clampI (-32768) 32767 t.headroom) ∧
    (∀ (ax : Fin 16) r, s.pan.reqs.find? (fun r => r.ax == ax.val) = some r → Completes (.deferMaxExpired ax) s fun t =>
      t.ax[ax].adm = .granted ∧ t.pan.reqs.find? (fun r => r.ax == ax.val) = none ∧ (ax.val, r.pred) ∈ t.pan.resv ∧ t.evt 0x06 0 = true) ∧
    (∀ (x v : Fin 48) at_, s.pageOn 0x06 = true → s.p2Barred = false →
      s.pan.shed.find? (fun x => s.mayReturn (fin48 x.1)) = some (x.val, at_) → s.oldestOn = some v →
      (s.nomPower x : Int) ≤ s.headroom + s.freedBy v →
      Completes .shedRotation s fun t => t.isShed x = false ∧ t.isShed v = true ∧ t.evt 0x06 1 = true) ∧
    (s.ready = true → s.boot.leDown = false →
      (s.on LDG.STAT_CHECKING = true ∨ (∃ b ∈ s.ldg.blocks, s.blockDue b = true) → Completes .refreshEscalation s fun t =>
        (t.get PBS.P3_STAT_DUE).testBit 0 = true) ∧
      (s.on LDG.STAT_CHECKING = true ∨ (∃ b ∈ s.ldg.blocks, s.get LDG.CFG_REFRESH_DUE + 30 < s.blockAge b) →
        Completes .refreshEscalation s fun t => t.on PBS.P3_STAT_ESC = true) ∧
      (s.on LDG.STAT_CHECKING = false → (∀ b ∈ s.ldg.blocks, s.blockAge b ≤ s.get LDG.CFG_REFRESH_DUE + 30) →
        Completes .refreshEscalation s fun t => t.on PBS.P3_STAT_ESC = false)) ∧
    (s.pageOn 0x06 = false → s.boot.leDown = false → s.boot.xeDown = false → ∀ m, Completes (.pantryTick m) s fun t =>
      t.get PWR.STATE_STATE ≠ 1 → t.par.owed = s.par.owed.drop 96 ∧
        ∀ r ∈ s.par.owed.take 96, ∃ lane q rs, .bruvan lane q (.records rs) ∈ t.out ∧ r ∈ rs) ∧
    (s.get PBS.HEAT_HEAT_STAGE = 2 ∧ s.getI PWR.TEMP_D_TJ1 < 1150 ∨ s.get PBS.HEAT_HEAT_STAGE = 1 ∧ s.getI PWR.TEMP_D_TJ1 < 1050 →
      Completes .heatStageRelease s fun t => t.get PBS.HEAT_HEAT_STAGE = s.get PBS.HEAT_HEAT_STAGE - 1) ∧
    (10 * s.get PWR.PKG_PKG_P ≤ 9 * s.get PBS.THERM_PKG_MAX →
      Completes .pkgCeilingRelease s fun t => t.get PBS.HEAT_PKG_STAGE = 0)

/-- R24, R31, R262, R328 to R330: the requests for a power state, their refusals, the bursts of WATCH and the wake. With HOSTSEL 3 no
request arrives, and HALT is left by none. -/
def Obligations.PowerStatesFollow : Prop :=
  ∀ s : State,
    (s.hostPort = false ∨ s.get SAF.STAT_SC_STATE = 3 → Completes .pwrRequestCellar s (fun t => t = s) ∧
      Completes .pwrRequestWatch s (fun t => t = s) ∧ Completes .pwrRequestService s fun t => t = s) ∧
    (s.ready = true → s.hostPort = true → s.get SAF.STAT_SC_STATE ≠ 3 →
      (s.cel.waking = true →
        Completes .pwrRequestCellar s (fun t => t.get PWR.STATE_REJ = 5 ∧ t.get PWR.STATE_STATE = s.get PWR.STATE_STATE) ∧
        Completes .pwrRequestWatch s (fun t => t.get PWR.STATE_REJ = 5 ∧ t.get PWR.STATE_STATE = s.get PWR.STATE_STATE) ∧
        Completes .pwrRequestService s (fun t => t.get PWR.STATE_REJ = 5 ∧ t.get PWR.STATE_STATE = s.get PWR.STATE_STATE)) ∧
      (s.cel.waking = false →
        (2 ≤ s.get PWR.STATE_STATE → s.notAllowed = 0 → Completes .pwrRequestCellar s fun t => t.get PWR.STATE_STATE = 1) ∧
        (2 ≤ s.get PWR.STATE_STATE → s.notAllowed ≠ 0 → Completes .pwrRequestCellar s fun t =>
          t.get PWR.STATE_REJ = s.notAllowed ∧ t.get PWR.STATE_STATE = s.get PWR.STATE_STATE) ∧
        (s.get PWR.STATE_STATE = 3 → s.notAllowed = 0 → Completes .pwrRequestWatch s fun t =>
          t.get PWR.STATE_STATE = 2 ∧ t.get HIF.WD_STAT_STATE = 3) ∧
        (s.get PWR.STATE_STATE = 3 → s.notAllowed ≠ 0 → Completes .pwrRequestWatch s fun t =>
          t.get PWR.STATE_REJ = s.notAllowed ∧ t.get PWR.STATE_STATE = 3))) ∧
    (s.watching = true →
      (s.cel.waking = false → s.hostPort = true → Completes .pwrRequestService s fun t =>
        t.cel.waking = true ∧ t.get PWR.STATE_REJ = 0) ∧
      (∀ n : Fin 8, s.dw[n].offers ≠ [] → s.on PBS.ENERGY_AUTO_CELLAR = false → Completes .watchBurst s fun t => t.cel.waking = true) ∧
      (∀ w, s.wakeOn w = true → Completes (.wake w) s fun t =>
        t.cel.waking = true ∧ (t.get CEL.WAKE_SRC_SRC).testBit (State.wakeBit w) = true) ∧
      (s.cel.waking = true → Completes .clocksReady s fun t => t.cel.waking = false ∧ t.get PWR.STATE_STATE = 3)) ∧
    (∀ w, s.get PWR.STATE_STATE = 1 → s.cel.off = false → s.cel.coreUp = true → s.boot.resetLow = false → s.wakeOn w = true →
      Completes (.wake w) s fun t => t.cel.waking = true ∧ (t.get CEL.WAKE_SRC_SRC).testBit (State.wakeBit w) = true) ∧
    (s.cel.waking = true → s.get PWR.STATE_STATE = 1 → s.cel.off = false → s.boot.resetLow = false →
      Completes .clocksReady s fun t => t.cel.waking = false ∧ t.get PWR.STATE_STATE = 3)

/-- R23, R328, R331, R332, R425, R428: the supplies. -/
def Obligations.SuppliesAct : Prop :=
  ∀ s : State,
    (∀ crystal, s.cel.off = true → Completes (.cellarStart crystal) s fun t =>
      t.cel.off = false ∧ t.get PWR.STATE_STATE = 1 ∧ t.on CEL.STAT_XTAL32 = crystal) ∧
    (∀ h u, s.cel.off = false → s.cel.coreUp = false → s.get PWR.STATE_STATE = 1 → s.boot.resetLow = true →
      Completes (.coreSupplyValid h u) s fun t => t.cel.coreUp = true ∧ t.boot.held = true ∧ t.boot.hostsel = h.val ∧
        t.boot.unitB = u ∧ t.get CEL.RST_CAUSE_CAUSE = (if s.cel.cold then 1 else 2) + if s.cel.stuck then 64 else 0) ∧
    (∀ h u, s.cel.off = false → s.cel.coreUp = false → s.get PWR.STATE_STATE = 1 → s.boot.resetLow = false →
      Completes (.coreSupplyValid h u) s fun t => t.cel.coreUp = true ∧ t.boot.held = false ∧ t.get PWR.STATE_STATE = 3) ∧
    (∀ up, s.cel.off = false → Completes (.powerFail up) s fun t =>
      t.get PWR.STATE_STATE = 1 ∧ t.cel.coreUp = false ∧ t.get CEL.PF_CNT = min (s.get CEL.PF_CNT + 1) (2 ^ CEL.PF_CNT.width - 1) ∧
        (s.get PWR.STATE_STATE ≠ 1 → t.boot.held = true) ∧ (up = true → ∀ e ∈ t.journal, e.durable = true)) ∧
    (s.cel.off = false → Completes .cellarSupplyLoss s fun t => t.cel.off = true ∧ t.rtc = 0 ∧ t.get PWR.STATE_STATE = 1) ∧
    (∀ m entered, s.coreOn = true → (∀ i : Fin 8, m = .undervolt i → entered = true → i.val < 5) →
      s.on (State.supField m) ≠ entered → Completes (.supplyMonitorCrossing m entered) s fun t =>
        t.on (State.supField m) = entered ∧ t.evt 0x05 0 = true) ∧
    (∀ i : Fin 8, 5 ≤ i.val → Completes (.supplyMonitorCrossing (.undervolt i) true) s fun t => t.cel.coreUp = false) ∧
    (s.cel.off = false → s.on CEL.STAT_XTAL32 = false → Completes .clk32RcFallback s fun t => t.on TMR.STAT_RC_SRC = true)

/-- R53, R54, R330, R333, R334: the ledger time, the posted writes of the slow domain and the stuck reset. -/
def Obligations.SlowDomainActs : Prop :=
  ∀ s : State,
    (s.cel.off = false →
      (Completes .rtcSet s fun t => t.rtc = s.setTime ∧ t.on TMR.CTRL_SET = false ∧
        t.on TMR.STAT_RTC_VALID = true) ∧
      (s.coreOn = true → s.on TMR.CTRL_ALARM_EN = true → s.get TMR.ALARM_LO + 2 ^ 32 * s.get TMR.ALARM_HI_ALARM ≤ s.rtc →
        Completes .rtcAlarm s fun t => t.evt 0x04 1 = true) ∧
      (∀ ms, 5000 < ms → s.boot.resetLow = true → s.boot.stuck = false → Completes (.resetStuck ms) s fun t =>
        t.boot.stuck = true ∧ t.cel.stuck = true ∧ (s.get PWR.STATE_STATE ≠ 1 → (t.get CEL.RST_CAUSE_CAUSE).testBit 6 = true)) ∧
      ((s.posted.all fun p => p.2.2 != 1) = true → Completes .shadowRefresh s fun t =>
        t.clk32 = s.clk32 + 1 ∧ t.posted = (s.posted.map fun p => (p.1, p.2.1, p.2.2 + 1)).filter (fun p => decide (p.2.2 < 3)) ∧
          (s.rtcFrac + s.edgeFrac < 32768000000 → t.rtc = s.rtc) ∧
          (32768000000 ≤ s.rtcFrac + s.edgeFrac → s.on TMR.CTRL_SET = false → t.rtc = (s.rtc + 1) % 2 ^ 48))) ∧
    (∀ (addr : BitVec 20) (w : Word), s.hostPort = false → Completes (.slowDomainWrite addr w) s fun t => t = s) ∧
    (∀ (addr : BitVec 20) (w : Word), s.ready = true → s.hostPort = true → State.slowAddr (addr.toNat / 4 * 4) = true →
      (placeOf (addr.toNat / 4 * 4)).isSome = true →
      (s.busy (addr.toNat / 4 * 4 / 4096) = false → Completes (.slowDomainWrite addr w) s fun t =>
        t.posted = s.posted ++ [(addr.toNat / 4 * 4, w, 0)] ∧ t.busy (addr.toNat / 4 * 4 / 4096) = true) ∧
      (s.busy (addr.toNat / 4 * 4 / 4096) = true → Completes (.slowDomainWrite addr w) s fun t =>
        t.posted = s.posted ∧ t.get HIF.ERR_INFO_CAUSE = 4 ∧ t.get HIF.ERR_ADDR_ADDR = addr.toNat / 4 * 4 ∧ t.evt 0x01 0 = true))

/-- R185, R342, R345, R349, R350, R352, R360, R376, R391: what the partner's frames leave, and their acknowledgements; one
whose CRC is wrong is counted and dropped. -/
def Obligations.BruvanFramesAct : Prop :=
  ∀ s : State, s.running = true → s.pair = true →
    let lane := s.txLane true
    let acked (seq : BitVec 16) (t : State) : Prop := .bruvan lane.toNat (s.laneSeq lane) (.ack seq) ∈ t.out
    (∀ m,
      (s.active = true → Completes (.bruvanState ⟨true, m⟩) s fun t => t.par.stateAt = some s.clk32 ∧ t.regs = s.regs) ∧
      (s.active = false → Completes (.bruvanState ⟨true, m⟩) s fun t =>
        t.par.stateAt = some s.clk32 ∧ t.par.mirror = some m ∧
          (s.on BRV.LINK_STAT_LOST = false → t.on BRV.STAT_MIRROR_STALE = false))) ∧
    (∀ m : HealthFrame, s.role_ ≠ roleSyncing → Completes (.bruvanHealth ⟨true, m⟩) s fun t =>
      t.par.healthAt = some s.clk32 ∧ t.get BRV.STAT_PART_ROLE = m.role.val ∧ t.word BRV.HEALTH_PART.addr = m.check ∧
        t.get BRV.GRADE_PART = m.grade.val ∧
        (m.gen.toNat = s.get VLT.GEN → t.on BRV.STAT_HASH_MATCH = decide (m.hash = s.hashWords) ∧
          (m.hash ≠ s.hashWords → t.get BRV.FAULT_CAUSE = 4))) ∧
    (∀ th cause, cause < 16 →
      (s.role_ = roleStandby → Completes (.bruvanHandover ⟨true, th⟩ cause) s fun t =>
        t.get BRV.LAST_HO_CAUSE = cause ∧ ∃ own, s.porchTime + 25000 ≤ own ∧ t.par.incoming = some (own, cause)) ∧
      (s.role_ ≠ roleStandby → Completes (.bruvanHandover ⟨true, th⟩ cause) s fun t => t = s)) ∧
    (∀ seq (r : Record),
      Completes (.bruvanRecords ⟨true, seq⟩ [r]) s fun t =>
        acked seq t ∧
        ((s.heldRecords.any fun x => x.unitB == r.unitB && x.rseq == r.rseq) = true → t.journal = s.journal) ∧
        ((s.heldRecords.any fun x => x.unitB == r.unitB && x.rseq == r.rseq) = false → s.journalUsed + Payload.slots r.payload ≤ 1024 →
          t.journal = s.journal ++ [⟨r, false, s.clk32, s.ldg.jnext⟩])) ∧
    (∀ seq f, Completes (.bruvanVault ⟨true, seq⟩ f) s fun t =>
      acked seq t ∧ t.vlt.inB = (!s.vlt.inB) ∧ t.bankInForce.gen = f.gen ∧ t.bankInForce.cells = f.cells) ∧
    (∀ seq (n : Fin 8) (f : AdaptFrame), Completes (.bruvanAdapt ⟨true, seq⟩ n f) s fun t =>
      acked seq t ∧ ∀ b w, b < 128 →
        (f.door[b]? = some w → t.word (State.fricF (doorAxis n) b).addr = w) ∧
        (f.step[b]? = some w → t.word (State.fricF (stepAxis n) b).addr = w)) ∧
    (∀ seq k, s.active = true → Completes (.catchupReq ⟨true, seq⟩ k) s fun t =>
      acked seq t ∧ t.on LDG.STAT_CATCHUP = (!t.par.owed.isEmpty) ∧ t.par.owed.Pairwise (fun x y => x.rseq ≤ y.rseq) ∧
        ∀ r, r ∈ t.par.owed ↔ r ∈ s.heldRecords ∧ r.unitB = s.isB ∧ ∀ j, k = some j → j < r.rseq) ∧
    (∀ seq : BitVec 16, Completes (.bruvanAck ⟨true, seq⟩) s fun t =>
      t.par.unacked = s.par.unacked.eraseP fun x => x.1 == seq.toNat) ∧
    (∀ m h th cause seq rs v n a k c, c ∈ [Instr.bruvanState ⟨false, m⟩, .bruvanHealth ⟨false, h⟩, .bruvanHandover ⟨false, th⟩ cause,
        .bruvanRecords ⟨false, seq⟩ rs, .bruvanVault ⟨false, seq⟩ v, .bruvanAdapt ⟨false, seq⟩ n a, .catchupReq ⟨false, seq⟩ k, .bruvanAck ⟨false, seq⟩] →
      Completes c s fun t => t.get BRV.CRC_CNT = min (s.get BRV.CRC_CNT + 1) (2 ^ 32 - 1) ∧ t.par = s.par ∧ t.out = s.out) ∧
    (∀ x xs, s.par.unacked = x :: xs → Completes .lane1Retransmit s fun t =>
      t.out = s.out ++ [.bruvan lane.toNat x.1 x.2] ∧ t.par.unacked = xs ++ [x] ∧ t.get BRV.RETX_CNT = min (s.get BRV.RETX_CNT + 1) (2 ^ 32 - 1))

/-- R343, R344, R346, R354, R362: the lanes, the link, the comma and the heartbeats, with the BRV fault causes. -/
def Obligations.BruvanLinkActs : Prop :=
  ∀ s : State, s.running = true → s.pair = true →
    (∀ rx (lane : Fin 2),
      ((s.get (State.laneFld rx)).testBit lane = true → Completes (.laneDown rx lane) s fun t =>
        (t.get (State.laneFld rx)).testBit lane = false ∧ t.get BRV.FAULT_CAUSE = 3 ∧ t.on BRV.FAULT_ACTIVE = true ∧ t.evt 0x0B 2 = true) ∧
      ((s.get (State.laneFld rx)).testBit lane = false → Completes (.laneUp rx lane) s fun t =>
        (t.get (State.laneFld rx)).testBit lane = true ∧ t.evt 0x0B 2 = true ∧
          (s.get (State.laneFld (!rx)) ≠ 0 → t.on BRV.LINK_STAT_LOST = false))) ∧
    (s.get BRV.LINK_STAT_TX_UP = 0 ∨ s.get BRV.LINK_STAT_RX_UP = 0 → s.on BRV.LINK_STAT_LOST = false → Completes .linkLost s fun t =>
      t.on BRV.LINK_STAT_LOST = true ∧ t.on BRV.STAT_MIRROR_STALE = true ∧ t.evt 0x0B 2 = true ∧
        (s.on BRV.STAT_PART_SEEN = true → t.get BRV.FAULT_CAUSE = 2)) ∧
    (s.role_ = roleStandby → Completes .mirrorStale s fun t => t.on BRV.STAT_MIRROR_STALE = true) ∧
    (∀ (err : Int) delay,
      (err.natAbs ≤ 50 → s.par.pwmGood < 99 → Completes (.pwmComma err delay) s fun t => t.par.pwmGood = s.par.pwmGood + 1) ∧
      (err.natAbs ≤ 50 → 99 ≤ s.par.pwmGood → s.role_ ≠ roleSyncing → Completes (.pwmComma err delay) s fun t =>
        t.on BRV.STAT_PWM_LOCK = true) ∧
      (200 < err.natAbs → s.on BRV.STAT_PWM_LOCK = true → Completes (.pwmComma err delay) s fun t =>
        t.on BRV.STAT_PWM_LOCK = false ∧ t.par.pwmGood = 0 ∧ (s.role_ = roleStandby → t.get BRV.FAULT_CAUSE = 6))) ∧
    Completes .commaTimeout s (fun t => t.on BRV.STAT_PWM_LOCK = false ∧ t.par.pwmGood = 0 ∧
      (s.on BRV.STAT_PWM_LOCK = true → s.role_ = roleStandby → t.get BRV.FAULT_CAUSE = 6)) ∧
    (s.on BRV.STAT_PART_SEEN = true → s.framesArrive = true → Completes .partnerHeartbeatLoss s fun t =>
      t.on BRV.STAT_PART_SEEN = false ∧ t.par.lost = true ∧ t.get BRV.FAULT_CAUSE = 1 ∧
        t.get BRV.ALIVE_LOSS_CNT = min (s.get BRV.ALIVE_LOSS_CNT + 1) (2 ^ 32 - 1)) ∧
    Completes .partnerHeartbeatReturn s (fun t => t.on BRV.STAT_PART_SEEN = true ∧ t.par.lost = false) ∧
    (s.role_ ≠ roleOut → s.active = false → Completes .ownHeartbeatLoss s fun t =>
      t.on BRV.STAT_OWN_ALIVE = false ∧ t.get BRV.FAULT_CAUSE = 7 ∧ t.role_ = s.role_) ∧
    (s.par.diffFrom.isSome = true → Completes .hashMismatchTimeout s fun t =>
      t.on BRV.STAT_HASH_MATCH = false ∧ t.get BRV.FAULT_CAUSE = 4 ∧
        (s.role_ = roleSyncing → s.get BRV.STAT_PART_ROLE = roleActive → t.role_ = roleOut))

/-- R350 to R352, R357 to R361: the health report, the handover's request, decision and overlap, and the standby's commands. -/
def Obligations.PairCommandsAct : Prop :=
  ∀ s : State, s.running = true →
    Completes .healthCompute s (fun t =>
      t.word BRV.HEALTH_OWN.addr = BitVec.ofNat 32 (State.bitsWord s.checkBits) ∧ t.get BRV.GRADE_OWN = State.gradeOf s.checkBits) ∧
    (s.mayHandOver = true → s.par.decided = none →
      (Completes .handoverRequest s fun t => t.get BRV.LAST_HO_CAUSE = 2 ∧ t.par.incoming = s.par.incoming ∧
        ∃ th, s.porchTime + 25000 ≤ th ∧ t.par.decided = some (th, 2)) ∧
      (s.par.leadFrom.isSome = true → Completes .healthHandover s fun t => t.get BRV.LAST_HO_CAUSE = 3 ∧
        ∃ th, s.porchTime + 25000 ≤ th ∧ t.par.decided = some (th, 3))) ∧
    (s.mayHandOver = false → Completes .handoverRequest s fun t => t.rejected 0x0B 0x04C = true ∧ t.par = s.par) ∧
    (s.active = true → s.par.decided.isSome = true → s.par.overlap = false → Completes .handoverTime s fun t =>
      t.par.overlap = true ∧ ∀ ax : Fin 16, t.on (AX.STAT_GATE_EN ax) = false ∧ t.on (AX.STAT_OWNED ax) = false) ∧
    (s.active = true → s.par.overlap = true → Completes .overlapEnd s fun t => t.par.overlap = false ∧ t.par.decided = none) ∧
    Completes .testPulseResume s (fun t => t.sc.paused = false) ∧
    (s.active = true → s.pair = true → s.isB = true → Completes .bothActive s fun t =>
      t.get BRV.FAULT_CAUSE = 5 ∧ t.on BRV.STAT_HASH_MATCH = false ∧ t.par.overlap = false) ∧
    (s.pair = true → s.synced = true → s.par.asked = true → Completes .syncComplete s fun t =>
      t.role_ = roleStandby ∧ t.get BRV.LDG_BEHIND = 0 ∧ t.on LDG.STAT_CATCHUP = false ∧ t.evt 0x0B 0 = true) ∧
    (s.role_ = roleOut → Completes .resync s fun t => t.role_ = roleSyncing ∧ t.on BRV.STAT_HASH_MATCH = false) ∧
    (s.role_ = roleActive ∨ s.role_ = roleSyncing → Completes .stbyTest s fun t => t.rejected 0x0B 0x04C = true) ∧
    (s.role_ = roleStandby → Completes .stbyTest s fun t => t.par.testing = true ∧ (t.get PBS.P3_STAT_DUE).testBit 3 = true) ∧
    (s.par.testing = true → s.p3Runs 3 = true → ∀ pass, Completes (.stbyTestDone pass) s fun t =>
      t.par.testing = false ∧ t.par.testOk = pass ∧ (t.get PBS.P3_STAT_DUE).testBit 3 = false) ∧
    (s.on BRV.CFG_COMPAT = true → Completes .claimStrobe s fun t =>
      t.get BRV.STAT_CLAIM = if s.active then s.get BRV.GRADE_OWN else 0) ∧
    (s.on BRV.FAULT_ACTIVE = false → Completes .brvClr s fun t => t.get BRV.FAULT = 0 ∧ t.get BRV.FAULT_LOC = 0)

/-- R347, R348, R352 to R354: who is ACTIVE after a takeover, a handover, a first start, and after the loss of the own wave. -/
def Obligations.RolesChange : Prop :=
  ∀ s : State, s.running = true →
    (s.active = false → ∀ th cause, s.par.incoming = some (th, cause) → s.role_ = roleStandby →
      Completes .handoverTime s fun t => t.active = true) ∧
    (s.active = true → s.par.overlap = true → Completes .overlapEnd s fun t => t.role_ = roleStandby) ∧
    (s.pair = true →
      (s.role_ = roleSyncing → s.clash = false → s.par.seen = false → Completes .partnerWaitExpired s fun t => t.active = true) ∧
      (s.role_ = roleStandby → s.on BRV.STAT_PART_SEEN = true → s.framesArrive = false → Completes .partnerHeartbeatLoss s fun t =>
        t.active = true) ∧
      (s.role_ = roleSyncing → s.on BRV.STAT_PART_SEEN = true → s.on BRV.STAT_HASH_MATCH = false →
        Completes .partnerHeartbeatLoss s fun t => t.role_ = roleOut ∧ t.get BRV.STAT_OOS_WHY = 3) ∧
      (s.active = true → Completes .ownHeartbeatLoss s fun t => t.role_ = roleOut ∧ t.get BRV.STAT_OOS_WHY = 2))

/-- R364, R365, R367 to R375: the journal port, the data pages, the journal area, the refresh, the retention check and the day.
The slot of a record in the journal is log entry 126. -/
def Obligations.LedgerKeepsRecords : Prop :=
  ∀ s : State,
    (∀ p (dw : Fin 9),
      (s.journalUsed + Payload.slots p ≤ 1024 → Completes (.recordSubmit p dw) s fun t =>
        t.journal = s.journal ++ [⟨s.mkRecord p dw, false, s.clk32, s.ldg.jnext⟩] ∧ t.get LDG.NEXT_RSEQ = (s.get LDG.NEXT_RSEQ + 1) % 2 ^ 32) ∧
      (1024 ≤ s.journalUsed → Completes (.recordSubmit p dw) s fun t =>
        t.journal = s.journal ∧ (t.get LDG.STAT_WARN).testBit 4 = true)) ∧
    (s.ready = true → Completes .ldgCheck s fun t => t.on LDG.STAT_CHECKING = true ∧ t.on PBS.P3_STAT_ESC = true) ∧
    (s.ready = true → s.boot.leDown = false →
      (256 ≤ s.journalUsed → Completes (.dataPageWrite .ok) s fun t =>
        let x := State.pageSplit 256 s.journal
        x.2 <+: t.journal ∧ t.evt 0x0C 0 = true ∧
          ∃ b ∈ t.ldg.blocks, b.pages.getLast? = some (x.1.map (·.entry))) ∧
      Completes .journalAreaWrite s (fun t => (∀ e ∈ t.journal, e.durable = true) ∧ t.get LDG.JRNL_VOLATILE = 0) ∧
      Completes .ldgFlush s (fun t => (∀ e ∈ t.journal, e.durable = true) ∧ t.get LDG.JRNL_VOLATILE = 0) ∧
      (∀ i b, s.p3Runs 0 = true → s.oldestDue = some i → s.ldg.blocks[i]? = some b → Completes (.blockRefresh .ok) s fun t =>
        t.ldg.blocks[i]? = some ⟨dayOf s.rtc, State.readable b, [], false, b.die, []⟩) ∧
      (∀ lost : List (Nat × Nat),
        (s.on LDG.STAT_CHECKING = true → s.p3Runs 0 = true → Completes (.retentionCheck lost) s fun t =>
          t.on LDG.STAT_CHECKING = false ∧
            ∀ i p b, (i, p) ∈ lost → s.ldg.blocks[i]? = some b → State.programmed b p = true → b.lost.contains p = false →
              ∃ b', t.ldg.blocks[i]? = some b' ∧ b'.lost.contains p = true ∧
                ∀ j, j < b'.pages.length → State.unreadable b' j = true → b'.bad.contains j = true) ∧
        (s.on LDG.STAT_CHECKING = false ∨ s.p3Runs 0 = false → Completes (.retentionCheck lost) s fun t => t = s)) ∧
      (s.on TMR.STAT_RTC_VALID = true → dayOf s.rtc ≠ s.ldg.day → Completes .dayBoundary s fun t => t.ldg.day = dayOf s.rtc) ∧
      (s.on TMR.STAT_RTC_VALID = true → dayOf s.rtc = s.ldg.day → Completes .dayBoundary s fun t => t = s) ∧
      (s.on TMR.STAT_RTC_VALID = false → s.ldg.runMs < dayMs → Completes .dayBoundary s fun t => t = s))

/-- R48, R378 to R380, R382: queries, the read window and the export. -/
def Obligations.LedgerAnswersQueries : Prop :=
  ∀ s : State,
    (s.ready = true →
      (s.ldg.dma = false →
        Completes .ldgQryReq s (fun t => t.ldg.req = some .first ∧ t.get LDG.QRY_STAT < 2 ^ 31 ∧
          t.ldg.query.rest = State.sortRecs (s.heldRecords.filter s.qryMatch)) ∧
        Completes .ldgQryNext s (fun t => t.ldg.req = some .next ∧ t.get LDG.QRY_STAT < 2 ^ 31 ∧ t.ldg.query = s.ldg.query)) ∧
      (s.ldg.dma = true →
        Completes .ldgQryReq s (fun t => t.ldg.held = some .first ∧ t.ldg.req = s.ldg.req) ∧
        Completes .ldgQryNext s (fun t => t.ldg.held = some .next ∧ t.ldg.req = s.ldg.req) ∧
        Completes .dmaAbort s (fun t => t.ldg.dma = false ∧ t.answered LDG.DMA_STAT false = true ∧ t.evt 0x0C 3 = true)) ∧
      Completes .rdWinRead s (fun t => t.out = s.out ++ [.readData (wordBytes s.rdWord)] ∧
        (0 < s.get LDG.RD_STAT_LEFT → s.get LDG.RD_STAT_WORD < 15 → t.get LDG.RD_STAT_WORD = s.get LDG.RD_STAT_WORD + 1) ∧
        (0 < s.get LDG.RD_STAT_LEFT → s.get LDG.RD_STAT_WORD = 15 →
          t.get LDG.RD_STAT_WORD = 0 ∧ t.get LDG.RD_STAT_LEFT = s.get LDG.RD_STAT_LEFT - 1) ∧
        (s.get LDG.RD_STAT_LEFT = 0 → t.regs = s.regs ∧ s.rdWord = 0)) ∧
      (s.get HIF.HOST_CFG_HOSTSEL ≠ 2 ∨ s.dmaAddr % 64 ≠ 0 → Completes .dmaGo s fun t =>
        t.answered LDG.DMA_STAT true = true ∧ t.evt 0x0C 3 = true ∧ t.ldg.dma = false ∧ t.ldg.held = none ∧
          (s.ldg.held = none → t.ldg = { s.ldg with dma := false })) ∧
      (s.get HIF.HOST_CFG_HOSTSEL = 2 → s.dmaAddr % 64 = 0 → Completes .dmaGo s fun t =>
        t.ldg.dma = true ∧ t.get LDG.DMA_STAT < 2 ^ 31) ∧
      Completes .ldgClr s (fun t => t.get LDG.STAT_WARN = s.get LDG.STAT_WARN &&& 0b001101 ∧
        (s.on LDG.FAULT_ACTIVE = false → t.get LDG.FAULT_CAUSE = 0 ∧ t.get LDG.FAULT_LOC = 0))) ∧
    (s.ready = true → s.boot.leDown = false →
      (∀ q, s.ldg.req = some q →
        (s.qryTo < s.qryFrom → Completes .ldgQryDone s fun t =>
          t.answered LDG.QRY_STAT true = true ∧ t.evt 0x0C 2 = true ∧ t.ldg.req = none) ∧
        (s.qryFrom ≤ s.qryTo → Completes .ldgQryDone s fun t =>
          let slots (rs : List Record) : Nat := (rs.map fun r => Payload.slots r.payload).sum
          t.answered LDG.QRY_STAT false = true ∧ t.evt 0x0C 2 = true ∧ t.get LDG.RD_STAT_WORD = 0 ∧
            ∃ chunk, s.ldg.query.rest = chunk ++ t.ldg.query.rest ∧ t.get LDG.QRY_COUNT = chunk.length ∧
              t.ldg.staged = State.slotWords chunk ∧ chunk.length ≤ s.get LDG.QRY_MAX_MAX ∧ slots chunk ≤ 2 ^ 21 ∧
              (chunk.length = s.get LDG.QRY_MAX_MAX ∨ ∀ r rs, t.ldg.query.rest = r :: rs → 2 ^ 21 < slots chunk + slots [r]))) ∧
      (s.ldg.dma = true → Completes .dmaDone s fun t =>
        t.ldg.dma = false ∧ .dmaWrite s.dmaAddr s.ldg.staged ∈ t.out ∧ t.answered LDG.DMA_STAT false = true ∧ t.evt 0x0C 3 = true))

/-- R385 to R390: sessions, the password, the commit and the fail-safe copies. -/
def Obligations.VaultActs : Prop :=
  ∀ s : State,
    let rejected (t : State) : Prop := t.rejected 0x07 0x078 = true ∧ t.vlt = s.vlt
    let open_ (t : State) : Bool := t.on VLT.STAT_SESSION
    (s.ready = true →
      (∀ w : Word, Completes (.pwWinWrite w) s fun t => t.vlt.pw = if s.vlt.pw.length < 8 then s.vlt.pw ++ [w] else s.vlt.pw) ∧
      (s.on VLT.STAT_LOCKOUT = false → s.active = true → open_ s = false → s.on VLT.STAT_COMMITTING = false →
        Completes .unlock s fun t => t.vlt.checking = true ∧ t.regs = s.regs) ∧
      (s.on VLT.STAT_LOCKOUT = true ∨ s.active = false ∨ open_ s = true ∨ s.on VLT.STAT_COMMITTING = true → Completes .unlock s rejected) ∧
      (s.on VLT.STAT_COMMITTING = true →
        Completes .sessionTimeout s (fun t => open_ t = open_ s ∧ t.vlt = s.vlt ∧ t.get VLT.SESSION_LEFT_S = 0) ∧
        Completes .abort s rejected ∧
        Completes .commit s rejected ∧ Completes .newpw s rejected) ∧
      (s.on VLT.STAT_COMMITTING = false →
        (open_ s = true →
          Completes .sessionTimeout s (fun t => open_ t = false ∧ t.evt 0x07 2 = true) ∧
          Completes .abort s (fun t => open_ t = false ∧ t.evt 0x07 2 = true) ∧
          Completes .newpw s (fun t => t.vlt.newPw.isSome = true ∧ t.vlt.pw = [])) ∧
        (open_ s = false → Completes .newpw s rejected) ∧
        (s.refusal = 0 → Completes .commit s fun t => t.on VLT.STAT_COMMITTING = true ∧ t.vlt.building.isSome = true) ∧
        (s.refusal ≠ 0 → Completes .commit s fun t =>
          t.get VLT.CMT_REASON_REASON = s.refusal ∧ t.answered VLT.CMT_STAT true = true ∧ t.evt 0x07 0 = true)) ∧
      (∀ g : Fin 4, Completes (.fsConfirmTimeout g) s fun t => (t.get VLT.STAT_FS_UNCONF).testBit g = true ∧ t.vlt.pushes[g] = 1)) ∧
    Completes .lockoutEnd s (fun t => t.on VLT.STAT_LOCKOUT = false ∧ t.get VLT.LOCK_LEFT_S = 0) ∧
    (s.ready = true → s.boot.leDown = false →
      (s.vlt.checking = true →
        (sha256 (s.bankInForce.salt ++ s.pwBytes) = s.bankInForce.hash → Completes .passwordCheckDone s fun t =>
          open_ t = true ∧ t.get VLT.STAT_FAIL_CNT = 0 ∧ t.vlt.sessions = s.vlt.sessions + 1 ∧ t.vlt.pw = [] ∧ t.evt 0x07 2 = true) ∧
        (sha256 (s.bankInForce.salt ++ s.pwBytes) ≠ s.bankInForce.hash →
          (s.get VLT.STAT_FAIL_CNT < 4 → Completes .passwordCheckDone s fun t =>
            t.get VLT.STAT_FAIL_CNT = s.get VLT.STAT_FAIL_CNT + 1 ∧ open_ t = open_ s ∧ t.vlt.pw = []) ∧
          (4 ≤ s.get VLT.STAT_FAIL_CNT → Completes .passwordCheckDone s fun t =>
            t.on VLT.STAT_LOCKOUT = true ∧ t.get VLT.STAT_FAIL_CNT = 0 ∧ open_ t = open_ s ∧ t.evt 0x07 1 = true))) ∧
      (∀ b, s.vlt.building = some b →
        Completes (.commitDone true) s (fun t =>
          t.vlt.inB = (!s.vlt.inB) ∧ (Bank.valid b = true → t.bankInForce = b) ∧ t.on VLT.STAT_COMMITTING = false ∧ open_ t = false ∧
            t.get VLT.CMT_REASON_REASON = 0 ∧ t.answered VLT.CMT_STAT false = true) ∧
        Completes (.commitDone false) s (fun t =>
          t.vlt.inB = s.vlt.inB ∧ t.get VLT.CMT_REASON_REASON = 5 ∧ t.answered VLT.CMT_STAT true = true)) ∧
      (∀ g : Fin 4, (s.get VLT.STAT_FS_UNCONF).testBit g = true → s.vlt.pushes[g] < 10 →
        Completes (.fsPushRetry g true) s (fun t => (t.get VLT.STAT_FS_UNCONF).testBit g = false) ∧
        Completes (.fsPushRetry g false) s (fun t => t.vlt.pushes[g] = s.vlt.pushes[g] + 1 ∧
          (t.get VLT.STAT_FS_UNCONF).testBit g = true ∧ (s.vlt.pushes[g] = 9 → t.get VLT.FAULT_CAUSE = 3))))

/-- R261, R262, R426 to R429, R432, R433, R435: the resets and the boot. LEARN_RESULT 2 of a run that a reset cuts is the model's reading
(log entry 116). -/
def Obligations.ResetsAndBoot : Prop :=
  ∀ s : State,
    (s.boot.resetLow = false →
      (s.cel.off = true ∨ s.get PWR.STATE_STATE = 1 → Completes .resetNAssert s fun t => t.boot.resetLow = true ∧ t.regs = s.regs) ∧
      (s.cel.off = false → s.get PWR.STATE_STATE ≠ 1 → Completes .resetNAssert s fun t =>
        t.boot.resetLow = true ∧ t.boot.held = true ∧ t.get CEL.RST_CAUSE_CAUSE = 3 + (if s.get SAF.STAT_SC_STATE = 3 then 128 else 0) ∧
          t.ready = false ∧ t.sc = State.reset.sc ∧ t.ch = s.ch ∧ t.journal = s.journal ∧ t.rtc = s.rtc ∧
          (∀ n : Fin 8, t.dw[n] = { DwEng.reset with modelFail := s.dw[n].modelFail } ∧
            (s.on (DW.EFF_STAT_LEARN_RUN n) = true → t.get (DW.EFF_STAT_LEARN_RESULT n) = 2)) ∧
          ∀ ax : Fin 16, t.ax[ax] = { AxEng.reset with hits := s.ax[ax].hits, latched := s.ax[ax].latched })) ∧
    (s.boot.resetLow = true → ∀ (h : Fin 4) u, Completes (.resetNRelease h u) s fun t =>
      t.boot.resetLow = false ∧ t.boot.hostsel = h.val ∧ t.boot.unitB = u ∧
        (s.get PWR.STATE_STATE = 1 → t.boot.held = s.boot.held ∧ t.regs = s.regs) ∧
        (s.get PWR.STATE_STATE ≠ 1 → t.boot.held = false ∧
          (s.boot.held = true → t.get PWR.STATE_STATE = 3 ∧ t.boot.relAt = s.clk32))) ∧
    (s.ready = false → s.boot.held = false → s.boot.resetLow = false → s.recovery = false → s.get SAF.STAT_SC_STATE = 1 →
      s.get PWR.STATE_STATE ≠ 1 → s.boot.loaded = true →
      Completes .bootReady s fun t => t.ready = true ∧ t.get SYS.BOOT_STAT_STAGE = 7 ∧ t.boot.readyAt = s.clk32 ∧ t.cel.cold = false) ∧
    (s.ready = false → s.boot.loaded = true → ∀ d, Completes (.dieLinkTimeout d) s fun t =>
      t.get SYS.BOOT_STAT_ERR = 3 ∧ t.boot.linkBad = s.boot.linkBad ++ [d]) ∧
    (s.coreOn = true →
      (∀ w : Word, Completes (.srstKeyWrite w) s fun t => t.boot.srstAt = if w = 0xC3A5#32 then some s.clk32 else none) ∧
      (s.boot.srstAt = none → Completes .sreset s fun t => t.rejected 0x00 0x054 = true ∧ t.dw = s.dw) ∧
      (s.get SAF.STAT_SC_STATE = 3 → Completes .sreset s fun t => t.rejected 0x00 0x054 = true ∧ t.dw = s.dw) ∧
      (∀ at_, s.boot.srstAt = some at_ → s.usSince at_ ≤ 10000 → s.get SAF.STAT_SC_STATE ≠ 3 → Completes .sreset s fun t =>
        t.boot.srstAt = none ∧ t.boot.relAt = s.clk32 ∧ t.get PWR.STATE_STATE = 3 ∧ t.get CEL.RST_CAUSE_CAUSE % 16 = 5)) ∧
    (s.get SAF.STAT_SC_STATE = 2 →
      (3 ≤ s.recentTrips → Completes .safetyReset s fun t =>
        t.get SAF.STAT_SC_STATE = 3 ∧ ∀ ax : Fin 16, t.on (AX.STAT_GATE_EN ax) = false) ∧
      (s.recentTrips < 3 → Completes .safetyReset s fun t =>
        t.boot.relAt = s.clk32 ∧ t.get PWR.STATE_STATE = 3 ∧ t.get CEL.RST_CAUSE_CAUSE % 16 = 4))

/-- R434: the firmware commands, their refusals and their results. -/
def Obligations.FirmwareUpdates : Prop :=
  ∀ s : State,
    let refused (t : State) : Prop := t.rejected 0x00 0x060 = true ∧ t.boot = s.boot
    let word (t : State) (a : Nat) : Word := cellGet (fun _ => 0xFFFFFFFF) (t.norSlot s.idle).words a
    (s.coreOn = true →
      (s.fwBusy = true → Completes .erase s refused ∧ Completes .verify s refused ∧ Completes .activate s refused ∧
        Completes .confirm s refused ∧ ∀ w, Completes (.fwWinWrite w) s fun t => t = s) ∧
      (s.fwBusy = false →
        Completes .erase s (fun t => t.fwBusy = true ∧ t.boot.cmd = some .erase ∧ t.get SYS.FW_STAT_ERR = 0) ∧
        Completes .verify s (fun t => t.fwBusy = true ∧ t.boot.cmd = some .verify ∧ t.get SYS.FW_STAT_ERR = 0) ∧
        (s.get SYS.FW_STAT_STATE ≤ 1 → ∀ w : Word, Completes (.fwWinWrite w) s fun t =>
          let a := s.get SYS.FW_ADDR_ADDR / 4 * 4
          word t a = word s a &&& w ∧ (∀ b, b ≠ a → word t b = word s b) ∧ t.get SYS.FW_STAT_STATE = 1 ∧
            t.get SYS.FW_ADDR_ADDR = (a + 4) % 2 ^ 22) ∧
        (s.get SYS.FW_STAT_STATE ≠ 2 ∨ s.get SAF.STAT_SC_STATE = 3 → Completes .activate s refused) ∧
        (s.get SYS.FW_STAT_STATE = 2 → s.get SAF.STAT_SC_STATE ≠ 3 →
          (s.ready = true → s.active = true → s.on VLT.STAT_SESSION = false → Completes .activate s fun t => t.get SYS.FW_STAT_ERR = 1) ∧
          (s.ready = true → s.active = true → s.on VLT.STAT_SESSION = true → s.notAllowed ≠ 0 →
            Completes .activate s fun t => t.get SYS.FW_STAT_ERR = 4) ∧
          (s.boot.cmd = none → s.ready = false ∨ s.active = false ∨ s.on VLT.STAT_SESSION = true ∧ s.notAllowed = 0 →
            Completes .activate s fun t => (t.norSlot s.idle).armed = true ∧ t.boot.relAt = s.clk32 ∧ t.get CEL.RST_CAUSE_CAUSE % 16 = 6)) ∧
        (s.ready = true → s.on SYS.FW_STAT_TRIAL = true → s.get SYS.FW_STAT_ERR ≠ 6 → Completes .confirm s fun t =>
          (t.norSlot (s.on SYS.BOOT_STAT_SLOT)).confirmed = true ∧ t.on SYS.FW_STAT_TRIAL = false ∧
            t.get SYS.FW_MIN = (Slot.version (s.norSlot (s.on SYS.BOOT_STAT_SLOT))).toNat) ∧
        (s.on SYS.FW_STAT_TRIAL = false → Completes .confirm s refused))) ∧
    (s.boot.cmd = some .erase → Completes .fwCommandDone s fun t =>
      t.norSlot s.idle = Slot.empty ∧ t.fwBusy = false ∧ t.get SYS.FW_STAT_STATE = 0) ∧
    (s.boot.cmd = some .verify →
      let x := s.norSlot s.idle
      let old := decide ((Slot.version x).toNat < s.boot.fwMin.toNat)
      (Slot.passes x = true → Completes .fwCommandDone s fun t =>
        t.fwBusy = false ∧ t.get SYS.FW_STAT_ERR = (if old then 3 else 0) ∧ t.get SYS.FW_STAT_STATE = (if old then 4 else 2)) ∧
      (Slot.passes x = false → Completes .fwCommandDone s fun t =>
        t.fwBusy = false ∧ t.get SYS.FW_STAT_ERR = 2 ∧ t.get SYS.FW_STAT_STATE = 4)) ∧
    (s.ready = true → s.on SYS.FW_STAT_TRIAL = true → s.get SYS.FW_STAT_ERR ≠ 6 → Completes .trialTimeout s fun t =>
      t.get SYS.FW_STAT_ERR = 6 ∧ t.get SYS.FW_STAT_TRIAL_LEFT = 0 ∧ t.evt 0x00 1 = true)

/-- R20, R27, R28, R263, R437: the links to the dies, a reversed supply and the errors of memories. -/
def Obligations.DiesAndMemories : Prop :=
  ∀ s : State,
    (∀ g : Fin 4, s.coreOn = true → Completes (.vbatReversed g) s fun t =>
      (t.get SYS.RECOV_REV).testBit g = true ∧ t.on (LSG.GRP_STAT_UV g) = true ∧ t.evt 0x00 2 = true) ∧
    (∀ g : Fin 4, Completes (.switchDieHeartbeatLoss g) s fun t =>
      t.die[g].alive = false ∧ t.die[g].lost = true ∧ t.evt (pgLSG g) 2 = true ∧ (g = 0 → t.tracRel = false) ∧
        (g = 1 → t.sc.srcOn = false)) ∧
    (∀ d : Fin 2, Completes (.gateDieHeartbeatLoss d) s fun t => t.boot.gAlive[d] = false ∧
      ∀ ax : Fin 16, ax.val / 8 = d.val → t.on (AX.STAT_GATE_EN ax) = false) ∧
    (s.beats = true →
      (∀ d, Completes (.dieHeartbeat d false) s fun t => t = { s with out := s.out ++ [.heartbeat d] }) ∧
      (∀ g : Fin 4, Completes (.dieHeartbeat (.s g) true) s fun t => .heartbeat (.s g) ∈ t.out ∧ t.die[g].alive = true) ∧
      (∀ i : Fin 2, Completes (.dieHeartbeat (.g i) true) s fun t => .heartbeat (.g i) ∈ t.out ∧ t.boot.gAlive[i] = true ∧
        ∀ ax : Fin 16, ax.val / 8 = i.val → s.get (AX.FAULT_CAUSE ax) = 11 → t.on (AX.FAULT_ACTIVE ax) = false)) ∧
    (∀ loc,
      let counted (f : Fld) (t : State) : Prop := t.get f = min (s.get f + 1) (2 ^ f.width - 1)
      Completes (.eccError .vault loc true) s (fun t => counted VLT.ECC_CNT t ∧ t.evt 0x00 0 = true) ∧
      Completes (.eccError .journal loc true) s (fun t => counted LDG.ECC_CNT t ∧ t.evt 0x00 0 = true) ∧
      Completes (.eccError .sc loc true) s (fun t => counted SYS.ECC_CNT t ∧ t.evt 0x00 0 = true) ∧
      (∀ x, Completes (.eccError (.fabric (some x)) loc true) s fun t => counted HIF.ECC_CNT t ∧ t.evt 0x01 3 = true) ∧
      (∀ b p : Nat, Completes (.eccError (.index b p) loc true) s fun t => counted LDG.ECC_CNT t ∧ t.evt 0x00 0 = true) ∧
      (∀ (b : Fin 4) (p : Fin 16), Completes (.eccError (.canRam b p) loc true) s fun t => counted (CAN.RAM_ECC_CNT b) t) ∧
      Completes (.eccError .vault loc false) s (fun t => t.get VLT.FAULT_CAUSE = 4 ∧ t.word VLT.FAULT_LOC.addr = loc) ∧
      (∀ k, Completes (.eccError (.changeLog k) loc false) s fun t => t.vlt.log = s.vlt.log.eraseIdx k ∧ t.get VLT.FAULT_CAUSE = 6) ∧
      (∀ b p : Nat, Completes (.eccError (.nand b p false) loc false) s fun t =>
        ∀ x, s.ldg.blocks[b]? = some x → State.programmed x p = true → x.lost.contains p = false →
          ∃ y, t.ldg.blocks[b]? = some y ∧ y.lost.contains p = true ∧
            ∀ j, j < y.pages.length → State.unreadable y j = true → y.bad.contains j = true) ∧
      (∀ n : Fin 8, s.dwState n ≠ .fault → s.dwState n ≠ .isolated → Completes (.eccError (.doorEngine n) loc false) s fun t =>
        t.dwState n = .fault ∧ t.get (DW.FAULT_CAUSE n) = 11) ∧
      (s.coreOn = true → s.get SAF.STAT_SC_STATE < 2 → Completes (.eccError .sc loc false) s fun t =>
        t.get SAF.STAT_SC_STATE = 2 ∧ t.get SAF.FAULT_CAUSE = 2 ∧ t.word SAF.FAULT_LOC.addr = loc ∧ t.on ⟨SAF.SELFTEST.addr, 3, 1⟩ = false) ∧
      Completes (.eccError .le loc false) s (fun t => t.boot.leDown = true ∧ t.evt 0x00 0 = true) ∧
      Completes (.eccError .xe loc false) s (fun t => t.boot.xeDown = true ∧ t.on BRV.STAT_OWN_ALIVE = false) ∧
      Completes (.eccError .oe loc false) s (fun t => t.oe.down = true ∧ t.get OCC.FAULT_CAUSE = 1) ∧
      (∀ x : BitVec 20 × Bool, Completes (.eccError (.fabric (some x)) loc false) s fun t => t.get HIF.ERR_INFO_CAUSE = 8 ∧
        t.get HIF.ERR_ADDR_ADDR = x.1.toNat ∧ t.on HIF.ERR_INFO_WRITE = x.2 ∧ t.hif.qsErr = true ∧ t.evt 0x01 0 = true)) ∧
    Completes (.engineRestartDone .le) s (fun t => t.boot.leDown = false) ∧
    Completes (.engineRestartDone .xe) s (fun t => t.boot.xeDown = false)

/-- R5, R50 to R52: what a full write of a register stores in a field of each access class, on pages whose registers have no effect of
their own. -/
def Obligations.FieldsTakeTheirWrites : Prop :=
  ∀ (s : State) (addr : BitVec 20) (w : Word) (p : Place) (f : FieldRow),
    s.coreOn = true → s.ready = true → s.hostPort = true → addr.toNat % 4 = 0 → placeOf addr.toNat = some p → f ∈ p.row.fields →
    p.kind = .pbs ∨ p.kind = .enc ∨ p.kind = .cm ∨ p.kind = .sl ∧ p.off ≠ 0x0A0 →
    let old := fieldOf (s.word addr.toNat) f.lo f.width
    let v := fieldOf w f.lo f.width
    let takes (x : Nat) : Prop := Completes (.registerWrite addr w) s fun t => fieldOf (t.word addr.toNat) f.lo f.width = x
    let refused : Prop := takes old ∧
      Completes (.registerWrite addr w) s fun t => t.rejected (addr.toNat / 4096) (addr.toNat % 4096) = true
    let open_ : Prop := f.access = .rw ∨ f.access = .rws ∧ s.rwsOpen (addr.toNat / 4096) = true
    (f.access = .ro → takes old) ∧
    (f.access = .cnt → takes v) ∧
    (open_ → f.limit = .any → takes v) ∧
    (∀ lo hi : Int, open_ → f.limit = .range lo hi → 0 ≤ lo → lo ≤ hi → hi < 2 ^ f.width → takes (clampI lo hi v).toNat) ∧
    (∀ ok, open_ → f.limit = .codes ok → (ok.any fun r => decide (r.1 ≤ v ∧ v ≤ r.2)) = true → takes v) ∧
    (∀ ok, open_ → f.limit = .codes ok → (ok.any fun r => decide (r.1 ≤ v ∧ v ≤ r.2)) = false → refused) ∧
    (f.access = .rws → s.rwsOpen (addr.toNat / 4096) = false → refused)

/-- R31, R42 to R44, R47, R51, R87, R89, R163: accesses that the register window answers by itself: unmapped pages, 64-bit counters,
page enables and forced events; with HOSTSEL 3 no access reaches it. -/
def Obligations.WindowAnswers : Prop :=
  ∀ s : State, s.coreOn = true → s.ready = true →
    (s.hostPort = false → ∀ (addr : BitVec 20) (w : Word), Completes (.registerWrite addr w) s fun t => t.regs = s.regs ∧ t.dw = s.dw) ∧
    (s.hostPort = true → ∀ (addr : BitVec 20) wr, pageOf (addr.toNat / 4096) = none → Completes (.unmappedPageAccess addr wr) s fun t =>
      t.get HIF.ERR_INFO_CAUSE = 3 ∧ t.on HIF.ERR_INFO_WRITE = wr ∧ t.get HIF.ERR_ADDR_ADDR = addr.toNat ∧ t.evt 0x01 0 = true ∧
        (wr = false → .readData (wordBytes 0) ∈ t.out)) ∧
    (s.hostPort = true → ∀ addr : BitVec 20, addr.toNat % 4 = 0 → State.lowWord addr.toNat = true → Completes (.counter64LowRead addr) s fun t =>
      .readData (wordBytes (s.hostWord addr.toNat)) ∈ t.out ∧
        ∃ v, t.hiFrozen.find? (fun c => c.1 == addr.toNat + 4) = some (addr.toNat + 4, v) ∧
          (s.hiFrozen = [] → v = s.hostWord (addr.toNat + 4))) ∧
    (s.hostPort = true → ∀ (addr : BitVec 20) v, addr.toNat % 4 = 0 → 4 ≤ addr.toNat → State.lowWord (addr.toNat - 4) = true →
      s.hiFrozen.find? (fun c => c.1 == addr.toNat) = some (addr.toNat, v) → Completes (.counter64HighRead addr) s fun t =>
        .readData (wordBytes v) ∈ t.out ∧ t.hiFrozen.find? (fun c => c.1 == addr.toNat) = none) ∧
    (∀ (page : BitVec 8) k i, pageOf page.toNat = some (k, i) →
      (k = .pbs ∨ k = .til ∨ k = .vlt ∨ k = .brv ∨ k = .ldg ∨ k = .enc ∨ k = .cm → Completes (.pageEnable page) s fun t =>
        t.pageOn page.toNat = true) ∧
      (k = .pbs ∨ k = .til ∨ k = .vlt ∨ k = .ldg ∨ k = .enc ∨ k = .cm → Completes (.pageDisable page) s fun t =>
        t.pageOn page.toNat = false) ∧
      (alwaysEnabled k = true → Completes (.pageDisable page) s fun t => t.rejected page.toNat 0x004 = true ∧ t.dw = s.dw) ∧
      (s.hostPort = true → ∀ w : Word, Completes (.evtForce page w) s fun t => ∀ b < 32,
        w.getLsbD b = true → (eventBits k).testBit b = true → t.evt page.toNat b = true)) ∧
    (∀ n : Fin 8, s.pageOn (pgDW n) = false → s.edgesMissing n = true → Completes (.pageEnable (BitVec.ofNat 8 (pgDW n))) s fun t =>
      t.pageOn (pgDW n) = false ∧ t.rejected (pgDW n) 0x004 = true) ∧
    (∀ n : Fin 8, s.pageOn (pgDW n) = true → s.mayDisableDoor n = false → Completes (.pageDisable (BitVec.ofNat 8 (pgDW n))) s fun t =>
      t.pageOn (pgDW n) = true ∧ t.rejected (pgDW n) 0x004 = true) ∧
    (∀ n : Fin 8, s.mayDisableDoor n = true → Completes (.pageDisable (BitVec.ofNat 8 (pgDW n))) s fun t => t.pageOn (pgDW n) = false)

/-- R32 to R37, R48: the parallel bus and the quad SPI port. -/
def Obligations.SerialAndParallelPortsAct : Prop :=
  ∀ s : State,
    (s.onHpb = true →
      (∀ (addr : BitVec 20) (v : BitVec 16), Completes (.hpbLowHalfWrite addr v) s fun t =>
        t.hif.hold = some (State.wordOf addr, v) ∧ t.dw = s.dw) ∧
      (∀ (addr : BitVec 20) (v lo : BitVec 16), s.hif.hold = some (State.wordOf addr, lo) →
        exec (.hpbHighHalfWrite addr v) s = .next ((s.modHif fun x => { x with hold := none }).fullWrite (State.wordOf addr) (v ++ lo))) ∧
      (s.ready = true →
        (∀ (addr : BitVec 20) (v : BitVec 16), s.hif.hold = none → Completes (.hpbHighHalfWrite addr v) s fun t =>
          t.get HIF.ERR_INFO_CAUSE = 6 ∧ t.evt 0x01 0 = true ∧ t.dw = s.dw)) ∧
      (∀ addr : BitVec 20, Completes (.hpbLowHalfRead addr) s fun t =>
        let x := (s.fullRead (State.wordOf addr)).1
        .readData ((wordBytes x).take 2) ∈ t.out ∧ t.hif.latch = some (State.wordOf addr, x.extractLsb' 16 16)) ∧
      (∀ (addr : BitVec 20) (v : BitVec 16), s.hif.latch = some (State.wordOf addr, v) → Completes (.hpbHighHalfRead addr) s fun t =>
        t.out = s.out ++ [.readData [v.extractLsb' 0 8, v.extractLsb' 8 8]] ∧ t.hif.latch = none)) ∧
    (s.onQspi = true → s.ready = true →
      (∀ (addr : BitVec 24) bs, addr.toNat % 4 ≠ 0 → Completes (.qsWrite addr bs) s fun t =>
        t.get HIF.ERR_INFO_CAUSE = 7 ∧ t.hif.qsErr = true ∧ t.evt 0x01 0 = true ∧ t.dw = s.dw) ∧
      (∀ (addr : BitVec 24) bs, addr.toNat % 4 = 0 → Completes (.qsWrite addr bs) s fun t => t.hif.quad = t.on HIF.QS_CTRL_QUAD) ∧
      (∀ (addr : BitVec 24) b0 b1 b2 b3, addr.toNat % 4 = 0 → addr.toNat < 2 ^ 20 →
        exec (.qsWrite addr [b0, b1, b2, b3]) s =
          .next (((s.fullWrite addr.toNat (BitVec.ofNat 32 (ofLeBytes [b0, b1, b2, b3]))).quadTakes).hostWakes)) ∧
      (∀ cmd (addr : BitVec 24) len, State.qsUnknown cmd = true ∨ cmd = 0x03#8 ∧ s.hif.quad = true → Completes (.qsRead ⟨cmd, addr⟩ len) s fun t =>
        t.get HIF.ERR_INFO_CAUSE = 7 ∧ t.hif.qsErr = true ∧ t.evt 0x01 0 = true) ∧
      (∀ (addr : BitVec 24) len, s.hif.quad = false → Completes (.qsRead ⟨0x03#8, addr⟩ len) s fun t =>
        ∃ bs, bs.length = len ∧ t.out.getLast? = some (.readData bs)) ∧
      (∀ (addr : BitVec 24) len, Completes (.qsFastRead addr len) s fun t =>
        ∃ bs, bs.length = len ∧ t.out.getLast? = some (.readData bs)) ∧
      (∀ len, 0 < len → Completes (.qsStatus len) s fun t =>
        t.out = s.out ++ [.readData (List.replicate len s.qsStatusByte)] ∧ t.hif.qsErr = false)) ∧
    (s.onQspi = true → Completes .qsModeReset s fun t => t.hif.quad = false ∧ t.on HIF.QS_CTRL_QUAD = false)

/-- R38 to R41, R63, R64: the endpoint, its window, its configuration space and the masks of MSI. -/
def Obligations.EndpointActs : Prop :=
  ∀ s : State,
    (s.onPcie = true →
      (∀ (addr : BitVec 20) w,
        exec (.pcieBar0Write addr [(w, 0xF#4)]) s = .next (s.fullWrite (State.wordOf addr) w)) ∧
      (∀ (addr : BitVec 20) w (be : BitVec 4), s.ready = true → be ≠ 0xF#4 → Completes (.pcieBar0Write addr [(w, be)]) s fun t =>
        t.get HIF.ERR_INFO_CAUSE = (if contiguous be then 1 else 2) ∧ t.evt 0x01 0 = true ∧ t.dw = s.dw) ∧
      (∀ (addr : BitVec 20) len, Completes (.pcieBar0Read addr len) s fun t =>
        ∃ bs, bs.length = len ∧ t.out.getLast? = some (.readData bs)) ∧
      (s.ready = true → ∀ addr : BitVec 29,
        (∀ len, Completes (.pcieBar2Read addr len) s fun t =>
          t.out = s.out ++ [.readData ((List.range len).map fun i => s.dramAt ((addr.toNat + i) % 2 ^ 29))]) ∧
        Completes (.pcieBar2Write addr) s fun t =>
          t.get HIF.ERR_INFO_CAUSE = 5 ∧ t.on HIF.ERR_INFO_WRITE = true ∧ t.evt 0x01 0 = true ∧ t.pz = s.pz ∧ t.sl = s.sl ∧ t.ldg = s.ldg) ∧
      (s.boot.loaded = false → ∀ o wr, Completes (.pcieConfigRequest o wr) s fun t => t = s.emit .configRetry) ∧
      (s.boot.loaded = true →
        (∀ o : BitVec 12, Completes (.pcieConfigRequest o none) s fun t =>
          t = s.emit (.readData (wordBytes (s.configWord (o.toNat / 4 * 4))))) ∧
        (∀ w, Completes (.pcieConfigRequest 0x004 (some (w, 0xF#4))) s fun t => t.configWord 0x004 &&& 0x546 = w &&& 0x546)) ∧
      (∀ gen2, Completes (.pcieLinkChange true gen2) s fun t =>
        t.on HIF.PE_STAT_LINK_UP = true ∧ t.get HIF.PE_STAT_SPEED = if gen2 then 2 else 1) ∧
      (∀ gen2, Completes (.pcieLinkChange false gen2) s fun t => t.get HIF.PE_STAT = 0 ∧ t.pcieMask = 0) ∧
      (∀ v : Fin 16, s.pcieMask.testBit v = true → Completes (.msiUnmask v) s fun t =>
        t.pcieMask.testBit v = false ∧
          (s.hif.msiHeld.testBit v = true → s.vectorPending v = true → s.get HIF.PE_STAT_GRANTED ≠ 0 →
            .msi (v.val % s.get HIF.PE_STAT_GRANTED) ∈ t.out))) ∧
    Completes .pePerstAssert s (fun t => t.hif.perst = true ∧ t.get HIF.PE_STAT = 0 ∧ t.pcieMask = 0 ∧ t.hif.pcie = []) ∧
    (s.hif.perst = true → Completes .pePerstRelease s fun t => t.hif.perst = false ∧ t.regs = s.regs) ∧
    (s.ready = true → ∀ w : Word, s.vectorPending (fieldOf w 0 4) = true →
      (s.get HIF.PE_STAT_GRANTED ≠ 0 → s.pcieMask.testBit (fieldOf w 0 4) = false → Completes (.msiEoi w) s fun t =>
        t = s.emit (.msi (fieldOf w 0 4 % s.get HIF.PE_STAT_GRANTED))) ∧
      (s.get HIF.PE_STAT_GRANTED = 0 ∨ s.pcieMask.testBit (fieldOf w 0 4) = true → Completes (.msiEoi w) s fun t =>
        t.out = s.out ∧ t.hif.msiHeld.testBit (fieldOf w 0 4) = true))

/-- R31, R56 to R58: the keys of the watchdog, its expiry and its re-arming; with HOSTSEL 3 no key arrives. -/
def Obligations.WatchdogActs : Prop :=
  ∀ s : State, s.ready = true →
    let expired (cause : Nat) (t : State) : Prop :=
      t.wdState = 2 ∧ t.get HIF.WD_STAT_CAUSE = cause ∧ t.evt 0x01 2 = true ∧ t.onBlocked = true ∧
        t.get HIF.WD_EXP_CNT_COUNT = min (s.get HIF.WD_EXP_CNT_COUNT + 1) 65535 ∧
        ∀ n : Fin 8, t.on (DW.STATE_HOST_BLOCK n) = true
    (s.hostPort = false → (∀ w, Completes (.wdKeyWrite w) s fun t => t = s) ∧ Completes .rearm s fun t => t = s) ∧
    (s.wdState = 0 →
      (s.hostPort = true → s.usSince s.hif.wdAt ≤ 1000 * s.hif.wdBoot → Completes (.wdKeyWrite wdFirstKey) s fun t => t.wdState = 1 ∧ t.on HIF.WD_STAT_NEXT = true ∧ t.onBlocked = false ∧
        t.hif.wdAt = s.clk32 ∧ t.hif.wdMax = s.get HIF.WD_MAX_MAX ∧ ∀ n : Fin 8, t.on (DW.STATE_HOST_BLOCK n) = false) ∧
      (s.hostPort = true → 1000 * s.hif.wdBoot < s.usSince s.hif.wdAt → Completes (.wdKeyWrite wdFirstKey) s (expired 4)) ∧
      (s.hostPort = true → ∀ w, w ≠ wdFirstKey → Completes (.wdKeyWrite w) s (expired 2)) ∧
      Completes .wdBootExpired s (expired 4)) ∧
    (s.wdState = 1 →
      let due := if s.on HIF.WD_STAT_NEXT then wdSecondKey else wdFirstKey
      (s.hostPort = true → 1000 * s.hif.wdMin ≤ s.usSince s.hif.wdAt → s.usSince s.hif.wdAt ≤ 1000 * s.hif.wdMax →
        Completes (.wdKeyWrite due) s fun t =>
        t.wdState = 1 ∧ t.on HIF.WD_STAT_NEXT = (!s.on HIF.WD_STAT_NEXT) ∧ t.hif.wdAt = s.clk32) ∧
      (s.hostPort = true → s.usSince s.hif.wdAt < 1000 * s.hif.wdMin → Completes (.wdKeyWrite due) s (expired 1)) ∧
      (s.hostPort = true → 1000 * s.hif.wdMin ≤ s.usSince s.hif.wdAt → 1000 * s.hif.wdMax < s.usSince s.hif.wdAt →
        Completes (.wdKeyWrite due) s (expired 3)) ∧
      (s.hostPort = true → ∀ w, w ≠ due → Completes (.wdKeyWrite w) s (expired 2)) ∧
      Completes .wdMaxExpired s (expired 3) ∧
      (s.hif.warned = false → Completes .wdWarn s fun t => t.evt 0x01 1 = true ∧ t.hif.warned = true)) ∧
    (s.wdState = 2 →
      (s.hostPort = true → Completes .rearm s fun t => t.wdState = 0 ∧ t.hif.wdBoot = s.get HIF.WD_BOOT_BOOT ∧ t.hif.wdAt = s.clk32 ∧
        t.onBlocked = s.onBlocked) ∧
      (∀ w, Completes (.wdKeyWrite w) s fun t => t = s)) ∧
    (s.wdState ≠ 2 → Completes .rearm s fun t => t = s)

/-- R60: the summary words show the pending sources, a write of them changes nothing, and an event is cleared at its page. -/
def Obligations.EventSummariesShowSources : Prop :=
  ∀ (s : State) (k : Nat), k < 3 →
    (s.frozen = [] → s.hiFrozen = [] → ∀ i, i < 32 → (s.hostWord (0x02040 + 4 * k)).getLsbD i = s.srcPending (32 * k + i)) ∧
    (∀ w, Completes (.registerWrite (BitVec.ofNat 20 (0x02040 + 4 * k)) w) s fun t =>
      t.liveWord (0x02040 + 4 * k) = s.liveWord (0x02040 + 4 * k)) ∧
    (∀ page, page < 256 → (pageOf page).isSome = true → s.reaches (4096 * page + 0x00C) = true → ∀ w,
      Completes (.registerWrite (BitVec.ofNat 20 (4096 * page + 0x00C)) w) s fun t =>
        ∀ b, b < 32 → t.evt page b = (s.evt page b && !w.getLsbD b))

/-- R257: a doorway with a safety role that it uses on an input that is not safety-marked is not enabled. -/
def Obligations.UnsafeRolesRefuseEnable : Prop :=
  ∀ (s : State) (n : Fin 8) (role di : Nat), s.ready = true → role ∈ s.safeRoles n →
    s.roleDi n role = some di → s.diSafe di = false → s.pageOn (pgDW n) = false →
    let refused (t : State) : Prop := t.rejected (pgDW n) 0x004 = true ∧ t.pageOn (pgDW n) = false
    Completes (.pageEnable (BitVec.ofNat 8 (pgDW n))) s refused ∧
    ∀ w : Word, w.getLsbD 0 = true → s.reaches (4096 * pgDW n + 0x004) = true →
      Completes (.registerWrite (BitVec.ofNat 20 (4096 * pgDW n + 0x004)) w) s refused

/-- R41: PE_PERST_N and the loss of the link change the endpoint alone; no doorway sees them. -/
def Obligations.EndpointResetsAlone : Prop :=
  ∀ s : State,
    let endpointOnly (t : State) : Prop :=
      t = { s with
        regs := t.regs, pcieMask := t.pcieMask,
        hif := { s.hif with pcie := t.hif.pcie, perst := t.hif.perst, subsys := t.hif.subsys } } ∧
      ∀ a, a ≠ HIF.PE_STAT.addr → t.word a = s.word a
    let reset (t : State) : Prop := t.word HIF.PE_STAT.addr = 0 ∧ t.pcieMask = 0 ∧ t.hif.pcie = []
    Completes .pePerstAssert s (fun t => endpointOnly t ∧ reset t ∧ t.hif.perst = true) ∧
    (∀ gen2, s.onPcie = true → Completes (.pcieLinkChange false gen2) s fun t => endpointOnly t ∧ reset t) ∧
    Completes .pePerstRelease s (fun t => endpointOnly t ∧ t.hif.perst = false)

/-- R47: a read of the low word of a 64-bit counter freezes the high word until it is read, or the low word is read again; without
one the high word is live; two words read as one span belong together. -/
def Obligations.HighWordFreezes : Prop :=
  ∀ (s : State) (addr : BitVec 20), State.lowWord addr.toNat = true → s.reaches addr.toNat = true →
    let a := addr.toNat
    let live (u : State) : Word := { u with hiFrozen := u.hiFrozen.filter (fun c => c.1 != a + 4) }.hostWord (a + 4)
    Completes (.counter64LowRead addr) s (fun t =>
      t.out = s.out ++ [.readData (wordBytes (s.hostWord a))] ∧
        ∀ u : State, u.hiFrozen = t.hiFrozen → u.hostWord (a + 4) = live s) ∧
    Completes (.counter64HighRead (addr + 4)) s (fun t =>
      t.out = s.out ++ [.readData (wordBytes (s.hostWord (a + 4)))] ∧
        (s.hiFrozen.all (fun c => c.1 != a + 4) = true → s.hostWord (a + 4) = live s) ∧
        t.hostWord (a + 4) = live t) ∧
    (s.onQspi = true → s.ready = true → s.hif.quad = false → Completes (.qsRead ⟨0x03#8, addr.setWidth 24⟩ 8) s fun t =>
      t.out = s.out ++ [.readData (wordBytes (s.hostWord a) ++ wordBytes (live s))]) ∧
    (s.onPcie = true → Completes (.pcieBar0Read addr 8) s fun t =>
      t.out = s.out ++ [.readData (wordBytes (s.hostWord a) ++ wordBytes (live s))])

/-- R33, R34, R42, R44, R47, R48: what reads leave alone: everything but the latches of the ports, the two windows that pop, the marks
of a refused access and the wake from WATCH. -/
def Obligations.ReadsLeaveTheBlock : Prop :=
  ∀ s : State,
    let leaves (t : State) : Prop :=
      t = { s with
        regs := t.regs, out := t.out, free := t.free, hiFrozen := t.hiFrozen, stl := { s.stl with tx := t.stl.tx },
        cel := { s.cel with waking := t.cel.waking },
        hif := { s.hif with latch := t.hif.latch, qsErr := t.hif.qsErr, msiHeld := t.hif.msiHeld } } ∧
      ∀ a, a / 4096 ∉ [0x01, 0x03, 0x05, 0x0A, 0x0C] → t.word a = s.word a
    (∀ addr : BitVec 20,
      Completes (.hpbLowHalfRead addr) s leaves ∧ Completes (.hpbHighHalfRead addr) s leaves ∧
      Completes (.counter64LowRead addr) s leaves ∧ Completes (.counter64HighRead addr) s leaves ∧
      Completes (.unmappedPageAccess addr false) s leaves ∧ ∀ len, Completes (.pcieBar0Read addr len) s leaves) ∧
    (∀ (addr : BitVec 24) len, (∀ cmd, Completes (.qsRead ⟨cmd, addr⟩ len) s leaves) ∧ Completes (.qsFastRead addr len) s leaves) ∧
    (∀ len, Completes (.qsStatus len) s leaves) ∧
    (∀ (addr : BitVec 29) len, Completes (.pcieBar2Read addr len) s leaves) ∧
    Completes .rdWinRead s leaves ∧ Completes .txWinRead s leaves

/-- R378 to R380, R382, R385 to R387, R434: queries touch no record, the password commands no bank and no change log, the firmware
commands no page but SYS and, CONFIRM apart, only the idle NOR slot. -/
def Obligations.StoresAreLeftAlone : Prop :=
  ∀ s : State,
    let query (t : State) : Prop :=
      t = { s with
        regs := t.regs, out := t.out, free := t.free,
        ldg := { s.ldg with
          req := t.ldg.req, held := t.ldg.held, query := t.ldg.query, staged := t.ldg.staged, dma := t.ldg.dma },
        hif := { s.hif with msiHeld := t.hif.msiHeld } } ∧
      ∀ a, a / 4096 ≠ 0x0C → t.word a = s.word a
    let password (t : State) : Prop :=
      t = { s with
        regs := t.regs, out := t.out, free := t.free, journal := t.journal,
        ldg := { s.ldg with jnext := t.ldg.jnext },
        par := { s.par with seq0 := t.par.seq0, seq1 := t.par.seq1, unacked := t.par.unacked },
        vlt := { s.vlt with
          pw := t.vlt.pw, newPw := t.vlt.newPw, checking := t.vlt.checking, sessions := t.vlt.sessions, sessAt := t.vlt.sessAt,
          lockAt := t.vlt.lockAt },
        hif := { s.hif with msiHeld := t.hif.msiHeld } } ∧
      ∀ a, a / 4096 ∉ [0x07, 0x0C] → t.word a = s.word a
    let firmware (t : State) : Prop :=
      t = { s with
        regs := t.regs, out := t.out,
        boot := { s.boot with
          slotA := t.boot.slotA, slotB := t.boot.slotB, fwMin := t.boot.fwMin, cmd := t.boot.cmd, srstAt := t.boot.srstAt },
        hif := { s.hif with msiHeld := t.hif.msiHeld } } ∧
      ∀ a, a / 4096 ≠ 0x00 → t.word a = s.word a
    let idleOnly (t : State) : Prop := firmware t ∧ t.norSlot (!s.idle) = s.norSlot (!s.idle) ∧ t.boot.fwMin = s.boot.fwMin
    Completes .ldgQryReq s query ∧ Completes .ldgQryNext s query ∧ Completes .ldgQryDone s query ∧ Completes .rdWinRead s query ∧
    Completes .dmaGo s query ∧ Completes .dmaAbort s query ∧ Completes .dmaDone s query ∧ Completes .ldgClr s query ∧
    (∀ w, Completes (.pwWinWrite w) s password) ∧ Completes .unlock s password ∧ Completes .newpw s password ∧
    Completes .lockoutEnd s password ∧ Completes .passwordCheckDone s password ∧
    (∀ w, Completes (.srstKeyWrite w) s idleOnly) ∧ (∀ w, Completes (.fwWinWrite w) s idleOnly) ∧
    Completes .erase s idleOnly ∧ Completes .verify s idleOnly ∧ Completes .fwCommandDone s idleOnly ∧
    Completes .trialTimeout s idleOnly ∧ Completes .confirm s firmware

/-- R404 to R416: a CAN controller's commands stay in its own page, its own message RAM, the ledger's page and the telegrams for SC. -/
def Obligations.CanControllersStayApart : Prop :=
  ∀ (s : State) (b : Fin 4),
    let own (t : State) : Prop :=
      t = { s with
        regs := t.regs, out := t.out, free := t.free, journal := t.journal, faultCnt := t.faultCnt, can := t.can,
        stl := { s.stl with rx := t.stl.rx },
        ldg := { s.ldg with jnext := t.ldg.jnext },
        par := { s.par with seq0 := t.par.seq0, seq1 := t.par.seq1, unacked := t.par.unacked },
        hif := { s.hif with msiHeld := t.hif.msiHeld } } ∧
      (∀ b' : Fin 4, b' ≠ b → t.can[b'] = s.can[b']) ∧
      ∀ a, a / 4096 ≠ pgCAN b → a / 4096 ≠ 0x0C → (∀ p, p < 16 → ∀ i, i < 1008 → a ≠ State.ramWord b p i) → t.word a = s.word a
    (∀ f, Completes (.canFrameReceived b f) s own) ∧
    (∀ buf, Completes (.canTxReq b buf) s own ∧ ∀ won, Completes (.txCancel b buf won) s own) ∧
    Completes (.canTxComplete b) s own ∧
    (∀ err data, Completes (.canTxError b err data) s own ∧ Completes (.canRxError b err data) s own) ∧
    Completes (.boRecover b) s own ∧ Completes (.boDelayExpired b) s own ∧ Completes (.busOffRecoveryDone b) s own ∧
    Completes (.canIntegrated b) s own ∧ (∀ q w, Completes (.queueRel b q w) s own) ∧ (∀ w, Completes (.tlogRel b w) s own) ∧
    Completes (.canRxStuck b) s own ∧ Completes (.canClr b) s own

/-- R113 to R129: what the drive commands of an axis leave alone. -/
def Obligations.AxesStayApart : Prop :=
  ∀ (s : State) (ax : Fin 16),
    let own (t : State) : Prop :=
      t = { s with
        regs := t.regs, out := t.out, free := t.free, journal := t.journal, faultCnt := t.faultCnt, ax := t.ax,
        pan := { s.pan with resv := t.pan.resv, reqs := t.pan.reqs },
        ldg := { s.ldg with jnext := t.ldg.jnext },
        par := { s.par with seq0 := t.par.seq0, seq1 := t.par.seq1, unacked := t.par.unacked },
        hif := { s.hif with msiHeld := t.hif.msiHeld } } ∧
      (∀ a : Fin 16, a ≠ ax → t.ax[a] = s.ax[a]) ∧
      ∀ a, a / 4096 ≠ pgAX ax → a / 4096 ≠ 0x0C → t.word a = s.word a
    (∀ iu iv iw, Completes (.currentLoopCycle ax iu iv iw) s own) ∧
    Completes (.profHoldClear ax) s own ∧ Completes (.followingError ax) s own ∧
    Completes (.i2t ax) s own ∧ Completes (.i2tRelease ax) s own ∧
    (∀ phase, Completes (.bootstrapUndervoltage ax phase) s own ∧ Completes (.shuntOvercurrent ax phase) s own ∧
      Completes (.shuntOffsetFault ax phase) s own ∧
      ∀ high, Completes (.desaturation ax phase high) s own ∧ Completes (.gateReadbackMismatch ax phase high) s own) ∧
    Completes (.phaseSumFault ax) s own ∧ Completes (.openPhase ax) s own ∧ Completes (.axisClr ax) s own ∧
    (∀ good high, Completes (.axisOffsetMeasured ax good high) s own) ∧
    (∀ high, Completes (.prechargeEnd ax high) s own) ∧ (∀ bridge, Completes (.gateTakeover ax bridge) s own)

/-- R135 to R157: what the commands of a feedback port and of an encoder output leave alone. -/
def Obligations.PortsStayApart : Prop :=
  ∀ s : State,
    (∀ p : Fin 16,
      let own (t : State) : Prop :=
        t = { s with
          regs := t.regs, out := t.out, free := t.free, journal := t.journal, faultCnt := t.faultCnt, ax := t.ax, fb := t.fb, enc := t.enc,
          pan := { s.pan with resv := t.pan.resv, reqs := t.pan.reqs },
          ldg := { s.ldg with jnext := t.ldg.jnext },
          par := { s.par with seq0 := t.par.seq0, seq1 := t.par.seq1, unacked := t.par.unacked },
          hif := { s.hif with msiHeld := t.hif.msiHeld } } ∧
        (∀ q : Fin 16, q ≠ p → t.fb[q] = s.fb[q]) ∧ (∀ ax : Fin 16, ax ∉ s.usersOf p → t.ax[ax] = s.ax[ax]) ∧
        ∀ a, a / 4096 ∉ [pgFB p, 0x0F, 0x0C] → (∀ ax ∈ s.usersOf p, a / 4096 ≠ pgAX ax) → t.word a = s.word a
      (∀ a b i dt, Completes (.quadEdge p a b i dt) s own) ∧ (∀ code dt, Completes (.hallSectorChange p code dt) s own) ∧
      (∀ f dt, Completes (.ssiFrameReceived p f dt) s own) ∧ Completes (.index p) s own ∧ Completes (.indexStuck p) s own ∧
      Completes (.hallInvalidTimeout p) s own ∧ Completes (.ssiFrameStart p) s own ∧ Completes (.ssiClockTakeover p) s own ∧
      Completes (.idxMiss p) s own ∧ Completes (.idxRearm p) s own ∧ Completes (.stillTimeout p) s own ∧
      (∀ pair, Completes (.wireBreak p pair) s own ∧ Completes (.wireBreakCleared p pair) s own) ∧
      Completes (.directionMismatch p) s own ∧ Completes (.fbClr p) s own) ∧
    (∀ e : Fin 4, Completes (.encoOutputEdge e) s fun t =>
      t = { s with regs := t.regs, out := t.out, enc := t.enc } ∧ (∀ e' : Fin 4, e' ≠ e → t.enc[e'] = s.enc[e']) ∧
        ∀ a, a / 4096 ≠ 0x0F → t.word a = s.word a)

/-- R291 to R313: what the commands of a load channel and of a group leave alone. -/
def Obligations.ChannelsStayApart : Prop :=
  ∀ s : State,
    (∀ c : Fin 48,
      let own (t : State) : Prop :=
        t = { s with
          regs := t.regs, out := t.out, journal := t.journal, faultCnt := t.faultCnt, ch := t.ch,
          ldg := { s.ldg with jnext := t.ldg.jnext },
          par := { s.par with seq0 := t.par.seq0, seq1 := t.par.seq1, unacked := t.par.unacked },
          hif := { s.hif with msiHeld := t.hif.msiHeld } } ∧
        (∀ d : Fin 48, d ≠ c → t.ch[d] = s.ch[d] ∧ t.word (State.chStat d).addr = s.word (State.chStat d).addr ∧
          t.on (State.onBit d) = s.on (State.onBit d)) ∧
        ∀ a, a / 4096 ≠ pgLSG (groupOf c) → a / 4096 ≠ 0x0C → t.word a = s.word a
      Completes (.inrushWindowEnd c) s own ∧ Completes (.limitHoldTrip c) s own ∧ Completes (.overloadTrip c) s own ∧
      Completes (.shortToGround c) s own ∧ Completes (.thermalShutdown c) s own ∧ Completes (.channelCooled c) s own ∧
      Completes (.freewheelMissing c) s own ∧ Completes (.retryTimer c) s own ∧ Completes (.retryRefill c) s own ∧
      Completes (.holdTimeout c) s own ∧ (∀ cleared, Completes (.openLoadOn c cleared) s own) ∧
      (∀ result, Completes (.offStateTest c result) s own)) ∧
    (∀ g : Fin 4,
      let own (pages : List Nat) (t : State) : Prop :=
        t = { s with regs := t.regs, out := t.out, ch := t.ch, hif := { s.hif with msiHeld := t.hif.msiHeld } } ∧
        (∀ d : Fin 48, groupOf d ≠ g → t.ch[d] = s.ch[d]) ∧ ∀ a, a / 4096 ∉ pages → t.word a = s.word a
      (∀ mask, Completes (.lsgClr g mask) s (own [pgLSG g])) ∧ (∀ code, Completes (.sselChange g code) s (own [pgLSG 0, pgLSG 1, pgLSG 2, pgLSG 3])) ∧
      (∀ m, Completes (.senseSnapshot g m) s (own [pgLSG g])) ∧
      Completes (.groupOvercurrent g) s (own [pgLSG g]) ∧ Completes (.groupOverClear g) s (own [pgLSG g]) ∧
      ∀ mv10, Completes (.groupUndervoltage g mv10) s (own [pgLSG g, 0x05]) ∧
        Completes (.groupVoltageReturn g mv10) s fun t =>
          own [pgLSG g, 0x05, 0x0E] { t with diFilt := s.diFilt, diCnt := s.diCnt } ∧
            ∀ i : Fin 64, i.val / 16 ≠ g.val → t.diFilt.getLsbD i = s.diFilt.getLsbD i ∧ t.diCnt[i] = s.diCnt[i])

end
end

