-- ==== Sys2Proof/Laws/Cells.lean ====
section
/-! SUPPORT. The laws of the register window's cells: a write keeps the canonical form, a read after a write gives the word written,
and every other word is as it was. -/

namespace Sys2Proof.Machine

theorem cellsWf_cons {d : Nat → Word} {k : Nat} {v : Word} {t : Cells} :
    cellsWf d ((k, v) :: t) = true ↔ v ≠ d k ∧ (∀ c ∈ t, k < c.1) ∧ cellsWf d t = true := by
  simp [cellsWf, and_assoc]

theorem cellsWf_filter {d : Nat → Word} {p : Nat × Word → Bool} {m : Cells} (h : cellsWf d m = true) :
    cellsWf d (m.filter p) = true := by
  induction m with
  | nil => rfl
  | cons c t ih =>
    obtain ⟨hv, hk, ht⟩ := cellsWf_cons.1 h
    by_cases hp : p c
    · rw [List.filter_cons_of_pos hp]
      exact cellsWf_cons.2 ⟨hv, fun x hx => hk x (List.mem_filter.1 hx).1, ih ht⟩
    · rw [List.filter_cons_of_neg hp]
      exact ih ht

theorem mem_cellInsert {k : Nat} {v : Word} {m : Cells} {c : Nat × Word} (h : c ∈ cellInsert k v m) : c = (k, v) ∨ c ∈ m := by
  induction m with
  | nil => simpa [cellInsert] using h
  | cons c' t ih =>
    simp only [cellInsert] at h
    split at h
    · simpa using h
    · rcases List.mem_cons.1 h with h | h
      · exact .inr (by simp [h])
      · rcases ih h with h | h
        · exact .inl h
        · exact .inr (by simp [h])

theorem cellsWf_cellInsert {d : Nat → Word} {k : Nat} {v : Word} {m : Cells} (h : cellsWf d m = true) (hv : v ≠ d k)
    (hk : ∀ c ∈ m, c.1 ≠ k) : cellsWf d (cellInsert k v m) = true := by
  induction m with
  | nil => simp [cellInsert, cellsWf, hv]
  | cons c t ih =>
    obtain ⟨hc, hlt, ht⟩ := cellsWf_cons.1 h
    have hne : c.1 ≠ k := hk c (by simp)
    simp only [cellInsert]
    split
    · rename_i hlt'
      refine cellsWf_cons.2 ⟨hv, fun x hx => ?_, h⟩
      rcases List.mem_cons.1 hx with hx | hx
      · rw [hx]; exact hlt'
      · exact Nat.lt_trans hlt' (hlt x hx)
    · rename_i hnlt
      refine cellsWf_cons.2 ⟨hc, fun x hx => ?_, ih ht fun x hx => hk x (by simp [hx])⟩
      rcases mem_cellInsert hx with hx | hx
      · rw [hx]; exact Nat.lt_of_le_of_ne (Nat.not_lt.1 hnlt) hne
      · exact hlt x hx

/-- A write keeps the canonical form. -/
theorem cellsWf_cellSet {d : Nat → Word} {m : Cells} (k : Nat) (v : Word) (h : cellsWf d m = true) :
    cellsWf d (cellSet d m k v) = true := by
  simp only [cellSet]
  split
  · exact cellsWf_filter h
  · rename_i hv
    exact cellsWf_cellInsert (cellsWf_filter h) hv fun c hc => by simpa using (List.mem_filter.1 hc).2

theorem cellGet_filter_ne {d : Nat → Word} {k k' : Nat} {m : Cells} (h : k' ≠ k) :
    cellGet d (m.filter fun c => decide (c.1 ≠ k)) k' = cellGet d m k' := by
  induction m with
  | nil => rfl
  | cons c t ih =>
    by_cases hc : c.1 = k
    · rw [List.filter_cons_of_neg (by simp [hc]), ih]
      simp [cellGet, hc, Ne.symm h]
    · rw [List.filter_cons_of_pos (by simp [hc])]
      simp only [cellGet, ih]

theorem cellGet_filter_same {d : Nat → Word} {k : Nat} {m : Cells} :
    cellGet d (m.filter fun c => decide (c.1 ≠ k)) k = d k := by
  induction m with
  | nil => rfl
  | cons c t ih =>
    by_cases hc : c.1 = k
    · rw [List.filter_cons_of_neg (by simp [hc]), ih]
    · rw [List.filter_cons_of_pos (by simp [hc])]
      simp only [cellGet, hc, if_false, ih]

theorem cellGet_cellInsert_same {d : Nat → Word} {k : Nat} {v : Word} {m : Cells} (hk : ∀ c ∈ m, c.1 ≠ k) :
    cellGet d (cellInsert k v m) k = v := by
  induction m with
  | nil => simp [cellInsert, cellGet]
  | cons c t ih =>
    simp only [cellInsert]
    split
    · simp [cellGet]
    · simp only [cellGet]
      rw [if_neg (hk c (by simp))]
      exact ih fun x hx => hk x (by simp [hx])

theorem cellGet_cellInsert_ne {d : Nat → Word} {k k' : Nat} {v : Word} {m : Cells} (h : k' ≠ k) :
    cellGet d (cellInsert k v m) k' = cellGet d m k' := by
  induction m with
  | nil => simp [cellInsert, cellGet, Ne.symm h]
  | cons c t ih =>
    simp only [cellInsert]
    split
    · simp [cellGet, Ne.symm h]
    · simp only [cellGet, ih]

/-- A read after a write to the same address gives the word written. -/
theorem cellGet_cellSet_same {d : Nat → Word} {m : Cells} {k : Nat} {v : Word} : cellGet d (cellSet d m k v) k = v := by
  simp only [cellSet]
  split
  · rename_i h; rw [cellGet_filter_same, h]
  · exact cellGet_cellInsert_same fun c hc => by simpa using (List.mem_filter.1 hc).2

/-- A write leaves every other address alone. -/
theorem cellGet_cellSet_ne {d : Nat → Word} {m : Cells} {k k' : Nat} {v : Word} (h : k' ≠ k) :
    cellGet d (cellSet d m k v) k' = cellGet d m k' := by
  simp only [cellSet]
  split
  · exact cellGet_filter_ne h
  · rw [cellGet_cellInsert_ne h, cellGet_filter_ne h]

end Sys2Proof.Machine
end

