-- ==== Sys2Proof/Laws/Fields.lean ====
section
/-! SUPPORT. The laws of register fields: what a field reads after it was written, and what every other field and word reads. -/

namespace Sys2Proof.Machine

/-- A field lies within its 32-bit word. -/
abbrev Fld.fits (f : Fld) : Prop := f.lo + f.width ≤ 32

/-- Two fields share no bit. -/
abbrev Fld.apart (f g : Fld) : Prop := f.addr ≠ g.addr ∨ f.lo + f.width ≤ g.lo ∨ g.lo + g.width ≤ f.lo

theorem testBit_mask {width i : Nat} : (2 ^ width - 1).testBit i = decide (i < width) := Nat.testBit_two_pow_sub_one width i

theorem getLsbD_mask {width i : Nat} (h : width ≤ 32) : (BitVec.ofNat 32 (2 ^ width - 1)).getLsbD i = decide (i < width) := by
  rw [BitVec.getLsbD_ofNat, testBit_mask]
  by_cases hi : i < width
  · simp [hi, Nat.lt_of_lt_of_le hi h]
  · simp [hi]

theorem getLsbD_fieldPut {w : Word} {lo width v i : Nat} (h : lo + width ≤ 32) :
    (fieldPut w lo width v).getLsbD i = if lo ≤ i ∧ i < lo + width then v.testBit (i - lo) else w.getLsbD i := by
  have hw : width ≤ 32 := by omega
  unfold fieldPut fieldMask
  by_cases h32 : i < 32
  · simp only [BitVec.getLsbD_or, BitVec.getLsbD_and, BitVec.getLsbD_not, BitVec.getLsbD_shiftLeft, h32, decide_true, Bool.true_and,
      getLsbD_mask hw, BitVec.getLsbD_ofNat]
    by_cases h1 : i < lo
    · simp [h1, Nat.not_le.2 h1]
    · have h2 : (i - lo < width) ↔ i < lo + width := by omega
      have h3 : i - lo < 32 := by omega
      by_cases h4 : i < lo + width
      · simp [h1, h2, h3, h4, Nat.not_lt.1 h1]
      · simp [h1, h2, h3, h4]
  · have h4 : ¬(lo ≤ i ∧ i < lo + width) := by omega
    rw [if_neg h4, BitVec.getLsbD_of_ge _ _ (by omega), BitVec.getLsbD_of_ge _ _ (by omega)]

theorem getLsbD_fieldVec {w : Word} {lo width i : Nat} (h : width ≤ 32) :
    ((w >>> lo) &&& BitVec.ofNat 32 (2 ^ width - 1)).getLsbD i = (decide (i < width) && w.getLsbD (lo + i)) := by
  simp only [BitVec.getLsbD_and, BitVec.getLsbD_ushiftRight, getLsbD_mask h]
  exact Bool.and_comm _ _

theorem fieldOf_ext {w w' : Word} {lo width : Nat} (h : width ≤ 32)
    (hw : ∀ i, i < width → w.getLsbD (lo + i) = w'.getLsbD (lo + i)) : fieldOf w lo width = fieldOf w' lo width := by
  unfold fieldOf
  congr 1
  apply BitVec.eq_of_getLsbD_eq
  intro i _
  rw [getLsbD_fieldVec h, getLsbD_fieldVec h]
  by_cases hi : i < width
  · simp [hi, hw i hi]
  · simp [hi]

theorem fieldOf_lt {w : Word} {lo width : Nat} : fieldOf w lo width < 2 ^ width := by
  unfold fieldOf
  rw [BitVec.toNat_and, BitVec.toNat_ofNat]
  have h1 : (2 ^ width - 1) % 2 ^ 32 ≤ 2 ^ width - 1 := Nat.mod_le _ _
  have h2 : (w >>> lo).toNat &&& (2 ^ width - 1) % 2 ^ 32 ≤ (2 ^ width - 1) % 2 ^ 32 := Nat.and_le_right
  have h3 : 0 < 2 ^ width := Nat.two_pow_pos _
  omega

/-- A field written reads the value, cut to its width. -/
theorem fieldOf_fieldPut_same {w : Word} {lo width v : Nat} (h : lo + width ≤ 32) :
    fieldOf (fieldPut w lo width v) lo width = v % 2 ^ width := by
  unfold fieldOf
  apply Nat.eq_of_testBit_eq
  intro i
  have h1 : (((fieldPut w lo width v) >>> lo) &&& BitVec.ofNat 32 (2 ^ width - 1)).toNat.testBit i =
      (((fieldPut w lo width v) >>> lo) &&& BitVec.ofNat 32 (2 ^ width - 1)).getLsbD i := by rw [BitVec.testBit_toNat]
  rw [h1, getLsbD_fieldVec (by omega), getLsbD_fieldPut h, Nat.testBit_mod_two_pow]
  by_cases hi : i < width
  · simp [hi]
  · simp [hi]

/-- Bits outside the field written are as they were. -/
theorem fieldOf_fieldPut_apart {w : Word} {lo width v lo' width' : Nat} (h : lo + width ≤ 32) (h' : width' ≤ 32)
    (ha : lo + width ≤ lo' ∨ lo' + width' ≤ lo) : fieldOf (fieldPut w lo width v) lo' width' = fieldOf w lo' width' := by
  apply fieldOf_ext h'
  intro i hi
  rw [getLsbD_fieldPut h, if_neg]
  omega

namespace State

@[simp] theorem word_setWord_same {s : State} {a : Nat} {w : Word} : (s.setWord a w).word a = w := cellGet_cellSet_same
theorem word_setWord_ne {s : State} {a b : Nat} {w : Word} (h : b ≠ a) : (s.setWord a w).word b = s.word b := cellGet_cellSet_ne h

theorem word_set_ne {s : State} {f : Fld} {v b : Nat} (h : b ≠ f.addr) : (s.set f v).word b = s.word b := word_setWord_ne h
theorem word_set_same {s : State} {f : Fld} {v : Nat} : (s.set f v).word f.addr = fieldPut (s.word f.addr) f.lo f.width v :=
  word_setWord_same

/-- A field written reads the value, cut to its width. -/
theorem get_set_same {s : State} {f : Fld} {v : Nat} (h : f.fits) : (s.set f v).get f = v % 2 ^ f.width := by
  unfold get
  rw [word_set_same]
  exact fieldOf_fieldPut_same h

/-- Every field apart from the one written reads as before. -/
theorem get_set_apart {s : State} {f g : Fld} {v : Nat} (hf : f.fits) (hg : g.fits) (h : g.apart f) : (s.set f v).get g = s.get g := by
  unfold get
  by_cases ha : g.addr = f.addr
  · rw [ha, word_set_same, ← ha]
    unfold Fld.fits at hf hg
    rcases h with h | h | h
    · exact absurd ha h
    · exact fieldOf_fieldPut_apart hf (by omega) (.inr h)
    · exact fieldOf_fieldPut_apart hf (by omega) (.inl h)
  · rw [word_set_ne ha]

/-- A field of a register that was written whole. -/
theorem get_set_whole {s : State} {f g : Fld} {v : Nat} (hg : g.fits) (ha : g.addr = f.addr) (hl : f.lo = 0) (hw : f.width = 32) :
    (s.set f v).get g = v / 2 ^ g.lo % 2 ^ g.width := by
  unfold get
  rw [ha, word_set_same, hl, hw]
  unfold Fld.fits at hg
  apply Nat.eq_of_testBit_eq
  intro i
  have h1 : (fieldOf (fieldPut (s.word f.addr) 0 32 v) g.lo g.width).testBit i =
      ((fieldPut (s.word f.addr) 0 32 v >>> g.lo) &&& BitVec.ofNat 32 (2 ^ g.width - 1)).getLsbD i := BitVec.testBit_toNat _
  rw [h1, getLsbD_fieldVec (by omega), getLsbD_fieldPut (by omega), Nat.testBit_mod_two_pow, Nat.testBit_div_two_pow]
  by_cases hi : i < g.width
  · have h2 : g.lo + i < 32 := by omega
    simp [hi, h2, Nat.add_comm i]
  · simp [hi]

theorem get_set_addr {s : State} {f g : Fld} {v : Nat} (h : g.addr ≠ f.addr) : (s.set f v).get g = s.get g := by
  unfold get
  rw [word_set_ne h]

/-- A signed field written reads the number, where it fits. -/
theorem getI_setI {s : State} {f : Fld} {v : Int} (hf : f.fits) (hw : 0 < f.width) (h1 : -(2 ^ (f.width - 1) : Int) ≤ v)
    (h2 : v < 2 ^ (f.width - 1)) : (s.setI f v).getI f = v := by
  unfold getI setI
  rw [get_set_same hf]
  obtain ⟨k, hk⟩ : ∃ k, f.width = k + 1 := ⟨f.width - 1, by omega⟩
  rw [hk] at h1 h2 ⊢
  rw [Nat.add_sub_cancel] at h1 h2
  have hp : (2 : Int) ^ (k + 1) = 2 * 2 ^ k := by rw [Int.pow_succ]; omega
  have hn : (2 : Nat) ^ (k + 1) = 2 * 2 ^ k := by rw [Nat.pow_succ]; omega
  have hc : ((2 ^ k : Nat) : Int) = 2 ^ k := by simp
  have h0 : 0 ≤ v % 2 ^ (k + 1) := Int.emod_nonneg _ (by omega)
  have h3 : v % 2 ^ (k + 1) < 2 ^ (k + 1) := Int.emod_lt_of_pos _ (by omega)
  have h4 : codeOf v (k + 1) % 2 ^ (k + 1) = (v % 2 ^ (k + 1)).toNat := Nat.mod_eq_of_lt (by unfold codeOf; omega)
  rw [h4]
  unfold signedOf
  rw [Nat.add_sub_cancel]
  by_cases hv : 0 ≤ v
  · rw [Int.emod_eq_of_lt hv (by omega), if_neg (by omega)]
    omega
  · have h5 : v % 2 ^ (k + 1) = v + 2 ^ (k + 1) := by
      rw [← Int.add_emod_right, Int.emod_eq_of_lt (by omega) (by omega)]
    rw [h5, if_pos (by omega)]
    omega

theorem get_lt {s : State} {f : Fld} : s.get f < 2 ^ f.width := fieldOf_lt

theorem on_setB_same {s : State} {f : Fld} {b : Bool} (h : f.fits) (hw : f.width = 1) : (s.setB f b).on f = b := by
  unfold on setB
  rw [get_set_same h, hw]
  cases b <;> decide

theorem on_setB_apart {s : State} {f g : Fld} {b : Bool} (hf : f.fits) (hg : g.fits) (h : g.apart f) : (s.setB f b).on g = s.on g := by
  unfold on setB
  rw [get_set_apart hf hg h]

/-- What a field reads depends on its word alone. -/
theorem get_congr {s t : State} {f : Fld} (h : t.word f.addr = s.word f.addr) : t.get f = s.get f := by
  unfold get
  rw [h]

theorem on_congr {s t : State} {f : Fld} (h : t.word f.addr = s.word f.addr) : t.on f = s.on f := by
  unfold on
  rw [get_congr h]

theorem whenRunning_pos {s : State} {f : State → State} (h : s.running = true) : s.whenRunning f = f s := if_pos h
theorem whenReady_pos {s : State} {f : State → State} (h : s.ready = true) : s.whenReady f = f s := if_pos h
theorem whenLe_pos {s : State} {f : State → State} (h : s.ready = true) (hl : s.boot.leDown = false) : s.whenLe f = f s :=
  if_pos (by rw [h, hl]; rfl)
theorem whenAwake_pos {s : State} {src : Nat} {f : State → State} (h : s.running = true) : s.whenAwake src f = f s := if_pos h
theorem running_ready {s : State} (h : s.running = true) : s.ready = true := by
  unfold running at h
  simp only [Bool.and_eq_true] at h
  exact h.1.1

theorem word_congr {s t : State} (h : t.regs = s.regs) (a : Nat) : t.word a = s.word a := by
  unfold word
  rw [h]

end State

end Sys2Proof.Machine
end

