-- ==== Sys2Proof/Laws/State.lean ====
section
/-! SUPPORT. One lemma per update of the state and field it leaves alone, so that no proof unfolds a record update. -/

namespace Sys2Proof.Machine.State

@[simp] theorem setWord_pending {s : State} {a w} : (s.setWord a w).pending = s.pending := rfl
@[simp] theorem setWord_out {s : State} {a w} : (s.setWord a w).out = s.out := rfl
@[simp] theorem setWord_free {s : State} {a w} : (s.setWord a w).free = s.free := rfl
@[simp] theorem setWord_clk32 {s : State} {a w} : (s.setWord a w).clk32 = s.clk32 := rfl
@[simp] theorem setWord_frozen {s : State} {a w} : (s.setWord a w).frozen = s.frozen := rfl
@[simp] theorem setWord_hiFrozen {s : State} {a w} : (s.setWord a w).hiFrozen = s.hiFrozen := rfl
@[simp] theorem setWord_dw {s : State} {a w} : (s.setWord a w).dw = s.dw := rfl
@[simp] theorem setWord_ax {s : State} {a w} : (s.setWord a w).ax = s.ax := rfl
@[simp] theorem setWord_fb {s : State} {a w} : (s.setWord a w).fb = s.fb := rfl
@[simp] theorem setWord_enc {s : State} {a w} : (s.setWord a w).enc = s.enc := rfl
@[simp] theorem setWord_journal {s : State} {a w} : (s.setWord a w).journal = s.journal := rfl
@[simp] theorem setWord_faultCnt {s : State} {a w} : (s.setWord a w).faultCnt = s.faultCnt := rfl
@[simp] theorem setWord_shadow {s : State} {a w} : (s.setWord a w).shadow = s.shadow := rfl
@[simp] theorem setWord_posted {s : State} {a w} : (s.setWord a w).posted = s.posted := rfl
@[simp] theorem setWord_rtc {s : State} {a w} : (s.setWord a w).rtc = s.rtc := rfl
@[simp] theorem setWord_rtcFrac {s : State} {a w} : (s.setWord a w).rtcFrac = s.rtcFrac := rfl
@[simp] theorem setWord_answers {s : State} {a w} : (s.setWord a w).answers = s.answers := rfl
@[simp] theorem setWord_pcieMask {s : State} {a w} : (s.setWord a w).pcieMask = s.pcieMask := rfl
@[simp] theorem setWord_ch {s : State} {a w} : (s.setWord a w).ch = s.ch := rfl
@[simp] theorem setWord_die {s : State} {a w} : (s.setWord a w).die = s.die := rfl
@[simp] theorem setWord_onBlocked {s : State} {a w} : (s.setWord a w).onBlocked = s.onBlocked := rfl
@[simp] theorem setWord_pan {s : State} {a w} : (s.setWord a w).pan = s.pan := rfl
@[simp] theorem setWord_sl {s : State} {a w} : (s.setWord a w).sl = s.sl := rfl
@[simp] theorem setWord_pz {s : State} {a w} : (s.setWord a w).pz = s.pz := rfl
@[simp] theorem setWord_oe {s : State} {a w} : (s.setWord a w).oe = s.oe := rfl
@[simp] theorem setWord_diFilt {s : State} {a w} : (s.setWord a w).diFilt = s.diFilt := rfl
@[simp] theorem setWord_diInv {s : State} {a w} : (s.setWord a w).diInv = s.diInv := rfl
@[simp] theorem setWord_diRaw {s : State} {a w} : (s.setWord a w).diRaw = s.diRaw := rfl
@[simp] theorem setWord_diPin {s : State} {a w} : (s.setWord a w).diPin = s.diPin := rfl
@[simp] theorem setWord_diCnt {s : State} {a w} : (s.setWord a w).diCnt = s.diCnt := rfl
@[simp] theorem setWord_sc {s : State} {a w} : (s.setWord a w).sc = s.sc := rfl
@[simp] theorem setWord_trips {s : State} {a w} : (s.setWord a w).trips = s.trips := rfl
@[simp] theorem setWord_vlt {s : State} {a w} : (s.setWord a w).vlt = s.vlt := rfl
@[simp] theorem setWord_stl {s : State} {a w} : (s.setWord a w).stl = s.stl := rfl
@[simp] theorem setWord_can {s : State} {a w} : (s.setWord a w).can = s.can := rfl
@[simp] theorem setWord_mvb {s : State} {a w} : (s.setWord a w).mvb = s.mvb := rfl
@[simp] theorem setWord_ldg {s : State} {a w} : (s.setWord a w).ldg = s.ldg := rfl
@[simp] theorem setWord_par {s : State} {a w} : (s.setWord a w).par = s.par := rfl
@[simp] theorem setWord_cel {s : State} {a w} : (s.setWord a w).cel = s.cel := rfl
@[simp] theorem setWord_boot {s : State} {a w} : (s.setWord a w).boot = s.boot := rfl
@[simp] theorem setWord_hif {s : State} {a w} : (s.setWord a w).hif = s.hif := rfl

@[simp] theorem set_pending {s : State} {f v} : (s.set f v).pending = s.pending := rfl
@[simp] theorem set_out {s : State} {f v} : (s.set f v).out = s.out := rfl
@[simp] theorem set_free {s : State} {f v} : (s.set f v).free = s.free := rfl
@[simp] theorem set_clk32 {s : State} {f v} : (s.set f v).clk32 = s.clk32 := rfl
@[simp] theorem set_frozen {s : State} {f v} : (s.set f v).frozen = s.frozen := rfl
@[simp] theorem set_hiFrozen {s : State} {f v} : (s.set f v).hiFrozen = s.hiFrozen := rfl
@[simp] theorem set_dw {s : State} {f v} : (s.set f v).dw = s.dw := rfl
@[simp] theorem set_ax {s : State} {f v} : (s.set f v).ax = s.ax := rfl
@[simp] theorem set_fb {s : State} {f v} : (s.set f v).fb = s.fb := rfl
@[simp] theorem set_enc {s : State} {f v} : (s.set f v).enc = s.enc := rfl
@[simp] theorem set_journal {s : State} {f v} : (s.set f v).journal = s.journal := rfl
@[simp] theorem set_faultCnt {s : State} {f v} : (s.set f v).faultCnt = s.faultCnt := rfl
@[simp] theorem set_shadow {s : State} {f v} : (s.set f v).shadow = s.shadow := rfl
@[simp] theorem set_posted {s : State} {f v} : (s.set f v).posted = s.posted := rfl
@[simp] theorem set_rtc {s : State} {f v} : (s.set f v).rtc = s.rtc := rfl
@[simp] theorem set_rtcFrac {s : State} {f v} : (s.set f v).rtcFrac = s.rtcFrac := rfl
@[simp] theorem set_answers {s : State} {f v} : (s.set f v).answers = s.answers := rfl
@[simp] theorem set_pcieMask {s : State} {f v} : (s.set f v).pcieMask = s.pcieMask := rfl
@[simp] theorem set_ch {s : State} {f v} : (s.set f v).ch = s.ch := rfl
@[simp] theorem set_die {s : State} {f v} : (s.set f v).die = s.die := rfl
@[simp] theorem set_onBlocked {s : State} {f v} : (s.set f v).onBlocked = s.onBlocked := rfl
@[simp] theorem set_pan {s : State} {f v} : (s.set f v).pan = s.pan := rfl
@[simp] theorem set_sl {s : State} {f v} : (s.set f v).sl = s.sl := rfl
@[simp] theorem set_pz {s : State} {f v} : (s.set f v).pz = s.pz := rfl
@[simp] theorem set_oe {s : State} {f v} : (s.set f v).oe = s.oe := rfl
@[simp] theorem set_diFilt {s : State} {f v} : (s.set f v).diFilt = s.diFilt := rfl
@[simp] theorem set_diInv {s : State} {f v} : (s.set f v).diInv = s.diInv := rfl
@[simp] theorem set_diRaw {s : State} {f v} : (s.set f v).diRaw = s.diRaw := rfl
@[simp] theorem set_diPin {s : State} {f v} : (s.set f v).diPin = s.diPin := rfl
@[simp] theorem set_diCnt {s : State} {f v} : (s.set f v).diCnt = s.diCnt := rfl
@[simp] theorem set_sc {s : State} {f v} : (s.set f v).sc = s.sc := rfl
@[simp] theorem set_trips {s : State} {f v} : (s.set f v).trips = s.trips := rfl
@[simp] theorem set_vlt {s : State} {f v} : (s.set f v).vlt = s.vlt := rfl
@[simp] theorem set_stl {s : State} {f v} : (s.set f v).stl = s.stl := rfl
@[simp] theorem set_can {s : State} {f v} : (s.set f v).can = s.can := rfl
@[simp] theorem set_mvb {s : State} {f v} : (s.set f v).mvb = s.mvb := rfl
@[simp] theorem set_ldg {s : State} {f v} : (s.set f v).ldg = s.ldg := rfl
@[simp] theorem set_par {s : State} {f v} : (s.set f v).par = s.par := rfl
@[simp] theorem set_cel {s : State} {f v} : (s.set f v).cel = s.cel := rfl
@[simp] theorem set_boot {s : State} {f v} : (s.set f v).boot = s.boot := rfl
@[simp] theorem set_hif {s : State} {f v} : (s.set f v).hif = s.hif := rfl

@[simp] theorem setI_pending {s : State} {f v} : (s.setI f v).pending = s.pending := rfl
@[simp] theorem setI_out {s : State} {f v} : (s.setI f v).out = s.out := rfl
@[simp] theorem setI_free {s : State} {f v} : (s.setI f v).free = s.free := rfl
@[simp] theorem setI_clk32 {s : State} {f v} : (s.setI f v).clk32 = s.clk32 := rfl
@[simp] theorem setI_frozen {s : State} {f v} : (s.setI f v).frozen = s.frozen := rfl
@[simp] theorem setI_hiFrozen {s : State} {f v} : (s.setI f v).hiFrozen = s.hiFrozen := rfl
@[simp] theorem setI_dw {s : State} {f v} : (s.setI f v).dw = s.dw := rfl
@[simp] theorem setI_ax {s : State} {f v} : (s.setI f v).ax = s.ax := rfl
@[simp] theorem setI_fb {s : State} {f v} : (s.setI f v).fb = s.fb := rfl
@[simp] theorem setI_enc {s : State} {f v} : (s.setI f v).enc = s.enc := rfl
@[simp] theorem setI_journal {s : State} {f v} : (s.setI f v).journal = s.journal := rfl
@[simp] theorem setI_faultCnt {s : State} {f v} : (s.setI f v).faultCnt = s.faultCnt := rfl
@[simp] theorem setI_shadow {s : State} {f v} : (s.setI f v).shadow = s.shadow := rfl
@[simp] theorem setI_posted {s : State} {f v} : (s.setI f v).posted = s.posted := rfl
@[simp] theorem setI_rtc {s : State} {f v} : (s.setI f v).rtc = s.rtc := rfl
@[simp] theorem setI_rtcFrac {s : State} {f v} : (s.setI f v).rtcFrac = s.rtcFrac := rfl
@[simp] theorem setI_answers {s : State} {f v} : (s.setI f v).answers = s.answers := rfl
@[simp] theorem setI_pcieMask {s : State} {f v} : (s.setI f v).pcieMask = s.pcieMask := rfl
@[simp] theorem setI_ch {s : State} {f v} : (s.setI f v).ch = s.ch := rfl
@[simp] theorem setI_die {s : State} {f v} : (s.setI f v).die = s.die := rfl
@[simp] theorem setI_onBlocked {s : State} {f v} : (s.setI f v).onBlocked = s.onBlocked := rfl
@[simp] theorem setI_pan {s : State} {f v} : (s.setI f v).pan = s.pan := rfl
@[simp] theorem setI_sl {s : State} {f v} : (s.setI f v).sl = s.sl := rfl
@[simp] theorem setI_pz {s : State} {f v} : (s.setI f v).pz = s.pz := rfl
@[simp] theorem setI_oe {s : State} {f v} : (s.setI f v).oe = s.oe := rfl
@[simp] theorem setI_diFilt {s : State} {f v} : (s.setI f v).diFilt = s.diFilt := rfl
@[simp] theorem setI_diInv {s : State} {f v} : (s.setI f v).diInv = s.diInv := rfl
@[simp] theorem setI_diRaw {s : State} {f v} : (s.setI f v).diRaw = s.diRaw := rfl
@[simp] theorem setI_diPin {s : State} {f v} : (s.setI f v).diPin = s.diPin := rfl
@[simp] theorem setI_diCnt {s : State} {f v} : (s.setI f v).diCnt = s.diCnt := rfl
@[simp] theorem setI_sc {s : State} {f v} : (s.setI f v).sc = s.sc := rfl
@[simp] theorem setI_trips {s : State} {f v} : (s.setI f v).trips = s.trips := rfl
@[simp] theorem setI_vlt {s : State} {f v} : (s.setI f v).vlt = s.vlt := rfl
@[simp] theorem setI_stl {s : State} {f v} : (s.setI f v).stl = s.stl := rfl
@[simp] theorem setI_can {s : State} {f v} : (s.setI f v).can = s.can := rfl
@[simp] theorem setI_mvb {s : State} {f v} : (s.setI f v).mvb = s.mvb := rfl
@[simp] theorem setI_ldg {s : State} {f v} : (s.setI f v).ldg = s.ldg := rfl
@[simp] theorem setI_par {s : State} {f v} : (s.setI f v).par = s.par := rfl
@[simp] theorem setI_cel {s : State} {f v} : (s.setI f v).cel = s.cel := rfl
@[simp] theorem setI_boot {s : State} {f v} : (s.setI f v).boot = s.boot := rfl
@[simp] theorem setI_hif {s : State} {f v} : (s.setI f v).hif = s.hif := rfl

@[simp] theorem setB_pending {s : State} {f v} : (s.setB f v).pending = s.pending := rfl
@[simp] theorem setB_out {s : State} {f v} : (s.setB f v).out = s.out := rfl
@[simp] theorem setB_free {s : State} {f v} : (s.setB f v).free = s.free := rfl
@[simp] theorem setB_clk32 {s : State} {f v} : (s.setB f v).clk32 = s.clk32 := rfl
@[simp] theorem setB_frozen {s : State} {f v} : (s.setB f v).frozen = s.frozen := rfl
@[simp] theorem setB_hiFrozen {s : State} {f v} : (s.setB f v).hiFrozen = s.hiFrozen := rfl
@[simp] theorem setB_dw {s : State} {f v} : (s.setB f v).dw = s.dw := rfl
@[simp] theorem setB_ax {s : State} {f v} : (s.setB f v).ax = s.ax := rfl
@[simp] theorem setB_fb {s : State} {f v} : (s.setB f v).fb = s.fb := rfl
@[simp] theorem setB_enc {s : State} {f v} : (s.setB f v).enc = s.enc := rfl
@[simp] theorem setB_journal {s : State} {f v} : (s.setB f v).journal = s.journal := rfl
@[simp] theorem setB_faultCnt {s : State} {f v} : (s.setB f v).faultCnt = s.faultCnt := rfl
@[simp] theorem setB_shadow {s : State} {f v} : (s.setB f v).shadow = s.shadow := rfl
@[simp] theorem setB_posted {s : State} {f v} : (s.setB f v).posted = s.posted := rfl
@[simp] theorem setB_rtc {s : State} {f v} : (s.setB f v).rtc = s.rtc := rfl
@[simp] theorem setB_rtcFrac {s : State} {f v} : (s.setB f v).rtcFrac = s.rtcFrac := rfl
@[simp] theorem setB_answers {s : State} {f v} : (s.setB f v).answers = s.answers := rfl
@[simp] theorem setB_pcieMask {s : State} {f v} : (s.setB f v).pcieMask = s.pcieMask := rfl
@[simp] theorem setB_ch {s : State} {f v} : (s.setB f v).ch = s.ch := rfl
@[simp] theorem setB_die {s : State} {f v} : (s.setB f v).die = s.die := rfl
@[simp] theorem setB_onBlocked {s : State} {f v} : (s.setB f v).onBlocked = s.onBlocked := rfl
@[simp] theorem setB_pan {s : State} {f v} : (s.setB f v).pan = s.pan := rfl
@[simp] theorem setB_sl {s : State} {f v} : (s.setB f v).sl = s.sl := rfl
@[simp] theorem setB_pz {s : State} {f v} : (s.setB f v).pz = s.pz := rfl
@[simp] theorem setB_oe {s : State} {f v} : (s.setB f v).oe = s.oe := rfl
@[simp] theorem setB_diFilt {s : State} {f v} : (s.setB f v).diFilt = s.diFilt := rfl
@[simp] theorem setB_diInv {s : State} {f v} : (s.setB f v).diInv = s.diInv := rfl
@[simp] theorem setB_diRaw {s : State} {f v} : (s.setB f v).diRaw = s.diRaw := rfl
@[simp] theorem setB_diPin {s : State} {f v} : (s.setB f v).diPin = s.diPin := rfl
@[simp] theorem setB_diCnt {s : State} {f v} : (s.setB f v).diCnt = s.diCnt := rfl
@[simp] theorem setB_sc {s : State} {f v} : (s.setB f v).sc = s.sc := rfl
@[simp] theorem setB_trips {s : State} {f v} : (s.setB f v).trips = s.trips := rfl
@[simp] theorem setB_vlt {s : State} {f v} : (s.setB f v).vlt = s.vlt := rfl
@[simp] theorem setB_stl {s : State} {f v} : (s.setB f v).stl = s.stl := rfl
@[simp] theorem setB_can {s : State} {f v} : (s.setB f v).can = s.can := rfl
@[simp] theorem setB_mvb {s : State} {f v} : (s.setB f v).mvb = s.mvb := rfl
@[simp] theorem setB_ldg {s : State} {f v} : (s.setB f v).ldg = s.ldg := rfl
@[simp] theorem setB_par {s : State} {f v} : (s.setB f v).par = s.par := rfl
@[simp] theorem setB_cel {s : State} {f v} : (s.setB f v).cel = s.cel := rfl
@[simp] theorem setB_boot {s : State} {f v} : (s.setB f v).boot = s.boot := rfl
@[simp] theorem setB_hif {s : State} {f v} : (s.setB f v).hif = s.hif := rfl

@[simp] theorem add_pending {s : State} {f v} : (s.add f v).pending = s.pending := rfl
@[simp] theorem add_out {s : State} {f v} : (s.add f v).out = s.out := rfl
@[simp] theorem add_free {s : State} {f v} : (s.add f v).free = s.free := rfl
@[simp] theorem add_clk32 {s : State} {f v} : (s.add f v).clk32 = s.clk32 := rfl
@[simp] theorem add_frozen {s : State} {f v} : (s.add f v).frozen = s.frozen := rfl
@[simp] theorem add_hiFrozen {s : State} {f v} : (s.add f v).hiFrozen = s.hiFrozen := rfl
@[simp] theorem add_dw {s : State} {f v} : (s.add f v).dw = s.dw := rfl
@[simp] theorem add_ax {s : State} {f v} : (s.add f v).ax = s.ax := rfl
@[simp] theorem add_fb {s : State} {f v} : (s.add f v).fb = s.fb := rfl
@[simp] theorem add_enc {s : State} {f v} : (s.add f v).enc = s.enc := rfl
@[simp] theorem add_journal {s : State} {f v} : (s.add f v).journal = s.journal := rfl
@[simp] theorem add_faultCnt {s : State} {f v} : (s.add f v).faultCnt = s.faultCnt := rfl
@[simp] theorem add_shadow {s : State} {f v} : (s.add f v).shadow = s.shadow := rfl
@[simp] theorem add_posted {s : State} {f v} : (s.add f v).posted = s.posted := rfl
@[simp] theorem add_rtc {s : State} {f v} : (s.add f v).rtc = s.rtc := rfl
@[simp] theorem add_rtcFrac {s : State} {f v} : (s.add f v).rtcFrac = s.rtcFrac := rfl
@[simp] theorem add_answers {s : State} {f v} : (s.add f v).answers = s.answers := rfl
@[simp] theorem add_pcieMask {s : State} {f v} : (s.add f v).pcieMask = s.pcieMask := rfl
@[simp] theorem add_ch {s : State} {f v} : (s.add f v).ch = s.ch := rfl
@[simp] theorem add_die {s : State} {f v} : (s.add f v).die = s.die := rfl
@[simp] theorem add_onBlocked {s : State} {f v} : (s.add f v).onBlocked = s.onBlocked := rfl
@[simp] theorem add_pan {s : State} {f v} : (s.add f v).pan = s.pan := rfl
@[simp] theorem add_sl {s : State} {f v} : (s.add f v).sl = s.sl := rfl
@[simp] theorem add_pz {s : State} {f v} : (s.add f v).pz = s.pz := rfl
@[simp] theorem add_oe {s : State} {f v} : (s.add f v).oe = s.oe := rfl
@[simp] theorem add_diFilt {s : State} {f v} : (s.add f v).diFilt = s.diFilt := rfl
@[simp] theorem add_diInv {s : State} {f v} : (s.add f v).diInv = s.diInv := rfl
@[simp] theorem add_diRaw {s : State} {f v} : (s.add f v).diRaw = s.diRaw := rfl
@[simp] theorem add_diPin {s : State} {f v} : (s.add f v).diPin = s.diPin := rfl
@[simp] theorem add_diCnt {s : State} {f v} : (s.add f v).diCnt = s.diCnt := rfl
@[simp] theorem add_sc {s : State} {f v} : (s.add f v).sc = s.sc := rfl
@[simp] theorem add_trips {s : State} {f v} : (s.add f v).trips = s.trips := rfl
@[simp] theorem add_vlt {s : State} {f v} : (s.add f v).vlt = s.vlt := rfl
@[simp] theorem add_stl {s : State} {f v} : (s.add f v).stl = s.stl := rfl
@[simp] theorem add_can {s : State} {f v} : (s.add f v).can = s.can := rfl
@[simp] theorem add_mvb {s : State} {f v} : (s.add f v).mvb = s.mvb := rfl
@[simp] theorem add_ldg {s : State} {f v} : (s.add f v).ldg = s.ldg := rfl
@[simp] theorem add_par {s : State} {f v} : (s.add f v).par = s.par := rfl
@[simp] theorem add_cel {s : State} {f v} : (s.add f v).cel = s.cel := rfl
@[simp] theorem add_boot {s : State} {f v} : (s.add f v).boot = s.boot := rfl
@[simp] theorem add_hif {s : State} {f v} : (s.add f v).hif = s.hif := rfl

@[simp] theorem inc_pending {s : State} {f} : (s.inc f).pending = s.pending := rfl
@[simp] theorem inc_out {s : State} {f} : (s.inc f).out = s.out := rfl
@[simp] theorem inc_free {s : State} {f} : (s.inc f).free = s.free := rfl
@[simp] theorem inc_clk32 {s : State} {f} : (s.inc f).clk32 = s.clk32 := rfl
@[simp] theorem inc_frozen {s : State} {f} : (s.inc f).frozen = s.frozen := rfl
@[simp] theorem inc_hiFrozen {s : State} {f} : (s.inc f).hiFrozen = s.hiFrozen := rfl
@[simp] theorem inc_dw {s : State} {f} : (s.inc f).dw = s.dw := rfl
@[simp] theorem inc_ax {s : State} {f} : (s.inc f).ax = s.ax := rfl
@[simp] theorem inc_fb {s : State} {f} : (s.inc f).fb = s.fb := rfl
@[simp] theorem inc_enc {s : State} {f} : (s.inc f).enc = s.enc := rfl
@[simp] theorem inc_journal {s : State} {f} : (s.inc f).journal = s.journal := rfl
@[simp] theorem inc_faultCnt {s : State} {f} : (s.inc f).faultCnt = s.faultCnt := rfl
@[simp] theorem inc_shadow {s : State} {f} : (s.inc f).shadow = s.shadow := rfl
@[simp] theorem inc_posted {s : State} {f} : (s.inc f).posted = s.posted := rfl
@[simp] theorem inc_rtc {s : State} {f} : (s.inc f).rtc = s.rtc := rfl
@[simp] theorem inc_rtcFrac {s : State} {f} : (s.inc f).rtcFrac = s.rtcFrac := rfl
@[simp] theorem inc_answers {s : State} {f} : (s.inc f).answers = s.answers := rfl
@[simp] theorem inc_pcieMask {s : State} {f} : (s.inc f).pcieMask = s.pcieMask := rfl
@[simp] theorem inc_ch {s : State} {f} : (s.inc f).ch = s.ch := rfl
@[simp] theorem inc_die {s : State} {f} : (s.inc f).die = s.die := rfl
@[simp] theorem inc_onBlocked {s : State} {f} : (s.inc f).onBlocked = s.onBlocked := rfl
@[simp] theorem inc_pan {s : State} {f} : (s.inc f).pan = s.pan := rfl
@[simp] theorem inc_sl {s : State} {f} : (s.inc f).sl = s.sl := rfl
@[simp] theorem inc_pz {s : State} {f} : (s.inc f).pz = s.pz := rfl
@[simp] theorem inc_oe {s : State} {f} : (s.inc f).oe = s.oe := rfl
@[simp] theorem inc_diFilt {s : State} {f} : (s.inc f).diFilt = s.diFilt := rfl
@[simp] theorem inc_diInv {s : State} {f} : (s.inc f).diInv = s.diInv := rfl
@[simp] theorem inc_diRaw {s : State} {f} : (s.inc f).diRaw = s.diRaw := rfl
@[simp] theorem inc_diPin {s : State} {f} : (s.inc f).diPin = s.diPin := rfl
@[simp] theorem inc_diCnt {s : State} {f} : (s.inc f).diCnt = s.diCnt := rfl
@[simp] theorem inc_sc {s : State} {f} : (s.inc f).sc = s.sc := rfl
@[simp] theorem inc_trips {s : State} {f} : (s.inc f).trips = s.trips := rfl
@[simp] theorem inc_vlt {s : State} {f} : (s.inc f).vlt = s.vlt := rfl
@[simp] theorem inc_stl {s : State} {f} : (s.inc f).stl = s.stl := rfl
@[simp] theorem inc_can {s : State} {f} : (s.inc f).can = s.can := rfl
@[simp] theorem inc_mvb {s : State} {f} : (s.inc f).mvb = s.mvb := rfl
@[simp] theorem inc_ldg {s : State} {f} : (s.inc f).ldg = s.ldg := rfl
@[simp] theorem inc_par {s : State} {f} : (s.inc f).par = s.par := rfl
@[simp] theorem inc_cel {s : State} {f} : (s.inc f).cel = s.cel := rfl
@[simp] theorem inc_boot {s : State} {f} : (s.inc f).boot = s.boot := rfl
@[simp] theorem inc_hif {s : State} {f} : (s.inc f).hif = s.hif := rfl

@[simp] theorem incWrap_pending {s : State} {f} : (s.incWrap f).pending = s.pending := rfl
@[simp] theorem incWrap_out {s : State} {f} : (s.incWrap f).out = s.out := rfl
@[simp] theorem incWrap_free {s : State} {f} : (s.incWrap f).free = s.free := rfl
@[simp] theorem incWrap_clk32 {s : State} {f} : (s.incWrap f).clk32 = s.clk32 := rfl
@[simp] theorem incWrap_frozen {s : State} {f} : (s.incWrap f).frozen = s.frozen := rfl
@[simp] theorem incWrap_hiFrozen {s : State} {f} : (s.incWrap f).hiFrozen = s.hiFrozen := rfl
@[simp] theorem incWrap_dw {s : State} {f} : (s.incWrap f).dw = s.dw := rfl
@[simp] theorem incWrap_ax {s : State} {f} : (s.incWrap f).ax = s.ax := rfl
@[simp] theorem incWrap_fb {s : State} {f} : (s.incWrap f).fb = s.fb := rfl
@[simp] theorem incWrap_enc {s : State} {f} : (s.incWrap f).enc = s.enc := rfl
@[simp] theorem incWrap_journal {s : State} {f} : (s.incWrap f).journal = s.journal := rfl
@[simp] theorem incWrap_faultCnt {s : State} {f} : (s.incWrap f).faultCnt = s.faultCnt := rfl
@[simp] theorem incWrap_shadow {s : State} {f} : (s.incWrap f).shadow = s.shadow := rfl
@[simp] theorem incWrap_posted {s : State} {f} : (s.incWrap f).posted = s.posted := rfl
@[simp] theorem incWrap_rtc {s : State} {f} : (s.incWrap f).rtc = s.rtc := rfl
@[simp] theorem incWrap_rtcFrac {s : State} {f} : (s.incWrap f).rtcFrac = s.rtcFrac := rfl
@[simp] theorem incWrap_answers {s : State} {f} : (s.incWrap f).answers = s.answers := rfl
@[simp] theorem incWrap_pcieMask {s : State} {f} : (s.incWrap f).pcieMask = s.pcieMask := rfl
@[simp] theorem incWrap_ch {s : State} {f} : (s.incWrap f).ch = s.ch := rfl
@[simp] theorem incWrap_die {s : State} {f} : (s.incWrap f).die = s.die := rfl
@[simp] theorem incWrap_onBlocked {s : State} {f} : (s.incWrap f).onBlocked = s.onBlocked := rfl
@[simp] theorem incWrap_pan {s : State} {f} : (s.incWrap f).pan = s.pan := rfl
@[simp] theorem incWrap_sl {s : State} {f} : (s.incWrap f).sl = s.sl := rfl
@[simp] theorem incWrap_pz {s : State} {f} : (s.incWrap f).pz = s.pz := rfl
@[simp] theorem incWrap_oe {s : State} {f} : (s.incWrap f).oe = s.oe := rfl
@[simp] theorem incWrap_diFilt {s : State} {f} : (s.incWrap f).diFilt = s.diFilt := rfl
@[simp] theorem incWrap_diInv {s : State} {f} : (s.incWrap f).diInv = s.diInv := rfl
@[simp] theorem incWrap_diRaw {s : State} {f} : (s.incWrap f).diRaw = s.diRaw := rfl
@[simp] theorem incWrap_diPin {s : State} {f} : (s.incWrap f).diPin = s.diPin := rfl
@[simp] theorem incWrap_diCnt {s : State} {f} : (s.incWrap f).diCnt = s.diCnt := rfl
@[simp] theorem incWrap_sc {s : State} {f} : (s.incWrap f).sc = s.sc := rfl
@[simp] theorem incWrap_trips {s : State} {f} : (s.incWrap f).trips = s.trips := rfl
@[simp] theorem incWrap_vlt {s : State} {f} : (s.incWrap f).vlt = s.vlt := rfl
@[simp] theorem incWrap_stl {s : State} {f} : (s.incWrap f).stl = s.stl := rfl
@[simp] theorem incWrap_can {s : State} {f} : (s.incWrap f).can = s.can := rfl
@[simp] theorem incWrap_mvb {s : State} {f} : (s.incWrap f).mvb = s.mvb := rfl
@[simp] theorem incWrap_ldg {s : State} {f} : (s.incWrap f).ldg = s.ldg := rfl
@[simp] theorem incWrap_par {s : State} {f} : (s.incWrap f).par = s.par := rfl
@[simp] theorem incWrap_cel {s : State} {f} : (s.incWrap f).cel = s.cel := rfl
@[simp] theorem incWrap_boot {s : State} {f} : (s.incWrap f).boot = s.boot := rfl
@[simp] theorem incWrap_hif {s : State} {f} : (s.incWrap f).hif = s.hif := rfl

@[simp] theorem modDw_pending {s : State} {n g} : (s.modDw n g).pending = s.pending := rfl
@[simp] theorem modDw_out {s : State} {n g} : (s.modDw n g).out = s.out := rfl
@[simp] theorem modDw_free {s : State} {n g} : (s.modDw n g).free = s.free := rfl
@[simp] theorem modDw_clk32 {s : State} {n g} : (s.modDw n g).clk32 = s.clk32 := rfl
@[simp] theorem modDw_regs {s : State} {n g} : (s.modDw n g).regs = s.regs := rfl
@[simp] theorem modDw_frozen {s : State} {n g} : (s.modDw n g).frozen = s.frozen := rfl
@[simp] theorem modDw_hiFrozen {s : State} {n g} : (s.modDw n g).hiFrozen = s.hiFrozen := rfl
@[simp] theorem modDw_ax {s : State} {n g} : (s.modDw n g).ax = s.ax := rfl
@[simp] theorem modDw_fb {s : State} {n g} : (s.modDw n g).fb = s.fb := rfl
@[simp] theorem modDw_enc {s : State} {n g} : (s.modDw n g).enc = s.enc := rfl
@[simp] theorem modDw_journal {s : State} {n g} : (s.modDw n g).journal = s.journal := rfl
@[simp] theorem modDw_faultCnt {s : State} {n g} : (s.modDw n g).faultCnt = s.faultCnt := rfl
@[simp] theorem modDw_shadow {s : State} {n g} : (s.modDw n g).shadow = s.shadow := rfl
@[simp] theorem modDw_posted {s : State} {n g} : (s.modDw n g).posted = s.posted := rfl
@[simp] theorem modDw_rtc {s : State} {n g} : (s.modDw n g).rtc = s.rtc := rfl
@[simp] theorem modDw_rtcFrac {s : State} {n g} : (s.modDw n g).rtcFrac = s.rtcFrac := rfl
@[simp] theorem modDw_answers {s : State} {n g} : (s.modDw n g).answers = s.answers := rfl
@[simp] theorem modDw_pcieMask {s : State} {n g} : (s.modDw n g).pcieMask = s.pcieMask := rfl
@[simp] theorem modDw_ch {s : State} {n g} : (s.modDw n g).ch = s.ch := rfl
@[simp] theorem modDw_die {s : State} {n g} : (s.modDw n g).die = s.die := rfl
@[simp] theorem modDw_onBlocked {s : State} {n g} : (s.modDw n g).onBlocked = s.onBlocked := rfl
@[simp] theorem modDw_pan {s : State} {n g} : (s.modDw n g).pan = s.pan := rfl
@[simp] theorem modDw_sl {s : State} {n g} : (s.modDw n g).sl = s.sl := rfl
@[simp] theorem modDw_pz {s : State} {n g} : (s.modDw n g).pz = s.pz := rfl
@[simp] theorem modDw_oe {s : State} {n g} : (s.modDw n g).oe = s.oe := rfl
@[simp] theorem modDw_diFilt {s : State} {n g} : (s.modDw n g).diFilt = s.diFilt := rfl
@[simp] theorem modDw_diInv {s : State} {n g} : (s.modDw n g).diInv = s.diInv := rfl
@[simp] theorem modDw_diRaw {s : State} {n g} : (s.modDw n g).diRaw = s.diRaw := rfl
@[simp] theorem modDw_diPin {s : State} {n g} : (s.modDw n g).diPin = s.diPin := rfl
@[simp] theorem modDw_diCnt {s : State} {n g} : (s.modDw n g).diCnt = s.diCnt := rfl
@[simp] theorem modDw_sc {s : State} {n g} : (s.modDw n g).sc = s.sc := rfl
@[simp] theorem modDw_trips {s : State} {n g} : (s.modDw n g).trips = s.trips := rfl
@[simp] theorem modDw_vlt {s : State} {n g} : (s.modDw n g).vlt = s.vlt := rfl
@[simp] theorem modDw_stl {s : State} {n g} : (s.modDw n g).stl = s.stl := rfl
@[simp] theorem modDw_can {s : State} {n g} : (s.modDw n g).can = s.can := rfl
@[simp] theorem modDw_mvb {s : State} {n g} : (s.modDw n g).mvb = s.mvb := rfl
@[simp] theorem modDw_ldg {s : State} {n g} : (s.modDw n g).ldg = s.ldg := rfl
@[simp] theorem modDw_par {s : State} {n g} : (s.modDw n g).par = s.par := rfl
@[simp] theorem modDw_cel {s : State} {n g} : (s.modDw n g).cel = s.cel := rfl
@[simp] theorem modDw_boot {s : State} {n g} : (s.modDw n g).boot = s.boot := rfl
@[simp] theorem modDw_hif {s : State} {n g} : (s.modDw n g).hif = s.hif := rfl
@[simp] theorem word_modDw {s : State} {n g a} : (s.modDw n g).word a = s.word a := rfl
@[simp] theorem get_modDw {s : State} {n g f} : (s.modDw n g).get f = s.get f := rfl
@[simp] theorem getI_modDw {s : State} {n g f} : (s.modDw n g).getI f = s.getI f := rfl
@[simp] theorem on_modDw {s : State} {n g f} : (s.modDw n g).on f = s.on f := rfl

@[simp] theorem modAx_pending {s : State} {n g} : (s.modAx n g).pending = s.pending := rfl
@[simp] theorem modAx_out {s : State} {n g} : (s.modAx n g).out = s.out := rfl
@[simp] theorem modAx_free {s : State} {n g} : (s.modAx n g).free = s.free := rfl
@[simp] theorem modAx_clk32 {s : State} {n g} : (s.modAx n g).clk32 = s.clk32 := rfl
@[simp] theorem modAx_regs {s : State} {n g} : (s.modAx n g).regs = s.regs := rfl
@[simp] theorem modAx_frozen {s : State} {n g} : (s.modAx n g).frozen = s.frozen := rfl
@[simp] theorem modAx_hiFrozen {s : State} {n g} : (s.modAx n g).hiFrozen = s.hiFrozen := rfl
@[simp] theorem modAx_dw {s : State} {n g} : (s.modAx n g).dw = s.dw := rfl
@[simp] theorem modAx_fb {s : State} {n g} : (s.modAx n g).fb = s.fb := rfl
@[simp] theorem modAx_enc {s : State} {n g} : (s.modAx n g).enc = s.enc := rfl
@[simp] theorem modAx_journal {s : State} {n g} : (s.modAx n g).journal = s.journal := rfl
@[simp] theorem modAx_faultCnt {s : State} {n g} : (s.modAx n g).faultCnt = s.faultCnt := rfl
@[simp] theorem modAx_shadow {s : State} {n g} : (s.modAx n g).shadow = s.shadow := rfl
@[simp] theorem modAx_posted {s : State} {n g} : (s.modAx n g).posted = s.posted := rfl
@[simp] theorem modAx_rtc {s : State} {n g} : (s.modAx n g).rtc = s.rtc := rfl
@[simp] theorem modAx_rtcFrac {s : State} {n g} : (s.modAx n g).rtcFrac = s.rtcFrac := rfl
@[simp] theorem modAx_answers {s : State} {n g} : (s.modAx n g).answers = s.answers := rfl
@[simp] theorem modAx_pcieMask {s : State} {n g} : (s.modAx n g).pcieMask = s.pcieMask := rfl
@[simp] theorem modAx_ch {s : State} {n g} : (s.modAx n g).ch = s.ch := rfl
@[simp] theorem modAx_die {s : State} {n g} : (s.modAx n g).die = s.die := rfl
@[simp] theorem modAx_onBlocked {s : State} {n g} : (s.modAx n g).onBlocked = s.onBlocked := rfl
@[simp] theorem modAx_pan {s : State} {n g} : (s.modAx n g).pan = s.pan := rfl
@[simp] theorem modAx_sl {s : State} {n g} : (s.modAx n g).sl = s.sl := rfl
@[simp] theorem modAx_pz {s : State} {n g} : (s.modAx n g).pz = s.pz := rfl
@[simp] theorem modAx_oe {s : State} {n g} : (s.modAx n g).oe = s.oe := rfl
@[simp] theorem modAx_diFilt {s : State} {n g} : (s.modAx n g).diFilt = s.diFilt := rfl
@[simp] theorem modAx_diInv {s : State} {n g} : (s.modAx n g).diInv = s.diInv := rfl
@[simp] theorem modAx_diRaw {s : State} {n g} : (s.modAx n g).diRaw = s.diRaw := rfl
@[simp] theorem modAx_diPin {s : State} {n g} : (s.modAx n g).diPin = s.diPin := rfl
@[simp] theorem modAx_diCnt {s : State} {n g} : (s.modAx n g).diCnt = s.diCnt := rfl
@[simp] theorem modAx_sc {s : State} {n g} : (s.modAx n g).sc = s.sc := rfl
@[simp] theorem modAx_trips {s : State} {n g} : (s.modAx n g).trips = s.trips := rfl
@[simp] theorem modAx_vlt {s : State} {n g} : (s.modAx n g).vlt = s.vlt := rfl
@[simp] theorem modAx_stl {s : State} {n g} : (s.modAx n g).stl = s.stl := rfl
@[simp] theorem modAx_can {s : State} {n g} : (s.modAx n g).can = s.can := rfl
@[simp] theorem modAx_mvb {s : State} {n g} : (s.modAx n g).mvb = s.mvb := rfl
@[simp] theorem modAx_ldg {s : State} {n g} : (s.modAx n g).ldg = s.ldg := rfl
@[simp] theorem modAx_par {s : State} {n g} : (s.modAx n g).par = s.par := rfl
@[simp] theorem modAx_cel {s : State} {n g} : (s.modAx n g).cel = s.cel := rfl
@[simp] theorem modAx_boot {s : State} {n g} : (s.modAx n g).boot = s.boot := rfl
@[simp] theorem modAx_hif {s : State} {n g} : (s.modAx n g).hif = s.hif := rfl
@[simp] theorem word_modAx {s : State} {n g a} : (s.modAx n g).word a = s.word a := rfl
@[simp] theorem get_modAx {s : State} {n g f} : (s.modAx n g).get f = s.get f := rfl
@[simp] theorem getI_modAx {s : State} {n g f} : (s.modAx n g).getI f = s.getI f := rfl
@[simp] theorem on_modAx {s : State} {n g f} : (s.modAx n g).on f = s.on f := rfl

@[simp] theorem modFb_pending {s : State} {n g} : (s.modFb n g).pending = s.pending := rfl
@[simp] theorem modFb_out {s : State} {n g} : (s.modFb n g).out = s.out := rfl
@[simp] theorem modFb_free {s : State} {n g} : (s.modFb n g).free = s.free := rfl
@[simp] theorem modFb_clk32 {s : State} {n g} : (s.modFb n g).clk32 = s.clk32 := rfl
@[simp] theorem modFb_regs {s : State} {n g} : (s.modFb n g).regs = s.regs := rfl
@[simp] theorem modFb_frozen {s : State} {n g} : (s.modFb n g).frozen = s.frozen := rfl
@[simp] theorem modFb_hiFrozen {s : State} {n g} : (s.modFb n g).hiFrozen = s.hiFrozen := rfl
@[simp] theorem modFb_dw {s : State} {n g} : (s.modFb n g).dw = s.dw := rfl
@[simp] theorem modFb_ax {s : State} {n g} : (s.modFb n g).ax = s.ax := rfl
@[simp] theorem modFb_enc {s : State} {n g} : (s.modFb n g).enc = s.enc := rfl
@[simp] theorem modFb_journal {s : State} {n g} : (s.modFb n g).journal = s.journal := rfl
@[simp] theorem modFb_faultCnt {s : State} {n g} : (s.modFb n g).faultCnt = s.faultCnt := rfl
@[simp] theorem modFb_shadow {s : State} {n g} : (s.modFb n g).shadow = s.shadow := rfl
@[simp] theorem modFb_posted {s : State} {n g} : (s.modFb n g).posted = s.posted := rfl
@[simp] theorem modFb_rtc {s : State} {n g} : (s.modFb n g).rtc = s.rtc := rfl
@[simp] theorem modFb_rtcFrac {s : State} {n g} : (s.modFb n g).rtcFrac = s.rtcFrac := rfl
@[simp] theorem modFb_answers {s : State} {n g} : (s.modFb n g).answers = s.answers := rfl
@[simp] theorem modFb_pcieMask {s : State} {n g} : (s.modFb n g).pcieMask = s.pcieMask := rfl
@[simp] theorem modFb_ch {s : State} {n g} : (s.modFb n g).ch = s.ch := rfl
@[simp] theorem modFb_die {s : State} {n g} : (s.modFb n g).die = s.die := rfl
@[simp] theorem modFb_onBlocked {s : State} {n g} : (s.modFb n g).onBlocked = s.onBlocked := rfl
@[simp] theorem modFb_pan {s : State} {n g} : (s.modFb n g).pan = s.pan := rfl
@[simp] theorem modFb_sl {s : State} {n g} : (s.modFb n g).sl = s.sl := rfl
@[simp] theorem modFb_pz {s : State} {n g} : (s.modFb n g).pz = s.pz := rfl
@[simp] theorem modFb_oe {s : State} {n g} : (s.modFb n g).oe = s.oe := rfl
@[simp] theorem modFb_diFilt {s : State} {n g} : (s.modFb n g).diFilt = s.diFilt := rfl
@[simp] theorem modFb_diInv {s : State} {n g} : (s.modFb n g).diInv = s.diInv := rfl
@[simp] theorem modFb_diRaw {s : State} {n g} : (s.modFb n g).diRaw = s.diRaw := rfl
@[simp] theorem modFb_diPin {s : State} {n g} : (s.modFb n g).diPin = s.diPin := rfl
@[simp] theorem modFb_diCnt {s : State} {n g} : (s.modFb n g).diCnt = s.diCnt := rfl
@[simp] theorem modFb_sc {s : State} {n g} : (s.modFb n g).sc = s.sc := rfl
@[simp] theorem modFb_trips {s : State} {n g} : (s.modFb n g).trips = s.trips := rfl
@[simp] theorem modFb_vlt {s : State} {n g} : (s.modFb n g).vlt = s.vlt := rfl
@[simp] theorem modFb_stl {s : State} {n g} : (s.modFb n g).stl = s.stl := rfl
@[simp] theorem modFb_can {s : State} {n g} : (s.modFb n g).can = s.can := rfl
@[simp] theorem modFb_mvb {s : State} {n g} : (s.modFb n g).mvb = s.mvb := rfl
@[simp] theorem modFb_ldg {s : State} {n g} : (s.modFb n g).ldg = s.ldg := rfl
@[simp] theorem modFb_par {s : State} {n g} : (s.modFb n g).par = s.par := rfl
@[simp] theorem modFb_cel {s : State} {n g} : (s.modFb n g).cel = s.cel := rfl
@[simp] theorem modFb_boot {s : State} {n g} : (s.modFb n g).boot = s.boot := rfl
@[simp] theorem modFb_hif {s : State} {n g} : (s.modFb n g).hif = s.hif := rfl
@[simp] theorem word_modFb {s : State} {n g a} : (s.modFb n g).word a = s.word a := rfl
@[simp] theorem get_modFb {s : State} {n g f} : (s.modFb n g).get f = s.get f := rfl
@[simp] theorem getI_modFb {s : State} {n g f} : (s.modFb n g).getI f = s.getI f := rfl
@[simp] theorem on_modFb {s : State} {n g f} : (s.modFb n g).on f = s.on f := rfl

@[simp] theorem modEnc_pending {s : State} {n g} : (s.modEnc n g).pending = s.pending := rfl
@[simp] theorem modEnc_out {s : State} {n g} : (s.modEnc n g).out = s.out := rfl
@[simp] theorem modEnc_free {s : State} {n g} : (s.modEnc n g).free = s.free := rfl
@[simp] theorem modEnc_clk32 {s : State} {n g} : (s.modEnc n g).clk32 = s.clk32 := rfl
@[simp] theorem modEnc_regs {s : State} {n g} : (s.modEnc n g).regs = s.regs := rfl
@[simp] theorem modEnc_frozen {s : State} {n g} : (s.modEnc n g).frozen = s.frozen := rfl
@[simp] theorem modEnc_hiFrozen {s : State} {n g} : (s.modEnc n g).hiFrozen = s.hiFrozen := rfl
@[simp] theorem modEnc_dw {s : State} {n g} : (s.modEnc n g).dw = s.dw := rfl
@[simp] theorem modEnc_ax {s : State} {n g} : (s.modEnc n g).ax = s.ax := rfl
@[simp] theorem modEnc_fb {s : State} {n g} : (s.modEnc n g).fb = s.fb := rfl
@[simp] theorem modEnc_journal {s : State} {n g} : (s.modEnc n g).journal = s.journal := rfl
@[simp] theorem modEnc_faultCnt {s : State} {n g} : (s.modEnc n g).faultCnt = s.faultCnt := rfl
@[simp] theorem modEnc_shadow {s : State} {n g} : (s.modEnc n g).shadow = s.shadow := rfl
@[simp] theorem modEnc_posted {s : State} {n g} : (s.modEnc n g).posted = s.posted := rfl
@[simp] theorem modEnc_rtc {s : State} {n g} : (s.modEnc n g).rtc = s.rtc := rfl
@[simp] theorem modEnc_rtcFrac {s : State} {n g} : (s.modEnc n g).rtcFrac = s.rtcFrac := rfl
@[simp] theorem modEnc_answers {s : State} {n g} : (s.modEnc n g).answers = s.answers := rfl
@[simp] theorem modEnc_pcieMask {s : State} {n g} : (s.modEnc n g).pcieMask = s.pcieMask := rfl
@[simp] theorem modEnc_ch {s : State} {n g} : (s.modEnc n g).ch = s.ch := rfl
@[simp] theorem modEnc_die {s : State} {n g} : (s.modEnc n g).die = s.die := rfl
@[simp] theorem modEnc_onBlocked {s : State} {n g} : (s.modEnc n g).onBlocked = s.onBlocked := rfl
@[simp] theorem modEnc_pan {s : State} {n g} : (s.modEnc n g).pan = s.pan := rfl
@[simp] theorem modEnc_sl {s : State} {n g} : (s.modEnc n g).sl = s.sl := rfl
@[simp] theorem modEnc_pz {s : State} {n g} : (s.modEnc n g).pz = s.pz := rfl
@[simp] theorem modEnc_oe {s : State} {n g} : (s.modEnc n g).oe = s.oe := rfl
@[simp] theorem modEnc_diFilt {s : State} {n g} : (s.modEnc n g).diFilt = s.diFilt := rfl
@[simp] theorem modEnc_diInv {s : State} {n g} : (s.modEnc n g).diInv = s.diInv := rfl
@[simp] theorem modEnc_diRaw {s : State} {n g} : (s.modEnc n g).diRaw = s.diRaw := rfl
@[simp] theorem modEnc_diPin {s : State} {n g} : (s.modEnc n g).diPin = s.diPin := rfl
@[simp] theorem modEnc_diCnt {s : State} {n g} : (s.modEnc n g).diCnt = s.diCnt := rfl
@[simp] theorem modEnc_sc {s : State} {n g} : (s.modEnc n g).sc = s.sc := rfl
@[simp] theorem modEnc_trips {s : State} {n g} : (s.modEnc n g).trips = s.trips := rfl
@[simp] theorem modEnc_vlt {s : State} {n g} : (s.modEnc n g).vlt = s.vlt := rfl
@[simp] theorem modEnc_stl {s : State} {n g} : (s.modEnc n g).stl = s.stl := rfl
@[simp] theorem modEnc_can {s : State} {n g} : (s.modEnc n g).can = s.can := rfl
@[simp] theorem modEnc_mvb {s : State} {n g} : (s.modEnc n g).mvb = s.mvb := rfl
@[simp] theorem modEnc_ldg {s : State} {n g} : (s.modEnc n g).ldg = s.ldg := rfl
@[simp] theorem modEnc_par {s : State} {n g} : (s.modEnc n g).par = s.par := rfl
@[simp] theorem modEnc_cel {s : State} {n g} : (s.modEnc n g).cel = s.cel := rfl
@[simp] theorem modEnc_boot {s : State} {n g} : (s.modEnc n g).boot = s.boot := rfl
@[simp] theorem modEnc_hif {s : State} {n g} : (s.modEnc n g).hif = s.hif := rfl
@[simp] theorem word_modEnc {s : State} {n g a} : (s.modEnc n g).word a = s.word a := rfl
@[simp] theorem get_modEnc {s : State} {n g f} : (s.modEnc n g).get f = s.get f := rfl
@[simp] theorem getI_modEnc {s : State} {n g f} : (s.modEnc n g).getI f = s.getI f := rfl
@[simp] theorem on_modEnc {s : State} {n g f} : (s.modEnc n g).on f = s.on f := rfl

@[simp] theorem modCh_pending {s : State} {n g} : (s.modCh n g).pending = s.pending := rfl
@[simp] theorem modCh_out {s : State} {n g} : (s.modCh n g).out = s.out := rfl
@[simp] theorem modCh_free {s : State} {n g} : (s.modCh n g).free = s.free := rfl
@[simp] theorem modCh_clk32 {s : State} {n g} : (s.modCh n g).clk32 = s.clk32 := rfl
@[simp] theorem modCh_regs {s : State} {n g} : (s.modCh n g).regs = s.regs := rfl
@[simp] theorem modCh_frozen {s : State} {n g} : (s.modCh n g).frozen = s.frozen := rfl
@[simp] theorem modCh_hiFrozen {s : State} {n g} : (s.modCh n g).hiFrozen = s.hiFrozen := rfl
@[simp] theorem modCh_dw {s : State} {n g} : (s.modCh n g).dw = s.dw := rfl
@[simp] theorem modCh_ax {s : State} {n g} : (s.modCh n g).ax = s.ax := rfl
@[simp] theorem modCh_fb {s : State} {n g} : (s.modCh n g).fb = s.fb := rfl
@[simp] theorem modCh_enc {s : State} {n g} : (s.modCh n g).enc = s.enc := rfl
@[simp] theorem modCh_journal {s : State} {n g} : (s.modCh n g).journal = s.journal := rfl
@[simp] theorem modCh_faultCnt {s : State} {n g} : (s.modCh n g).faultCnt = s.faultCnt := rfl
@[simp] theorem modCh_shadow {s : State} {n g} : (s.modCh n g).shadow = s.shadow := rfl
@[simp] theorem modCh_posted {s : State} {n g} : (s.modCh n g).posted = s.posted := rfl
@[simp] theorem modCh_rtc {s : State} {n g} : (s.modCh n g).rtc = s.rtc := rfl
@[simp] theorem modCh_rtcFrac {s : State} {n g} : (s.modCh n g).rtcFrac = s.rtcFrac := rfl
@[simp] theorem modCh_answers {s : State} {n g} : (s.modCh n g).answers = s.answers := rfl
@[simp] theorem modCh_pcieMask {s : State} {n g} : (s.modCh n g).pcieMask = s.pcieMask := rfl
@[simp] theorem modCh_die {s : State} {n g} : (s.modCh n g).die = s.die := rfl
@[simp] theorem modCh_onBlocked {s : State} {n g} : (s.modCh n g).onBlocked = s.onBlocked := rfl
@[simp] theorem modCh_pan {s : State} {n g} : (s.modCh n g).pan = s.pan := rfl
@[simp] theorem modCh_sl {s : State} {n g} : (s.modCh n g).sl = s.sl := rfl
@[simp] theorem modCh_pz {s : State} {n g} : (s.modCh n g).pz = s.pz := rfl
@[simp] theorem modCh_oe {s : State} {n g} : (s.modCh n g).oe = s.oe := rfl
@[simp] theorem modCh_diFilt {s : State} {n g} : (s.modCh n g).diFilt = s.diFilt := rfl
@[simp] theorem modCh_diInv {s : State} {n g} : (s.modCh n g).diInv = s.diInv := rfl
@[simp] theorem modCh_diRaw {s : State} {n g} : (s.modCh n g).diRaw = s.diRaw := rfl
@[simp] theorem modCh_diPin {s : State} {n g} : (s.modCh n g).diPin = s.diPin := rfl
@[simp] theorem modCh_diCnt {s : State} {n g} : (s.modCh n g).diCnt = s.diCnt := rfl
@[simp] theorem modCh_sc {s : State} {n g} : (s.modCh n g).sc = s.sc := rfl
@[simp] theorem modCh_trips {s : State} {n g} : (s.modCh n g).trips = s.trips := rfl
@[simp] theorem modCh_vlt {s : State} {n g} : (s.modCh n g).vlt = s.vlt := rfl
@[simp] theorem modCh_stl {s : State} {n g} : (s.modCh n g).stl = s.stl := rfl
@[simp] theorem modCh_can {s : State} {n g} : (s.modCh n g).can = s.can := rfl
@[simp] theorem modCh_mvb {s : State} {n g} : (s.modCh n g).mvb = s.mvb := rfl
@[simp] theorem modCh_ldg {s : State} {n g} : (s.modCh n g).ldg = s.ldg := rfl
@[simp] theorem modCh_par {s : State} {n g} : (s.modCh n g).par = s.par := rfl
@[simp] theorem modCh_cel {s : State} {n g} : (s.modCh n g).cel = s.cel := rfl
@[simp] theorem modCh_boot {s : State} {n g} : (s.modCh n g).boot = s.boot := rfl
@[simp] theorem modCh_hif {s : State} {n g} : (s.modCh n g).hif = s.hif := rfl
@[simp] theorem word_modCh {s : State} {n g a} : (s.modCh n g).word a = s.word a := rfl
@[simp] theorem get_modCh {s : State} {n g f} : (s.modCh n g).get f = s.get f := rfl
@[simp] theorem getI_modCh {s : State} {n g f} : (s.modCh n g).getI f = s.getI f := rfl
@[simp] theorem on_modCh {s : State} {n g f} : (s.modCh n g).on f = s.on f := rfl

@[simp] theorem modDie_pending {s : State} {n g} : (s.modDie n g).pending = s.pending := rfl
@[simp] theorem modDie_out {s : State} {n g} : (s.modDie n g).out = s.out := rfl
@[simp] theorem modDie_free {s : State} {n g} : (s.modDie n g).free = s.free := rfl
@[simp] theorem modDie_clk32 {s : State} {n g} : (s.modDie n g).clk32 = s.clk32 := rfl
@[simp] theorem modDie_regs {s : State} {n g} : (s.modDie n g).regs = s.regs := rfl
@[simp] theorem modDie_frozen {s : State} {n g} : (s.modDie n g).frozen = s.frozen := rfl
@[simp] theorem modDie_hiFrozen {s : State} {n g} : (s.modDie n g).hiFrozen = s.hiFrozen := rfl
@[simp] theorem modDie_dw {s : State} {n g} : (s.modDie n g).dw = s.dw := rfl
@[simp] theorem modDie_ax {s : State} {n g} : (s.modDie n g).ax = s.ax := rfl
@[simp] theorem modDie_fb {s : State} {n g} : (s.modDie n g).fb = s.fb := rfl
@[simp] theorem modDie_enc {s : State} {n g} : (s.modDie n g).enc = s.enc := rfl
@[simp] theorem modDie_journal {s : State} {n g} : (s.modDie n g).journal = s.journal := rfl
@[simp] theorem modDie_faultCnt {s : State} {n g} : (s.modDie n g).faultCnt = s.faultCnt := rfl
@[simp] theorem modDie_shadow {s : State} {n g} : (s.modDie n g).shadow = s.shadow := rfl
@[simp] theorem modDie_posted {s : State} {n g} : (s.modDie n g).posted = s.posted := rfl
@[simp] theorem modDie_rtc {s : State} {n g} : (s.modDie n g).rtc = s.rtc := rfl
@[simp] theorem modDie_rtcFrac {s : State} {n g} : (s.modDie n g).rtcFrac = s.rtcFrac := rfl
@[simp] theorem modDie_answers {s : State} {n g} : (s.modDie n g).answers = s.answers := rfl
@[simp] theorem modDie_pcieMask {s : State} {n g} : (s.modDie n g).pcieMask = s.pcieMask := rfl
@[simp] theorem modDie_ch {s : State} {n g} : (s.modDie n g).ch = s.ch := rfl
@[simp] theorem modDie_onBlocked {s : State} {n g} : (s.modDie n g).onBlocked = s.onBlocked := rfl
@[simp] theorem modDie_pan {s : State} {n g} : (s.modDie n g).pan = s.pan := rfl
@[simp] theorem modDie_sl {s : State} {n g} : (s.modDie n g).sl = s.sl := rfl
@[simp] theorem modDie_pz {s : State} {n g} : (s.modDie n g).pz = s.pz := rfl
@[simp] theorem modDie_oe {s : State} {n g} : (s.modDie n g).oe = s.oe := rfl
@[simp] theorem modDie_diFilt {s : State} {n g} : (s.modDie n g).diFilt = s.diFilt := rfl
@[simp] theorem modDie_diInv {s : State} {n g} : (s.modDie n g).diInv = s.diInv := rfl
@[simp] theorem modDie_diRaw {s : State} {n g} : (s.modDie n g).diRaw = s.diRaw := rfl
@[simp] theorem modDie_diPin {s : State} {n g} : (s.modDie n g).diPin = s.diPin := rfl
@[simp] theorem modDie_diCnt {s : State} {n g} : (s.modDie n g).diCnt = s.diCnt := rfl
@[simp] theorem modDie_sc {s : State} {n g} : (s.modDie n g).sc = s.sc := rfl
@[simp] theorem modDie_trips {s : State} {n g} : (s.modDie n g).trips = s.trips := rfl
@[simp] theorem modDie_vlt {s : State} {n g} : (s.modDie n g).vlt = s.vlt := rfl
@[simp] theorem modDie_stl {s : State} {n g} : (s.modDie n g).stl = s.stl := rfl
@[simp] theorem modDie_can {s : State} {n g} : (s.modDie n g).can = s.can := rfl
@[simp] theorem modDie_mvb {s : State} {n g} : (s.modDie n g).mvb = s.mvb := rfl
@[simp] theorem modDie_ldg {s : State} {n g} : (s.modDie n g).ldg = s.ldg := rfl
@[simp] theorem modDie_par {s : State} {n g} : (s.modDie n g).par = s.par := rfl
@[simp] theorem modDie_cel {s : State} {n g} : (s.modDie n g).cel = s.cel := rfl
@[simp] theorem modDie_boot {s : State} {n g} : (s.modDie n g).boot = s.boot := rfl
@[simp] theorem modDie_hif {s : State} {n g} : (s.modDie n g).hif = s.hif := rfl
@[simp] theorem word_modDie {s : State} {n g a} : (s.modDie n g).word a = s.word a := rfl
@[simp] theorem get_modDie {s : State} {n g f} : (s.modDie n g).get f = s.get f := rfl
@[simp] theorem getI_modDie {s : State} {n g f} : (s.modDie n g).getI f = s.getI f := rfl
@[simp] theorem on_modDie {s : State} {n g f} : (s.modDie n g).on f = s.on f := rfl

@[simp] theorem modSl_pending {s : State} {n g} : (s.modSl n g).pending = s.pending := rfl
@[simp] theorem modSl_out {s : State} {n g} : (s.modSl n g).out = s.out := rfl
@[simp] theorem modSl_free {s : State} {n g} : (s.modSl n g).free = s.free := rfl
@[simp] theorem modSl_clk32 {s : State} {n g} : (s.modSl n g).clk32 = s.clk32 := rfl
@[simp] theorem modSl_regs {s : State} {n g} : (s.modSl n g).regs = s.regs := rfl
@[simp] theorem modSl_frozen {s : State} {n g} : (s.modSl n g).frozen = s.frozen := rfl
@[simp] theorem modSl_hiFrozen {s : State} {n g} : (s.modSl n g).hiFrozen = s.hiFrozen := rfl
@[simp] theorem modSl_dw {s : State} {n g} : (s.modSl n g).dw = s.dw := rfl
@[simp] theorem modSl_ax {s : State} {n g} : (s.modSl n g).ax = s.ax := rfl
@[simp] theorem modSl_fb {s : State} {n g} : (s.modSl n g).fb = s.fb := rfl
@[simp] theorem modSl_enc {s : State} {n g} : (s.modSl n g).enc = s.enc := rfl
@[simp] theorem modSl_journal {s : State} {n g} : (s.modSl n g).journal = s.journal := rfl
@[simp] theorem modSl_faultCnt {s : State} {n g} : (s.modSl n g).faultCnt = s.faultCnt := rfl
@[simp] theorem modSl_shadow {s : State} {n g} : (s.modSl n g).shadow = s.shadow := rfl
@[simp] theorem modSl_posted {s : State} {n g} : (s.modSl n g).posted = s.posted := rfl
@[simp] theorem modSl_rtc {s : State} {n g} : (s.modSl n g).rtc = s.rtc := rfl
@[simp] theorem modSl_rtcFrac {s : State} {n g} : (s.modSl n g).rtcFrac = s.rtcFrac := rfl
@[simp] theorem modSl_answers {s : State} {n g} : (s.modSl n g).answers = s.answers := rfl
@[simp] theorem modSl_pcieMask {s : State} {n g} : (s.modSl n g).pcieMask = s.pcieMask := rfl
@[simp] theorem modSl_ch {s : State} {n g} : (s.modSl n g).ch = s.ch := rfl
@[simp] theorem modSl_die {s : State} {n g} : (s.modSl n g).die = s.die := rfl
@[simp] theorem modSl_onBlocked {s : State} {n g} : (s.modSl n g).onBlocked = s.onBlocked := rfl
@[simp] theorem modSl_pan {s : State} {n g} : (s.modSl n g).pan = s.pan := rfl
@[simp] theorem modSl_pz {s : State} {n g} : (s.modSl n g).pz = s.pz := rfl
@[simp] theorem modSl_oe {s : State} {n g} : (s.modSl n g).oe = s.oe := rfl
@[simp] theorem modSl_diFilt {s : State} {n g} : (s.modSl n g).diFilt = s.diFilt := rfl
@[simp] theorem modSl_diInv {s : State} {n g} : (s.modSl n g).diInv = s.diInv := rfl
@[simp] theorem modSl_diRaw {s : State} {n g} : (s.modSl n g).diRaw = s.diRaw := rfl
@[simp] theorem modSl_diPin {s : State} {n g} : (s.modSl n g).diPin = s.diPin := rfl
@[simp] theorem modSl_diCnt {s : State} {n g} : (s.modSl n g).diCnt = s.diCnt := rfl
@[simp] theorem modSl_sc {s : State} {n g} : (s.modSl n g).sc = s.sc := rfl
@[simp] theorem modSl_trips {s : State} {n g} : (s.modSl n g).trips = s.trips := rfl
@[simp] theorem modSl_vlt {s : State} {n g} : (s.modSl n g).vlt = s.vlt := rfl
@[simp] theorem modSl_stl {s : State} {n g} : (s.modSl n g).stl = s.stl := rfl
@[simp] theorem modSl_can {s : State} {n g} : (s.modSl n g).can = s.can := rfl
@[simp] theorem modSl_mvb {s : State} {n g} : (s.modSl n g).mvb = s.mvb := rfl
@[simp] theorem modSl_ldg {s : State} {n g} : (s.modSl n g).ldg = s.ldg := rfl
@[simp] theorem modSl_par {s : State} {n g} : (s.modSl n g).par = s.par := rfl
@[simp] theorem modSl_cel {s : State} {n g} : (s.modSl n g).cel = s.cel := rfl
@[simp] theorem modSl_boot {s : State} {n g} : (s.modSl n g).boot = s.boot := rfl
@[simp] theorem modSl_hif {s : State} {n g} : (s.modSl n g).hif = s.hif := rfl
@[simp] theorem word_modSl {s : State} {n g a} : (s.modSl n g).word a = s.word a := rfl
@[simp] theorem get_modSl {s : State} {n g f} : (s.modSl n g).get f = s.get f := rfl
@[simp] theorem getI_modSl {s : State} {n g f} : (s.modSl n g).getI f = s.getI f := rfl
@[simp] theorem on_modSl {s : State} {n g f} : (s.modSl n g).on f = s.on f := rfl

@[simp] theorem modPz_pending {s : State} {n g} : (s.modPz n g).pending = s.pending := rfl
@[simp] theorem modPz_out {s : State} {n g} : (s.modPz n g).out = s.out := rfl
@[simp] theorem modPz_free {s : State} {n g} : (s.modPz n g).free = s.free := rfl
@[simp] theorem modPz_clk32 {s : State} {n g} : (s.modPz n g).clk32 = s.clk32 := rfl
@[simp] theorem modPz_regs {s : State} {n g} : (s.modPz n g).regs = s.regs := rfl
@[simp] theorem modPz_frozen {s : State} {n g} : (s.modPz n g).frozen = s.frozen := rfl
@[simp] theorem modPz_hiFrozen {s : State} {n g} : (s.modPz n g).hiFrozen = s.hiFrozen := rfl
@[simp] theorem modPz_dw {s : State} {n g} : (s.modPz n g).dw = s.dw := rfl
@[simp] theorem modPz_ax {s : State} {n g} : (s.modPz n g).ax = s.ax := rfl
@[simp] theorem modPz_fb {s : State} {n g} : (s.modPz n g).fb = s.fb := rfl
@[simp] theorem modPz_enc {s : State} {n g} : (s.modPz n g).enc = s.enc := rfl
@[simp] theorem modPz_journal {s : State} {n g} : (s.modPz n g).journal = s.journal := rfl
@[simp] theorem modPz_faultCnt {s : State} {n g} : (s.modPz n g).faultCnt = s.faultCnt := rfl
@[simp] theorem modPz_shadow {s : State} {n g} : (s.modPz n g).shadow = s.shadow := rfl
@[simp] theorem modPz_posted {s : State} {n g} : (s.modPz n g).posted = s.posted := rfl
@[simp] theorem modPz_rtc {s : State} {n g} : (s.modPz n g).rtc = s.rtc := rfl
@[simp] theorem modPz_rtcFrac {s : State} {n g} : (s.modPz n g).rtcFrac = s.rtcFrac := rfl
@[simp] theorem modPz_answers {s : State} {n g} : (s.modPz n g).answers = s.answers := rfl
@[simp] theorem modPz_pcieMask {s : State} {n g} : (s.modPz n g).pcieMask = s.pcieMask := rfl
@[simp] theorem modPz_ch {s : State} {n g} : (s.modPz n g).ch = s.ch := rfl
@[simp] theorem modPz_die {s : State} {n g} : (s.modPz n g).die = s.die := rfl
@[simp] theorem modPz_onBlocked {s : State} {n g} : (s.modPz n g).onBlocked = s.onBlocked := rfl
@[simp] theorem modPz_pan {s : State} {n g} : (s.modPz n g).pan = s.pan := rfl
@[simp] theorem modPz_sl {s : State} {n g} : (s.modPz n g).sl = s.sl := rfl
@[simp] theorem modPz_oe {s : State} {n g} : (s.modPz n g).oe = s.oe := rfl
@[simp] theorem modPz_diFilt {s : State} {n g} : (s.modPz n g).diFilt = s.diFilt := rfl
@[simp] theorem modPz_diInv {s : State} {n g} : (s.modPz n g).diInv = s.diInv := rfl
@[simp] theorem modPz_diRaw {s : State} {n g} : (s.modPz n g).diRaw = s.diRaw := rfl
@[simp] theorem modPz_diPin {s : State} {n g} : (s.modPz n g).diPin = s.diPin := rfl
@[simp] theorem modPz_diCnt {s : State} {n g} : (s.modPz n g).diCnt = s.diCnt := rfl
@[simp] theorem modPz_sc {s : State} {n g} : (s.modPz n g).sc = s.sc := rfl
@[simp] theorem modPz_trips {s : State} {n g} : (s.modPz n g).trips = s.trips := rfl
@[simp] theorem modPz_vlt {s : State} {n g} : (s.modPz n g).vlt = s.vlt := rfl
@[simp] theorem modPz_stl {s : State} {n g} : (s.modPz n g).stl = s.stl := rfl
@[simp] theorem modPz_can {s : State} {n g} : (s.modPz n g).can = s.can := rfl
@[simp] theorem modPz_mvb {s : State} {n g} : (s.modPz n g).mvb = s.mvb := rfl
@[simp] theorem modPz_ldg {s : State} {n g} : (s.modPz n g).ldg = s.ldg := rfl
@[simp] theorem modPz_par {s : State} {n g} : (s.modPz n g).par = s.par := rfl
@[simp] theorem modPz_cel {s : State} {n g} : (s.modPz n g).cel = s.cel := rfl
@[simp] theorem modPz_boot {s : State} {n g} : (s.modPz n g).boot = s.boot := rfl
@[simp] theorem modPz_hif {s : State} {n g} : (s.modPz n g).hif = s.hif := rfl
@[simp] theorem word_modPz {s : State} {n g a} : (s.modPz n g).word a = s.word a := rfl
@[simp] theorem get_modPz {s : State} {n g f} : (s.modPz n g).get f = s.get f := rfl
@[simp] theorem getI_modPz {s : State} {n g f} : (s.modPz n g).getI f = s.getI f := rfl
@[simp] theorem on_modPz {s : State} {n g f} : (s.modPz n g).on f = s.on f := rfl

@[simp] theorem modOe_pending {s : State} {g} : (s.modOe g).pending = s.pending := rfl
@[simp] theorem modOe_out {s : State} {g} : (s.modOe g).out = s.out := rfl
@[simp] theorem modOe_free {s : State} {g} : (s.modOe g).free = s.free := rfl
@[simp] theorem modOe_clk32 {s : State} {g} : (s.modOe g).clk32 = s.clk32 := rfl
@[simp] theorem modOe_regs {s : State} {g} : (s.modOe g).regs = s.regs := rfl
@[simp] theorem modOe_frozen {s : State} {g} : (s.modOe g).frozen = s.frozen := rfl
@[simp] theorem modOe_hiFrozen {s : State} {g} : (s.modOe g).hiFrozen = s.hiFrozen := rfl
@[simp] theorem modOe_dw {s : State} {g} : (s.modOe g).dw = s.dw := rfl
@[simp] theorem modOe_ax {s : State} {g} : (s.modOe g).ax = s.ax := rfl
@[simp] theorem modOe_fb {s : State} {g} : (s.modOe g).fb = s.fb := rfl
@[simp] theorem modOe_enc {s : State} {g} : (s.modOe g).enc = s.enc := rfl
@[simp] theorem modOe_journal {s : State} {g} : (s.modOe g).journal = s.journal := rfl
@[simp] theorem modOe_faultCnt {s : State} {g} : (s.modOe g).faultCnt = s.faultCnt := rfl
@[simp] theorem modOe_shadow {s : State} {g} : (s.modOe g).shadow = s.shadow := rfl
@[simp] theorem modOe_posted {s : State} {g} : (s.modOe g).posted = s.posted := rfl
@[simp] theorem modOe_rtc {s : State} {g} : (s.modOe g).rtc = s.rtc := rfl
@[simp] theorem modOe_rtcFrac {s : State} {g} : (s.modOe g).rtcFrac = s.rtcFrac := rfl
@[simp] theorem modOe_answers {s : State} {g} : (s.modOe g).answers = s.answers := rfl
@[simp] theorem modOe_pcieMask {s : State} {g} : (s.modOe g).pcieMask = s.pcieMask := rfl
@[simp] theorem modOe_ch {s : State} {g} : (s.modOe g).ch = s.ch := rfl
@[simp] theorem modOe_die {s : State} {g} : (s.modOe g).die = s.die := rfl
@[simp] theorem modOe_onBlocked {s : State} {g} : (s.modOe g).onBlocked = s.onBlocked := rfl
@[simp] theorem modOe_pan {s : State} {g} : (s.modOe g).pan = s.pan := rfl
@[simp] theorem modOe_sl {s : State} {g} : (s.modOe g).sl = s.sl := rfl
@[simp] theorem modOe_pz {s : State} {g} : (s.modOe g).pz = s.pz := rfl
@[simp] theorem modOe_diFilt {s : State} {g} : (s.modOe g).diFilt = s.diFilt := rfl
@[simp] theorem modOe_diInv {s : State} {g} : (s.modOe g).diInv = s.diInv := rfl
@[simp] theorem modOe_diRaw {s : State} {g} : (s.modOe g).diRaw = s.diRaw := rfl
@[simp] theorem modOe_diPin {s : State} {g} : (s.modOe g).diPin = s.diPin := rfl
@[simp] theorem modOe_diCnt {s : State} {g} : (s.modOe g).diCnt = s.diCnt := rfl
@[simp] theorem modOe_sc {s : State} {g} : (s.modOe g).sc = s.sc := rfl
@[simp] theorem modOe_trips {s : State} {g} : (s.modOe g).trips = s.trips := rfl
@[simp] theorem modOe_vlt {s : State} {g} : (s.modOe g).vlt = s.vlt := rfl
@[simp] theorem modOe_stl {s : State} {g} : (s.modOe g).stl = s.stl := rfl
@[simp] theorem modOe_can {s : State} {g} : (s.modOe g).can = s.can := rfl
@[simp] theorem modOe_mvb {s : State} {g} : (s.modOe g).mvb = s.mvb := rfl
@[simp] theorem modOe_ldg {s : State} {g} : (s.modOe g).ldg = s.ldg := rfl
@[simp] theorem modOe_par {s : State} {g} : (s.modOe g).par = s.par := rfl
@[simp] theorem modOe_cel {s : State} {g} : (s.modOe g).cel = s.cel := rfl
@[simp] theorem modOe_boot {s : State} {g} : (s.modOe g).boot = s.boot := rfl
@[simp] theorem modOe_hif {s : State} {g} : (s.modOe g).hif = s.hif := rfl
@[simp] theorem word_modOe {s : State} {g a} : (s.modOe g).word a = s.word a := rfl
@[simp] theorem get_modOe {s : State} {g f} : (s.modOe g).get f = s.get f := rfl
@[simp] theorem getI_modOe {s : State} {g f} : (s.modOe g).getI f = s.getI f := rfl
@[simp] theorem on_modOe {s : State} {g f} : (s.modOe g).on f = s.on f := rfl

@[simp] theorem emit_pending {s : State} {e} : (s.emit e).pending = s.pending := rfl
@[simp] theorem emit_free {s : State} {e} : (s.emit e).free = s.free := rfl
@[simp] theorem emit_clk32 {s : State} {e} : (s.emit e).clk32 = s.clk32 := rfl
@[simp] theorem emit_regs {s : State} {e} : (s.emit e).regs = s.regs := rfl
@[simp] theorem emit_frozen {s : State} {e} : (s.emit e).frozen = s.frozen := rfl
@[simp] theorem emit_hiFrozen {s : State} {e} : (s.emit e).hiFrozen = s.hiFrozen := rfl
@[simp] theorem emit_dw {s : State} {e} : (s.emit e).dw = s.dw := rfl
@[simp] theorem emit_ax {s : State} {e} : (s.emit e).ax = s.ax := rfl
@[simp] theorem emit_fb {s : State} {e} : (s.emit e).fb = s.fb := rfl
@[simp] theorem emit_enc {s : State} {e} : (s.emit e).enc = s.enc := rfl
@[simp] theorem emit_journal {s : State} {e} : (s.emit e).journal = s.journal := rfl
@[simp] theorem emit_faultCnt {s : State} {e} : (s.emit e).faultCnt = s.faultCnt := rfl
@[simp] theorem emit_shadow {s : State} {e} : (s.emit e).shadow = s.shadow := rfl
@[simp] theorem emit_posted {s : State} {e} : (s.emit e).posted = s.posted := rfl
@[simp] theorem emit_rtc {s : State} {e} : (s.emit e).rtc = s.rtc := rfl
@[simp] theorem emit_rtcFrac {s : State} {e} : (s.emit e).rtcFrac = s.rtcFrac := rfl
@[simp] theorem emit_answers {s : State} {e} : (s.emit e).answers = s.answers := rfl
@[simp] theorem emit_pcieMask {s : State} {e} : (s.emit e).pcieMask = s.pcieMask := rfl
@[simp] theorem emit_ch {s : State} {e} : (s.emit e).ch = s.ch := rfl
@[simp] theorem emit_die {s : State} {e} : (s.emit e).die = s.die := rfl
@[simp] theorem emit_onBlocked {s : State} {e} : (s.emit e).onBlocked = s.onBlocked := rfl
@[simp] theorem emit_pan {s : State} {e} : (s.emit e).pan = s.pan := rfl
@[simp] theorem emit_sl {s : State} {e} : (s.emit e).sl = s.sl := rfl
@[simp] theorem emit_pz {s : State} {e} : (s.emit e).pz = s.pz := rfl
@[simp] theorem emit_oe {s : State} {e} : (s.emit e).oe = s.oe := rfl
@[simp] theorem emit_diFilt {s : State} {e} : (s.emit e).diFilt = s.diFilt := rfl
@[simp] theorem emit_diInv {s : State} {e} : (s.emit e).diInv = s.diInv := rfl
@[simp] theorem emit_diRaw {s : State} {e} : (s.emit e).diRaw = s.diRaw := rfl
@[simp] theorem emit_diPin {s : State} {e} : (s.emit e).diPin = s.diPin := rfl
@[simp] theorem emit_diCnt {s : State} {e} : (s.emit e).diCnt = s.diCnt := rfl
@[simp] theorem emit_sc {s : State} {e} : (s.emit e).sc = s.sc := rfl
@[simp] theorem emit_trips {s : State} {e} : (s.emit e).trips = s.trips := rfl
@[simp] theorem emit_vlt {s : State} {e} : (s.emit e).vlt = s.vlt := rfl
@[simp] theorem emit_stl {s : State} {e} : (s.emit e).stl = s.stl := rfl
@[simp] theorem emit_can {s : State} {e} : (s.emit e).can = s.can := rfl
@[simp] theorem emit_mvb {s : State} {e} : (s.emit e).mvb = s.mvb := rfl
@[simp] theorem emit_ldg {s : State} {e} : (s.emit e).ldg = s.ldg := rfl
@[simp] theorem emit_par {s : State} {e} : (s.emit e).par = s.par := rfl
@[simp] theorem emit_cel {s : State} {e} : (s.emit e).cel = s.cel := rfl
@[simp] theorem emit_boot {s : State} {e} : (s.emit e).boot = s.boot := rfl
@[simp] theorem emit_hif {s : State} {e} : (s.emit e).hif = s.hif := rfl
@[simp] theorem word_emit {s : State} {e a} : (s.emit e).word a = s.word a := rfl
@[simp] theorem get_emit {s : State} {e f} : (s.emit e).get f = s.get f := rfl
@[simp] theorem getI_emit {s : State} {e f} : (s.emit e).getI f = s.getI f := rfl
@[simp] theorem on_emit {s : State} {e f} : (s.emit e).on f = s.on f := rfl

@[simp] theorem bumpFree_pending {s : State} : (s.bumpFree).pending = s.pending := rfl
@[simp] theorem bumpFree_out {s : State} : (s.bumpFree).out = s.out := rfl
@[simp] theorem bumpFree_clk32 {s : State} : (s.bumpFree).clk32 = s.clk32 := rfl
@[simp] theorem bumpFree_regs {s : State} : (s.bumpFree).regs = s.regs := rfl
@[simp] theorem bumpFree_frozen {s : State} : (s.bumpFree).frozen = s.frozen := rfl
@[simp] theorem bumpFree_hiFrozen {s : State} : (s.bumpFree).hiFrozen = s.hiFrozen := rfl
@[simp] theorem bumpFree_dw {s : State} : (s.bumpFree).dw = s.dw := rfl
@[simp] theorem bumpFree_ax {s : State} : (s.bumpFree).ax = s.ax := rfl
@[simp] theorem bumpFree_fb {s : State} : (s.bumpFree).fb = s.fb := rfl
@[simp] theorem bumpFree_enc {s : State} : (s.bumpFree).enc = s.enc := rfl
@[simp] theorem bumpFree_journal {s : State} : (s.bumpFree).journal = s.journal := rfl
@[simp] theorem bumpFree_faultCnt {s : State} : (s.bumpFree).faultCnt = s.faultCnt := rfl
@[simp] theorem bumpFree_shadow {s : State} : (s.bumpFree).shadow = s.shadow := rfl
@[simp] theorem bumpFree_posted {s : State} : (s.bumpFree).posted = s.posted := rfl
@[simp] theorem bumpFree_rtc {s : State} : (s.bumpFree).rtc = s.rtc := rfl
@[simp] theorem bumpFree_rtcFrac {s : State} : (s.bumpFree).rtcFrac = s.rtcFrac := rfl
@[simp] theorem bumpFree_answers {s : State} : (s.bumpFree).answers = s.answers := rfl
@[simp] theorem bumpFree_pcieMask {s : State} : (s.bumpFree).pcieMask = s.pcieMask := rfl
@[simp] theorem bumpFree_ch {s : State} : (s.bumpFree).ch = s.ch := rfl
@[simp] theorem bumpFree_die {s : State} : (s.bumpFree).die = s.die := rfl
@[simp] theorem bumpFree_onBlocked {s : State} : (s.bumpFree).onBlocked = s.onBlocked := rfl
@[simp] theorem bumpFree_pan {s : State} : (s.bumpFree).pan = s.pan := rfl
@[simp] theorem bumpFree_sl {s : State} : (s.bumpFree).sl = s.sl := rfl
@[simp] theorem bumpFree_pz {s : State} : (s.bumpFree).pz = s.pz := rfl
@[simp] theorem bumpFree_oe {s : State} : (s.bumpFree).oe = s.oe := rfl
@[simp] theorem bumpFree_diFilt {s : State} : (s.bumpFree).diFilt = s.diFilt := rfl
@[simp] theorem bumpFree_diInv {s : State} : (s.bumpFree).diInv = s.diInv := rfl
@[simp] theorem bumpFree_diRaw {s : State} : (s.bumpFree).diRaw = s.diRaw := rfl
@[simp] theorem bumpFree_diPin {s : State} : (s.bumpFree).diPin = s.diPin := rfl
@[simp] theorem bumpFree_diCnt {s : State} : (s.bumpFree).diCnt = s.diCnt := rfl
@[simp] theorem bumpFree_sc {s : State} : (s.bumpFree).sc = s.sc := rfl
@[simp] theorem bumpFree_trips {s : State} : (s.bumpFree).trips = s.trips := rfl
@[simp] theorem bumpFree_vlt {s : State} : (s.bumpFree).vlt = s.vlt := rfl
@[simp] theorem bumpFree_stl {s : State} : (s.bumpFree).stl = s.stl := rfl
@[simp] theorem bumpFree_can {s : State} : (s.bumpFree).can = s.can := rfl
@[simp] theorem bumpFree_mvb {s : State} : (s.bumpFree).mvb = s.mvb := rfl
@[simp] theorem bumpFree_ldg {s : State} : (s.bumpFree).ldg = s.ldg := rfl
@[simp] theorem bumpFree_par {s : State} : (s.bumpFree).par = s.par := rfl
@[simp] theorem bumpFree_cel {s : State} : (s.bumpFree).cel = s.cel := rfl
@[simp] theorem bumpFree_boot {s : State} : (s.bumpFree).boot = s.boot := rfl
@[simp] theorem bumpFree_hif {s : State} : (s.bumpFree).hif = s.hif := rfl
@[simp] theorem word_bumpFree {s : State} {a} : (s.bumpFree).word a = s.word a := rfl
@[simp] theorem get_bumpFree {s : State} {f} : (s.bumpFree).get f = s.get f := rfl
@[simp] theorem getI_bumpFree {s : State} {f} : (s.bumpFree).getI f = s.getI f := rfl
@[simp] theorem on_bumpFree {s : State} {f} : (s.bumpFree).on f = s.on f := rfl

@[simp] theorem modSc_pending {s : State} {g} : (s.modSc g).pending = s.pending := rfl
@[simp] theorem modSc_out {s : State} {g} : (s.modSc g).out = s.out := rfl
@[simp] theorem modSc_free {s : State} {g} : (s.modSc g).free = s.free := rfl
@[simp] theorem modSc_clk32 {s : State} {g} : (s.modSc g).clk32 = s.clk32 := rfl
@[simp] theorem modSc_regs {s : State} {g} : (s.modSc g).regs = s.regs := rfl
@[simp] theorem modSc_frozen {s : State} {g} : (s.modSc g).frozen = s.frozen := rfl
@[simp] theorem modSc_hiFrozen {s : State} {g} : (s.modSc g).hiFrozen = s.hiFrozen := rfl
@[simp] theorem modSc_dw {s : State} {g} : (s.modSc g).dw = s.dw := rfl
@[simp] theorem modSc_ax {s : State} {g} : (s.modSc g).ax = s.ax := rfl
@[simp] theorem modSc_fb {s : State} {g} : (s.modSc g).fb = s.fb := rfl
@[simp] theorem modSc_enc {s : State} {g} : (s.modSc g).enc = s.enc := rfl
@[simp] theorem modSc_journal {s : State} {g} : (s.modSc g).journal = s.journal := rfl
@[simp] theorem modSc_faultCnt {s : State} {g} : (s.modSc g).faultCnt = s.faultCnt := rfl
@[simp] theorem modSc_shadow {s : State} {g} : (s.modSc g).shadow = s.shadow := rfl
@[simp] theorem modSc_posted {s : State} {g} : (s.modSc g).posted = s.posted := rfl
@[simp] theorem modSc_rtc {s : State} {g} : (s.modSc g).rtc = s.rtc := rfl
@[simp] theorem modSc_rtcFrac {s : State} {g} : (s.modSc g).rtcFrac = s.rtcFrac := rfl
@[simp] theorem modSc_answers {s : State} {g} : (s.modSc g).answers = s.answers := rfl
@[simp] theorem modSc_pcieMask {s : State} {g} : (s.modSc g).pcieMask = s.pcieMask := rfl
@[simp] theorem modSc_ch {s : State} {g} : (s.modSc g).ch = s.ch := rfl
@[simp] theorem modSc_die {s : State} {g} : (s.modSc g).die = s.die := rfl
@[simp] theorem modSc_onBlocked {s : State} {g} : (s.modSc g).onBlocked = s.onBlocked := rfl
@[simp] theorem modSc_pan {s : State} {g} : (s.modSc g).pan = s.pan := rfl
@[simp] theorem modSc_sl {s : State} {g} : (s.modSc g).sl = s.sl := rfl
@[simp] theorem modSc_pz {s : State} {g} : (s.modSc g).pz = s.pz := rfl
@[simp] theorem modSc_oe {s : State} {g} : (s.modSc g).oe = s.oe := rfl
@[simp] theorem modSc_diFilt {s : State} {g} : (s.modSc g).diFilt = s.diFilt := rfl
@[simp] theorem modSc_diInv {s : State} {g} : (s.modSc g).diInv = s.diInv := rfl
@[simp] theorem modSc_diRaw {s : State} {g} : (s.modSc g).diRaw = s.diRaw := rfl
@[simp] theorem modSc_diPin {s : State} {g} : (s.modSc g).diPin = s.diPin := rfl
@[simp] theorem modSc_diCnt {s : State} {g} : (s.modSc g).diCnt = s.diCnt := rfl
@[simp] theorem modSc_trips {s : State} {g} : (s.modSc g).trips = s.trips := rfl
@[simp] theorem modSc_vlt {s : State} {g} : (s.modSc g).vlt = s.vlt := rfl
@[simp] theorem modSc_stl {s : State} {g} : (s.modSc g).stl = s.stl := rfl
@[simp] theorem modSc_can {s : State} {g} : (s.modSc g).can = s.can := rfl
@[simp] theorem modSc_mvb {s : State} {g} : (s.modSc g).mvb = s.mvb := rfl
@[simp] theorem modSc_ldg {s : State} {g} : (s.modSc g).ldg = s.ldg := rfl
@[simp] theorem modSc_par {s : State} {g} : (s.modSc g).par = s.par := rfl
@[simp] theorem modSc_cel {s : State} {g} : (s.modSc g).cel = s.cel := rfl
@[simp] theorem modSc_boot {s : State} {g} : (s.modSc g).boot = s.boot := rfl
@[simp] theorem modSc_hif {s : State} {g} : (s.modSc g).hif = s.hif := rfl
@[simp] theorem word_modSc {s : State} {g a} : (s.modSc g).word a = s.word a := rfl
@[simp] theorem get_modSc {s : State} {g f} : (s.modSc g).get f = s.get f := rfl
@[simp] theorem getI_modSc {s : State} {g f} : (s.modSc g).getI f = s.getI f := rfl
@[simp] theorem on_modSc {s : State} {g f} : (s.modSc g).on f = s.on f := rfl

@[simp] theorem modStl_pending {s : State} {g} : (s.modStl g).pending = s.pending := rfl
@[simp] theorem modStl_out {s : State} {g} : (s.modStl g).out = s.out := rfl
@[simp] theorem modStl_free {s : State} {g} : (s.modStl g).free = s.free := rfl
@[simp] theorem modStl_clk32 {s : State} {g} : (s.modStl g).clk32 = s.clk32 := rfl
@[simp] theorem modStl_regs {s : State} {g} : (s.modStl g).regs = s.regs := rfl
@[simp] theorem modStl_frozen {s : State} {g} : (s.modStl g).frozen = s.frozen := rfl
@[simp] theorem modStl_hiFrozen {s : State} {g} : (s.modStl g).hiFrozen = s.hiFrozen := rfl
@[simp] theorem modStl_dw {s : State} {g} : (s.modStl g).dw = s.dw := rfl
@[simp] theorem modStl_ax {s : State} {g} : (s.modStl g).ax = s.ax := rfl
@[simp] theorem modStl_fb {s : State} {g} : (s.modStl g).fb = s.fb := rfl
@[simp] theorem modStl_enc {s : State} {g} : (s.modStl g).enc = s.enc := rfl
@[simp] theorem modStl_journal {s : State} {g} : (s.modStl g).journal = s.journal := rfl
@[simp] theorem modStl_faultCnt {s : State} {g} : (s.modStl g).faultCnt = s.faultCnt := rfl
@[simp] theorem modStl_shadow {s : State} {g} : (s.modStl g).shadow = s.shadow := rfl
@[simp] theorem modStl_posted {s : State} {g} : (s.modStl g).posted = s.posted := rfl
@[simp] theorem modStl_rtc {s : State} {g} : (s.modStl g).rtc = s.rtc := rfl
@[simp] theorem modStl_rtcFrac {s : State} {g} : (s.modStl g).rtcFrac = s.rtcFrac := rfl
@[simp] theorem modStl_answers {s : State} {g} : (s.modStl g).answers = s.answers := rfl
@[simp] theorem modStl_pcieMask {s : State} {g} : (s.modStl g).pcieMask = s.pcieMask := rfl
@[simp] theorem modStl_ch {s : State} {g} : (s.modStl g).ch = s.ch := rfl
@[simp] theorem modStl_die {s : State} {g} : (s.modStl g).die = s.die := rfl
@[simp] theorem modStl_onBlocked {s : State} {g} : (s.modStl g).onBlocked = s.onBlocked := rfl
@[simp] theorem modStl_pan {s : State} {g} : (s.modStl g).pan = s.pan := rfl
@[simp] theorem modStl_sl {s : State} {g} : (s.modStl g).sl = s.sl := rfl
@[simp] theorem modStl_pz {s : State} {g} : (s.modStl g).pz = s.pz := rfl
@[simp] theorem modStl_oe {s : State} {g} : (s.modStl g).oe = s.oe := rfl
@[simp] theorem modStl_diFilt {s : State} {g} : (s.modStl g).diFilt = s.diFilt := rfl
@[simp] theorem modStl_diInv {s : State} {g} : (s.modStl g).diInv = s.diInv := rfl
@[simp] theorem modStl_diRaw {s : State} {g} : (s.modStl g).diRaw = s.diRaw := rfl
@[simp] theorem modStl_diPin {s : State} {g} : (s.modStl g).diPin = s.diPin := rfl
@[simp] theorem modStl_diCnt {s : State} {g} : (s.modStl g).diCnt = s.diCnt := rfl
@[simp] theorem modStl_sc {s : State} {g} : (s.modStl g).sc = s.sc := rfl
@[simp] theorem modStl_trips {s : State} {g} : (s.modStl g).trips = s.trips := rfl
@[simp] theorem modStl_vlt {s : State} {g} : (s.modStl g).vlt = s.vlt := rfl
@[simp] theorem modStl_can {s : State} {g} : (s.modStl g).can = s.can := rfl
@[simp] theorem modStl_mvb {s : State} {g} : (s.modStl g).mvb = s.mvb := rfl
@[simp] theorem modStl_ldg {s : State} {g} : (s.modStl g).ldg = s.ldg := rfl
@[simp] theorem modStl_par {s : State} {g} : (s.modStl g).par = s.par := rfl
@[simp] theorem modStl_cel {s : State} {g} : (s.modStl g).cel = s.cel := rfl
@[simp] theorem modStl_boot {s : State} {g} : (s.modStl g).boot = s.boot := rfl
@[simp] theorem modStl_hif {s : State} {g} : (s.modStl g).hif = s.hif := rfl
@[simp] theorem word_modStl {s : State} {g a} : (s.modStl g).word a = s.word a := rfl
@[simp] theorem get_modStl {s : State} {g f} : (s.modStl g).get f = s.get f := rfl
@[simp] theorem getI_modStl {s : State} {g f} : (s.modStl g).getI f = s.getI f := rfl
@[simp] theorem on_modStl {s : State} {g f} : (s.modStl g).on f = s.on f := rfl

@[simp] theorem modCan_pending {s : State} {n g} : (s.modCan n g).pending = s.pending := rfl
@[simp] theorem modCan_out {s : State} {n g} : (s.modCan n g).out = s.out := rfl
@[simp] theorem modCan_free {s : State} {n g} : (s.modCan n g).free = s.free := rfl
@[simp] theorem modCan_clk32 {s : State} {n g} : (s.modCan n g).clk32 = s.clk32 := rfl
@[simp] theorem modCan_regs {s : State} {n g} : (s.modCan n g).regs = s.regs := rfl
@[simp] theorem modCan_frozen {s : State} {n g} : (s.modCan n g).frozen = s.frozen := rfl
@[simp] theorem modCan_hiFrozen {s : State} {n g} : (s.modCan n g).hiFrozen = s.hiFrozen := rfl
@[simp] theorem modCan_dw {s : State} {n g} : (s.modCan n g).dw = s.dw := rfl
@[simp] theorem modCan_ax {s : State} {n g} : (s.modCan n g).ax = s.ax := rfl
@[simp] theorem modCan_fb {s : State} {n g} : (s.modCan n g).fb = s.fb := rfl
@[simp] theorem modCan_enc {s : State} {n g} : (s.modCan n g).enc = s.enc := rfl
@[simp] theorem modCan_journal {s : State} {n g} : (s.modCan n g).journal = s.journal := rfl
@[simp] theorem modCan_faultCnt {s : State} {n g} : (s.modCan n g).faultCnt = s.faultCnt := rfl
@[simp] theorem modCan_shadow {s : State} {n g} : (s.modCan n g).shadow = s.shadow := rfl
@[simp] theorem modCan_posted {s : State} {n g} : (s.modCan n g).posted = s.posted := rfl
@[simp] theorem modCan_rtc {s : State} {n g} : (s.modCan n g).rtc = s.rtc := rfl
@[simp] theorem modCan_rtcFrac {s : State} {n g} : (s.modCan n g).rtcFrac = s.rtcFrac := rfl
@[simp] theorem modCan_answers {s : State} {n g} : (s.modCan n g).answers = s.answers := rfl
@[simp] theorem modCan_pcieMask {s : State} {n g} : (s.modCan n g).pcieMask = s.pcieMask := rfl
@[simp] theorem modCan_ch {s : State} {n g} : (s.modCan n g).ch = s.ch := rfl
@[simp] theorem modCan_die {s : State} {n g} : (s.modCan n g).die = s.die := rfl
@[simp] theorem modCan_onBlocked {s : State} {n g} : (s.modCan n g).onBlocked = s.onBlocked := rfl
@[simp] theorem modCan_pan {s : State} {n g} : (s.modCan n g).pan = s.pan := rfl
@[simp] theorem modCan_sl {s : State} {n g} : (s.modCan n g).sl = s.sl := rfl
@[simp] theorem modCan_pz {s : State} {n g} : (s.modCan n g).pz = s.pz := rfl
@[simp] theorem modCan_oe {s : State} {n g} : (s.modCan n g).oe = s.oe := rfl
@[simp] theorem modCan_diFilt {s : State} {n g} : (s.modCan n g).diFilt = s.diFilt := rfl
@[simp] theorem modCan_diInv {s : State} {n g} : (s.modCan n g).diInv = s.diInv := rfl
@[simp] theorem modCan_diRaw {s : State} {n g} : (s.modCan n g).diRaw = s.diRaw := rfl
@[simp] theorem modCan_diPin {s : State} {n g} : (s.modCan n g).diPin = s.diPin := rfl
@[simp] theorem modCan_diCnt {s : State} {n g} : (s.modCan n g).diCnt = s.diCnt := rfl
@[simp] theorem modCan_sc {s : State} {n g} : (s.modCan n g).sc = s.sc := rfl
@[simp] theorem modCan_trips {s : State} {n g} : (s.modCan n g).trips = s.trips := rfl
@[simp] theorem modCan_vlt {s : State} {n g} : (s.modCan n g).vlt = s.vlt := rfl
@[simp] theorem modCan_stl {s : State} {n g} : (s.modCan n g).stl = s.stl := rfl
@[simp] theorem modCan_mvb {s : State} {n g} : (s.modCan n g).mvb = s.mvb := rfl
@[simp] theorem modCan_ldg {s : State} {n g} : (s.modCan n g).ldg = s.ldg := rfl
@[simp] theorem modCan_par {s : State} {n g} : (s.modCan n g).par = s.par := rfl
@[simp] theorem modCan_cel {s : State} {n g} : (s.modCan n g).cel = s.cel := rfl
@[simp] theorem modCan_boot {s : State} {n g} : (s.modCan n g).boot = s.boot := rfl
@[simp] theorem modCan_hif {s : State} {n g} : (s.modCan n g).hif = s.hif := rfl
@[simp] theorem word_modCan {s : State} {n g a} : (s.modCan n g).word a = s.word a := rfl
@[simp] theorem get_modCan {s : State} {n g f} : (s.modCan n g).get f = s.get f := rfl
@[simp] theorem getI_modCan {s : State} {n g f} : (s.modCan n g).getI f = s.getI f := rfl
@[simp] theorem on_modCan {s : State} {n g f} : (s.modCan n g).on f = s.on f := rfl

@[simp] theorem modVlt_pending {s : State} {g} : (s.modVlt g).pending = s.pending := rfl
@[simp] theorem modVlt_out {s : State} {g} : (s.modVlt g).out = s.out := rfl
@[simp] theorem modVlt_free {s : State} {g} : (s.modVlt g).free = s.free := rfl
@[simp] theorem modVlt_clk32 {s : State} {g} : (s.modVlt g).clk32 = s.clk32 := rfl
@[simp] theorem modVlt_regs {s : State} {g} : (s.modVlt g).regs = s.regs := rfl
@[simp] theorem modVlt_frozen {s : State} {g} : (s.modVlt g).frozen = s.frozen := rfl
@[simp] theorem modVlt_hiFrozen {s : State} {g} : (s.modVlt g).hiFrozen = s.hiFrozen := rfl
@[simp] theorem modVlt_dw {s : State} {g} : (s.modVlt g).dw = s.dw := rfl
@[simp] theorem modVlt_ax {s : State} {g} : (s.modVlt g).ax = s.ax := rfl
@[simp] theorem modVlt_fb {s : State} {g} : (s.modVlt g).fb = s.fb := rfl
@[simp] theorem modVlt_enc {s : State} {g} : (s.modVlt g).enc = s.enc := rfl
@[simp] theorem modVlt_journal {s : State} {g} : (s.modVlt g).journal = s.journal := rfl
@[simp] theorem modVlt_faultCnt {s : State} {g} : (s.modVlt g).faultCnt = s.faultCnt := rfl
@[simp] theorem modVlt_shadow {s : State} {g} : (s.modVlt g).shadow = s.shadow := rfl
@[simp] theorem modVlt_posted {s : State} {g} : (s.modVlt g).posted = s.posted := rfl
@[simp] theorem modVlt_rtc {s : State} {g} : (s.modVlt g).rtc = s.rtc := rfl
@[simp] theorem modVlt_rtcFrac {s : State} {g} : (s.modVlt g).rtcFrac = s.rtcFrac := rfl
@[simp] theorem modVlt_answers {s : State} {g} : (s.modVlt g).answers = s.answers := rfl
@[simp] theorem modVlt_pcieMask {s : State} {g} : (s.modVlt g).pcieMask = s.pcieMask := rfl
@[simp] theorem modVlt_ch {s : State} {g} : (s.modVlt g).ch = s.ch := rfl
@[simp] theorem modVlt_die {s : State} {g} : (s.modVlt g).die = s.die := rfl
@[simp] theorem modVlt_onBlocked {s : State} {g} : (s.modVlt g).onBlocked = s.onBlocked := rfl
@[simp] theorem modVlt_pan {s : State} {g} : (s.modVlt g).pan = s.pan := rfl
@[simp] theorem modVlt_sl {s : State} {g} : (s.modVlt g).sl = s.sl := rfl
@[simp] theorem modVlt_pz {s : State} {g} : (s.modVlt g).pz = s.pz := rfl
@[simp] theorem modVlt_oe {s : State} {g} : (s.modVlt g).oe = s.oe := rfl
@[simp] theorem modVlt_diFilt {s : State} {g} : (s.modVlt g).diFilt = s.diFilt := rfl
@[simp] theorem modVlt_diInv {s : State} {g} : (s.modVlt g).diInv = s.diInv := rfl
@[simp] theorem modVlt_diRaw {s : State} {g} : (s.modVlt g).diRaw = s.diRaw := rfl
@[simp] theorem modVlt_diPin {s : State} {g} : (s.modVlt g).diPin = s.diPin := rfl
@[simp] theorem modVlt_diCnt {s : State} {g} : (s.modVlt g).diCnt = s.diCnt := rfl
@[simp] theorem modVlt_sc {s : State} {g} : (s.modVlt g).sc = s.sc := rfl
@[simp] theorem modVlt_trips {s : State} {g} : (s.modVlt g).trips = s.trips := rfl
@[simp] theorem modVlt_stl {s : State} {g} : (s.modVlt g).stl = s.stl := rfl
@[simp] theorem modVlt_can {s : State} {g} : (s.modVlt g).can = s.can := rfl
@[simp] theorem modVlt_mvb {s : State} {g} : (s.modVlt g).mvb = s.mvb := rfl
@[simp] theorem modVlt_ldg {s : State} {g} : (s.modVlt g).ldg = s.ldg := rfl
@[simp] theorem modVlt_par {s : State} {g} : (s.modVlt g).par = s.par := rfl
@[simp] theorem modVlt_cel {s : State} {g} : (s.modVlt g).cel = s.cel := rfl
@[simp] theorem modVlt_boot {s : State} {g} : (s.modVlt g).boot = s.boot := rfl
@[simp] theorem modVlt_hif {s : State} {g} : (s.modVlt g).hif = s.hif := rfl
@[simp] theorem word_modVlt {s : State} {g a} : (s.modVlt g).word a = s.word a := rfl
@[simp] theorem get_modVlt {s : State} {g f} : (s.modVlt g).get f = s.get f := rfl
@[simp] theorem getI_modVlt {s : State} {g f} : (s.modVlt g).getI f = s.getI f := rfl
@[simp] theorem on_modVlt {s : State} {g f} : (s.modVlt g).on f = s.on f := rfl

@[simp] theorem modBoot_pending {s : State} {g} : (s.modBoot g).pending = s.pending := rfl
@[simp] theorem modBoot_out {s : State} {g} : (s.modBoot g).out = s.out := rfl
@[simp] theorem modBoot_free {s : State} {g} : (s.modBoot g).free = s.free := rfl
@[simp] theorem modBoot_clk32 {s : State} {g} : (s.modBoot g).clk32 = s.clk32 := rfl
@[simp] theorem modBoot_regs {s : State} {g} : (s.modBoot g).regs = s.regs := rfl
@[simp] theorem modBoot_frozen {s : State} {g} : (s.modBoot g).frozen = s.frozen := rfl
@[simp] theorem modBoot_hiFrozen {s : State} {g} : (s.modBoot g).hiFrozen = s.hiFrozen := rfl
@[simp] theorem modBoot_dw {s : State} {g} : (s.modBoot g).dw = s.dw := rfl
@[simp] theorem modBoot_ax {s : State} {g} : (s.modBoot g).ax = s.ax := rfl
@[simp] theorem modBoot_fb {s : State} {g} : (s.modBoot g).fb = s.fb := rfl
@[simp] theorem modBoot_enc {s : State} {g} : (s.modBoot g).enc = s.enc := rfl
@[simp] theorem modBoot_journal {s : State} {g} : (s.modBoot g).journal = s.journal := rfl
@[simp] theorem modBoot_faultCnt {s : State} {g} : (s.modBoot g).faultCnt = s.faultCnt := rfl
@[simp] theorem modBoot_shadow {s : State} {g} : (s.modBoot g).shadow = s.shadow := rfl
@[simp] theorem modBoot_posted {s : State} {g} : (s.modBoot g).posted = s.posted := rfl
@[simp] theorem modBoot_rtc {s : State} {g} : (s.modBoot g).rtc = s.rtc := rfl
@[simp] theorem modBoot_rtcFrac {s : State} {g} : (s.modBoot g).rtcFrac = s.rtcFrac := rfl
@[simp] theorem modBoot_answers {s : State} {g} : (s.modBoot g).answers = s.answers := rfl
@[simp] theorem modBoot_pcieMask {s : State} {g} : (s.modBoot g).pcieMask = s.pcieMask := rfl
@[simp] theorem modBoot_ch {s : State} {g} : (s.modBoot g).ch = s.ch := rfl
@[simp] theorem modBoot_die {s : State} {g} : (s.modBoot g).die = s.die := rfl
@[simp] theorem modBoot_onBlocked {s : State} {g} : (s.modBoot g).onBlocked = s.onBlocked := rfl
@[simp] theorem modBoot_pan {s : State} {g} : (s.modBoot g).pan = s.pan := rfl
@[simp] theorem modBoot_sl {s : State} {g} : (s.modBoot g).sl = s.sl := rfl
@[simp] theorem modBoot_pz {s : State} {g} : (s.modBoot g).pz = s.pz := rfl
@[simp] theorem modBoot_oe {s : State} {g} : (s.modBoot g).oe = s.oe := rfl
@[simp] theorem modBoot_diFilt {s : State} {g} : (s.modBoot g).diFilt = s.diFilt := rfl
@[simp] theorem modBoot_diInv {s : State} {g} : (s.modBoot g).diInv = s.diInv := rfl
@[simp] theorem modBoot_diRaw {s : State} {g} : (s.modBoot g).diRaw = s.diRaw := rfl
@[simp] theorem modBoot_diPin {s : State} {g} : (s.modBoot g).diPin = s.diPin := rfl
@[simp] theorem modBoot_diCnt {s : State} {g} : (s.modBoot g).diCnt = s.diCnt := rfl
@[simp] theorem modBoot_sc {s : State} {g} : (s.modBoot g).sc = s.sc := rfl
@[simp] theorem modBoot_trips {s : State} {g} : (s.modBoot g).trips = s.trips := rfl
@[simp] theorem modBoot_vlt {s : State} {g} : (s.modBoot g).vlt = s.vlt := rfl
@[simp] theorem modBoot_stl {s : State} {g} : (s.modBoot g).stl = s.stl := rfl
@[simp] theorem modBoot_can {s : State} {g} : (s.modBoot g).can = s.can := rfl
@[simp] theorem modBoot_mvb {s : State} {g} : (s.modBoot g).mvb = s.mvb := rfl
@[simp] theorem modBoot_ldg {s : State} {g} : (s.modBoot g).ldg = s.ldg := rfl
@[simp] theorem modBoot_par {s : State} {g} : (s.modBoot g).par = s.par := rfl
@[simp] theorem modBoot_cel {s : State} {g} : (s.modBoot g).cel = s.cel := rfl
@[simp] theorem modBoot_hif {s : State} {g} : (s.modBoot g).hif = s.hif := rfl
@[simp] theorem word_modBoot {s : State} {g a} : (s.modBoot g).word a = s.word a := rfl
@[simp] theorem get_modBoot {s : State} {g f} : (s.modBoot g).get f = s.get f := rfl
@[simp] theorem getI_modBoot {s : State} {g f} : (s.modBoot g).getI f = s.getI f := rfl
@[simp] theorem on_modBoot {s : State} {g f} : (s.modBoot g).on f = s.on f := rfl

@[simp] theorem modHif_pending {s : State} {g} : (s.modHif g).pending = s.pending := rfl
@[simp] theorem modHif_out {s : State} {g} : (s.modHif g).out = s.out := rfl
@[simp] theorem modHif_free {s : State} {g} : (s.modHif g).free = s.free := rfl
@[simp] theorem modHif_clk32 {s : State} {g} : (s.modHif g).clk32 = s.clk32 := rfl
@[simp] theorem modHif_regs {s : State} {g} : (s.modHif g).regs = s.regs := rfl
@[simp] theorem modHif_frozen {s : State} {g} : (s.modHif g).frozen = s.frozen := rfl
@[simp] theorem modHif_hiFrozen {s : State} {g} : (s.modHif g).hiFrozen = s.hiFrozen := rfl
@[simp] theorem modHif_dw {s : State} {g} : (s.modHif g).dw = s.dw := rfl
@[simp] theorem modHif_ax {s : State} {g} : (s.modHif g).ax = s.ax := rfl
@[simp] theorem modHif_fb {s : State} {g} : (s.modHif g).fb = s.fb := rfl
@[simp] theorem modHif_enc {s : State} {g} : (s.modHif g).enc = s.enc := rfl
@[simp] theorem modHif_journal {s : State} {g} : (s.modHif g).journal = s.journal := rfl
@[simp] theorem modHif_faultCnt {s : State} {g} : (s.modHif g).faultCnt = s.faultCnt := rfl
@[simp] theorem modHif_shadow {s : State} {g} : (s.modHif g).shadow = s.shadow := rfl
@[simp] theorem modHif_posted {s : State} {g} : (s.modHif g).posted = s.posted := rfl
@[simp] theorem modHif_rtc {s : State} {g} : (s.modHif g).rtc = s.rtc := rfl
@[simp] theorem modHif_rtcFrac {s : State} {g} : (s.modHif g).rtcFrac = s.rtcFrac := rfl
@[simp] theorem modHif_answers {s : State} {g} : (s.modHif g).answers = s.answers := rfl
@[simp] theorem modHif_pcieMask {s : State} {g} : (s.modHif g).pcieMask = s.pcieMask := rfl
@[simp] theorem modHif_ch {s : State} {g} : (s.modHif g).ch = s.ch := rfl
@[simp] theorem modHif_die {s : State} {g} : (s.modHif g).die = s.die := rfl
@[simp] theorem modHif_onBlocked {s : State} {g} : (s.modHif g).onBlocked = s.onBlocked := rfl
@[simp] theorem modHif_pan {s : State} {g} : (s.modHif g).pan = s.pan := rfl
@[simp] theorem modHif_sl {s : State} {g} : (s.modHif g).sl = s.sl := rfl
@[simp] theorem modHif_pz {s : State} {g} : (s.modHif g).pz = s.pz := rfl
@[simp] theorem modHif_oe {s : State} {g} : (s.modHif g).oe = s.oe := rfl
@[simp] theorem modHif_diFilt {s : State} {g} : (s.modHif g).diFilt = s.diFilt := rfl
@[simp] theorem modHif_diInv {s : State} {g} : (s.modHif g).diInv = s.diInv := rfl
@[simp] theorem modHif_diRaw {s : State} {g} : (s.modHif g).diRaw = s.diRaw := rfl
@[simp] theorem modHif_diPin {s : State} {g} : (s.modHif g).diPin = s.diPin := rfl
@[simp] theorem modHif_diCnt {s : State} {g} : (s.modHif g).diCnt = s.diCnt := rfl
@[simp] theorem modHif_sc {s : State} {g} : (s.modHif g).sc = s.sc := rfl
@[simp] theorem modHif_trips {s : State} {g} : (s.modHif g).trips = s.trips := rfl
@[simp] theorem modHif_vlt {s : State} {g} : (s.modHif g).vlt = s.vlt := rfl
@[simp] theorem modHif_stl {s : State} {g} : (s.modHif g).stl = s.stl := rfl
@[simp] theorem modHif_can {s : State} {g} : (s.modHif g).can = s.can := rfl
@[simp] theorem modHif_mvb {s : State} {g} : (s.modHif g).mvb = s.mvb := rfl
@[simp] theorem modHif_ldg {s : State} {g} : (s.modHif g).ldg = s.ldg := rfl
@[simp] theorem modHif_par {s : State} {g} : (s.modHif g).par = s.par := rfl
@[simp] theorem modHif_cel {s : State} {g} : (s.modHif g).cel = s.cel := rfl
@[simp] theorem modHif_boot {s : State} {g} : (s.modHif g).boot = s.boot := rfl
@[simp] theorem word_modHif {s : State} {g a} : (s.modHif g).word a = s.word a := rfl
@[simp] theorem get_modHif {s : State} {g f} : (s.modHif g).get f = s.get f := rfl
@[simp] theorem getI_modHif {s : State} {g f} : (s.modHif g).getI f = s.getI f := rfl
@[simp] theorem on_modHif {s : State} {g f} : (s.modHif g).on f = s.on f := rfl

@[simp] theorem modCel_pending {s : State} {g} : (s.modCel g).pending = s.pending := rfl
@[simp] theorem modCel_out {s : State} {g} : (s.modCel g).out = s.out := rfl
@[simp] theorem modCel_free {s : State} {g} : (s.modCel g).free = s.free := rfl
@[simp] theorem modCel_clk32 {s : State} {g} : (s.modCel g).clk32 = s.clk32 := rfl
@[simp] theorem modCel_regs {s : State} {g} : (s.modCel g).regs = s.regs := rfl
@[simp] theorem modCel_frozen {s : State} {g} : (s.modCel g).frozen = s.frozen := rfl
@[simp] theorem modCel_hiFrozen {s : State} {g} : (s.modCel g).hiFrozen = s.hiFrozen := rfl
@[simp] theorem modCel_dw {s : State} {g} : (s.modCel g).dw = s.dw := rfl
@[simp] theorem modCel_ax {s : State} {g} : (s.modCel g).ax = s.ax := rfl
@[simp] theorem modCel_fb {s : State} {g} : (s.modCel g).fb = s.fb := rfl
@[simp] theorem modCel_enc {s : State} {g} : (s.modCel g).enc = s.enc := rfl
@[simp] theorem modCel_journal {s : State} {g} : (s.modCel g).journal = s.journal := rfl
@[simp] theorem modCel_faultCnt {s : State} {g} : (s.modCel g).faultCnt = s.faultCnt := rfl
@[simp] theorem modCel_shadow {s : State} {g} : (s.modCel g).shadow = s.shadow := rfl
@[simp] theorem modCel_posted {s : State} {g} : (s.modCel g).posted = s.posted := rfl
@[simp] theorem modCel_rtc {s : State} {g} : (s.modCel g).rtc = s.rtc := rfl
@[simp] theorem modCel_rtcFrac {s : State} {g} : (s.modCel g).rtcFrac = s.rtcFrac := rfl
@[simp] theorem modCel_answers {s : State} {g} : (s.modCel g).answers = s.answers := rfl
@[simp] theorem modCel_pcieMask {s : State} {g} : (s.modCel g).pcieMask = s.pcieMask := rfl
@[simp] theorem modCel_ch {s : State} {g} : (s.modCel g).ch = s.ch := rfl
@[simp] theorem modCel_die {s : State} {g} : (s.modCel g).die = s.die := rfl
@[simp] theorem modCel_onBlocked {s : State} {g} : (s.modCel g).onBlocked = s.onBlocked := rfl
@[simp] theorem modCel_pan {s : State} {g} : (s.modCel g).pan = s.pan := rfl
@[simp] theorem modCel_sl {s : State} {g} : (s.modCel g).sl = s.sl := rfl
@[simp] theorem modCel_pz {s : State} {g} : (s.modCel g).pz = s.pz := rfl
@[simp] theorem modCel_oe {s : State} {g} : (s.modCel g).oe = s.oe := rfl
@[simp] theorem modCel_diFilt {s : State} {g} : (s.modCel g).diFilt = s.diFilt := rfl
@[simp] theorem modCel_diInv {s : State} {g} : (s.modCel g).diInv = s.diInv := rfl
@[simp] theorem modCel_diRaw {s : State} {g} : (s.modCel g).diRaw = s.diRaw := rfl
@[simp] theorem modCel_diPin {s : State} {g} : (s.modCel g).diPin = s.diPin := rfl
@[simp] theorem modCel_diCnt {s : State} {g} : (s.modCel g).diCnt = s.diCnt := rfl
@[simp] theorem modCel_sc {s : State} {g} : (s.modCel g).sc = s.sc := rfl
@[simp] theorem modCel_trips {s : State} {g} : (s.modCel g).trips = s.trips := rfl
@[simp] theorem modCel_vlt {s : State} {g} : (s.modCel g).vlt = s.vlt := rfl
@[simp] theorem modCel_stl {s : State} {g} : (s.modCel g).stl = s.stl := rfl
@[simp] theorem modCel_can {s : State} {g} : (s.modCel g).can = s.can := rfl
@[simp] theorem modCel_mvb {s : State} {g} : (s.modCel g).mvb = s.mvb := rfl
@[simp] theorem modCel_ldg {s : State} {g} : (s.modCel g).ldg = s.ldg := rfl
@[simp] theorem modCel_par {s : State} {g} : (s.modCel g).par = s.par := rfl
@[simp] theorem modCel_boot {s : State} {g} : (s.modCel g).boot = s.boot := rfl
@[simp] theorem modCel_hif {s : State} {g} : (s.modCel g).hif = s.hif := rfl
@[simp] theorem word_modCel {s : State} {g a} : (s.modCel g).word a = s.word a := rfl
@[simp] theorem get_modCel {s : State} {g f} : (s.modCel g).get f = s.get f := rfl
@[simp] theorem getI_modCel {s : State} {g f} : (s.modCel g).getI f = s.getI f := rfl
@[simp] theorem on_modCel {s : State} {g f} : (s.modCel g).on f = s.on f := rfl

@[simp] theorem modConn_pending {s : State} {n g} : (s.modConn n g).pending = s.pending := rfl
@[simp] theorem modConn_out {s : State} {n g} : (s.modConn n g).out = s.out := rfl
@[simp] theorem modConn_free {s : State} {n g} : (s.modConn n g).free = s.free := rfl
@[simp] theorem modConn_clk32 {s : State} {n g} : (s.modConn n g).clk32 = s.clk32 := rfl
@[simp] theorem modConn_regs {s : State} {n g} : (s.modConn n g).regs = s.regs := rfl
@[simp] theorem modConn_frozen {s : State} {n g} : (s.modConn n g).frozen = s.frozen := rfl
@[simp] theorem modConn_hiFrozen {s : State} {n g} : (s.modConn n g).hiFrozen = s.hiFrozen := rfl
@[simp] theorem modConn_dw {s : State} {n g} : (s.modConn n g).dw = s.dw := rfl
@[simp] theorem modConn_ax {s : State} {n g} : (s.modConn n g).ax = s.ax := rfl
@[simp] theorem modConn_fb {s : State} {n g} : (s.modConn n g).fb = s.fb := rfl
@[simp] theorem modConn_enc {s : State} {n g} : (s.modConn n g).enc = s.enc := rfl
@[simp] theorem modConn_journal {s : State} {n g} : (s.modConn n g).journal = s.journal := rfl
@[simp] theorem modConn_faultCnt {s : State} {n g} : (s.modConn n g).faultCnt = s.faultCnt := rfl
@[simp] theorem modConn_shadow {s : State} {n g} : (s.modConn n g).shadow = s.shadow := rfl
@[simp] theorem modConn_posted {s : State} {n g} : (s.modConn n g).posted = s.posted := rfl
@[simp] theorem modConn_rtc {s : State} {n g} : (s.modConn n g).rtc = s.rtc := rfl
@[simp] theorem modConn_rtcFrac {s : State} {n g} : (s.modConn n g).rtcFrac = s.rtcFrac := rfl
@[simp] theorem modConn_answers {s : State} {n g} : (s.modConn n g).answers = s.answers := rfl
@[simp] theorem modConn_pcieMask {s : State} {n g} : (s.modConn n g).pcieMask = s.pcieMask := rfl
@[simp] theorem modConn_ch {s : State} {n g} : (s.modConn n g).ch = s.ch := rfl
@[simp] theorem modConn_die {s : State} {n g} : (s.modConn n g).die = s.die := rfl
@[simp] theorem modConn_onBlocked {s : State} {n g} : (s.modConn n g).onBlocked = s.onBlocked := rfl
@[simp] theorem modConn_pan {s : State} {n g} : (s.modConn n g).pan = s.pan := rfl
@[simp] theorem modConn_sl {s : State} {n g} : (s.modConn n g).sl = s.sl := rfl
@[simp] theorem modConn_pz {s : State} {n g} : (s.modConn n g).pz = s.pz := rfl
@[simp] theorem modConn_oe {s : State} {n g} : (s.modConn n g).oe = s.oe := rfl
@[simp] theorem modConn_diFilt {s : State} {n g} : (s.modConn n g).diFilt = s.diFilt := rfl
@[simp] theorem modConn_diInv {s : State} {n g} : (s.modConn n g).diInv = s.diInv := rfl
@[simp] theorem modConn_diRaw {s : State} {n g} : (s.modConn n g).diRaw = s.diRaw := rfl
@[simp] theorem modConn_diPin {s : State} {n g} : (s.modConn n g).diPin = s.diPin := rfl
@[simp] theorem modConn_diCnt {s : State} {n g} : (s.modConn n g).diCnt = s.diCnt := rfl
@[simp] theorem modConn_sc {s : State} {n g} : (s.modConn n g).sc = s.sc := rfl
@[simp] theorem modConn_trips {s : State} {n g} : (s.modConn n g).trips = s.trips := rfl
@[simp] theorem modConn_vlt {s : State} {n g} : (s.modConn n g).vlt = s.vlt := rfl
@[simp] theorem modConn_can {s : State} {n g} : (s.modConn n g).can = s.can := rfl
@[simp] theorem modConn_mvb {s : State} {n g} : (s.modConn n g).mvb = s.mvb := rfl
@[simp] theorem modConn_ldg {s : State} {n g} : (s.modConn n g).ldg = s.ldg := rfl
@[simp] theorem modConn_par {s : State} {n g} : (s.modConn n g).par = s.par := rfl
@[simp] theorem modConn_cel {s : State} {n g} : (s.modConn n g).cel = s.cel := rfl
@[simp] theorem modConn_boot {s : State} {n g} : (s.modConn n g).boot = s.boot := rfl
@[simp] theorem modConn_hif {s : State} {n g} : (s.modConn n g).hif = s.hif := rfl
@[simp] theorem word_modConn {s : State} {n g a} : (s.modConn n g).word a = s.word a := rfl
@[simp] theorem get_modConn {s : State} {n g f} : (s.modConn n g).get f = s.get f := rfl
@[simp] theorem getI_modConn {s : State} {n g f} : (s.modConn n g).getI f = s.getI f := rfl
@[simp] theorem on_modConn {s : State} {n g f} : (s.modConn n g).on f = s.on f := rfl

@[simp] theorem modPar_pending {s : State} {g} : (s.modPar g).pending = s.pending := rfl
@[simp] theorem modPar_out {s : State} {g} : (s.modPar g).out = s.out := rfl
@[simp] theorem modPar_free {s : State} {g} : (s.modPar g).free = s.free := rfl
@[simp] theorem modPar_clk32 {s : State} {g} : (s.modPar g).clk32 = s.clk32 := rfl
@[simp] theorem modPar_regs {s : State} {g} : (s.modPar g).regs = s.regs := rfl
@[simp] theorem modPar_frozen {s : State} {g} : (s.modPar g).frozen = s.frozen := rfl
@[simp] theorem modPar_hiFrozen {s : State} {g} : (s.modPar g).hiFrozen = s.hiFrozen := rfl
@[simp] theorem modPar_dw {s : State} {g} : (s.modPar g).dw = s.dw := rfl
@[simp] theorem modPar_ax {s : State} {g} : (s.modPar g).ax = s.ax := rfl
@[simp] theorem modPar_fb {s : State} {g} : (s.modPar g).fb = s.fb := rfl
@[simp] theorem modPar_enc {s : State} {g} : (s.modPar g).enc = s.enc := rfl
@[simp] theorem modPar_journal {s : State} {g} : (s.modPar g).journal = s.journal := rfl
@[simp] theorem modPar_faultCnt {s : State} {g} : (s.modPar g).faultCnt = s.faultCnt := rfl
@[simp] theorem modPar_shadow {s : State} {g} : (s.modPar g).shadow = s.shadow := rfl
@[simp] theorem modPar_posted {s : State} {g} : (s.modPar g).posted = s.posted := rfl
@[simp] theorem modPar_rtc {s : State} {g} : (s.modPar g).rtc = s.rtc := rfl
@[simp] theorem modPar_rtcFrac {s : State} {g} : (s.modPar g).rtcFrac = s.rtcFrac := rfl
@[simp] theorem modPar_answers {s : State} {g} : (s.modPar g).answers = s.answers := rfl
@[simp] theorem modPar_pcieMask {s : State} {g} : (s.modPar g).pcieMask = s.pcieMask := rfl
@[simp] theorem modPar_ch {s : State} {g} : (s.modPar g).ch = s.ch := rfl
@[simp] theorem modPar_die {s : State} {g} : (s.modPar g).die = s.die := rfl
@[simp] theorem modPar_onBlocked {s : State} {g} : (s.modPar g).onBlocked = s.onBlocked := rfl
@[simp] theorem modPar_pan {s : State} {g} : (s.modPar g).pan = s.pan := rfl
@[simp] theorem modPar_sl {s : State} {g} : (s.modPar g).sl = s.sl := rfl
@[simp] theorem modPar_pz {s : State} {g} : (s.modPar g).pz = s.pz := rfl
@[simp] theorem modPar_oe {s : State} {g} : (s.modPar g).oe = s.oe := rfl
@[simp] theorem modPar_diFilt {s : State} {g} : (s.modPar g).diFilt = s.diFilt := rfl
@[simp] theorem modPar_diInv {s : State} {g} : (s.modPar g).diInv = s.diInv := rfl
@[simp] theorem modPar_diRaw {s : State} {g} : (s.modPar g).diRaw = s.diRaw := rfl
@[simp] theorem modPar_diPin {s : State} {g} : (s.modPar g).diPin = s.diPin := rfl
@[simp] theorem modPar_diCnt {s : State} {g} : (s.modPar g).diCnt = s.diCnt := rfl
@[simp] theorem modPar_sc {s : State} {g} : (s.modPar g).sc = s.sc := rfl
@[simp] theorem modPar_trips {s : State} {g} : (s.modPar g).trips = s.trips := rfl
@[simp] theorem modPar_vlt {s : State} {g} : (s.modPar g).vlt = s.vlt := rfl
@[simp] theorem modPar_stl {s : State} {g} : (s.modPar g).stl = s.stl := rfl
@[simp] theorem modPar_can {s : State} {g} : (s.modPar g).can = s.can := rfl
@[simp] theorem modPar_mvb {s : State} {g} : (s.modPar g).mvb = s.mvb := rfl
@[simp] theorem modPar_ldg {s : State} {g} : (s.modPar g).ldg = s.ldg := rfl
@[simp] theorem modPar_cel {s : State} {g} : (s.modPar g).cel = s.cel := rfl
@[simp] theorem modPar_boot {s : State} {g} : (s.modPar g).boot = s.boot := rfl
@[simp] theorem modPar_hif {s : State} {g} : (s.modPar g).hif = s.hif := rfl
@[simp] theorem word_modPar {s : State} {g a} : (s.modPar g).word a = s.word a := rfl
@[simp] theorem get_modPar {s : State} {g f} : (s.modPar g).get f = s.get f := rfl
@[simp] theorem getI_modPar {s : State} {g f} : (s.modPar g).getI f = s.getI f := rfl
@[simp] theorem on_modPar {s : State} {g f} : (s.modPar g).on f = s.on f := rfl

@[simp] theorem modLdg_pending {s : State} {g} : (s.modLdg g).pending = s.pending := rfl
@[simp] theorem modLdg_out {s : State} {g} : (s.modLdg g).out = s.out := rfl
@[simp] theorem modLdg_free {s : State} {g} : (s.modLdg g).free = s.free := rfl
@[simp] theorem modLdg_clk32 {s : State} {g} : (s.modLdg g).clk32 = s.clk32 := rfl
@[simp] theorem modLdg_regs {s : State} {g} : (s.modLdg g).regs = s.regs := rfl
@[simp] theorem modLdg_frozen {s : State} {g} : (s.modLdg g).frozen = s.frozen := rfl
@[simp] theorem modLdg_hiFrozen {s : State} {g} : (s.modLdg g).hiFrozen = s.hiFrozen := rfl
@[simp] theorem modLdg_dw {s : State} {g} : (s.modLdg g).dw = s.dw := rfl
@[simp] theorem modLdg_ax {s : State} {g} : (s.modLdg g).ax = s.ax := rfl
@[simp] theorem modLdg_fb {s : State} {g} : (s.modLdg g).fb = s.fb := rfl
@[simp] theorem modLdg_enc {s : State} {g} : (s.modLdg g).enc = s.enc := rfl
@[simp] theorem modLdg_journal {s : State} {g} : (s.modLdg g).journal = s.journal := rfl
@[simp] theorem modLdg_faultCnt {s : State} {g} : (s.modLdg g).faultCnt = s.faultCnt := rfl
@[simp] theorem modLdg_shadow {s : State} {g} : (s.modLdg g).shadow = s.shadow := rfl
@[simp] theorem modLdg_posted {s : State} {g} : (s.modLdg g).posted = s.posted := rfl
@[simp] theorem modLdg_rtc {s : State} {g} : (s.modLdg g).rtc = s.rtc := rfl
@[simp] theorem modLdg_rtcFrac {s : State} {g} : (s.modLdg g).rtcFrac = s.rtcFrac := rfl
@[simp] theorem modLdg_answers {s : State} {g} : (s.modLdg g).answers = s.answers := rfl
@[simp] theorem modLdg_pcieMask {s : State} {g} : (s.modLdg g).pcieMask = s.pcieMask := rfl
@[simp] theorem modLdg_ch {s : State} {g} : (s.modLdg g).ch = s.ch := rfl
@[simp] theorem modLdg_die {s : State} {g} : (s.modLdg g).die = s.die := rfl
@[simp] theorem modLdg_onBlocked {s : State} {g} : (s.modLdg g).onBlocked = s.onBlocked := rfl
@[simp] theorem modLdg_pan {s : State} {g} : (s.modLdg g).pan = s.pan := rfl
@[simp] theorem modLdg_sl {s : State} {g} : (s.modLdg g).sl = s.sl := rfl
@[simp] theorem modLdg_pz {s : State} {g} : (s.modLdg g).pz = s.pz := rfl
@[simp] theorem modLdg_oe {s : State} {g} : (s.modLdg g).oe = s.oe := rfl
@[simp] theorem modLdg_diFilt {s : State} {g} : (s.modLdg g).diFilt = s.diFilt := rfl
@[simp] theorem modLdg_diInv {s : State} {g} : (s.modLdg g).diInv = s.diInv := rfl
@[simp] theorem modLdg_diRaw {s : State} {g} : (s.modLdg g).diRaw = s.diRaw := rfl
@[simp] theorem modLdg_diPin {s : State} {g} : (s.modLdg g).diPin = s.diPin := rfl
@[simp] theorem modLdg_diCnt {s : State} {g} : (s.modLdg g).diCnt = s.diCnt := rfl
@[simp] theorem modLdg_sc {s : State} {g} : (s.modLdg g).sc = s.sc := rfl
@[simp] theorem modLdg_trips {s : State} {g} : (s.modLdg g).trips = s.trips := rfl
@[simp] theorem modLdg_vlt {s : State} {g} : (s.modLdg g).vlt = s.vlt := rfl
@[simp] theorem modLdg_stl {s : State} {g} : (s.modLdg g).stl = s.stl := rfl
@[simp] theorem modLdg_can {s : State} {g} : (s.modLdg g).can = s.can := rfl
@[simp] theorem modLdg_mvb {s : State} {g} : (s.modLdg g).mvb = s.mvb := rfl
@[simp] theorem modLdg_par {s : State} {g} : (s.modLdg g).par = s.par := rfl
@[simp] theorem modLdg_cel {s : State} {g} : (s.modLdg g).cel = s.cel := rfl
@[simp] theorem modLdg_boot {s : State} {g} : (s.modLdg g).boot = s.boot := rfl
@[simp] theorem modLdg_hif {s : State} {g} : (s.modLdg g).hif = s.hif := rfl
@[simp] theorem word_modLdg {s : State} {g a} : (s.modLdg g).word a = s.word a := rfl
@[simp] theorem get_modLdg {s : State} {g f} : (s.modLdg g).get f = s.get f := rfl
@[simp] theorem getI_modLdg {s : State} {g f} : (s.modLdg g).getI f = s.getI f := rfl
@[simp] theorem on_modLdg {s : State} {g f} : (s.modLdg g).on f = s.on f := rfl

@[simp] theorem modMvb_pending {s : State} {g} : (s.modMvb g).pending = s.pending := rfl
@[simp] theorem modMvb_out {s : State} {g} : (s.modMvb g).out = s.out := rfl
@[simp] theorem modMvb_free {s : State} {g} : (s.modMvb g).free = s.free := rfl
@[simp] theorem modMvb_clk32 {s : State} {g} : (s.modMvb g).clk32 = s.clk32 := rfl
@[simp] theorem modMvb_regs {s : State} {g} : (s.modMvb g).regs = s.regs := rfl
@[simp] theorem modMvb_frozen {s : State} {g} : (s.modMvb g).frozen = s.frozen := rfl
@[simp] theorem modMvb_hiFrozen {s : State} {g} : (s.modMvb g).hiFrozen = s.hiFrozen := rfl
@[simp] theorem modMvb_dw {s : State} {g} : (s.modMvb g).dw = s.dw := rfl
@[simp] theorem modMvb_ax {s : State} {g} : (s.modMvb g).ax = s.ax := rfl
@[simp] theorem modMvb_fb {s : State} {g} : (s.modMvb g).fb = s.fb := rfl
@[simp] theorem modMvb_enc {s : State} {g} : (s.modMvb g).enc = s.enc := rfl
@[simp] theorem modMvb_journal {s : State} {g} : (s.modMvb g).journal = s.journal := rfl
@[simp] theorem modMvb_faultCnt {s : State} {g} : (s.modMvb g).faultCnt = s.faultCnt := rfl
@[simp] theorem modMvb_shadow {s : State} {g} : (s.modMvb g).shadow = s.shadow := rfl
@[simp] theorem modMvb_posted {s : State} {g} : (s.modMvb g).posted = s.posted := rfl
@[simp] theorem modMvb_rtc {s : State} {g} : (s.modMvb g).rtc = s.rtc := rfl
@[simp] theorem modMvb_rtcFrac {s : State} {g} : (s.modMvb g).rtcFrac = s.rtcFrac := rfl
@[simp] theorem modMvb_answers {s : State} {g} : (s.modMvb g).answers = s.answers := rfl
@[simp] theorem modMvb_pcieMask {s : State} {g} : (s.modMvb g).pcieMask = s.pcieMask := rfl
@[simp] theorem modMvb_ch {s : State} {g} : (s.modMvb g).ch = s.ch := rfl
@[simp] theorem modMvb_die {s : State} {g} : (s.modMvb g).die = s.die := rfl
@[simp] theorem modMvb_onBlocked {s : State} {g} : (s.modMvb g).onBlocked = s.onBlocked := rfl
@[simp] theorem modMvb_pan {s : State} {g} : (s.modMvb g).pan = s.pan := rfl
@[simp] theorem modMvb_sl {s : State} {g} : (s.modMvb g).sl = s.sl := rfl
@[simp] theorem modMvb_pz {s : State} {g} : (s.modMvb g).pz = s.pz := rfl
@[simp] theorem modMvb_oe {s : State} {g} : (s.modMvb g).oe = s.oe := rfl
@[simp] theorem modMvb_diFilt {s : State} {g} : (s.modMvb g).diFilt = s.diFilt := rfl
@[simp] theorem modMvb_diInv {s : State} {g} : (s.modMvb g).diInv = s.diInv := rfl
@[simp] theorem modMvb_diRaw {s : State} {g} : (s.modMvb g).diRaw = s.diRaw := rfl
@[simp] theorem modMvb_diPin {s : State} {g} : (s.modMvb g).diPin = s.diPin := rfl
@[simp] theorem modMvb_diCnt {s : State} {g} : (s.modMvb g).diCnt = s.diCnt := rfl
@[simp] theorem modMvb_sc {s : State} {g} : (s.modMvb g).sc = s.sc := rfl
@[simp] theorem modMvb_trips {s : State} {g} : (s.modMvb g).trips = s.trips := rfl
@[simp] theorem modMvb_vlt {s : State} {g} : (s.modMvb g).vlt = s.vlt := rfl
@[simp] theorem modMvb_stl {s : State} {g} : (s.modMvb g).stl = s.stl := rfl
@[simp] theorem modMvb_can {s : State} {g} : (s.modMvb g).can = s.can := rfl
@[simp] theorem modMvb_ldg {s : State} {g} : (s.modMvb g).ldg = s.ldg := rfl
@[simp] theorem modMvb_par {s : State} {g} : (s.modMvb g).par = s.par := rfl
@[simp] theorem modMvb_cel {s : State} {g} : (s.modMvb g).cel = s.cel := rfl
@[simp] theorem modMvb_boot {s : State} {g} : (s.modMvb g).boot = s.boot := rfl
@[simp] theorem modMvb_hif {s : State} {g} : (s.modMvb g).hif = s.hif := rfl
@[simp] theorem word_modMvb {s : State} {g a} : (s.modMvb g).word a = s.word a := rfl
@[simp] theorem get_modMvb {s : State} {g f} : (s.modMvb g).get f = s.get f := rfl
@[simp] theorem getI_modMvb {s : State} {g f} : (s.modMvb g).getI f = s.getI f := rfl
@[simp] theorem on_modMvb {s : State} {g f} : (s.modMvb g).on f = s.on f := rfl

@[simp] theorem modDw_same {s : State} {n : Fin 8} {g} : (s.modDw n g).dw[n.val] = g s.dw[n.val] := by simp [modDw]
theorem modDw_ne {s : State} {n m : Fin 8} {g} (h : n.val ≠ m.val) : (s.modDw n g).dw[m.val] = s.dw[m.val] := by simp [modDw, h]
@[simp] theorem modAx_same {s : State} {n : Fin 16} {g} : (s.modAx n g).ax[n.val] = g s.ax[n.val] := by simp [modAx]
theorem modAx_ne {s : State} {n m : Fin 16} {g} (h : n.val ≠ m.val) : (s.modAx n g).ax[m.val] = s.ax[m.val] := by simp [modAx, h]
@[simp] theorem modFb_same {s : State} {n : Fin 16} {g} : (s.modFb n g).fb[n.val] = g s.fb[n.val] := by simp [modFb]
theorem modFb_ne {s : State} {n m : Fin 16} {g} (h : n.val ≠ m.val) : (s.modFb n g).fb[m.val] = s.fb[m.val] := by simp [modFb, h]
@[simp] theorem modEnc_same {s : State} {n : Fin 4} {g} : (s.modEnc n g).enc[n.val] = g s.enc[n.val] := by simp [modEnc]
theorem modEnc_ne {s : State} {n m : Fin 4} {g} (h : n.val ≠ m.val) : (s.modEnc n g).enc[m.val] = s.enc[m.val] := by simp [modEnc, h]
@[simp] theorem modCh_same {s : State} {n : Fin 48} {g} : (s.modCh n g).ch[n.val] = g s.ch[n.val] := by simp [modCh]
theorem modCh_ne {s : State} {n m : Fin 48} {g} (h : n.val ≠ m.val) : (s.modCh n g).ch[m.val] = s.ch[m.val] := by simp [modCh, h]
@[simp] theorem modDie_same {s : State} {n : Fin 4} {g} : (s.modDie n g).die[n.val] = g s.die[n.val] := by simp [modDie]
theorem modDie_ne {s : State} {n m : Fin 4} {g} (h : n.val ≠ m.val) : (s.modDie n g).die[m.val] = s.die[m.val] := by simp [modDie, h]
@[simp] theorem modSl_same {s : State} {n : Fin 16} {g} : (s.modSl n g).sl[n.val] = g s.sl[n.val] := by simp [modSl]
theorem modSl_ne {s : State} {n m : Fin 16} {g} (h : n.val ≠ m.val) : (s.modSl n g).sl[m.val] = s.sl[m.val] := by simp [modSl, h]
@[simp] theorem modPz_same {s : State} {n : Fin 8} {g} : (s.modPz n g).pz[n.val] = g s.pz[n.val] := by simp [modPz]
theorem modPz_ne {s : State} {n m : Fin 8} {g} (h : n.val ≠ m.val) : (s.modPz n g).pz[m.val] = s.pz[m.val] := by simp [modPz, h]
@[simp] theorem modCan_same {s : State} {n : Fin 4} {g} : (s.modCan n g).can[n.val] = g s.can[n.val] := by simp [modCan]
theorem modCan_ne {s : State} {n m : Fin 4} {g} (h : n.val ≠ m.val) : (s.modCan n g).can[m.val] = s.can[m.val] := by simp [modCan, h]

end Sys2Proof.Machine.State
end

