-- ==== Sys2Proof/Laws/Frame.lean ====
section
/-! SUPPORT. What an operation leaves alone. `Frame W s t`: `t` differs from `s` in words of `W`, in what has been sent, in the messages
held, in the journal (and its next slot, where `W` holds NEXT_RSEQ), in the partner's queue and in the counts of faults, and in nothing else. The lemmas here say it once of setting a
field, of raising an event and of everything that goes to the journal. -/

namespace Sys2Proof.Machine

structure Frame (W : Nat → Prop) (s t : State) : Prop where
  rest : t = { s with
    regs := t.regs, out := t.out, journal := t.journal, faultCnt := t.faultCnt,
    ldg := { s.ldg with jnext := t.ldg.jnext },
    par := { s.par with seq0 := t.par.seq0, seq1 := t.par.seq1, unacked := t.par.unacked },
    hif := { s.hif with msiHeld := t.hif.msiHeld } }
  word : ∀ a, ¬ W a → t.word a = s.word a
  sent : s.out <+: t.out
  slot : ¬ W LDG.NEXT_RSEQ.addr → t.ldg.jnext = s.ldg.jnext

namespace Frame

variable {W : Nat → Prop} {r s t u : State}

theorem refl : Frame W s s := ⟨rfl, fun _ _ => rfl, List.prefix_rfl, fun _ => rfl⟩

theorem trans (h : Frame W s t) (k : Frame W t u) : Frame W s u :=
  ⟨by rw [k.rest, h.rest], fun a ha => (k.word a ha).trans (h.word a ha), h.sent.trans k.sent, fun n => (k.slot n).trans (h.slot n)⟩

theorem mono {W' : Nat → Prop} (h : Frame W s t) (hw : ∀ a, W a → W' a) : Frame W' s t :=
  ⟨h.rest, fun a ha => h.word a fun hx => ha (hw a hx), h.sent, fun n => h.slot fun hx => n (hw _ hx)⟩

/-- A word outside is as it was, and so is every field of it. -/
theorem get (h : Frame W s t) {f : Fld} (hf : ¬ W f.addr) : t.get f = s.get f := State.get_congr (h.word _ hf)
theorem getI (h : Frame W s t) {f : Fld} (hf : ¬ W f.addr) : t.getI f = s.getI f := by
  unfold State.getI
  rw [h.get hf]
theorem on (h : Frame W s t) {f : Fld} (hf : ¬ W f.addr) : t.on f = s.on f := State.on_congr (h.word _ hf)

theorem pending (h : Frame W s t) : t.pending = s.pending := by rw [h.rest]
theorem free (h : Frame W s t) : t.free = s.free := by rw [h.rest]
theorem clk32 (h : Frame W s t) : t.clk32 = s.clk32 := by rw [h.rest]
theorem frozen (h : Frame W s t) : t.frozen = s.frozen := by rw [h.rest]
theorem hiFrozen (h : Frame W s t) : t.hiFrozen = s.hiFrozen := by rw [h.rest]
theorem dw (h : Frame W s t) : t.dw = s.dw := by rw [h.rest]
theorem ax (h : Frame W s t) : t.ax = s.ax := by rw [h.rest]
theorem fb (h : Frame W s t) : t.fb = s.fb := by rw [h.rest]
theorem enc (h : Frame W s t) : t.enc = s.enc := by rw [h.rest]
theorem shadow (h : Frame W s t) : t.shadow = s.shadow := by rw [h.rest]
theorem posted (h : Frame W s t) : t.posted = s.posted := by rw [h.rest]
theorem rtc (h : Frame W s t) : t.rtc = s.rtc := by rw [h.rest]
theorem rtcFrac (h : Frame W s t) : t.rtcFrac = s.rtcFrac := by rw [h.rest]
theorem answers (h : Frame W s t) : t.answers = s.answers := by rw [h.rest]
theorem pcieMask (h : Frame W s t) : t.pcieMask = s.pcieMask := by rw [h.rest]
theorem ch (h : Frame W s t) : t.ch = s.ch := by rw [h.rest]
theorem die (h : Frame W s t) : t.die = s.die := by rw [h.rest]
theorem onBlocked (h : Frame W s t) : t.onBlocked = s.onBlocked := by rw [h.rest]
theorem pan (h : Frame W s t) : t.pan = s.pan := by rw [h.rest]
theorem sl (h : Frame W s t) : t.sl = s.sl := by rw [h.rest]
theorem pz (h : Frame W s t) : t.pz = s.pz := by rw [h.rest]
theorem oe (h : Frame W s t) : t.oe = s.oe := by rw [h.rest]
theorem diFilt (h : Frame W s t) : t.diFilt = s.diFilt := by rw [h.rest]
theorem diInv (h : Frame W s t) : t.diInv = s.diInv := by rw [h.rest]
theorem sc (h : Frame W s t) : t.sc = s.sc := by rw [h.rest]
theorem trips (h : Frame W s t) : t.trips = s.trips := by rw [h.rest]
theorem vlt (h : Frame W s t) : t.vlt = s.vlt := by rw [h.rest]
theorem stl (h : Frame W s t) : t.stl = s.stl := by rw [h.rest]
theorem can (h : Frame W s t) : t.can = s.can := by rw [h.rest]
theorem mvb (h : Frame W s t) : t.mvb = s.mvb := by rw [h.rest]
theorem ldg (h : Frame W s t) (n : ¬ W LDG.NEXT_RSEQ.addr) : t.ldg = s.ldg := by
  have e : t.ldg = { s.ldg with jnext := t.ldg.jnext } := congrArg State.ldg h.rest
  rw [e, h.slot n]
theorem cel (h : Frame W s t) : t.cel = s.cel := by rw [h.rest]
theorem boot (h : Frame W s t) : t.boot = s.boot := by rw [h.rest]

/-! ### One operation more -/

theorem setWord (h : Frame W s t) {a : Nat} {w : Word} (ha : W a) : Frame W s (t.setWord a w) :=
  h.trans ⟨rfl, fun _ hb => State.word_setWord_ne fun e => hb (e ▸ ha), List.prefix_rfl, fun _ => rfl⟩

theorem set (h : Frame W s t) {f : Fld} {v : Nat} (hf : W f.addr) : Frame W s (t.set f v) := h.setWord hf
theorem setI (h : Frame W s t) {f : Fld} {v : Int} (hf : W f.addr) : Frame W s (t.setI f v) := h.setWord hf
theorem setB (h : Frame W s t) {f : Fld} {b : Bool} (hf : W f.addr) : Frame W s (t.setB f b) := h.setWord hf
theorem inc (h : Frame W s t) {f : Fld} (hf : W f.addr) : Frame W s (t.inc f) := h.setWord hf
theorem incWrap (h : Frame W s t) {f : Fld} (hf : W f.addr) : Frame W s (t.incWrap f) := h.setWord hf

theorem emit (h : Frame W s t) {e : Emission} : Frame W s (t.emit e) :=
  h.trans ⟨rfl, fun _ _ => rfl, List.prefix_append _ _, fun _ => rfl⟩

theorem sendMsi (h : Frame W s t) {v : Nat} : Frame W s (t.sendMsi v) := by
  refine h.trans ?_
  unfold State.sendMsi
  dsimp only
  split
  · exact ⟨rfl, fun _ _ => rfl, List.prefix_rfl, fun _ => rfl⟩
  · exact refl.emit

theorem foldl {α : Type} {l : List α} {f : State → α → State} (h : Frame W s t) (hf : ∀ u x, Frame W s u → Frame W s (f u x)) :
    Frame W s (l.foldl f t) := by
  induction l generalizing t with
  | nil => exact h
  | cons x l ih => exact ih (hf t x h)

theorem msiEdges (h : Frame W s t) : Frame W s (State.msiEdges r t) := by
  unfold State.msiEdges
  refine h.foldl fun u v hu => ?_
  split
  · exact hu.sendMsi
  · exact hu

/-- Raising an event touches the page's EVT word alone; a message may follow. -/
theorem raise (h : Frame W s t) {page bit : Nat} (hw : W (4096 * page + 0x00C)) : Frame W s (t.raise page bit) := by
  have h1 : Frame W s (t.set (HDR.EVT_BIT page bit) 1) := h.set hw
  unfold State.raise
  dsimp only
  split
  · exact h1.msiEdges
  · exact h1

theorem raiseIf (h : Frame W s t) {c : Bool} {page bit : Nat} (hw : W (4096 * page + 0x00C)) : Frame W s (t.raiseIf c page bit) := by
  unfold State.raiseIf
  split
  · exact h.raise hw
  · exact h

theorem sendBruvan (h : Frame W s t) {f : BruvanFrame} : Frame W s (t.sendBruvan f) := by
  refine h.trans ?_
  unfold State.sendBruvan
  extract_lets lane seq p u
  have hu : Frame W t u := by
    unfold u
    split
    · exact ⟨rfl, fun _ _ => rfl, List.prefix_rfl, fun _ => rfl⟩
    · exact refl
  refine emit (hu.trans ?_)
  unfold State.countLane
  cases lane <;> exact ⟨rfl, fun _ _ => rfl, List.prefix_rfl, fun _ => rfl⟩

end Frame

/-- The words of the LDG page. -/
def ldgPage (a : Nat) : Prop := a / 4096 = 12

theorem ldgPage_used : ldgPage LDG.JRNL_USED.addr := by unfold ldgPage; decide
theorem ldgPage_volatile : ldgPage LDG.JRNL_VOLATILE.addr := by unfold ldgPage; decide
theorem ldgPage_flushing : ldgPage LDG.STAT_FLUSHING.addr := by unfold ldgPage; decide
theorem ldgPage_rseq : ldgPage LDG.NEXT_RSEQ.addr := by unfold ldgPage; decide
theorem ldgPage_warn : ldgPage LDG.STAT_WARN.addr := by unfold ldgPage; decide
theorem ldgPage_drop : ldgPage LDG.DROP_CNT.addr := by unfold ldgPage; decide
theorem ldgPage_evt : ldgPage (4096 * 0x0C + 0x00C) := by unfold ldgPage; decide

namespace Frame

variable {s t : State}

theorem showJournal (h : Frame ldgPage s t) : Frame ldgPage s t.showJournal :=
  ((h.set ldgPage_used).set ldgPage_volatile).setB ldgPage_flushing

/-- A record put into the journal moves its next slot, which NEXT_RSEQ stands for. -/
theorem pushJournal (h : Frame ldgPage s t) {r : Record} : Frame ldgPage s (t.pushJournal r) :=
  h.trans ⟨rfl, fun _ _ => rfl, List.prefix_rfl, fun n => absurd ldgPage_rseq n⟩

theorem accept (h : Frame ldgPage s t) {p : Payload} {dw : Nat} : Frame ldgPage s (t.accept p dw) := by
  unfold State.accept
  extract_lets r t1 t2 t3
  have h1 : Frame ldgPage s t1 := h.pushJournal
  have h2 : Frame ldgPage s t2 := h1.incWrap ldgPage_rseq
  have h3 : Frame ldgPage s t3 := h2.showJournal
  split
  · exact h3.sendBruvan
  · exact h3

theorem warn (h : Frame ldgPage s t) {bit value : Nat} : Frame ldgPage s (t.warn bit value) := by
  unfold State.warn
  dsimp only
  split
  · exact h
  · split
    · exact ((h.set ldgPage_warn).raise ldgPage_evt).accept
    · exact ((h.set ldgPage_warn).raise ldgPage_evt).inc ldgPage_drop

/-- A record that is submitted touches the ledger's page, the journal and the partner's queue. -/
theorem submit (h : Frame ldgPage s t) {p : Payload} {dw : Nat} : Frame ldgPage s (t.submit p dw) := by
  unfold State.submit
  split
  · exact h.accept
  · exact (h.inc ldgPage_drop).warn

theorem event (h : Frame ldgPage s t) {a b c d e f g : Nat} : Frame ldgPage s (t.event a b c d e f g) := h.submit

theorem logFault (h : Frame ldgPage s t) {page cause kind level reg : Nat} {loc : Word} {dw : Option Nat} :
    Frame ldgPage s (t.logFault page cause loc kind level reg dw) := by
  unfold State.logFault
  extract_lets t1
  have h1 : Frame ldgPage s t1 := h.trans ⟨rfl, fun _ _ => rfl, List.prefix_rfl, fun _ => rfl⟩
  exact h1.submit

end Frame

/-! ### The fields outside the ledger's page -/

namespace State

variable {s : State}

variable {x : Nat} {k : Fld}

/-- NEXT_RSEQ is no EVT word. -/
theorem slot_off_evt {page : Nat} : LDG.NEXT_RSEQ.addr ≠ 4096 * page + 0x00C := by
  have h : LDG.NEXT_RSEQ.addr % 4096 ≠ 0x00C := by decide
  omega

theorem raise_frame {page bit : Nat} : Frame (· = 4096 * page + 0x00C) s (s.raise page bit) := Frame.refl.raise rfl
theorem word_raise {page bit : Nat} (h : x ≠ 4096 * page + 0x00C) : (s.raise page bit).word x = s.word x := raise_frame.word x h
theorem get_raise {page bit : Nat} (h : k.addr ≠ 4096 * page + 0x00C) : (s.raise page bit).get k = s.get k := raise_frame.get h
theorem getI_raise {page bit : Nat} (h : k.addr ≠ 4096 * page + 0x00C) : (s.raise page bit).getI k = s.getI k := raise_frame.getI h
theorem on_raise {page bit : Nat} (h : k.addr ≠ 4096 * page + 0x00C) : (s.raise page bit).on k = s.on k := raise_frame.on h
@[simp] theorem raise_pending {page bit : Nat} : (s.raise page bit).pending = s.pending := raise_frame.pending
@[simp] theorem raise_free {page bit : Nat} : (s.raise page bit).free = s.free := raise_frame.free
@[simp] theorem raise_clk32 {page bit : Nat} : (s.raise page bit).clk32 = s.clk32 := raise_frame.clk32
@[simp] theorem raise_frozen {page bit : Nat} : (s.raise page bit).frozen = s.frozen := raise_frame.frozen
@[simp] theorem raise_hiFrozen {page bit : Nat} : (s.raise page bit).hiFrozen = s.hiFrozen := raise_frame.hiFrozen
@[simp] theorem raise_dw {page bit : Nat} : (s.raise page bit).dw = s.dw := raise_frame.dw
@[simp] theorem raise_ax {page bit : Nat} : (s.raise page bit).ax = s.ax := raise_frame.ax
@[simp] theorem raise_fb {page bit : Nat} : (s.raise page bit).fb = s.fb := raise_frame.fb
@[simp] theorem raise_enc {page bit : Nat} : (s.raise page bit).enc = s.enc := raise_frame.enc
@[simp] theorem raise_shadow {page bit : Nat} : (s.raise page bit).shadow = s.shadow := raise_frame.shadow
@[simp] theorem raise_posted {page bit : Nat} : (s.raise page bit).posted = s.posted := raise_frame.posted
@[simp] theorem raise_rtc {page bit : Nat} : (s.raise page bit).rtc = s.rtc := raise_frame.rtc
@[simp] theorem raise_rtcFrac {page bit : Nat} : (s.raise page bit).rtcFrac = s.rtcFrac := raise_frame.rtcFrac
@[simp] theorem raise_answers {page bit : Nat} : (s.raise page bit).answers = s.answers := raise_frame.answers
@[simp] theorem raise_pcieMask {page bit : Nat} : (s.raise page bit).pcieMask = s.pcieMask := raise_frame.pcieMask
@[simp] theorem raise_ch {page bit : Nat} : (s.raise page bit).ch = s.ch := raise_frame.ch
@[simp] theorem raise_die {page bit : Nat} : (s.raise page bit).die = s.die := raise_frame.die
@[simp] theorem raise_onBlocked {page bit : Nat} : (s.raise page bit).onBlocked = s.onBlocked := raise_frame.onBlocked
@[simp] theorem raise_pan {page bit : Nat} : (s.raise page bit).pan = s.pan := raise_frame.pan
@[simp] theorem raise_sl {page bit : Nat} : (s.raise page bit).sl = s.sl := raise_frame.sl
@[simp] theorem raise_pz {page bit : Nat} : (s.raise page bit).pz = s.pz := raise_frame.pz
@[simp] theorem raise_oe {page bit : Nat} : (s.raise page bit).oe = s.oe := raise_frame.oe
@[simp] theorem raise_diFilt {page bit : Nat} : (s.raise page bit).diFilt = s.diFilt := raise_frame.diFilt
@[simp] theorem raise_diInv {page bit : Nat} : (s.raise page bit).diInv = s.diInv := raise_frame.diInv
@[simp] theorem raise_sc {page bit : Nat} : (s.raise page bit).sc = s.sc := raise_frame.sc
@[simp] theorem raise_trips {page bit : Nat} : (s.raise page bit).trips = s.trips := raise_frame.trips
@[simp] theorem raise_vlt {page bit : Nat} : (s.raise page bit).vlt = s.vlt := raise_frame.vlt
@[simp] theorem raise_stl {page bit : Nat} : (s.raise page bit).stl = s.stl := raise_frame.stl
@[simp] theorem raise_can {page bit : Nat} : (s.raise page bit).can = s.can := raise_frame.can
@[simp] theorem raise_mvb {page bit : Nat} : (s.raise page bit).mvb = s.mvb := raise_frame.mvb
@[simp] theorem raise_ldg {page bit : Nat} : (s.raise page bit).ldg = s.ldg := raise_frame.ldg (slot_off_evt)
@[simp] theorem raise_cel {page bit : Nat} : (s.raise page bit).cel = s.cel := raise_frame.cel
@[simp] theorem raise_boot {page bit : Nat} : (s.raise page bit).boot = s.boot := raise_frame.boot

theorem raiseIf_frame {c : Bool} {page bit : Nat} : Frame (· = 4096 * page + 0x00C) s (s.raiseIf c page bit) := Frame.refl.raiseIf rfl
theorem word_raiseIf {c : Bool} {page bit : Nat} (h : x ≠ 4096 * page + 0x00C) : (s.raiseIf c page bit).word x = s.word x := raiseIf_frame.word x h
theorem get_raiseIf {c : Bool} {page bit : Nat} (h : k.addr ≠ 4096 * page + 0x00C) : (s.raiseIf c page bit).get k = s.get k := raiseIf_frame.get h
theorem getI_raiseIf {c : Bool} {page bit : Nat} (h : k.addr ≠ 4096 * page + 0x00C) : (s.raiseIf c page bit).getI k = s.getI k := raiseIf_frame.getI h
theorem on_raiseIf {c : Bool} {page bit : Nat} (h : k.addr ≠ 4096 * page + 0x00C) : (s.raiseIf c page bit).on k = s.on k := raiseIf_frame.on h
@[simp] theorem raiseIf_pending {c : Bool} {page bit : Nat} : (s.raiseIf c page bit).pending = s.pending := raiseIf_frame.pending
@[simp] theorem raiseIf_free {c : Bool} {page bit : Nat} : (s.raiseIf c page bit).free = s.free := raiseIf_frame.free
@[simp] theorem raiseIf_clk32 {c : Bool} {page bit : Nat} : (s.raiseIf c page bit).clk32 = s.clk32 := raiseIf_frame.clk32
@[simp] theorem raiseIf_frozen {c : Bool} {page bit : Nat} : (s.raiseIf c page bit).frozen = s.frozen := raiseIf_frame.frozen
@[simp] theorem raiseIf_hiFrozen {c : Bool} {page bit : Nat} : (s.raiseIf c page bit).hiFrozen = s.hiFrozen := raiseIf_frame.hiFrozen
@[simp] theorem raiseIf_dw {c : Bool} {page bit : Nat} : (s.raiseIf c page bit).dw = s.dw := raiseIf_frame.dw
@[simp] theorem raiseIf_ax {c : Bool} {page bit : Nat} : (s.raiseIf c page bit).ax = s.ax := raiseIf_frame.ax
@[simp] theorem raiseIf_fb {c : Bool} {page bit : Nat} : (s.raiseIf c page bit).fb = s.fb := raiseIf_frame.fb
@[simp] theorem raiseIf_enc {c : Bool} {page bit : Nat} : (s.raiseIf c page bit).enc = s.enc := raiseIf_frame.enc
@[simp] theorem raiseIf_shadow {c : Bool} {page bit : Nat} : (s.raiseIf c page bit).shadow = s.shadow := raiseIf_frame.shadow
@[simp] theorem raiseIf_posted {c : Bool} {page bit : Nat} : (s.raiseIf c page bit).posted = s.posted := raiseIf_frame.posted
@[simp] theorem raiseIf_rtc {c : Bool} {page bit : Nat} : (s.raiseIf c page bit).rtc = s.rtc := raiseIf_frame.rtc
@[simp] theorem raiseIf_rtcFrac {c : Bool} {page bit : Nat} : (s.raiseIf c page bit).rtcFrac = s.rtcFrac := raiseIf_frame.rtcFrac
@[simp] theorem raiseIf_answers {c : Bool} {page bit : Nat} : (s.raiseIf c page bit).answers = s.answers := raiseIf_frame.answers
@[simp] theorem raiseIf_pcieMask {c : Bool} {page bit : Nat} : (s.raiseIf c page bit).pcieMask = s.pcieMask := raiseIf_frame.pcieMask
@[simp] theorem raiseIf_ch {c : Bool} {page bit : Nat} : (s.raiseIf c page bit).ch = s.ch := raiseIf_frame.ch
@[simp] theorem raiseIf_die {c : Bool} {page bit : Nat} : (s.raiseIf c page bit).die = s.die := raiseIf_frame.die
@[simp] theorem raiseIf_onBlocked {c : Bool} {page bit : Nat} : (s.raiseIf c page bit).onBlocked = s.onBlocked := raiseIf_frame.onBlocked
@[simp] theorem raiseIf_pan {c : Bool} {page bit : Nat} : (s.raiseIf c page bit).pan = s.pan := raiseIf_frame.pan
@[simp] theorem raiseIf_sl {c : Bool} {page bit : Nat} : (s.raiseIf c page bit).sl = s.sl := raiseIf_frame.sl
@[simp] theorem raiseIf_pz {c : Bool} {page bit : Nat} : (s.raiseIf c page bit).pz = s.pz := raiseIf_frame.pz
@[simp] theorem raiseIf_oe {c : Bool} {page bit : Nat} : (s.raiseIf c page bit).oe = s.oe := raiseIf_frame.oe
@[simp] theorem raiseIf_diFilt {c : Bool} {page bit : Nat} : (s.raiseIf c page bit).diFilt = s.diFilt := raiseIf_frame.diFilt
@[simp] theorem raiseIf_diInv {c : Bool} {page bit : Nat} : (s.raiseIf c page bit).diInv = s.diInv := raiseIf_frame.diInv
@[simp] theorem raiseIf_sc {c : Bool} {page bit : Nat} : (s.raiseIf c page bit).sc = s.sc := raiseIf_frame.sc
@[simp] theorem raiseIf_trips {c : Bool} {page bit : Nat} : (s.raiseIf c page bit).trips = s.trips := raiseIf_frame.trips
@[simp] theorem raiseIf_vlt {c : Bool} {page bit : Nat} : (s.raiseIf c page bit).vlt = s.vlt := raiseIf_frame.vlt
@[simp] theorem raiseIf_stl {c : Bool} {page bit : Nat} : (s.raiseIf c page bit).stl = s.stl := raiseIf_frame.stl
@[simp] theorem raiseIf_can {c : Bool} {page bit : Nat} : (s.raiseIf c page bit).can = s.can := raiseIf_frame.can
@[simp] theorem raiseIf_mvb {c : Bool} {page bit : Nat} : (s.raiseIf c page bit).mvb = s.mvb := raiseIf_frame.mvb
@[simp] theorem raiseIf_ldg {c : Bool} {page bit : Nat} : (s.raiseIf c page bit).ldg = s.ldg := raiseIf_frame.ldg (slot_off_evt)
@[simp] theorem raiseIf_cel {c : Bool} {page bit : Nat} : (s.raiseIf c page bit).cel = s.cel := raiseIf_frame.cel
@[simp] theorem raiseIf_boot {c : Bool} {page bit : Nat} : (s.raiseIf c page bit).boot = s.boot := raiseIf_frame.boot

theorem submit_frame {p : Payload} {dw : Nat} : Frame ldgPage s (s.submit p dw) := Frame.refl.submit
theorem word_submit {p : Payload} {dw : Nat} (h : x / 4096 ≠ 12) : (s.submit p dw).word x = s.word x := submit_frame.word x h
theorem get_submit {p : Payload} {dw : Nat} (h : k.addr / 4096 ≠ 12) : (s.submit p dw).get k = s.get k := submit_frame.get h
theorem getI_submit {p : Payload} {dw : Nat} (h : k.addr / 4096 ≠ 12) : (s.submit p dw).getI k = s.getI k := submit_frame.getI h
theorem on_submit {p : Payload} {dw : Nat} (h : k.addr / 4096 ≠ 12) : (s.submit p dw).on k = s.on k := submit_frame.on h
@[simp] theorem submit_pending {p : Payload} {dw : Nat} : (s.submit p dw).pending = s.pending := submit_frame.pending
@[simp] theorem submit_free {p : Payload} {dw : Nat} : (s.submit p dw).free = s.free := submit_frame.free
@[simp] theorem submit_clk32 {p : Payload} {dw : Nat} : (s.submit p dw).clk32 = s.clk32 := submit_frame.clk32
@[simp] theorem submit_frozen {p : Payload} {dw : Nat} : (s.submit p dw).frozen = s.frozen := submit_frame.frozen
@[simp] theorem submit_hiFrozen {p : Payload} {dw : Nat} : (s.submit p dw).hiFrozen = s.hiFrozen := submit_frame.hiFrozen
@[simp] theorem submit_dw {p : Payload} {dw : Nat} : (s.submit p dw).dw = s.dw := submit_frame.dw
@[simp] theorem submit_ax {p : Payload} {dw : Nat} : (s.submit p dw).ax = s.ax := submit_frame.ax
@[simp] theorem submit_fb {p : Payload} {dw : Nat} : (s.submit p dw).fb = s.fb := submit_frame.fb
@[simp] theorem submit_enc {p : Payload} {dw : Nat} : (s.submit p dw).enc = s.enc := submit_frame.enc
@[simp] theorem submit_shadow {p : Payload} {dw : Nat} : (s.submit p dw).shadow = s.shadow := submit_frame.shadow
@[simp] theorem submit_posted {p : Payload} {dw : Nat} : (s.submit p dw).posted = s.posted := submit_frame.posted
@[simp] theorem submit_rtc {p : Payload} {dw : Nat} : (s.submit p dw).rtc = s.rtc := submit_frame.rtc
@[simp] theorem submit_rtcFrac {p : Payload} {dw : Nat} : (s.submit p dw).rtcFrac = s.rtcFrac := submit_frame.rtcFrac
@[simp] theorem submit_answers {p : Payload} {dw : Nat} : (s.submit p dw).answers = s.answers := submit_frame.answers
@[simp] theorem submit_pcieMask {p : Payload} {dw : Nat} : (s.submit p dw).pcieMask = s.pcieMask := submit_frame.pcieMask
@[simp] theorem submit_ch {p : Payload} {dw : Nat} : (s.submit p dw).ch = s.ch := submit_frame.ch
@[simp] theorem submit_die {p : Payload} {dw : Nat} : (s.submit p dw).die = s.die := submit_frame.die
@[simp] theorem submit_onBlocked {p : Payload} {dw : Nat} : (s.submit p dw).onBlocked = s.onBlocked := submit_frame.onBlocked
@[simp] theorem submit_pan {p : Payload} {dw : Nat} : (s.submit p dw).pan = s.pan := submit_frame.pan
@[simp] theorem submit_sl {p : Payload} {dw : Nat} : (s.submit p dw).sl = s.sl := submit_frame.sl
@[simp] theorem submit_pz {p : Payload} {dw : Nat} : (s.submit p dw).pz = s.pz := submit_frame.pz
@[simp] theorem submit_oe {p : Payload} {dw : Nat} : (s.submit p dw).oe = s.oe := submit_frame.oe
@[simp] theorem submit_diFilt {p : Payload} {dw : Nat} : (s.submit p dw).diFilt = s.diFilt := submit_frame.diFilt
@[simp] theorem submit_diInv {p : Payload} {dw : Nat} : (s.submit p dw).diInv = s.diInv := submit_frame.diInv
@[simp] theorem submit_sc {p : Payload} {dw : Nat} : (s.submit p dw).sc = s.sc := submit_frame.sc
@[simp] theorem submit_trips {p : Payload} {dw : Nat} : (s.submit p dw).trips = s.trips := submit_frame.trips
@[simp] theorem submit_vlt {p : Payload} {dw : Nat} : (s.submit p dw).vlt = s.vlt := submit_frame.vlt
@[simp] theorem submit_stl {p : Payload} {dw : Nat} : (s.submit p dw).stl = s.stl := submit_frame.stl
@[simp] theorem submit_can {p : Payload} {dw : Nat} : (s.submit p dw).can = s.can := submit_frame.can
@[simp] theorem submit_mvb {p : Payload} {dw : Nat} : (s.submit p dw).mvb = s.mvb := submit_frame.mvb
@[simp] theorem submit_cel {p : Payload} {dw : Nat} : (s.submit p dw).cel = s.cel := submit_frame.cel
@[simp] theorem submit_boot {p : Payload} {dw : Nat} : (s.submit p dw).boot = s.boot := submit_frame.boot

theorem event_frame {a b c d e f g : Nat} : Frame ldgPage s (s.event a b c d e f g) := Frame.refl.event
theorem word_event {a b c d e f g : Nat} (h : x / 4096 ≠ 12) : (s.event a b c d e f g).word x = s.word x := event_frame.word x h
theorem get_event {a b c d e f g : Nat} (h : k.addr / 4096 ≠ 12) : (s.event a b c d e f g).get k = s.get k := event_frame.get h
theorem getI_event {a b c d e f g : Nat} (h : k.addr / 4096 ≠ 12) : (s.event a b c d e f g).getI k = s.getI k := event_frame.getI h
theorem on_event {a b c d e f g : Nat} (h : k.addr / 4096 ≠ 12) : (s.event a b c d e f g).on k = s.on k := event_frame.on h
@[simp] theorem event_pending {a b c d e f g : Nat} : (s.event a b c d e f g).pending = s.pending := event_frame.pending
@[simp] theorem event_free {a b c d e f g : Nat} : (s.event a b c d e f g).free = s.free := event_frame.free
@[simp] theorem event_clk32 {a b c d e f g : Nat} : (s.event a b c d e f g).clk32 = s.clk32 := event_frame.clk32
@[simp] theorem event_frozen {a b c d e f g : Nat} : (s.event a b c d e f g).frozen = s.frozen := event_frame.frozen
@[simp] theorem event_hiFrozen {a b c d e f g : Nat} : (s.event a b c d e f g).hiFrozen = s.hiFrozen := event_frame.hiFrozen
@[simp] theorem event_dw {a b c d e f g : Nat} : (s.event a b c d e f g).dw = s.dw := event_frame.dw
@[simp] theorem event_ax {a b c d e f g : Nat} : (s.event a b c d e f g).ax = s.ax := event_frame.ax
@[simp] theorem event_fb {a b c d e f g : Nat} : (s.event a b c d e f g).fb = s.fb := event_frame.fb
@[simp] theorem event_enc {a b c d e f g : Nat} : (s.event a b c d e f g).enc = s.enc := event_frame.enc
@[simp] theorem event_shadow {a b c d e f g : Nat} : (s.event a b c d e f g).shadow = s.shadow := event_frame.shadow
@[simp] theorem event_posted {a b c d e f g : Nat} : (s.event a b c d e f g).posted = s.posted := event_frame.posted
@[simp] theorem event_rtc {a b c d e f g : Nat} : (s.event a b c d e f g).rtc = s.rtc := event_frame.rtc
@[simp] theorem event_rtcFrac {a b c d e f g : Nat} : (s.event a b c d e f g).rtcFrac = s.rtcFrac := event_frame.rtcFrac
@[simp] theorem event_answers {a b c d e f g : Nat} : (s.event a b c d e f g).answers = s.answers := event_frame.answers
@[simp] theorem event_pcieMask {a b c d e f g : Nat} : (s.event a b c d e f g).pcieMask = s.pcieMask := event_frame.pcieMask
@[simp] theorem event_ch {a b c d e f g : Nat} : (s.event a b c d e f g).ch = s.ch := event_frame.ch
@[simp] theorem event_die {a b c d e f g : Nat} : (s.event a b c d e f g).die = s.die := event_frame.die
@[simp] theorem event_onBlocked {a b c d e f g : Nat} : (s.event a b c d e f g).onBlocked = s.onBlocked := event_frame.onBlocked
@[simp] theorem event_pan {a b c d e f g : Nat} : (s.event a b c d e f g).pan = s.pan := event_frame.pan
@[simp] theorem event_sl {a b c d e f g : Nat} : (s.event a b c d e f g).sl = s.sl := event_frame.sl
@[simp] theorem event_pz {a b c d e f g : Nat} : (s.event a b c d e f g).pz = s.pz := event_frame.pz
@[simp] theorem event_oe {a b c d e f g : Nat} : (s.event a b c d e f g).oe = s.oe := event_frame.oe
@[simp] theorem event_diFilt {a b c d e f g : Nat} : (s.event a b c d e f g).diFilt = s.diFilt := event_frame.diFilt
@[simp] theorem event_diInv {a b c d e f g : Nat} : (s.event a b c d e f g).diInv = s.diInv := event_frame.diInv
@[simp] theorem event_sc {a b c d e f g : Nat} : (s.event a b c d e f g).sc = s.sc := event_frame.sc
@[simp] theorem event_trips {a b c d e f g : Nat} : (s.event a b c d e f g).trips = s.trips := event_frame.trips
@[simp] theorem event_vlt {a b c d e f g : Nat} : (s.event a b c d e f g).vlt = s.vlt := event_frame.vlt
@[simp] theorem event_stl {a b c d e f g : Nat} : (s.event a b c d e f g).stl = s.stl := event_frame.stl
@[simp] theorem event_can {a b c d e f g : Nat} : (s.event a b c d e f g).can = s.can := event_frame.can
@[simp] theorem event_mvb {a b c d e f g : Nat} : (s.event a b c d e f g).mvb = s.mvb := event_frame.mvb
@[simp] theorem event_cel {a b c d e f g : Nat} : (s.event a b c d e f g).cel = s.cel := event_frame.cel
@[simp] theorem event_boot {a b c d e f g : Nat} : (s.event a b c d e f g).boot = s.boot := event_frame.boot

theorem logFault_frame {page cause kind level reg : Nat} {loc : Word} {dw : Option Nat} : Frame ldgPage s (s.logFault page cause loc kind level reg dw) := Frame.refl.logFault
theorem word_logFault {page cause kind level reg : Nat} {loc : Word} {dw : Option Nat} (h : x / 4096 ≠ 12) : (s.logFault page cause loc kind level reg dw).word x = s.word x := logFault_frame.word x h
theorem get_logFault {page cause kind level reg : Nat} {loc : Word} {dw : Option Nat} (h : k.addr / 4096 ≠ 12) : (s.logFault page cause loc kind level reg dw).get k = s.get k := logFault_frame.get h
theorem getI_logFault {page cause kind level reg : Nat} {loc : Word} {dw : Option Nat} (h : k.addr / 4096 ≠ 12) : (s.logFault page cause loc kind level reg dw).getI k = s.getI k := logFault_frame.getI h
theorem on_logFault {page cause kind level reg : Nat} {loc : Word} {dw : Option Nat} (h : k.addr / 4096 ≠ 12) : (s.logFault page cause loc kind level reg dw).on k = s.on k := logFault_frame.on h
@[simp] theorem logFault_pending {page cause kind level reg : Nat} {loc : Word} {dw : Option Nat} : (s.logFault page cause loc kind level reg dw).pending = s.pending := logFault_frame.pending
@[simp] theorem logFault_free {page cause kind level reg : Nat} {loc : Word} {dw : Option Nat} : (s.logFault page cause loc kind level reg dw).free = s.free := logFault_frame.free
@[simp] theorem logFault_clk32 {page cause kind level reg : Nat} {loc : Word} {dw : Option Nat} : (s.logFault page cause loc kind level reg dw).clk32 = s.clk32 := logFault_frame.clk32
@[simp] theorem logFault_frozen {page cause kind level reg : Nat} {loc : Word} {dw : Option Nat} : (s.logFault page cause loc kind level reg dw).frozen = s.frozen := logFault_frame.frozen
@[simp] theorem logFault_hiFrozen {page cause kind level reg : Nat} {loc : Word} {dw : Option Nat} : (s.logFault page cause loc kind level reg dw).hiFrozen = s.hiFrozen := logFault_frame.hiFrozen
@[simp] theorem logFault_dw {page cause kind level reg : Nat} {loc : Word} {dw : Option Nat} : (s.logFault page cause loc kind level reg dw).dw = s.dw := logFault_frame.dw
@[simp] theorem logFault_ax {page cause kind level reg : Nat} {loc : Word} {dw : Option Nat} : (s.logFault page cause loc kind level reg dw).ax = s.ax := logFault_frame.ax
@[simp] theorem logFault_fb {page cause kind level reg : Nat} {loc : Word} {dw : Option Nat} : (s.logFault page cause loc kind level reg dw).fb = s.fb := logFault_frame.fb
@[simp] theorem logFault_enc {page cause kind level reg : Nat} {loc : Word} {dw : Option Nat} : (s.logFault page cause loc kind level reg dw).enc = s.enc := logFault_frame.enc
@[simp] theorem logFault_shadow {page cause kind level reg : Nat} {loc : Word} {dw : Option Nat} : (s.logFault page cause loc kind level reg dw).shadow = s.shadow := logFault_frame.shadow
@[simp] theorem logFault_posted {page cause kind level reg : Nat} {loc : Word} {dw : Option Nat} : (s.logFault page cause loc kind level reg dw).posted = s.posted := logFault_frame.posted
@[simp] theorem logFault_rtc {page cause kind level reg : Nat} {loc : Word} {dw : Option Nat} : (s.logFault page cause loc kind level reg dw).rtc = s.rtc := logFault_frame.rtc
@[simp] theorem logFault_rtcFrac {page cause kind level reg : Nat} {loc : Word} {dw : Option Nat} : (s.logFault page cause loc kind level reg dw).rtcFrac = s.rtcFrac := logFault_frame.rtcFrac
@[simp] theorem logFault_answers {page cause kind level reg : Nat} {loc : Word} {dw : Option Nat} : (s.logFault page cause loc kind level reg dw).answers = s.answers := logFault_frame.answers
@[simp] theorem logFault_pcieMask {page cause kind level reg : Nat} {loc : Word} {dw : Option Nat} : (s.logFault page cause loc kind level reg dw).pcieMask = s.pcieMask := logFault_frame.pcieMask
@[simp] theorem logFault_ch {page cause kind level reg : Nat} {loc : Word} {dw : Option Nat} : (s.logFault page cause loc kind level reg dw).ch = s.ch := logFault_frame.ch
@[simp] theorem logFault_die {page cause kind level reg : Nat} {loc : Word} {dw : Option Nat} : (s.logFault page cause loc kind level reg dw).die = s.die := logFault_frame.die
@[simp] theorem logFault_onBlocked {page cause kind level reg : Nat} {loc : Word} {dw : Option Nat} : (s.logFault page cause loc kind level reg dw).onBlocked = s.onBlocked := logFault_frame.onBlocked
@[simp] theorem logFault_pan {page cause kind level reg : Nat} {loc : Word} {dw : Option Nat} : (s.logFault page cause loc kind level reg dw).pan = s.pan := logFault_frame.pan
@[simp] theorem logFault_sl {page cause kind level reg : Nat} {loc : Word} {dw : Option Nat} : (s.logFault page cause loc kind level reg dw).sl = s.sl := logFault_frame.sl
@[simp] theorem logFault_pz {page cause kind level reg : Nat} {loc : Word} {dw : Option Nat} : (s.logFault page cause loc kind level reg dw).pz = s.pz := logFault_frame.pz
@[simp] theorem logFault_oe {page cause kind level reg : Nat} {loc : Word} {dw : Option Nat} : (s.logFault page cause loc kind level reg dw).oe = s.oe := logFault_frame.oe
@[simp] theorem logFault_diFilt {page cause kind level reg : Nat} {loc : Word} {dw : Option Nat} : (s.logFault page cause loc kind level reg dw).diFilt = s.diFilt := logFault_frame.diFilt
@[simp] theorem logFault_diInv {page cause kind level reg : Nat} {loc : Word} {dw : Option Nat} : (s.logFault page cause loc kind level reg dw).diInv = s.diInv := logFault_frame.diInv
@[simp] theorem logFault_sc {page cause kind level reg : Nat} {loc : Word} {dw : Option Nat} : (s.logFault page cause loc kind level reg dw).sc = s.sc := logFault_frame.sc
@[simp] theorem logFault_trips {page cause kind level reg : Nat} {loc : Word} {dw : Option Nat} : (s.logFault page cause loc kind level reg dw).trips = s.trips := logFault_frame.trips
@[simp] theorem logFault_vlt {page cause kind level reg : Nat} {loc : Word} {dw : Option Nat} : (s.logFault page cause loc kind level reg dw).vlt = s.vlt := logFault_frame.vlt
@[simp] theorem logFault_stl {page cause kind level reg : Nat} {loc : Word} {dw : Option Nat} : (s.logFault page cause loc kind level reg dw).stl = s.stl := logFault_frame.stl
@[simp] theorem logFault_can {page cause kind level reg : Nat} {loc : Word} {dw : Option Nat} : (s.logFault page cause loc kind level reg dw).can = s.can := logFault_frame.can
@[simp] theorem logFault_mvb {page cause kind level reg : Nat} {loc : Word} {dw : Option Nat} : (s.logFault page cause loc kind level reg dw).mvb = s.mvb := logFault_frame.mvb
@[simp] theorem logFault_cel {page cause kind level reg : Nat} {loc : Word} {dw : Option Nat} : (s.logFault page cause loc kind level reg dw).cel = s.cel := logFault_frame.cel
@[simp] theorem logFault_boot {page cause kind level reg : Nat} {loc : Word} {dw : Option Nat} : (s.logFault page cause loc kind level reg dw).boot = s.boot := logFault_frame.boot

/-- An event that is raised is set. -/
theorem on_raise_same {page bit : Nat} (hb : bit < 32) : (s.raise page bit).on (HDR.EVT_BIT page bit) = true := by
  have h1 : (s.set (HDR.EVT_BIT page bit) 1).on (HDR.EVT_BIT page bit) = true := by
    unfold on
    rw [get_set_same (f := HDR.EVT_BIT page bit) hb]
    rfl
  have h2 : ∀ r t : State, (msiEdges r t).word (HDR.EVT_BIT page bit).addr = t.word (HDR.EVT_BIT page bit).addr := fun r t =>
    (Frame.msiEdges (W := fun _ => False) (r := r) (Frame.refl (s := t))).word _ id
  unfold raise
  dsimp only
  split
  · rw [on_congr (h2 _ _)]
    exact h1
  · exact h1

end State

end Sys2Proof.Machine
end

