-- ==== Sys2Proof/Laws/Kept.lean ====
section
/-! SUPPORT. What every operation on the state keeps: the queue of waiting commands, which only `step` and the sender change; what the
block has sent, which nothing takes back; and the canonical form of the register window. `Kept q s` says the three of a state; the
files Laws/Kept<Module>.lean prove it of each operation and meaning, so that a proof about all commands cites one lemma per command
and unfolds none. -/

namespace Sys2Proof.Machine

/-- The queue of the state is `q.1`, everything in `q.2` has been sent first, and its register window is canonical. -/
structure Kept (q : List Instr × List Emission) (s : State) : Prop where
  queue : s.pending = q.1
  sent : q.2 <+: s.out
  regs : cellsWf regReset s.regs = true

/-- The meaning completes: it answers a next state, and that state is kept. -/
def Answers (q : List Instr × List Emission) (o : Host.Outcome State Fault Refusal) : Prop := ∃ t, o = .next t ∧ Kept q t

theorem answers_next {q : List Instr × List Emission} {t : State} (h : Kept q t) : Answers q (.next t) := ⟨t, rfl, h⟩

/-- A value bound by a `let` may be proved first. -/
theorem kept_cut {q : List Instr × List Emission} {x : State} {p : Prop} (h : Kept q x) (k : Kept q x → p) : p := k h

/-- An update of any field but the queue, the register window and what has been sent. -/
theorem kept_mk {q : List Instr × List Emission} {s : State} (h : Kept q s) {a3 a4 a6 a7 a8 a9 a10 a11 a12 a13 a14 a15 a16 a17
    a18 a19 a20 a21 a22 a23 a24 a25 a26 a27 a28 a29 a30 a31 a32 a33 a34 a35 a36 a37 a38 a39 a40 a41 a42} :
Kept q (State.mk s.pending s.out a3 a4 s.regs a6 a7 a8 a9 a10 a11 a12 a13 a14 a15 a16 a17 a18 a19 a20 a21 a22 a23 a24 a25 a26
      a27 a28 a29 a30 a31 a32 a33 a34 a35 a36 a37 a38 a39 a40 a41 a42) :=
  ⟨h.1, h.2, h.3⟩

theorem kept_foldl {q : List Instr × List Emission} {α : Type} {f : State → α → State} {l : List α} {s : State} (h : Kept q s)
    (hf : ∀ t x, Kept q t → Kept q (f t x)) : Kept q (l.foldl f s) := by
  induction l generalizing s with
  | nil => exact h
  | cons x l ih => exact ih (hf s x h)

/-- The same over a state and a second value. -/
theorem kept_foldl_pair {q : List Instr × List Emission} {α β : Type} {f : State × β → α → State × β} {l : List α} {s : State × β}
    (h : Kept q s.1) (hf : ∀ t x, Kept q t.1 → Kept q (f t x).1) : Kept q (l.foldl f s).1 := by
  induction l generalizing s with
  | nil => exact h
  | cons x l ih => exact ih (hf s x h)

theorem kept_of_fst {q : List Instr × List Emission} {β : Type} {p : State × β} {t : State} {b : β} (h : Kept q p.1) (e : p = (t, b)) : Kept q t := by
  rw [e] at h
  exact h

theorem kept_of_snd {q : List Instr × List Emission} {β : Type} {p : β × State} {t : State} {b : β} (h : Kept q p.2) (e : p = (b, t)) : Kept q t := by
  rw [e] at h
  exact h

theorem kept_ite {q : List Instr × List Emission} {c : Prop} [Decidable c] {s t : State} (hs : Kept q s) (ht : Kept q t) :
    Kept q (if c then s else t) := by
  split
  · exact hs
  · exact ht

theorem kept_setWord {q s a1 a2} (h : Kept q s) : Kept q (State.setWord s a1 a2) :=
  ⟨h.queue, h.sent, cellsWf_cellSet a1 a2 h.regs⟩

theorem kept_emit {q s a1} (h : Kept q s) : Kept q (State.emit s a1) :=
  ⟨h.queue, h.sent.trans (List.prefix_append _ _), h.regs⟩

end Sys2Proof.Machine
end

