-- ==== Sys2Proof/Laws/KeptOps.lean ====
section
/-! SUPPORT. One lemma per operation of Machine/Ops.lean that answers a state: it leaves the queue alone and keeps the register
window canonical; per meaning: it completes, and so does its state. -/

namespace Sys2Proof.Machine

theorem kept_set {q s a1 a2} (h : Kept q s) : Kept q (State.set s a1 a2) := by
  unfold State.set
  repeat' with_reducible (first
    | assumption | apply kept_setWord)

theorem kept_setI {q s a1 a2} (h : Kept q s) : Kept q (State.setI s a1 a2) := by
  unfold State.setI
  repeat' with_reducible (first
    | assumption | apply kept_set)

theorem kept_setB {q s a1 a2} (h : Kept q s) : Kept q (State.setB s a1 a2) := by
  unfold State.setB
  repeat' with_reducible (first
    | assumption | apply kept_set)

theorem kept_add {q s a1 a2} (h : Kept q s) : Kept q (State.add s a1 a2) := by
  unfold State.add
  repeat' with_reducible (first
    | assumption | apply kept_set)

theorem kept_inc {q s a1} (h : Kept q s) : Kept q (State.inc s a1) := by
  unfold State.inc
  repeat' with_reducible (first
    | assumption | apply kept_add)

theorem kept_incWrap {q s a1} (h : Kept q s) : Kept q (State.incWrap s a1) := by
  unfold State.incWrap
  repeat' with_reducible (first
    | assumption | apply kept_set)

theorem kept_modDw {q s a1 a2} (h : Kept q s) : Kept q (State.modDw s a1 a2) := by
  unfold State.modDw
  repeat' with_reducible (first
    | assumption | exact kept_mk (by assumption)
    | (extract_lets +onlyGivenNames x; refine kept_cut (q := q) (x := x) ?_ (fun _ => ?_); unfold x; clear x; rotate_left; clear_value x)
    | (extract_lets +onlyGivenNames x; clear_value x) | extract_lets +onlyGivenNames _)

theorem kept_modAx {q s a1 a2} (h : Kept q s) : Kept q (State.modAx s a1 a2) := by
  unfold State.modAx
  repeat' with_reducible (first
    | assumption | exact kept_mk (by assumption)
    | (extract_lets +onlyGivenNames x; refine kept_cut (q := q) (x := x) ?_ (fun _ => ?_); unfold x; clear x; rotate_left; clear_value x)
    | (extract_lets +onlyGivenNames x; clear_value x) | extract_lets +onlyGivenNames _)

theorem kept_modFb {q s a1 a2} (h : Kept q s) : Kept q (State.modFb s a1 a2) := by
  unfold State.modFb
  repeat' with_reducible (first
    | assumption | exact kept_mk (by assumption)
    | (extract_lets +onlyGivenNames x; refine kept_cut (q := q) (x := x) ?_ (fun _ => ?_); unfold x; clear x; rotate_left; clear_value x)
    | (extract_lets +onlyGivenNames x; clear_value x) | extract_lets +onlyGivenNames _)

theorem kept_modEnc {q s a1 a2} (h : Kept q s) : Kept q (State.modEnc s a1 a2) := by
  unfold State.modEnc
  repeat' with_reducible (first
    | assumption | exact kept_mk (by assumption)
    | (extract_lets +onlyGivenNames x; refine kept_cut (q := q) (x := x) ?_ (fun _ => ?_); unfold x; clear x; rotate_left; clear_value x)
    | (extract_lets +onlyGivenNames x; clear_value x) | extract_lets +onlyGivenNames _)

theorem kept_modCh {q s a1 a2} (h : Kept q s) : Kept q (State.modCh s a1 a2) := by
  unfold State.modCh
  repeat' with_reducible (first
    | assumption | exact kept_mk (by assumption)
    | (extract_lets +onlyGivenNames x; refine kept_cut (q := q) (x := x) ?_ (fun _ => ?_); unfold x; clear x; rotate_left; clear_value x)
    | (extract_lets +onlyGivenNames x; clear_value x) | extract_lets +onlyGivenNames _)

theorem kept_modDie {q s a1 a2} (h : Kept q s) : Kept q (State.modDie s a1 a2) := by
  unfold State.modDie
  repeat' with_reducible (first
    | assumption | exact kept_mk (by assumption)
    | (extract_lets +onlyGivenNames x; refine kept_cut (q := q) (x := x) ?_ (fun _ => ?_); unfold x; clear x; rotate_left; clear_value x)
    | (extract_lets +onlyGivenNames x; clear_value x) | extract_lets +onlyGivenNames _)

theorem kept_modSl {q s a1 a2} (h : Kept q s) : Kept q (State.modSl s a1 a2) := by
  unfold State.modSl
  repeat' with_reducible (first
    | assumption | exact kept_mk (by assumption)
    | (extract_lets +onlyGivenNames x; refine kept_cut (q := q) (x := x) ?_ (fun _ => ?_); unfold x; clear x; rotate_left; clear_value x)
    | (extract_lets +onlyGivenNames x; clear_value x) | extract_lets +onlyGivenNames _)

theorem kept_modPz {q s a1 a2} (h : Kept q s) : Kept q (State.modPz s a1 a2) := by
  unfold State.modPz
  repeat' with_reducible (first
    | assumption | exact kept_mk (by assumption)
    | (extract_lets +onlyGivenNames x; refine kept_cut (q := q) (x := x) ?_ (fun _ => ?_); unfold x; clear x; rotate_left; clear_value x)
    | (extract_lets +onlyGivenNames x; clear_value x) | extract_lets +onlyGivenNames _)

theorem kept_modOe {q s a1} (h : Kept q s) : Kept q (State.modOe s a1) := by
  unfold State.modOe
  repeat' with_reducible (first
    | assumption | exact kept_mk (by assumption)
    | (extract_lets +onlyGivenNames x; refine kept_cut (q := q) (x := x) ?_ (fun _ => ?_); unfold x; clear x; rotate_left; clear_value x)
    | (extract_lets +onlyGivenNames x; clear_value x) | extract_lets +onlyGivenNames _)

theorem kept_countLane {q s a1} (h : Kept q s) : Kept q (State.countLane s a1) := by
  unfold State.countLane
  repeat' with_reducible (first
    | assumption | exact kept_mk (by assumption)
    | (extract_lets +onlyGivenNames x; refine kept_cut (q := q) (x := x) ?_ (fun _ => ?_); unfold x; clear x; rotate_left; clear_value x)
    | (extract_lets +onlyGivenNames x; clear_value x) | extract_lets +onlyGivenNames _ | split)

theorem kept_sendBruvan {q s a1} (h : Kept q s) : Kept q (State.sendBruvan s a1) := by
  unfold State.sendBruvan
  repeat' with_reducible (first
    | assumption | apply kept_emit | apply kept_countLane | exact kept_mk (by assumption)
    | (extract_lets +onlyGivenNames x; refine kept_cut (q := q) (x := x) ?_ (fun _ => ?_); unfold x; clear x; rotate_left; clear_value x)
    | (extract_lets +onlyGivenNames x; clear_value x) | extract_lets +onlyGivenNames _ | split)

theorem kept_bumpFree {q s} (h : Kept q s) : Kept q (State.bumpFree s) := by
  unfold State.bumpFree
  repeat' with_reducible (first
    | assumption | exact kept_mk (by assumption)
    | (extract_lets +onlyGivenNames x; refine kept_cut (q := q) (x := x) ?_ (fun _ => ?_); unfold x; clear x; rotate_left; clear_value x)
    | (extract_lets +onlyGivenNames x; clear_value x) | extract_lets +onlyGivenNames _)

theorem kept_whenRunning {q s f} (h : Kept q s) (hf : ∀ t, Kept q t → Kept q (f t)) : Kept q (State.whenRunning s f) := by
  unfold State.whenRunning
  split
  · exact hf s h
  · exact h

theorem kept_whenReady {q s f} (h : Kept q s) (hf : ∀ t, Kept q t → Kept q (f t)) : Kept q (State.whenReady s f) := by
  unfold State.whenReady
  split
  · exact hf s h
  · exact h

theorem kept_whenLe {q s f} (h : Kept q s) (hf : ∀ t, Kept q t → Kept q (f t)) : Kept q (State.whenLe s f) := by
  unfold State.whenLe
  split
  · exact hf s h
  · exact h

theorem kept_whenEngine {q s f} (h : Kept q s) (hf : ∀ t, Kept q t → Kept q (f t)) : Kept q (State.whenEngine s f) := by
  unfold State.whenEngine
  refine kept_whenRunning h fun t ht => ?_
  split
  · exact hf t ht
  · exact ht

theorem kept_whenDoor {q s n f} (h : Kept q s) (hf : ∀ t, Kept q t → Kept q (f t)) : Kept q (State.whenDoor s n f) := by
  unfold State.whenDoor
  refine kept_whenEngine h fun t ht => ?_
  split
  · exact hf t ht
  · exact ht

theorem kept_wakeWatch {q s a1} (h : Kept q s) : Kept q (State.wakeWatch s a1) := by
  unfold State.wakeWatch
  repeat' with_reducible (first
    | assumption | apply kept_set | exact kept_mk (by assumption)
    | (extract_lets +onlyGivenNames x; refine kept_cut (q := q) (x := x) ?_ (fun _ => ?_); unfold x; clear x; rotate_left; clear_value x)
    | (extract_lets +onlyGivenNames x; clear_value x) | extract_lets +onlyGivenNames _ | split)

theorem kept_whenAwake {q s a1 f} (h : Kept q s) (hf : ∀ t, Kept q t → Kept q (f t)) : Kept q (State.whenAwake s a1 f) := by
  unfold State.whenAwake
  split
  · exact hf s h
  · split
    · exact kept_wakeWatch (hf s h)
    · exact h

theorem kept_sendMsi {q s a1} (h : Kept q s) : Kept q (State.sendMsi s a1) := by
  unfold State.sendMsi
  repeat' with_reducible (first
    | assumption | apply kept_emit | exact kept_mk (by assumption)
    | (extract_lets +onlyGivenNames x; refine kept_cut (q := q) (x := x) ?_ (fun _ => ?_); unfold x; clear x; rotate_left; clear_value x)
    | (extract_lets +onlyGivenNames x; clear_value x) | extract_lets +onlyGivenNames _ | split)

theorem kept_msiEdges {q s s2} (h : Kept q s2) : Kept q (State.msiEdges s s2) := by
  unfold State.msiEdges
  refine kept_foldl h fun t x ht => ?_
  split
  · exact kept_sendMsi ht
  · exact ht

theorem kept_raise {q s a1 a2} (h : Kept q s) : Kept q (State.raise s a1 a2) := by
  unfold State.raise
  repeat' with_reducible (first
    | assumption | apply kept_set | apply kept_msiEdges
    | (extract_lets +onlyGivenNames x; refine kept_cut (q := q) (x := x) ?_ (fun _ => ?_); unfold x; clear x; rotate_left; clear_value x)
    | (extract_lets +onlyGivenNames x; clear_value x) | extract_lets +onlyGivenNames _ | split)

theorem kept_raiseIf {q s a1 a2 a3} (h : Kept q s) : Kept q (State.raiseIf s a1 a2 a3) := by
  unfold State.raiseIf
  repeat' with_reducible (first
    | assumption | apply kept_raise | split)

theorem kept_accessErr {q s a1 a2 a3} (h : Kept q s) : Kept q (State.accessErr s a1 a2 a3) := by
  unfold State.accessErr
  repeat' with_reducible (first
    | assumption | apply kept_setB | apply kept_set | apply kept_raise | apply kept_inc | exact kept_mk (by assumption)
    | (extract_lets +onlyGivenNames x; refine kept_cut (q := q) (x := x) ?_ (fun _ => ?_); unfold x; clear x; rotate_left; clear_value x)
    | (extract_lets +onlyGivenNames x; clear_value x) | extract_lets +onlyGivenNames _)

theorem kept_reject {q s a1 a2} (h : Kept q s) : Kept q (State.reject s a1 a2) := by
  unfold State.reject
  repeat' with_reducible (first
    | assumption | apply kept_set | apply kept_setB | refine kept_foldl ?_ (fun _ _ _ => ?_) | split)

theorem kept_showJournal {q s} (h : Kept q s) : Kept q (State.showJournal s) := by
  unfold State.showJournal
  repeat' with_reducible (first
    | assumption | apply kept_setB | apply kept_set)

theorem kept_pushJournal {q s a1} (h : Kept q s) : Kept q (State.pushJournal s a1) := by
  unfold State.pushJournal
  repeat' with_reducible (first
    | assumption | exact kept_mk (by assumption)
    | (extract_lets +onlyGivenNames x; refine kept_cut (q := q) (x := x) ?_ (fun _ => ?_); unfold x; clear x; rotate_left; clear_value x)
    | (extract_lets +onlyGivenNames x; clear_value x) | extract_lets +onlyGivenNames _)

theorem kept_accept {q s a1 a2} (h : Kept q s) : Kept q (State.accept s a1 a2) := by
  unfold State.accept
  repeat' with_reducible (first
    | assumption | apply kept_pushJournal | apply kept_incWrap | apply kept_showJournal | apply kept_sendBruvan
    | exact kept_mk (by assumption)
    | (extract_lets +onlyGivenNames x; refine kept_cut (q := q) (x := x) ?_ (fun _ => ?_); unfold x; clear x; rotate_left; clear_value x)
    | (extract_lets +onlyGivenNames x; clear_value x) | extract_lets +onlyGivenNames _ | split)

theorem kept_warn {q s a1 a2} (h : Kept q s) : Kept q (State.warn s a1 a2) := by
  unfold State.warn
  repeat' with_reducible (first
    | assumption | apply kept_set | apply kept_raise | apply kept_accept | apply kept_inc
    | (extract_lets +onlyGivenNames x; refine kept_cut (q := q) (x := x) ?_ (fun _ => ?_); unfold x; clear x; rotate_left; clear_value x)
    | (extract_lets +onlyGivenNames x; clear_value x) | extract_lets +onlyGivenNames _ | split)

theorem kept_submit {q s a1 a2} (h : Kept q s) : Kept q (State.submit s a1 a2) := by
  unfold State.submit
  repeat' with_reducible (first
    | assumption | apply kept_accept | apply kept_warn | apply kept_inc | split)

theorem kept_event {q s a1 a2 a3 a4 a5 a6 a7} (h : Kept q s) : Kept q (State.event s a1 a2 a3 a4 a5 a6 a7) := by
  unfold State.event
  repeat' with_reducible (first
    | assumption | apply kept_submit)

theorem kept_countFault {q s a1 a2} (h : Kept q s) : Kept q (State.countFault s a1 a2) := by
  unfold State.countFault
  repeat' with_reducible (first
    | assumption | exact kept_mk (by assumption)
    | (extract_lets +onlyGivenNames x; refine kept_cut (q := q) (x := x) ?_ (fun _ => ?_); unfold x; clear x; rotate_left; clear_value x)
    | (extract_lets +onlyGivenNames x; clear_value x) | extract_lets +onlyGivenNames _ | split)

theorem kept_logFault {q s a1 a2 a3 a4 a5 a6 a7} (h : Kept q s) : Kept q (State.logFault s a1 a2 a3 a4 a5 a6 a7) := by
  unfold State.logFault
  repeat' with_reducible (first
    | assumption | apply kept_countFault | apply kept_submit | exact kept_mk (by assumption)
    | (extract_lets +onlyGivenNames x; refine kept_cut (q := q) (x := x) ?_ (fun _ => ?_); unfold x; clear x; rotate_left; clear_value x)
    | (extract_lets +onlyGivenNames x; clear_value x) | extract_lets +onlyGivenNames _ | split)

end Sys2Proof.Machine
end

