-- ==== Sys2Proof/Laws/KeptOperands.lean ====
section
/-! SUPPORT. One lemma per operation of Machine/Operands.lean that answers a state: it leaves the queue alone and keeps the register
window canonical; per meaning: it completes, and so does its state. -/

namespace Sys2Proof.Machine

theorem kept_showDi {q s a1} (h : Kept q s) : Kept q (State.showDi s a1) := by
  unfold State.showDi
  repeat' with_reducible (first
    | assumption | apply kept_setB | apply kept_raiseIf
    | (extract_lets +onlyGivenNames x; refine kept_cut (q := q) (x := x) ?_ (fun _ => ?_); unfold x; clear x; rotate_left; clear_value x)
    | (extract_lets +onlyGivenNames x; clear_value x) | extract_lets +onlyGivenNames _ | split)

theorem kept_setRaw {q s a1 a2} (h : Kept q s) : Kept q (State.setRaw s a1 a2) := by
  unfold State.setRaw
  repeat' with_reducible (first
    | assumption | exact kept_mk (by assumption)
    | (extract_lets +onlyGivenNames x; refine kept_cut (q := q) (x := x) ?_ (fun _ => ?_); unfold x; clear x; rotate_left; clear_value x)
    | (extract_lets +onlyGivenNames x; clear_value x) | extract_lets +onlyGivenNames _ | split)

theorem kept_passLevel {q s a1 a2} (h : Kept q s) : Kept q (State.passLevel s a1 a2) := by
  unfold State.passLevel
  repeat' with_reducible (first
    | assumption | apply kept_showDi | exact kept_mk (by assumption)
    | (extract_lets +onlyGivenNames x; refine kept_cut (q := q) (x := x) ?_ (fun _ => ?_); unfold x; clear x; rotate_left; clear_value x)
    | (extract_lets +onlyGivenNames x; clear_value x) | extract_lets +onlyGivenNames _ | split)

theorem kept_restartFilter {q s a1} (h : Kept q s) : Kept q (State.restartFilter s a1) := by
  unfold State.restartFilter
  repeat' with_reducible (first
    | assumption | apply kept_passLevel)

theorem kept_restartFilters {q s a1} (h : Kept q s) : Kept q (State.restartFilters s a1) := by
  unfold State.restartFilters
  repeat' with_reducible (first
    | assumption | apply kept_restartFilter | exact kept_mk (by assumption) | refine kept_foldl ?_ (fun _ _ _ => ?_)
    | (extract_lets +onlyGivenNames x; refine kept_cut (q := q) (x := x) ?_ (fun _ => ?_); unfold x; clear x; rotate_left; clear_value x)
    | (extract_lets +onlyGivenNames x; clear_value x) | extract_lets +onlyGivenNames _ | split)

end Sys2Proof.Machine
end

