-- ==== Sys2Proof/Laws/KeptMotion.lean ====
section
/-! SUPPORT. One lemma per operation of Machine/Motion.lean that answers a state: it leaves the queue alone and keeps the register
window canonical; per meaning: it completes, and so does its state. -/

namespace Sys2Proof.Machine

theorem kept_release {q s a1} (h : Kept q s) : Kept q (State.release s a1) := by
  unfold State.release
  repeat' with_reducible (first
    | assumption | exact kept_mk (by assumption)
    | (extract_lets +onlyGivenNames x; refine kept_cut (q := q) (x := x) ?_ (fun _ => ?_); unfold x; clear x; rotate_left; clear_value x)
    | (extract_lets +onlyGivenNames x; clear_value x) | extract_lets +onlyGivenNames _ | split)

theorem kept_dropReq {q s a1} (h : Kept q s) : Kept q (State.dropReq s a1) := by
  unfold State.dropReq
  repeat' with_reducible (first
    | assumption | exact kept_mk (by assumption)
    | (extract_lets +onlyGivenNames x; refine kept_cut (q := q) (x := x) ?_ (fun _ => ?_); unfold x; clear x; rotate_left; clear_value x)
    | (extract_lets +onlyGivenNames x; clear_value x) | extract_lets +onlyGivenNames _)

theorem kept_setWant {q s a1 a2} (h : Kept q s) : Kept q (State.setWant s a1 a2) := by
  unfold State.setWant
  repeat' with_reducible (first
    | assumption | apply kept_modAx | apply kept_dropReq | exact kept_mk (by assumption)
    | (extract_lets +onlyGivenNames x; refine kept_cut (q := q) (x := x) ?_ (fun _ => ?_); unfold x; clear x; rotate_left; clear_value x)
    | (extract_lets +onlyGivenNames x; clear_value x) | extract_lets +onlyGivenNames _)

theorem kept_haltAxis {q s a1} (h : Kept q s) : Kept q (State.haltAxis s a1) := by
  unfold State.haltAxis
  repeat' with_reducible (first
    | assumption | apply kept_modAx | apply kept_release | apply kept_dropReq | apply kept_setB | apply kept_setI
    | exact kept_mk (by assumption)
    | (extract_lets +onlyGivenNames x; refine kept_cut (q := q) (x := x) ?_ (fun _ => ?_); unfold x; clear x; rotate_left; clear_value x)
    | (extract_lets +onlyGivenNames x; clear_value x) | extract_lets +onlyGivenNames _)

theorem kept_gatesOff {q s a1} (h : Kept q s) : Kept q (State.gatesOff s a1) := by
  unfold State.gatesOff
  repeat' with_reducible (first
    | assumption | apply kept_modAx | apply kept_haltAxis | apply kept_set | exact kept_mk (by assumption)
    | (extract_lets +onlyGivenNames x; refine kept_cut (q := q) (x := x) ?_ (fun _ => ?_); unfold x; clear x; rotate_left; clear_value x)
    | (extract_lets +onlyGivenNames x; clear_value x) | extract_lets +onlyGivenNames _ | split)

theorem kept_setGateEn {q s a1 a2} (h : Kept q s) : Kept q (State.setGateEn s a1 a2) := by
  unfold State.setGateEn
  repeat' with_reducible (first
    | assumption | apply kept_raise | apply kept_setB | apply kept_gatesOff | exact kept_mk (by assumption)
    | (extract_lets +onlyGivenNames x; refine kept_cut (q := q) (x := x) ?_ (fun _ => ?_); unfold x; clear x; rotate_left; clear_value x)
    | (extract_lets +onlyGivenNames x; clear_value x) | extract_lets +onlyGivenNames _ | split)

theorem kept_axisFault {q s a1 a2 a3} (h : Kept q s) : Kept q (State.axisFault s a1 a2 a3) := by
  unfold State.axisFault
  repeat' with_reducible (first
    | assumption | apply kept_modAx | apply kept_gatesOff | apply kept_set | apply kept_raise | apply kept_logFault
    | exact kept_mk (by assumption)
    | (extract_lets +onlyGivenNames x; refine kept_cut (q := q) (x := x) ?_ (fun _ => ?_); unfold x; clear x; rotate_left; clear_value x)
    | (extract_lets +onlyGivenNames x; clear_value x) | extract_lets +onlyGivenNames _ | split)

theorem kept_axisInactive {q s a1 a2} (h : Kept q s) : Kept q (State.axisInactive s a1 a2) := by
  unfold State.axisInactive
  repeat' with_reducible (first
    | assumption | apply kept_setB | exact kept_mk (by assumption)
    | (extract_lets +onlyGivenNames x; refine kept_cut (q := q) (x := x) ?_ (fun _ => ?_); unfold x; clear x; rotate_left; clear_value x)
    | (extract_lets +onlyGivenNames x; clear_value x) | extract_lets +onlyGivenNames _ | split)

theorem kept_clearAxis {q s a1} (h : Kept q s) : Kept q (State.clearAxis s a1) := by
  unfold State.clearAxis
  repeat' with_reducible (first
    | assumption | apply kept_set | apply kept_modAx | apply kept_axisFault | exact kept_mk (by assumption)
    | (extract_lets +onlyGivenNames x; refine kept_cut (q := q) (x := x) ?_ (fun _ => ?_); unfold x; clear x; rotate_left; clear_value x)
    | (extract_lets +onlyGivenNames x; clear_value x) | extract_lets +onlyGivenNames _ | split)

theorem kept_axisReady {q s a1} (h : Kept q s) : Kept q (State.axisReady s a1) := by
  unfold State.axisReady
  repeat' with_reducible (first
    | assumption | apply kept_modAx | apply kept_setB | apply kept_setI | apply kept_set | exact kept_mk (by assumption)
    | (extract_lets +onlyGivenNames x; refine kept_cut (q := q) (x := x) ?_ (fun _ => ?_); unfold x; clear x; rotate_left; clear_value x)
    | (extract_lets +onlyGivenNames x; clear_value x) | extract_lets +onlyGivenNames _ | split)

theorem kept_loadRef {q s a1 a2} (h : Kept q s) : Kept q (State.loadRef s a1 a2) := by
  unfold State.loadRef
  repeat' with_reducible (first
    | assumption | apply kept_setI | apply kept_modAx | apply kept_setB | exact kept_mk (by assumption)
    | refine kept_foldl ?_ (fun _ _ _ => ?_)
    | (extract_lets +onlyGivenNames x; refine kept_cut (q := q) (x := x) ?_ (fun _ => ?_); unfold x; clear x; rotate_left; clear_value x)
    | (extract_lets +onlyGivenNames x; clear_value x) | extract_lets +onlyGivenNames _ | split)

theorem kept_moveStep {q s a1 a2 a3 a4 a5} (h : Kept q s) : Kept q (State.moveStep s a1 a2 a3 a4 a5) := by
  unfold State.moveStep
  repeat' with_reducible (first
    | assumption | apply kept_modAx | exact kept_mk (by assumption)
    | (extract_lets +onlyGivenNames x; refine kept_cut (q := q) (x := x) ?_ (fun _ => ?_); unfold x; clear x; rotate_left; clear_value x)
    | (extract_lets +onlyGivenNames x; clear_value x) | extract_lets +onlyGivenNames _)

theorem kept_arrive {q s a1 a2} (h : Kept q s) : Kept q (State.arrive s a1 a2) := by
  unfold State.arrive
  repeat' with_reducible (first
    | assumption | apply kept_modAx | exact kept_mk (by assumption)
    | (extract_lets +onlyGivenNames x; refine kept_cut (q := q) (x := x) ?_ (fun _ => ?_); unfold x; clear x; rotate_left; clear_value x)
    | (extract_lets +onlyGivenNames x; clear_value x) | extract_lets +onlyGivenNames _)

theorem kept_stopReached {q s a1} (h : Kept q s) : Kept q (State.stopReached s a1) := by
  unfold State.stopReached
  repeat' with_reducible (first
    | assumption | apply kept_modAx | apply kept_release | apply kept_setI | exact kept_mk (by assumption)
    | (extract_lets +onlyGivenNames x; refine kept_cut (q := q) (x := x) ?_ (fun _ => ?_); unfold x; clear x; rotate_left; clear_value x)
    | (extract_lets +onlyGivenNames x; clear_value x) | extract_lets +onlyGivenNames _)

theorem kept_stopTick {q s a1 a2} (h : Kept q s) : Kept q (State.stopTick s a1 a2) := by
  unfold State.stopTick
  repeat' with_reducible (first
    | assumption | apply kept_moveStep | apply kept_stopReached
    | (extract_lets +onlyGivenNames x; refine kept_cut (q := q) (x := x) ?_ (fun _ => ?_); unfold x; clear x; rotate_left; clear_value x)
    | (extract_lets +onlyGivenNames x; clear_value x) | extract_lets +onlyGivenNames _ | split)

theorem kept_turnTick {q s a1} (h : Kept q s) : Kept q (State.turnTick s a1) := by
  unfold State.turnTick
  repeat' with_reducible (first
    | assumption | apply kept_moveStep | apply kept_modAx | exact kept_mk (by assumption)
    | (extract_lets +onlyGivenNames x; refine kept_cut (q := q) (x := x) ?_ (fun _ => ?_); unfold x; clear x; rotate_left; clear_value x)
    | (extract_lets +onlyGivenNames x; clear_value x) | extract_lets +onlyGivenNames _ | split)

theorem kept_travelEnds {q s a1 a2} (h : Kept q s) : Kept q (State.travelEnds s a1 a2) := by
  unfold State.travelEnds
  repeat' with_reducible (first
    | assumption | apply kept_modAx | exact kept_mk (by assumption)
    | (extract_lets +onlyGivenNames x; refine kept_cut (q := q) (x := x) ?_ (fun _ => ?_); unfold x; clear x; rotate_left; clear_value x)
    | (extract_lets +onlyGivenNames x; clear_value x) | extract_lets +onlyGivenNames _)

theorem kept_goTick {q s a1 a2} (h : Kept q s) : Kept q (State.goTick s a1 a2) := by
  unfold State.goTick
  repeat' with_reducible (first
    | assumption | apply kept_modAx | apply kept_setB | apply kept_turnTick | apply kept_travelEnds | apply kept_moveStep
    | apply kept_arrive | exact kept_mk (by assumption)
    | (extract_lets +onlyGivenNames x; refine kept_cut (q := q) (x := x) ?_ (fun _ => ?_); unfold x; clear x; rotate_left; clear_value x)
    | (extract_lets +onlyGivenNames x; clear_value x) | extract_lets +onlyGivenNames _ | split)

theorem kept_trajTick {q s a1} (h : Kept q s) : Kept q (State.trajTick s a1) := by
  unfold State.trajTick
  repeat' with_reducible (first
    | assumption | apply kept_stopTick | apply kept_turnTick | apply kept_goTick | exact kept_mk (by assumption)
    | (extract_lets +onlyGivenNames x; refine kept_cut (q := q) (x := x) ?_ (fun _ => ?_); unfold x; clear x; rotate_left; clear_value x)
    | (extract_lets +onlyGivenNames x; clear_value x) | extract_lets +onlyGivenNames _ | split)

theorem kept_loopTick {q s a1 a2} (h : Kept q s) : Kept q (State.loopTick s a1 a2) := by
  unfold State.loopTick
  repeat' with_reducible (first
    | assumption | apply kept_setI | apply kept_modAx | apply kept_setB | exact kept_mk (by assumption)
    | refine kept_foldl ?_ (fun _ _ _ => ?_)
    | (extract_lets +onlyGivenNames x; refine kept_cut (q := q) (x := x) ?_ (fun _ => ?_); unfold x; clear x; rotate_left; clear_value x)
    | (extract_lets +onlyGivenNames x; clear_value x) | extract_lets +onlyGivenNames _ | split)

theorem kept_i2tOver {q s a1} (h : Kept q s) : Kept q (State.i2tOver s a1) := by
  unfold State.i2tOver
  repeat' with_reducible (first
    | assumption | apply kept_raise | apply kept_setB | apply kept_modAx | exact kept_mk (by assumption)
    | (extract_lets +onlyGivenNames x; refine kept_cut (q := q) (x := x) ?_ (fun _ => ?_); unfold x; clear x; rotate_left; clear_value x)
    | (extract_lets +onlyGivenNames x; clear_value x) | extract_lets +onlyGivenNames _)

theorem kept_i2tUnder {q s a1} (h : Kept q s) : Kept q (State.i2tUnder s a1) := by
  unfold State.i2tUnder
  repeat' with_reducible (first
    | assumption | apply kept_setB | apply kept_modAx | exact kept_mk (by assumption)
    | (extract_lets +onlyGivenNames x; refine kept_cut (q := q) (x := x) ?_ (fun _ => ?_); unfold x; clear x; rotate_left; clear_value x)
    | (extract_lets +onlyGivenNames x; clear_value x) | extract_lets +onlyGivenNames _)

theorem kept_i2tTick {q s a1} (h : Kept q s) : Kept q (State.i2tTick s a1) := by
  unfold State.i2tTick
  repeat' with_reducible (first
    | assumption | apply kept_modAx | apply kept_i2tOver | apply kept_i2tUnder | exact kept_mk (by assumption)
    | (extract_lets +onlyGivenNames x; refine kept_cut (q := q) (x := x) ?_ (fun _ => ?_); unfold x; clear x; rotate_left; clear_value x)
    | (extract_lets +onlyGivenNames x; clear_value x) | extract_lets +onlyGivenNames _ | split)

theorem kept_startMotion {q s a1 a2 a3 a4 a5} (h : Kept q s) : Kept q (State.startMotion s a1 a2 a3 a4 a5) := by
  unfold State.startMotion
  repeat' with_reducible (first
    | assumption | apply kept_modAx | apply kept_setB | apply kept_setI | apply kept_set | apply kept_modDw
    | exact kept_mk (by assumption)
    | (extract_lets +onlyGivenNames x; refine kept_cut (q := q) (x := x) ?_ (fun _ => ?_); unfold x; clear x; rotate_left; clear_value x)
    | (extract_lets +onlyGivenNames x; clear_value x) | extract_lets +onlyGivenNames _ | split)

theorem kept_planStop {q s a1 a2} (h : Kept q s) : Kept q (State.planStop s a1 a2) := by
  unfold State.planStop
  repeat' with_reducible (first
    | assumption | apply kept_modAx | exact kept_mk (by assumption)
    | (extract_lets +onlyGivenNames x; refine kept_cut (q := q) (x := x) ?_ (fun _ => ?_); unfold x; clear x; rotate_left; clear_value x)
    | (extract_lets +onlyGivenNames x; clear_value x) | extract_lets +onlyGivenNames _ | split)

theorem kept_stopProfile {q s a1} (h : Kept q s) : Kept q (State.stopProfile s a1) := by
  unfold State.stopProfile
  repeat' with_reducible (first
    | assumption | apply kept_planStop)

theorem kept_stopObstacle {q s a1} (h : Kept q s) : Kept q (State.stopObstacle s a1) := by
  unfold State.stopObstacle
  repeat' with_reducible (first
    | assumption | apply kept_planStop)

theorem kept_endMotion {q s a1 a2} (h : Kept q s) : Kept q (State.endMotion s a1 a2) := by
  unfold State.endMotion
  repeat' with_reducible (first
    | assumption | apply kept_modAx | apply kept_setB | apply kept_setI | apply kept_set | apply kept_release
    | exact kept_mk (by assumption)
    | (extract_lets +onlyGivenNames x; refine kept_cut (q := q) (x := x) ?_ (fun _ => ?_); unfold x; clear x; rotate_left; clear_value x)
    | (extract_lets +onlyGivenNames x; clear_value x) | extract_lets +onlyGivenNames _ | split)

theorem kept_motionEnd {q s a1} (h : Kept q s) : Kept q (State.motionEnd s a1) := by
  unfold State.motionEnd
  repeat' with_reducible (first
    | assumption | apply kept_raise | apply kept_setB | apply kept_endMotion | split)

theorem kept_inposFail {q s a1} (h : Kept q s) : Kept q (State.inposFail s a1) := by
  unfold State.inposFail
  repeat' with_reducible (first
    | assumption | apply kept_raise | apply kept_setB | apply kept_endMotion | exact kept_mk (by assumption)
    | (extract_lets +onlyGivenNames x; refine kept_cut (q := q) (x := x) ?_ (fun _ => ?_); unfold x; clear x; rotate_left; clear_value x)
    | (extract_lets +onlyGivenNames x; clear_value x) | extract_lets +onlyGivenNames _ | split)

theorem kept_followingError {q s a1} (h : Kept q s) : Kept q (State.followingError s a1) := by
  unfold State.followingError
  repeat' with_reducible (first
    | assumption | apply kept_axisFault | split)

theorem kept_homedAt {q s a1 a2} (h : Kept q s) : Kept q (State.homedAt s a1 a2) := by
  unfold State.homedAt
  repeat' with_reducible (first
    | assumption | apply kept_setB | apply kept_loadRef | apply kept_modFb | apply kept_set | apply kept_setI
    | exact kept_mk (by assumption)
    | (extract_lets +onlyGivenNames x; refine kept_cut (q := q) (x := x) ?_ (fun _ => ?_); unfold x; clear x; rotate_left; clear_value x)
    | (extract_lets +onlyGivenNames x; clear_value x) | extract_lets +onlyGivenNames _ | split)

theorem kept_stallMarks {q s a1} (h : Kept q s) : Kept q (State.stallMarks s a1) := by
  unfold State.stallMarks
  repeat' with_reducible (first
    | assumption | apply kept_setI | apply kept_raise | apply kept_setB | apply kept_modAx | exact kept_mk (by assumption)
    | (extract_lets +onlyGivenNames x; refine kept_cut (q := q) (x := x) ?_ (fun _ => ?_); unfold x; clear x; rotate_left; clear_value x)
    | (extract_lets +onlyGivenNames x; clear_value x) | extract_lets +onlyGivenNames _)

theorem kept_stall {q s a1} (h : Kept q s) : Kept q (State.stall s a1) := by
  unfold State.stall
  repeat' with_reducible (first
    | assumption | apply kept_stallMarks | apply kept_modAx | apply kept_homedAt | apply kept_endMotion
    | exact kept_mk (by assumption)
    | (extract_lets +onlyGivenNames x; refine kept_cut (q := q) (x := x) ?_ (fun _ => ?_); unfold x; clear x; rotate_left; clear_value x)
    | (extract_lets +onlyGivenNames x; clear_value x) | extract_lets +onlyGivenNames _ | split)

theorem kept_motionChecks {q s a1} (h : Kept q s) : Kept q (State.motionChecks s a1) := by
  unfold State.motionChecks
  repeat' with_reducible (first
    | assumption | apply kept_modAx | apply kept_stall | apply kept_followingError | apply kept_motionEnd | apply kept_inposFail
    | exact kept_mk (by assumption)
    | (extract_lets +onlyGivenNames x; refine kept_cut (q := q) (x := x) ?_ (fun _ => ?_); unfold x; clear x; rotate_left; clear_value x)
    | (extract_lets +onlyGivenNames x; clear_value x) | extract_lets +onlyGivenNames _ | split)

theorem kept_limitSpeed {q s a1} (h : Kept q s) : Kept q (State.limitSpeed s a1) := by
  unfold State.limitSpeed
  repeat' with_reducible (first
    | assumption | apply kept_setI
    | (extract_lets +onlyGivenNames x; refine kept_cut (q := q) (x := x) ?_ (fun _ => ?_); unfold x; clear x; rotate_left; clear_value x)
    | (extract_lets +onlyGivenNames x; clear_value x) | extract_lets +onlyGivenNames _ | split)

theorem kept_agePort {q s a1} (h : Kept q s) : Kept q (State.agePort s a1) := by
  unfold State.agePort
  repeat' with_reducible (first
    | assumption | apply kept_limitSpeed | apply kept_modFb | exact kept_mk (by assumption)
    | (extract_lets +onlyGivenNames x; refine kept_cut (q := q) (x := x) ?_ (fun _ => ?_); unfold x; clear x; rotate_left; clear_value x)
    | (extract_lets +onlyGivenNames x; clear_value x) | extract_lets +onlyGivenNames _)

theorem kept_agePorts {q s} (h : Kept q s) : Kept q (State.agePorts s) := by
  unfold State.agePorts
  repeat' with_reducible (first
    | assumption | apply kept_agePort | exact kept_mk (by assumption) | refine kept_foldl ?_ (fun _ _ _ => ?_)
    | (extract_lets +onlyGivenNames x; refine kept_cut (q := q) (x := x) ?_ (fun _ => ?_); unfold x; clear x; rotate_left; clear_value x)
    | (extract_lets +onlyGivenNames x; clear_value x) | extract_lets +onlyGivenNames _)

theorem kept_sampleAxis {q s a1} (h : Kept q s) : Kept q (State.sampleAxis s a1) := by
  unfold State.sampleAxis
  repeat' with_reducible (first
    | assumption | apply kept_setI | apply kept_setB | apply kept_modAx | exact kept_mk (by assumption)
    | (extract_lets +onlyGivenNames x; refine kept_cut (q := q) (x := x) ?_ (fun _ => ?_); unfold x; clear x; rotate_left; clear_value x)
    | (extract_lets +onlyGivenNames x; clear_value x) | extract_lets +onlyGivenNames _ | split)

theorem kept_axisTick {q s a1} (h : Kept q s) : Kept q (State.axisTick s a1) := by
  unfold State.axisTick
  repeat' with_reducible (first
    | assumption | apply kept_trajTick | apply kept_modAx | apply kept_motionChecks | apply kept_i2tTick | apply kept_loopTick
    | exact kept_mk (by assumption)
    | (extract_lets +onlyGivenNames x; refine kept_cut (q := q) (x := x) ?_ (fun _ => ?_); unfold x; clear x; rotate_left; clear_value x)
    | (extract_lets +onlyGivenNames x; clear_value x) | extract_lets +onlyGivenNames _ | split)

theorem kept_loopIdle {q s a1} (h : Kept q s) : Kept q (State.loopIdle s a1) := by
  unfold State.loopIdle
  repeat' with_reducible (first
    | assumption | apply kept_modAx | exact kept_mk (by assumption)
    | (extract_lets +onlyGivenNames x; refine kept_cut (q := q) (x := x) ?_ (fun _ => ?_); unfold x; clear x; rotate_left; clear_value x)
    | (extract_lets +onlyGivenNames x; clear_value x) | extract_lets +onlyGivenNames _)

theorem kept_focPeriod {q s a1 a2 a3 a4} (h : Kept q s) : Kept q (State.focPeriod s a1 a2 a3 a4) := by
  unfold State.focPeriod
  dsimp only
  exact kept_ite (kept_loopIdle (kept_setI (kept_setI h))) (kept_bumpFree (kept_modAx (kept_setI (kept_setI h))))

theorem kept_brushedPeriod {q s a1 a2 a3} (h : Kept q s) : Kept q (State.brushedPeriod s a1 a2 a3) := by
  unfold State.brushedPeriod
  dsimp only
  exact kept_ite (kept_loopIdle (kept_set (kept_setI h))) (kept_bumpFree (kept_modAx (kept_set (kept_setI h))))

theorem kept_shuntChecks {q s a1 a2 a3 a4} (h : Kept q s) : Kept q (State.shuntChecks s a1 a2 a3 a4) := by
  unfold State.shuntChecks
  repeat' with_reducible (first
    | assumption | apply kept_modAx | apply kept_axisFault | exact kept_mk (by assumption)
    | (extract_lets +onlyGivenNames x; refine kept_cut (q := q) (x := x) ?_ (fun _ => ?_); unfold x; clear x; rotate_left; clear_value x)
    | (extract_lets +onlyGivenNames x; clear_value x) | extract_lets +onlyGivenNames _ | split)

theorem kept_vgdFell {q s a1 a2} (h : Kept q s) : Kept q (State.vgdFell s a1 a2) := by
  unfold State.vgdFell
  repeat' with_reducible (first
    | assumption | apply kept_axisFault | exact kept_mk (by assumption) | refine kept_foldl ?_ (fun _ _ _ => ?_)
    | (extract_lets +onlyGivenNames x; refine kept_cut (q := q) (x := x) ?_ (fun _ => ?_); unfold x; clear x; rotate_left; clear_value x)
    | (extract_lets +onlyGivenNames x; clear_value x) | extract_lets +onlyGivenNames _)

theorem kept_vgdBack {q s} (h : Kept q s) : Kept q (State.vgdBack s) := by
  unfold State.vgdBack
  repeat' with_reducible (first
    | assumption | apply kept_axisInactive | exact kept_mk (by assumption) | refine kept_foldl ?_ (fun _ _ _ => ?_)
    | (extract_lets +onlyGivenNames x; refine kept_cut (q := q) (x := x) ?_ (fun _ => ?_); unfold x; clear x; rotate_left; clear_value x)
    | (extract_lets +onlyGivenNames x; clear_value x) | extract_lets +onlyGivenNames _)

theorem kept_offsetMeasured {q s a1 a2 a3} (h : Kept q s) : Kept q (State.offsetMeasured s a1 a2 a3) := by
  unfold State.offsetMeasured
  repeat' with_reducible (first
    | assumption | apply kept_axisInactive | apply kept_modAx | apply kept_axisFault | apply kept_axisReady
    | exact kept_mk (by assumption)
    | (extract_lets +onlyGivenNames x; refine kept_cut (q := q) (x := x) ?_ (fun _ => ?_); unfold x; clear x; rotate_left; clear_value x)
    | (extract_lets +onlyGivenNames x; clear_value x) | extract_lets +onlyGivenNames _ | split)

theorem kept_takeBridge {q s a1 a2} (h : Kept q s) : Kept q (State.takeBridge s a1 a2) := by
  unfold State.takeBridge
  repeat' with_reducible (first
    | assumption | apply kept_modAx | apply kept_axisReady | apply kept_setB | exact kept_mk (by assumption)
    | (extract_lets +onlyGivenNames x; refine kept_cut (q := q) (x := x) ?_ (fun _ => ?_); unfold x; clear x; rotate_left; clear_value x)
    | (extract_lets +onlyGivenNames x; clear_value x) | extract_lets +onlyGivenNames _ | split)

theorem kept_comma {q s a1} (h : Kept q s) : Kept q (State.comma s a1) := by
  unfold State.comma
  repeat' with_reducible (first
    | assumption | apply kept_emit | split)

theorem kept_execCurrentLoopCycle {q a1 a2 a3 a4 s} (h : Kept q s) : Answers q (execCurrentLoopCycle a1 a2 a3 a4 s) := by
  unfold execCurrentLoopCycle
  repeat' with_reducible (first
    | assumption | intro _ | apply answers_next | apply kept_whenRunning | apply kept_comma | apply kept_shuntChecks
    | apply kept_brushedPeriod | apply kept_focPeriod | exact kept_mk (by assumption)
    | (extract_lets +onlyGivenNames x; refine kept_cut (q := q) (x := x) ?_ (fun _ => ?_); unfold x; clear x; rotate_left; clear_value x)
    | (extract_lets +onlyGivenNames x; clear_value x) | extract_lets +onlyGivenNames _ | split)

theorem kept_execProfHoldClear {q a1 s} (h : Kept q s) : Answers q (execProfHoldClear a1 s) := by
  unfold execProfHoldClear
  repeat' with_reducible (first
    | assumption | intro _ | apply answers_next | apply kept_whenRunning | apply kept_modAx | apply kept_set
    | exact kept_mk (by assumption)
    | (extract_lets +onlyGivenNames x; refine kept_cut (q := q) (x := x) ?_ (fun _ => ?_); unfold x; clear x; rotate_left; clear_value x)
    | (extract_lets +onlyGivenNames x; clear_value x) | extract_lets +onlyGivenNames _)

theorem kept_execFollowingError {q a1 s} (h : Kept q s) : Answers q (execFollowingError a1 s) := by
  unfold execFollowingError
  repeat' with_reducible (first
    | assumption | intro _ | apply answers_next | apply kept_whenEngine | apply kept_followingError)

theorem kept_execI2t {q a1 s} (h : Kept q s) : Answers q (execI2t a1 s) := by
  unfold execI2t
  repeat' with_reducible (first
    | assumption | intro _ | apply answers_next | apply kept_whenRunning | apply kept_i2tOver)

theorem kept_execI2tRelease {q a1 s} (h : Kept q s) : Answers q (execI2tRelease a1 s) := by
  unfold execI2tRelease
  repeat' with_reducible (first
    | assumption | intro _ | apply answers_next | apply kept_whenRunning | apply kept_i2tUnder)

theorem kept_execBootstrapUndervoltage {q a1 a2 s} (h : Kept q s) : Answers q (execBootstrapUndervoltage a1 a2 s) := by
  unfold execBootstrapUndervoltage
  repeat' with_reducible (first
    | assumption | intro _ | apply answers_next | apply kept_whenRunning | apply kept_axisFault)

theorem kept_execVgdUndervoltage {q a1 a2 s} (h : Kept q s) : Answers q (execVgdUndervoltage a1 a2 s) := by
  unfold execVgdUndervoltage
  repeat' with_reducible (first
    | assumption | intro _ | apply answers_next | apply kept_whenRunning | apply kept_vgdFell | split)

theorem kept_execDesaturation {q a1 a2 a3 s} (h : Kept q s) : Answers q (execDesaturation a1 a2 a3 s) := by
  unfold execDesaturation
  repeat' with_reducible (first
    | assumption | intro _ | apply answers_next | apply kept_whenRunning | apply kept_axisFault | apply kept_inc | split)

theorem kept_execShuntOvercurrent {q a1 a2 s} (h : Kept q s) : Answers q (execShuntOvercurrent a1 a2 s) := by
  unfold execShuntOvercurrent
  repeat' with_reducible (first
    | assumption | intro _ | apply answers_next | apply kept_whenRunning | apply kept_axisFault | apply kept_inc)

theorem kept_execShuntOffsetFault {q a1 a2 s} (h : Kept q s) : Answers q (execShuntOffsetFault a1 a2 s) := by
  unfold execShuntOffsetFault
  repeat' with_reducible (first
    | assumption | intro _ | apply answers_next | apply kept_whenRunning | apply kept_axisFault)

theorem kept_execPhaseSumFault {q a1 s} (h : Kept q s) : Answers q (execPhaseSumFault a1 s) := by
  unfold execPhaseSumFault
  repeat' with_reducible (first
    | assumption | intro _ | apply answers_next | apply kept_whenRunning | apply kept_axisFault | split)

theorem kept_execOpenPhase {q a1 s} (h : Kept q s) : Answers q (execOpenPhase a1 s) := by
  unfold execOpenPhase
  repeat' with_reducible (first
    | assumption | intro _ | apply answers_next | apply kept_whenRunning | apply kept_axisFault)

theorem kept_execGateReadbackMismatch {q a1 a2 a3 s} (h : Kept q s) : Answers q (execGateReadbackMismatch a1 a2 a3 s) := by
  unfold execGateReadbackMismatch
  repeat' with_reducible (first
    | assumption | intro _ | apply answers_next | apply kept_whenRunning | apply kept_axisFault | split)

theorem kept_execAxisClr {q a1 s} (h : Kept q s) : Answers q (execAxisClr a1 s) := by
  unfold execAxisClr
  repeat' with_reducible (first
    | assumption | intro _ | apply answers_next | apply kept_whenRunning | apply kept_clearAxis)

theorem kept_execAxisOffsetMeasured {q a1 a2 a3 s} (h : Kept q s) : Answers q (execAxisOffsetMeasured a1 a2 a3 s) := by
  unfold execAxisOffsetMeasured
  repeat' with_reducible (first
    | assumption | intro _ | apply answers_next | apply kept_whenRunning | apply kept_offsetMeasured
    | exact kept_mk (by assumption)
    | (extract_lets +onlyGivenNames x; refine kept_cut (q := q) (x := x) ?_ (fun _ => ?_); unfold x; clear x; rotate_left; clear_value x)
    | (extract_lets +onlyGivenNames x; clear_value x) | extract_lets +onlyGivenNames _)

theorem kept_execPrechargeEnd {q a1 a2 s} (h : Kept q s) : Answers q (execPrechargeEnd a1 a2 s) := by
  unfold execPrechargeEnd
  repeat' with_reducible (first
    | assumption | intro _ | apply answers_next | apply kept_whenRunning | apply kept_axisReady | apply kept_axisFault | split)

theorem kept_execGateTakeover {q a1 a2 s} (h : Kept q s) : Answers q (execGateTakeover a1 a2 s) := by
  unfold execGateTakeover
  repeat' with_reducible (first
    | assumption | intro _ | apply answers_next | apply kept_whenRunning | apply kept_takeBridge | split)

end Sys2Proof.Machine
end

