-- ==== Sys2Proof/Laws/KeptFeedback.lean ====
section
/-! SUPPORT. One lemma per operation of Machine/Feedback.lean that answers a state: it leaves the queue alone and keeps the register
window canonical; per meaning: it completes, and so does its state. -/

namespace Sys2Proof.Machine

theorem kept_setUncert {q s a1} (h : Kept q s) : Kept q (State.setUncert s a1) := by
  unfold State.setUncert
  repeat' with_reducible (first
    | assumption | apply kept_setB | refine kept_foldl ?_ (fun _ _ _ => ?_) | split)

theorem kept_followPort {q s a1 a2} (h : Kept q s) : Kept q (State.followPort s a1 a2) := by
  unfold State.followPort
  repeat' with_reducible (first
    | assumption | apply kept_setB | split)

theorem kept_showActive {q s a1 a2} (h : Kept q s) : Kept q (State.showActive s a1 a2) := by
  unfold State.showActive
  repeat' with_reducible (first
    | assumption | apply kept_followPort | apply kept_setB | refine kept_foldl ?_ (fun _ _ _ => ?_))

theorem kept_portAgain {q s a1 a2} (h : Kept q s) : Kept q (State.portAgain s a1 a2) := by
  unfold State.portAgain
  repeat' with_reducible (first
    | assumption | apply kept_showActive | split)

theorem kept_portFault {q s a1 a2} (h : Kept q s) : Kept q (State.portFault s a1 a2) := by
  unfold State.portFault
  repeat' with_reducible (first
    | assumption | apply kept_set | apply kept_raise | apply kept_logFault | apply kept_followPort | apply kept_axisFault
    | refine kept_foldl ?_ (fun _ _ _ => ?_)
    | (extract_lets +onlyGivenNames x; refine kept_cut (q := q) (x := x) ?_ (fun _ => ?_); unfold x; clear x; rotate_left; clear_value x)
    | (extract_lets +onlyGivenNames x; clear_value x) | extract_lets +onlyGivenNames _)

theorem kept_portInactive {q s a1} (h : Kept q s) : Kept q (State.portInactive s a1) := by
  unfold State.portInactive
  repeat' with_reducible (first
    | assumption | apply kept_showActive | exact kept_mk (by assumption)
    | (extract_lets +onlyGivenNames x; refine kept_cut (q := q) (x := x) ?_ (fun _ => ?_); unfold x; clear x; rotate_left; clear_value x)
    | (extract_lets +onlyGivenNames x; clear_value x) | extract_lets +onlyGivenNames _ | split)

theorem kept_checkPairs {q s a1} (h : Kept q s) : Kept q (State.checkPairs s a1) := by
  unfold State.checkPairs
  repeat' with_reducible (first
    | assumption | apply kept_portFault | refine kept_foldl ?_ (fun _ _ _ => ?_) | split)

theorem kept_clearPort {q s a1} (h : Kept q s) : Kept q (State.clearPort s a1) := by
  unfold State.clearPort
  repeat' with_reducible (first
    | assumption | apply kept_set | apply kept_modAx | apply kept_setUncert | apply kept_checkPairs
    | exact kept_mk (by assumption) | refine kept_foldl ?_ (fun _ _ _ => ?_)
    | (extract_lets +onlyGivenNames x; refine kept_cut (q := q) (x := x) ?_ (fun _ => ?_); unfold x; clear x; rotate_left; clear_value x)
    | (extract_lets +onlyGivenNames x; clear_value x) | extract_lets +onlyGivenNames _ | split)

theorem kept_encDrive {q s a1} (h : Kept q s) : Kept q (State.encDrive s a1) := by
  unfold State.encDrive
  repeat' with_reducible (first
    | assumption | apply kept_emit
    | (extract_lets +onlyGivenNames x; refine kept_cut (q := q) (x := x) ?_ (fun _ => ?_); unfold x; clear x; rotate_left; clear_value x)
    | (extract_lets +onlyGivenNames x; clear_value x) | extract_lets +onlyGivenNames _ | split)

theorem kept_encLow {q s a1} (h : Kept q s) : Kept q (State.encLow s a1) := by
  unfold State.encLow
  repeat' with_reducible (first
    | assumption | apply kept_set | apply kept_encDrive | apply kept_modEnc
    | (extract_lets +onlyGivenNames x; refine kept_cut (q := q) (x := x) ?_ (fun _ => ?_); unfold x; clear x; rotate_left; clear_value x)
    | (extract_lets +onlyGivenNames x; clear_value x) | extract_lets +onlyGivenNames _)

theorem kept_encFollows {q s a1} (h : Kept q s) : Kept q (State.encFollows s a1) := by
  unfold State.encFollows
  repeat' with_reducible (first
    | assumption | apply kept_set | apply kept_modEnc | apply kept_encDrive | exact kept_mk (by assumption)
    | (extract_lets +onlyGivenNames x; refine kept_cut (q := q) (x := x) ?_ (fun _ => ?_); unfold x; clear x; rotate_left; clear_value x)
    | (extract_lets +onlyGivenNames x; clear_value x) | extract_lets +onlyGivenNames _ | split)

theorem kept_encsFollow {q s} (h : Kept q s) : Kept q (State.encsFollow s) := by
  unfold State.encsFollow
  repeat' with_reducible (first
    | assumption | apply kept_encFollows | refine kept_foldl ?_ (fun _ _ _ => ?_))

theorem kept_encSource {q s a1 a2} (h : Kept q s) : Kept q (State.encSource s a1 a2) := by
  unfold State.encSource
  repeat' with_reducible (first
    | assumption | apply kept_setI | apply kept_modEnc | apply kept_set | apply kept_add | apply kept_raise | apply kept_setB
    | exact kept_mk (by assumption)
    | (extract_lets +onlyGivenNames x; refine kept_cut (q := q) (x := x) ?_ (fun _ => ?_); unfold x; clear x; rotate_left; clear_value x)
    | (extract_lets +onlyGivenNames x; clear_value x) | extract_lets +onlyGivenNames _ | split)

theorem kept_encFollow {q s a1 a2} (h : Kept q s) : Kept q (State.encFollow s a1 a2) := by
  unfold State.encFollow
  repeat' with_reducible (first
    | assumption | apply kept_encSource | refine kept_foldl ?_ (fun _ _ _ => ?_) | split)

theorem kept_bumpCount {q s a1 a2} (h : Kept q s) : Kept q (State.bumpCount s a1 a2) := by
  unfold State.bumpCount
  repeat' with_reducible (first
    | assumption | apply kept_encFollow | apply kept_setI | exact kept_mk (by assumption)
    | (extract_lets +onlyGivenNames x; refine kept_cut (q := q) (x := x) ?_ (fun _ => ?_); unfold x; clear x; rotate_left; clear_value x)
    | (extract_lets +onlyGivenNames x; clear_value x) | extract_lets +onlyGivenNames _)

theorem kept_observerAt {q s a1 a2 a3} (h : Kept q s) : Kept q (State.observerAt s a1 a2 a3) := by
  unfold State.observerAt
  repeat' with_reducible (first
    | assumption | apply kept_modFb | apply kept_setB | apply kept_setI | exact kept_mk (by assumption)
    | (extract_lets +onlyGivenNames x; refine kept_cut (q := q) (x := x) ?_ (fun _ => ?_); unfold x; clear x; rotate_left; clear_value x)
    | (extract_lets +onlyGivenNames x; clear_value x) | extract_lets +onlyGivenNames _)

theorem kept_observerTrack {q s a1 a2 a3} (h : Kept q s) : Kept q (State.observerTrack s a1 a2 a3) := by
  unfold State.observerTrack
  repeat' with_reducible (first
    | assumption | apply kept_modFb | apply kept_setI | exact kept_mk (by assumption)
    | (extract_lets +onlyGivenNames x; refine kept_cut (q := q) (x := x) ?_ (fun _ => ?_); unfold x; clear x; rotate_left; clear_value x)
    | (extract_lets +onlyGivenNames x; clear_value x) | extract_lets +onlyGivenNames _)

theorem kept_observerEdge {q s a1 a2 a3 a4 a5} (h : Kept q s) : Kept q (State.observerEdge s a1 a2 a3 a4 a5) := by
  unfold State.observerEdge
  repeat' with_reducible (first
    | assumption | apply kept_set | apply kept_setB | apply kept_modFb | apply kept_observerAt | apply kept_observerTrack
    | exact kept_mk (by assumption)
    | (extract_lets +onlyGivenNames x; refine kept_cut (q := q) (x := x) ?_ (fun _ => ?_); unfold x; clear x; rotate_left; clear_value x)
    | (extract_lets +onlyGivenNames x; clear_value x) | extract_lets +onlyGivenNames _ | split)

theorem kept_illegalEdge {q s a1} (h : Kept q s) : Kept q (State.illegalEdge s a1) := by
  unfold State.illegalEdge
  repeat' with_reducible (first
    | assumption | apply kept_setUncert | apply kept_inc | apply kept_raise | apply kept_modFb | apply kept_portFault
    | exact kept_mk (by assumption)
    | (extract_lets +onlyGivenNames x; refine kept_cut (q := q) (x := x) ?_ (fun _ => ?_); unfold x; clear x; rotate_left; clear_value x)
    | (extract_lets +onlyGivenNames x; clear_value x) | extract_lets +onlyGivenNames _ | split)

theorem kept_indexAngle {q s a1} (h : Kept q s) : Kept q (State.indexAngle s a1) := by
  unfold State.indexAngle
  repeat' with_reducible (first
    | assumption | apply kept_setB | apply kept_set | apply kept_modAx | exact kept_mk (by assumption)
    | (extract_lets +onlyGivenNames x; refine kept_cut (q := q) (x := x) ?_ (fun _ => ?_); unfold x; clear x; rotate_left; clear_value x)
    | (extract_lets +onlyGivenNames x; clear_value x) | extract_lets +onlyGivenNames _ | split)

theorem kept_indexLatch {q s a1 a2} (h : Kept q s) : Kept q (State.indexLatch s a1 a2) := by
  unfold State.indexLatch
  repeat' with_reducible (first
    | assumption | apply kept_raise | apply kept_inc | apply kept_setI | apply kept_modFb | apply kept_modEnc
    | apply kept_indexAngle | apply kept_setB | apply kept_setUncert | exact kept_mk (by assumption)
    | refine kept_foldl ?_ (fun _ _ _ => ?_)
    | (extract_lets +onlyGivenNames x; refine kept_cut (q := q) (x := x) ?_ (fun _ => ?_); unfold x; clear x; rotate_left; clear_value x)
    | (extract_lets +onlyGivenNames x; clear_value x) | extract_lets +onlyGivenNames _ | split)

theorem kept_indexChecks {q s a1} (h : Kept q s) : Kept q (State.indexChecks s a1) := by
  unfold State.indexChecks
  repeat' with_reducible (first
    | assumption | apply kept_raise | apply kept_modFb | apply kept_portFault | exact kept_mk (by assumption)
    | (extract_lets +onlyGivenNames x; refine kept_cut (q := q) (x := x) ?_ (fun _ => ?_); unfold x; clear x; rotate_left; clear_value x)
    | (extract_lets +onlyGivenNames x; clear_value x) | extract_lets +onlyGivenNames _ | split)

theorem kept_indexLevel {q s a1 a2 a3} (h : Kept q s) : Kept q (State.indexLevel s a1 a2 a3) := by
  unfold State.indexLevel
  repeat' with_reducible (first
    | assumption | apply kept_modFb | apply kept_indexLatch | apply kept_portAgain | apply kept_portInactive
    | exact kept_mk (by assumption)
    | (extract_lets +onlyGivenNames x; refine kept_cut (q := q) (x := x) ?_ (fun _ => ?_); unfold x; clear x; rotate_left; clear_value x)
    | (extract_lets +onlyGivenNames x; clear_value x) | extract_lets +onlyGivenNames _ | split)

theorem kept_quadSample {q s a1 a2 a3 a4 a5} (h : Kept q s) : Kept q (State.quadSample s a1 a2 a3 a4 a5) := by
  unfold State.quadSample
  repeat' with_reducible (first
    | assumption | apply kept_modFb | apply kept_observerEdge | apply kept_bumpCount | apply kept_indexLevel
    | apply kept_indexChecks | apply kept_illegalEdge | exact kept_mk (by assumption)
    | (extract_lets +onlyGivenNames x; refine kept_cut (q := q) (x := x) ?_ (fun _ => ?_); unfold x; clear x; rotate_left; clear_value x)
    | (extract_lets +onlyGivenNames x; clear_value x) | extract_lets +onlyGivenNames _ | split)

theorem kept_noEdge {q s a1 a2} (h : Kept q s) : Kept q (State.noEdge s a1 a2) := by
  unfold State.noEdge
  repeat' with_reducible (first
    | assumption | apply kept_modFb | exact kept_mk (by assumption)
    | (extract_lets +onlyGivenNames x; refine kept_cut (q := q) (x := x) ?_ (fun _ => ?_); unfold x; clear x; rotate_left; clear_value x)
    | (extract_lets +onlyGivenNames x; clear_value x) | extract_lets +onlyGivenNames _)

theorem kept_hallSample {q s a1 a2 a3} (h : Kept q s) : Kept q (State.hallSample s a1 a2 a3) := by
  unfold State.hallSample
  repeat' with_reducible (first
    | assumption | apply kept_modFb | apply kept_set | apply kept_noEdge | apply kept_portAgain | apply kept_portInactive
    | apply kept_observerEdge | apply kept_bumpCount | apply kept_illegalEdge | exact kept_mk (by assumption)
    | (extract_lets +onlyGivenNames x; refine kept_cut (q := q) (x := x) ?_ (fun _ => ?_); unfold x; clear x; rotate_left; clear_value x)
    | (extract_lets +onlyGivenNames x; clear_value x) | extract_lets +onlyGivenNames _ | split)

theorem kept_ssiObserve {q s a1 a2 a3 a4} (h : Kept q s) : Kept q (State.ssiObserve s a1 a2 a3 a4) := by
  unfold State.ssiObserve
  repeat' with_reducible (first
    | assumption | apply kept_modFb | apply kept_observerEdge | apply kept_bumpCount | apply kept_observerTrack
    | exact kept_mk (by assumption)
    | (extract_lets +onlyGivenNames x; refine kept_cut (q := q) (x := x) ?_ (fun _ => ?_); unfold x; clear x; rotate_left; clear_value x)
    | (extract_lets +onlyGivenNames x; clear_value x) | extract_lets +onlyGivenNames _ | split)

theorem kept_ssiFrame {q s a1 a2 a3} (h : Kept q s) : Kept q (State.ssiFrame s a1 a2 a3) := by
  unfold State.ssiFrame
  repeat' with_reducible (first
    | assumption | apply kept_set | apply kept_modFb | apply kept_portInactive | apply kept_ssiObserve | apply kept_raise
    | apply kept_inc | apply kept_portFault | apply kept_portAgain | exact kept_mk (by assumption)
    | (extract_lets +onlyGivenNames x; refine kept_cut (q := q) (x := x) ?_ (fun _ => ?_); unfold x; clear x; rotate_left; clear_value x)
    | (extract_lets +onlyGivenNames x; clear_value x) | extract_lets +onlyGivenNames _ | split)

theorem kept_setPairFlag {q s a1 a2 a3} (h : Kept q s) : Kept q (State.setPairFlag s a1 a2 a3) := by
  unfold State.setPairFlag
  repeat' with_reducible (first
    | assumption | apply kept_raiseIf | apply kept_setB | split)

theorem kept_directionCheck {q s a1} (h : Kept q s) : Kept q (State.directionCheck s a1) := by
  unfold State.directionCheck
  repeat' with_reducible (first
    | assumption | apply kept_modAx | apply kept_portFault | exact kept_mk (by assumption)
    | (extract_lets +onlyGivenNames x; refine kept_cut (q := q) (x := x) ?_ (fun _ => ?_); unfold x; clear x; rotate_left; clear_value x)
    | (extract_lets +onlyGivenNames x; clear_value x) | extract_lets +onlyGivenNames _ | split)

theorem kept_afterAlign {q s a1} (h : Kept q s) : Kept q (State.afterAlign s a1) := by
  unfold State.afterAlign
  repeat' with_reducible (first
    | assumption | apply kept_startMotion | apply kept_setI | apply kept_set | apply kept_haltAxis | exact kept_mk (by assumption)
    | (extract_lets +onlyGivenNames x; refine kept_cut (q := q) (x := x) ?_ (fun _ => ?_); unfold x; clear x; rotate_left; clear_value x)
    | (extract_lets +onlyGivenNames x; clear_value x) | extract_lets +onlyGivenNames _ | split)

theorem kept_angleFound {q s a1} (h : Kept q s) : Kept q (State.angleFound s a1) := by
  unfold State.angleFound
  repeat' with_reducible (first
    | assumption | apply kept_setB | apply kept_bumpFree | apply kept_modAx | apply kept_set | exact kept_mk (by assumption)
    | (extract_lets +onlyGivenNames x; refine kept_cut (q := q) (x := x) ?_ (fun _ => ?_); unfold x; clear x; rotate_left; clear_value x)
    | (extract_lets +onlyGivenNames x; clear_value x) | extract_lets +onlyGivenNames _ | split)

theorem kept_showAngle {q s a1} (h : Kept q s) : Kept q (State.showAngle s a1) := by
  unfold State.showAngle
  repeat' with_reducible (first
    | assumption | apply kept_setB | split)

theorem kept_execQuadEdge {q a1 a2 a3 a4 a5 s} (h : Kept q s) : Answers q (execQuadEdge a1 a2 a3 a4 a5 s) := by
  unfold execQuadEdge
  repeat' with_reducible (first
    | assumption | intro _ | apply answers_next | apply kept_whenRunning | apply kept_quadSample | exact kept_mk (by assumption)
    | (extract_lets +onlyGivenNames x; refine kept_cut (q := q) (x := x) ?_ (fun _ => ?_); unfold x; clear x; rotate_left; clear_value x)
    | (extract_lets +onlyGivenNames x; clear_value x) | extract_lets +onlyGivenNames _)

theorem kept_execHallSectorChange {q a1 a2 a3 s} (h : Kept q s) : Answers q (execHallSectorChange a1 a2 a3 s) := by
  unfold execHallSectorChange
  repeat' with_reducible (first
    | assumption | intro _ | apply answers_next | apply kept_whenRunning | apply kept_hallSample)

theorem kept_execHallInvalidTimeout {q a1 s} (h : Kept q s) : Answers q (execHallInvalidTimeout a1 s) := by
  unfold execHallInvalidTimeout
  repeat' with_reducible (first
    | assumption | intro _ | apply answers_next | apply kept_whenRunning | apply kept_portFault | split)

theorem kept_execSsiFrameStart {q a1 s} (h : Kept q s) : Answers q (execSsiFrameStart a1 s) := by
  unfold execSsiFrameStart
  repeat' with_reducible (first
    | assumption | intro _ | apply answers_next | apply kept_whenRunning | apply kept_modFb | apply kept_setB | apply kept_emit
    | exact kept_mk (by assumption)
    | (extract_lets +onlyGivenNames x; refine kept_cut (q := q) (x := x) ?_ (fun _ => ?_); unfold x; clear x; rotate_left; clear_value x)
    | (extract_lets +onlyGivenNames x; clear_value x) | extract_lets +onlyGivenNames _ | split)

theorem kept_execSsiFrameReceived {q a1 a2 a3 s} (h : Kept q s) : Answers q (execSsiFrameReceived a1 a2 a3 s) := by
  unfold execSsiFrameReceived
  repeat' with_reducible (first
    | assumption | intro _ | apply answers_next | apply kept_whenRunning | apply kept_ssiFrame)

theorem kept_execSsiClockTakeover {q a1 s} (h : Kept q s) : Answers q (execSsiClockTakeover a1 s) := by
  unfold execSsiClockTakeover
  repeat' with_reducible (first
    | assumption | intro _ | apply answers_next | apply kept_whenRunning | apply kept_modFb | apply kept_setB
    | exact kept_mk (by assumption)
    | (extract_lets +onlyGivenNames x; refine kept_cut (q := q) (x := x) ?_ (fun _ => ?_); unfold x; clear x; rotate_left; clear_value x)
    | (extract_lets +onlyGivenNames x; clear_value x) | extract_lets +onlyGivenNames _ | split)

theorem kept_execIndex {q a1 s} (h : Kept q s) : Answers q (execIndex a1 s) := by
  unfold execIndex
  repeat' with_reducible (first
    | assumption | intro _ | apply answers_next | apply kept_whenRunning | apply kept_indexLevel | exact kept_mk (by assumption)
    | (extract_lets +onlyGivenNames x; refine kept_cut (q := q) (x := x) ?_ (fun _ => ?_); unfold x; clear x; rotate_left; clear_value x)
    | (extract_lets +onlyGivenNames x; clear_value x) | extract_lets +onlyGivenNames _)

theorem kept_execIndexStuck {q a1 s} (h : Kept q s) : Answers q (execIndexStuck a1 s) := by
  unfold execIndexStuck
  repeat' with_reducible (first
    | assumption | intro _ | apply answers_next | apply kept_whenRunning | apply kept_portFault | apply kept_modFb
    | exact kept_mk (by assumption)
    | (extract_lets +onlyGivenNames x; refine kept_cut (q := q) (x := x) ?_ (fun _ => ?_); unfold x; clear x; rotate_left; clear_value x)
    | (extract_lets +onlyGivenNames x; clear_value x) | extract_lets +onlyGivenNames _ | split)

theorem kept_execIdxMiss {q a1 s} (h : Kept q s) : Answers q (execIdxMiss a1 s) := by
  unfold execIdxMiss
  repeat' with_reducible (first
    | assumption | intro _ | apply answers_next | apply kept_whenRunning | apply kept_raise | split)

theorem kept_execIdxRearm {q a1 s} (h : Kept q s) : Answers q (execIdxRearm a1 s) := by
  unfold execIdxRearm
  repeat' with_reducible (first
    | assumption | intro _ | apply answers_next | apply kept_whenRunning | apply kept_setB)

theorem kept_execStillTimeout {q a1 s} (h : Kept q s) : Answers q (execStillTimeout a1 s) := by
  unfold execStillTimeout
  repeat' with_reducible (first
    | assumption | intro _ | apply answers_next | apply kept_whenRunning | apply kept_modFb | apply kept_setB | apply kept_set
    | exact kept_mk (by assumption)
    | (extract_lets +onlyGivenNames x; refine kept_cut (q := q) (x := x) ?_ (fun _ => ?_); unfold x; clear x; rotate_left; clear_value x)
    | (extract_lets +onlyGivenNames x; clear_value x) | extract_lets +onlyGivenNames _)

theorem kept_execWireBreak {q a1 a2 s} (h : Kept q s) : Answers q (execWireBreak a1 a2 s) := by
  unfold execWireBreak
  repeat' with_reducible (first
    | assumption | intro _ | apply answers_next | apply kept_whenRunning | apply kept_portAgain | apply kept_setPairFlag
    | apply kept_portFault
    | (extract_lets +onlyGivenNames x; refine kept_cut (q := q) (x := x) ?_ (fun _ => ?_); unfold x; clear x; rotate_left; clear_value x)
    | (extract_lets +onlyGivenNames x; clear_value x) | extract_lets +onlyGivenNames _ | split)

theorem kept_execWireBreakCleared {q a1 a2 s} (h : Kept q s) : Answers q (execWireBreakCleared a1 a2 s) := by
  unfold execWireBreakCleared
  repeat' with_reducible (first
    | assumption | intro _ | apply answers_next | apply kept_whenRunning | apply kept_setPairFlag | apply kept_portInactive
    | (extract_lets +onlyGivenNames x; refine kept_cut (q := q) (x := x) ?_ (fun _ => ?_); unfold x; clear x; rotate_left; clear_value x)
    | (extract_lets +onlyGivenNames x; clear_value x) | extract_lets +onlyGivenNames _ | split)

theorem kept_execDirectionMismatch {q a1 s} (h : Kept q s) : Answers q (execDirectionMismatch a1 s) := by
  unfold execDirectionMismatch
  repeat' with_reducible (first
    | assumption | intro _ | apply answers_next | apply kept_whenRunning | apply kept_portFault | split)

theorem kept_execAlignmentDone {q a1 a2 a3 a4 a5 s} (h : Kept q s) : Answers q (execAlignmentDone a1 a2 a3 a4 a5 s) := by
  unfold execAlignmentDone
  repeat' with_reducible (first
    | assumption | intro _ | apply answers_next | apply kept_whenRunning | apply kept_axisFault | apply kept_portFault
    | apply kept_afterAlign | apply kept_angleFound | exact kept_mk (by assumption)
    | (extract_lets +onlyGivenNames x; refine kept_cut (q := q) (x := x) ?_ (fun _ => ?_); unfold x; clear x; rotate_left; clear_value x)
    | (extract_lets +onlyGivenNames x; clear_value x) | extract_lets +onlyGivenNames _ | split)

theorem kept_execFbClr {q a1 s} (h : Kept q s) : Answers q (execFbClr a1 s) := by
  unfold execFbClr
  repeat' with_reducible (first
    | assumption | intro _ | apply answers_next | apply kept_whenRunning | apply kept_clearPort)

theorem kept_execEncoOutputEdge {q a1 s} (h : Kept q s) : Answers q (execEncoOutputEdge a1 s) := by
  unfold execEncoOutputEdge
  repeat' with_reducible (first
    | assumption | intro _ | apply answers_next | apply kept_whenRunning | apply kept_modEnc | apply kept_emit | apply kept_set
    | exact kept_mk (by assumption)
    | (extract_lets +onlyGivenNames x; refine kept_cut (q := q) (x := x) ?_ (fun _ => ?_); unfold x; clear x; rotate_left; clear_value x)
    | (extract_lets +onlyGivenNames x; clear_value x) | extract_lets +onlyGivenNames _ | split)

theorem kept_zFalls {q s a1} (h : Kept q s) : Kept q (State.zFalls s a1) := by
  unfold State.zFalls
  repeat' with_reducible (first
    | assumption | apply kept_modEnc | exact kept_mk (by assumption)
    | (extract_lets +onlyGivenNames x; refine kept_cut (q := q) (x := x) ?_ (fun _ => ?_); unfold x; clear x; rotate_left; clear_value x)
    | (extract_lets +onlyGivenNames x; clear_value x) | extract_lets +onlyGivenNames _)

theorem kept_zTick {q s} (h : Kept q s) : Kept q (State.zTick s) := by
  unfold State.zTick
  repeat' with_reducible (first
    | assumption | apply kept_zFalls | refine kept_foldl ?_ (fun _ _ _ => ?_))

end Sys2Proof.Machine
end

