-- ==== Sys2Proof/Laws/KeptEffort.lean ====
section
/-! SUPPORT. One lemma per operation of Machine/Effort.lean that answers a state: it leaves the queue alone and keeps the register
window canonical; per meaning: it completes, and so does its state. -/

namespace Sys2Proof.Machine

theorem kept_showSat {q s a1} (h : Kept q s) : Kept q (State.showSat s a1) := by
  unfold State.showSat
  repeat' with_reducible (first
    | assumption | apply kept_set | exact kept_mk (by assumption) | refine kept_foldl ?_ (fun _ _ _ => ?_)
    | (extract_lets +onlyGivenNames x; refine kept_cut (q := q) (x := x) ?_ (fun _ => ?_); unfold x; clear x; rotate_left; clear_value x)
    | (extract_lets +onlyGivenNames x; clear_value x) | extract_lets +onlyGivenNames _ | split)

theorem kept_installModel {q s a1 a2} (h : Kept q s) : Kept q (State.installModel s a1 a2) := by
  unfold State.installModel
  repeat' with_reducible (first
    | assumption | apply kept_setI | apply kept_set | apply kept_setB | exact kept_mk (by assumption)
    | refine kept_foldl ?_ (fun _ _ _ => ?_)
    | (extract_lets +onlyGivenNames x; refine kept_cut (q := q) (x := x) ?_ (fun _ => ?_); unfold x; clear x; rotate_left; clear_value x)
    | (extract_lets +onlyGivenNames x; clear_value x) | extract_lets +onlyGivenNames _ | split)

theorem kept_adaptBin {q s a1 a2} (h : Kept q s) : Kept q (State.adaptBin s a1 a2) := by
  unfold State.adaptBin
  repeat' with_reducible (first
    | assumption | apply kept_setI
    | (extract_lets +onlyGivenNames x; refine kept_cut (q := q) (x := x) ?_ (fun _ => ?_); unfold x; clear x; rotate_left; clear_value x)
    | (extract_lets +onlyGivenNames x; clear_value x) | extract_lets +onlyGivenNames _ | split)

theorem kept_adaptAxis {q s a1} (h : Kept q s) : Kept q (State.adaptAxis s a1) := by
  unfold State.adaptAxis
  repeat' with_reducible (first
    | assumption | apply kept_adaptBin | apply kept_showSat | apply kept_setB | exact kept_mk (by assumption)
    | refine kept_foldl ?_ (fun _ _ _ => ?_)
    | (extract_lets +onlyGivenNames x; refine kept_cut (q := q) (x := x) ?_ (fun _ => ?_); unfold x; clear x; rotate_left; clear_value x)
    | (extract_lets +onlyGivenNames x; clear_value x) | extract_lets +onlyGivenNames _ | split)

theorem kept_resetAdapt {q s a1} (h : Kept q s) : Kept q (State.resetAdapt s a1) := by
  unfold State.resetAdapt
  repeat' with_reducible (first
    | assumption | apply kept_setWord | apply kept_set | refine kept_foldl ?_ (fun _ _ _ => ?_)
    | (extract_lets +onlyGivenNames x; refine kept_cut (q := q) (x := x) ?_ (fun _ => ?_); unfold x; clear x; rotate_left; clear_value x)
    | (extract_lets +onlyGivenNames x; clear_value x) | extract_lets +onlyGivenNames _)

theorem kept_resDone {q s a1 a2} (h : Kept q s) : Kept q (State.resDone s a1 a2) := by
  unfold State.resDone
  repeat' with_reducible (first
    | assumption | apply kept_set
    | (extract_lets +onlyGivenNames x; refine kept_cut (q := q) (x := x) ?_ (fun _ => ?_); unfold x; clear x; rotate_left; clear_value x)
    | (extract_lets +onlyGivenNames x; clear_value x) | extract_lets +onlyGivenNames _)

theorem kept_resClear {q s a1} (h : Kept q s) : Kept q (State.resClear s a1) := by
  unfold State.resClear
  repeat' with_reducible (first
    | assumption | apply kept_set | exact kept_mk (by assumption)
    | (extract_lets +onlyGivenNames x; refine kept_cut (q := q) (x := x) ?_ (fun _ => ?_); unfold x; clear x; rotate_left; clear_value x)
    | (extract_lets +onlyGivenNames x; clear_value x) | extract_lets +onlyGivenNames _ | split)

theorem kept_askSnap {q s a1} (h : Kept q s) : Kept q (State.askSnap s a1) := by
  unfold State.askSnap
  repeat' with_reducible (first
    | assumption | apply kept_modDw | apply kept_resClear | exact kept_mk (by assumption)
    | (extract_lets +onlyGivenNames x; refine kept_cut (q := q) (x := x) ?_ (fun _ => ?_); unfold x; clear x; rotate_left; clear_value x)
    | (extract_lets +onlyGivenNames x; clear_value x) | extract_lets +onlyGivenNames _)

theorem kept_effSnap {q s a1 a2} (h : Kept q s) : Kept q (State.effSnap s a1 a2) := by
  unfold State.effSnap
  repeat' with_reducible (first
    | assumption | apply kept_resDone | apply kept_setI | apply kept_set | apply kept_setB
    | (extract_lets +onlyGivenNames x; refine kept_cut (q := q) (x := x) ?_ (fun _ => ?_); unfold x; clear x; rotate_left; clear_value x)
    | (extract_lets +onlyGivenNames x; clear_value x) | extract_lets +onlyGivenNames _ | split)

theorem kept_snapTick {q s a1} (h : Kept q s) : Kept q (State.snapTick s a1) := by
  unfold State.snapTick
  repeat' with_reducible (first
    | assumption | apply kept_effSnap | apply kept_modDw | exact kept_mk (by assumption)
    | (extract_lets +onlyGivenNames x; refine kept_cut (q := q) (x := x) ?_ (fun _ => ?_); unfold x; clear x; rotate_left; clear_value x)
    | (extract_lets +onlyGivenNames x; clear_value x) | extract_lets +onlyGivenNames _ | split)

end Sys2Proof.Machine
end

