-- ==== Sys2Proof/Laws/KeptLoads.lean ====
section
/-! SUPPORT. One lemma per operation of Machine/Loads.lean that answers a state: it leaves the queue alone and keeps the register
window canonical; per meaning: it completes, and so does its state. -/

namespace Sys2Proof.Machine

theorem kept_switchOn {q s a1 a2} (h : Kept q s) : Kept q (State.switchOn s a1 a2) := by
  unfold State.switchOn
  repeat' with_reducible (first
    | assumption | apply kept_modCh | apply kept_setB | apply kept_set | exact kept_mk (by assumption)
    | (extract_lets +onlyGivenNames x; refine kept_cut (q := q) (x := x) ?_ (fun _ => ?_); unfold x; clear x; rotate_left; clear_value x)
    | (extract_lets +onlyGivenNames x; clear_value x) | extract_lets +onlyGivenNames _ | split)

theorem kept_switchOff {q s a1 a2} (h : Kept q s) : Kept q (State.switchOff s a1 a2) := by
  unfold State.switchOff
  repeat' with_reducible (first
    | assumption | apply kept_modCh | apply kept_setB | apply kept_set | exact kept_mk (by assumption)
    | (extract_lets +onlyGivenNames x; refine kept_cut (q := q) (x := x) ?_ (fun _ => ?_); unfold x; clear x; rotate_left; clear_value x)
    | (extract_lets +onlyGivenNames x; clear_value x) | extract_lets +onlyGivenNames _ | split)

theorem kept_turnOn {q s a1} (h : Kept q s) : Kept q (State.turnOn s a1) := by
  unfold State.turnOn
  repeat' with_reducible (first
    | assumption | apply kept_switchOn | apply kept_modCh | exact kept_mk (by assumption)
    | (extract_lets +onlyGivenNames x; refine kept_cut (q := q) (x := x) ?_ (fun _ => ?_); unfold x; clear x; rotate_left; clear_value x)
    | (extract_lets +onlyGivenNames x; clear_value x) | extract_lets +onlyGivenNames _ | split)

theorem kept_resumeOn {q s a1} (h : Kept q s) : Kept q (State.resumeOn s a1) := by
  unfold State.resumeOn
  repeat' with_reducible (first
    | assumption | apply kept_switchOn | split)

theorem kept_refill {q s a1} (h : Kept q s) : Kept q (State.refill s a1) := by
  unfold State.refill
  repeat' with_reducible (first
    | assumption | apply kept_set)

theorem kept_restart {q s a1} (h : Kept q s) : Kept q (State.restart s a1) := by
  unfold State.restart
  repeat' with_reducible (first
    | assumption | apply kept_switchOn | apply kept_modCh | exact kept_mk (by assumption)
    | (extract_lets +onlyGivenNames x; refine kept_cut (q := q) (x := x) ?_ (fun _ => ?_); unfold x; clear x; rotate_left; clear_value x)
    | (extract_lets +onlyGivenNames x; clear_value x) | extract_lets +onlyGivenNames _)

theorem kept_evalCh {q s a1} (h : Kept q s) : Kept q (State.evalCh s a1) := by
  unfold State.evalCh
  repeat' with_reducible (first
    | assumption | apply kept_switchOff | apply kept_turnOn | apply kept_resumeOn | apply kept_restart | apply kept_set
    | apply kept_refill | exact kept_mk (by assumption)
    | (extract_lets +onlyGivenNames x; refine kept_cut (q := q) (x := x) ?_ (fun _ => ?_); unfold x; clear x; rotate_left; clear_value x)
    | (extract_lets +onlyGivenNames x; clear_value x) | extract_lets +onlyGivenNames _ | split)

theorem kept_evalGroup {q s a1} (h : Kept q s) : Kept q (State.evalGroup s a1) := by
  unfold State.evalGroup
  repeat' with_reducible (first
    | assumption | apply kept_evalCh | refine kept_foldl ?_ (fun _ _ _ => ?_))

theorem kept_evalAll {q s} (h : Kept q s) : Kept q (State.evalAll s) := by
  unfold State.evalAll
  repeat' with_reducible (first
    | assumption | apply kept_evalCh | exact kept_mk (by assumption) | refine kept_foldl ?_ (fun _ _ _ => ?_)
    | (extract_lets +onlyGivenNames x; refine kept_cut (q := q) (x := x) ?_ (fun _ => ?_); unfold x; clear x; rotate_left; clear_value x)
    | (extract_lets +onlyGivenNames x; clear_value x) | extract_lets +onlyGivenNames _ | split)

theorem kept_tripEvent {q s a1 a2} (h : Kept q s) : Kept q (State.tripEvent s a1 a2) := by
  unfold State.tripEvent
  repeat' with_reducible (first
    | assumption | apply kept_event | apply kept_modCh | exact kept_mk (by assumption)
    | (extract_lets +onlyGivenNames x; refine kept_cut (q := q) (x := x) ?_ (fun _ => ?_); unfold x; clear x; rotate_left; clear_value x)
    | (extract_lets +onlyGivenNames x; clear_value x) | extract_lets +onlyGivenNames _ | split)

theorem kept_tripMarks {q s a1 a2} (h : Kept q s) : Kept q (State.tripMarks s a1 a2) := by
  unfold State.tripMarks
  repeat' with_reducible (first
    | assumption | apply kept_inc | apply kept_setB | apply kept_set | apply kept_raise
    | (extract_lets +onlyGivenNames x; refine kept_cut (q := q) (x := x) ?_ (fun _ => ?_); unfold x; clear x; rotate_left; clear_value x)
    | (extract_lets +onlyGivenNames x; clear_value x) | extract_lets +onlyGivenNames _)

theorem kept_latchCh {q s a1 a2} (h : Kept q s) : Kept q (State.latchCh s a1 a2) := by
  unfold State.latchCh
  repeat' with_reducible (first
    | assumption | apply kept_switchOff | apply kept_logFault
    | (extract_lets +onlyGivenNames x; refine kept_cut (q := q) (x := x) ?_ (fun _ => ?_); unfold x; clear x; rotate_left; clear_value x)
    | (extract_lets +onlyGivenNames x; clear_value x) | extract_lets +onlyGivenNames _)

theorem kept_trip {q s a1 a2} (h : Kept q s) : Kept q (State.trip s a1 a2) := by
  unfold State.trip
  repeat' with_reducible (first
    | assumption | apply kept_tripEvent | apply kept_tripMarks | apply kept_latchCh | apply kept_modCh | apply kept_switchOff
    | exact kept_mk (by assumption)
    | (extract_lets +onlyGivenNames x; refine kept_cut (q := q) (x := x) ?_ (fun _ => ?_); unfold x; clear x; rotate_left; clear_value x)
    | (extract_lets +onlyGivenNames x; clear_value x) | extract_lets +onlyGivenNames _ | split)

theorem kept_latchNow {q s a1 a2} (h : Kept q s) : Kept q (State.latchNow s a1 a2) := by
  unfold State.latchNow
  repeat' with_reducible (first
    | assumption | apply kept_latchCh | apply kept_tripEvent | apply kept_tripMarks | split)

theorem kept_markPulse {q s a1} (h : Kept q s) : Kept q (State.markPulse s a1) := by
  unfold State.markPulse
  repeat' with_reducible (first
    | assumption | exact kept_mk (by assumption)
    | (extract_lets +onlyGivenNames x; refine kept_cut (q := q) (x := x) ?_ (fun _ => ?_); unfold x; clear x; rotate_left; clear_value x)
    | (extract_lets +onlyGivenNames x; clear_value x) | extract_lets +onlyGivenNames _ | split)

theorem kept_scDrive {q s a1 a2} (h : Kept q s) : Kept q (State.scDrive s a1 a2) := by
  unfold State.scDrive
  repeat' with_reducible (first
    | assumption | apply kept_evalCh | apply kept_markPulse | apply kept_setB | split)

theorem kept_showShed {q s} (h : Kept q s) : Kept q (State.showShed s) := by
  unfold State.showShed
  repeat' with_reducible (first
    | assumption | apply kept_set | refine kept_foldl ?_ (fun _ _ _ => ?_)
    | (extract_lets +onlyGivenNames x; refine kept_cut (q := q) (x := x) ?_ (fun _ => ?_); unfold x; clear x; rotate_left; clear_value x)
    | (extract_lets +onlyGivenNames x; clear_value x) | extract_lets +onlyGivenNames _)

theorem kept_shedCh {q s a1} (h : Kept q s) : Kept q (State.shedCh s a1) := by
  unfold State.shedCh
  repeat' with_reducible (first
    | assumption | apply kept_evalCh | apply kept_raise | apply kept_inc | apply kept_showShed | exact kept_mk (by assumption)
    | (extract_lets +onlyGivenNames x; refine kept_cut (q := q) (x := x) ?_ (fun _ => ?_); unfold x; clear x; rotate_left; clear_value x)
    | (extract_lets +onlyGivenNames x; clear_value x) | extract_lets +onlyGivenNames _ | split)

theorem kept_unshedCh {q s a1} (h : Kept q s) : Kept q (State.unshedCh s a1) := by
  unfold State.unshedCh
  repeat' with_reducible (first
    | assumption | apply kept_evalCh | apply kept_showShed | exact kept_mk (by assumption)
    | (extract_lets +onlyGivenNames x; refine kept_cut (q := q) (x := x) ?_ (fun _ => ?_); unfold x; clear x; rotate_left; clear_value x)
    | (extract_lets +onlyGivenNames x; clear_value x) | extract_lets +onlyGivenNames _)

theorem kept_demandOn {q s a1} (h : Kept q s) : Kept q (State.demandOn s a1) := by
  unfold State.demandOn
  repeat' with_reducible (first
    | assumption | apply kept_shedCh | apply kept_evalCh | split)

theorem kept_setDemand {q s a1 a2} (h : Kept q s) : Kept q (State.setDemand s a1 a2) := by
  unfold State.setDemand
  repeat' with_reducible (first
    | assumption | apply kept_setB | apply kept_evalCh | apply kept_demandOn | apply kept_unshedCh
    | (extract_lets +onlyGivenNames x; refine kept_cut (q := q) (x := x) ?_ (fun _ => ?_); unfold x; clear x; rotate_left; clear_value x)
    | (extract_lets +onlyGivenNames x; clear_value x) | extract_lets +onlyGivenNames _ | split)

theorem kept_applyPattern {q s a1} (h : Kept q s) : Kept q (State.applyPattern s a1) := by
  unfold State.applyPattern
  repeat' with_reducible (first
    | assumption | apply kept_modCh | apply kept_evalCh | apply kept_setB | exact kept_mk (by assumption)
    | (extract_lets +onlyGivenNames x; refine kept_cut (q := q) (x := x) ?_ (fun _ => ?_); unfold x; clear x; rotate_left; clear_value x)
    | (extract_lets +onlyGivenNames x; clear_value x) | extract_lets +onlyGivenNames _ | split)

theorem kept_dieFailsafe {q s a1} (h : Kept q s) : Kept q (State.dieFailsafe s a1) := by
  unfold State.dieFailsafe
  repeat' with_reducible (first
    | assumption | apply kept_modDie | apply kept_applyPattern | apply kept_raise | exact kept_mk (by assumption)
    | refine kept_foldl ?_ (fun _ _ _ => ?_)
    | (extract_lets +onlyGivenNames x; refine kept_cut (q := q) (x := x) ?_ (fun _ => ?_); unfold x; clear x; rotate_left; clear_value x)
    | (extract_lets +onlyGivenNames x; clear_value x) | extract_lets +onlyGivenNames _)

theorem kept_watchdogFailsafe {q s} (h : Kept q s) : Kept q (State.watchdogFailsafe s) := by
  unfold State.watchdogFailsafe
  repeat' with_reducible (first
    | assumption | apply kept_applyPattern | apply kept_setB | apply kept_raise
    | (refine kept_mk (kept_foldl ?_ (fun _ _ _ => ?_))) | exact kept_mk (by assumption) | refine kept_foldl ?_ (fun _ _ _ => ?_)
    | (extract_lets +onlyGivenNames x; refine kept_cut (q := q) (x := x) ?_ (fun _ => ?_); unfold x; clear x; rotate_left; clear_value x)
    | (extract_lets +onlyGivenNames x; clear_value x) | extract_lets +onlyGivenNames _ | split)

theorem kept_loadOn {q s} (h : Kept q s) : Kept q (State.loadOn s) := by
  unfold State.loadOn
  repeat' with_reducible (first
    | assumption | apply kept_modCh | apply kept_setB | apply kept_modDie | exact kept_mk (by assumption)
    | refine kept_foldl ?_ (fun _ _ _ => ?_)
    | (extract_lets +onlyGivenNames x; refine kept_cut (q := q) (x := x) ?_ (fun _ => ?_); unfold x; clear x; rotate_left; clear_value x)
    | (extract_lets +onlyGivenNames x; clear_value x) | extract_lets +onlyGivenNames _ | split)

theorem kept_endHold {q s a1} (h : Kept q s) : Kept q (State.endHold s a1) := by
  unfold State.endHold
  repeat' with_reducible (first
    | assumption | apply kept_modCh | apply kept_evalCh | apply kept_setB | exact kept_mk (by assumption)
    | (extract_lets +onlyGivenNames x; refine kept_cut (q := q) (x := x) ?_ (fun _ => ?_); unfold x; clear x; rotate_left; clear_value x)
    | (extract_lets +onlyGivenNames x; clear_value x) | extract_lets +onlyGivenNames _ | split)

theorem kept_writeOn {q s a1 a2} (h : Kept q s) : Kept q (State.writeOn s a1 a2) := by
  unfold State.writeOn
  repeat' with_reducible (first
    | assumption | apply kept_reject | apply kept_setB | apply kept_modCh | apply kept_setDemand | exact kept_mk (by assumption)
    | refine kept_foldl ?_ (fun _ _ _ => ?_)
    | (extract_lets +onlyGivenNames x; refine kept_cut (q := q) (x := x) ?_ (fun _ => ?_); unfold x; clear x; rotate_left; clear_value x)
    | (extract_lets +onlyGivenNames x; clear_value x) | extract_lets +onlyGivenNames _ | split)

theorem kept_showSense {q s a1} (h : Kept q s) : Kept q (State.showSense s a1) := by
  unfold State.showSense
  repeat' with_reducible (first
    | assumption | apply kept_set | split)

theorem kept_showSenses {q s} (h : Kept q s) : Kept q (State.showSenses s) := by
  unfold State.showSenses
  repeat' with_reducible (first
    | assumption | apply kept_showSense | refine kept_foldl ?_ (fun _ _ _ => ?_))

theorem kept_clearCh {q s a1} (h : Kept q s) : Kept q (State.clearCh s a1) := by
  unfold State.clearCh
  repeat' with_reducible (first
    | assumption | apply kept_reject | apply kept_setB | apply kept_refill | apply kept_switchOff | apply kept_restart
    | (extract_lets +onlyGivenNames x; refine kept_cut (q := q) (x := x) ?_ (fun _ => ?_); unfold x; clear x; rotate_left; clear_value x)
    | (extract_lets +onlyGivenNames x; clear_value x) | extract_lets +onlyGivenNames _ | split)

theorem kept_setVbat {q s a1 a2} (h : Kept q s) : Kept q (State.setVbat s a1 a2) := by
  unfold State.setVbat
  repeat' with_reducible (first
    | assumption | apply kept_set | exact kept_mk (by assumption)
    | (extract_lets +onlyGivenNames x; refine kept_cut (q := q) (x := x) ?_ (fun _ => ?_); unfold x; clear x; rotate_left; clear_value x)
    | (extract_lets +onlyGivenNames x; clear_value x) | extract_lets +onlyGivenNames _ | split)

theorem kept_execLsinChange {q a1 a2 s} (h : Kept q s) : Answers q (execLsinChange a1 a2 s) := by
  unfold execLsinChange
  repeat' with_reducible (first
    | assumption | apply answers_next | apply kept_setB | apply kept_evalCh | apply kept_demandOn | apply kept_unshedCh
    | (extract_lets +onlyGivenNames x; refine kept_cut (q := q) (x := x) ?_ (fun _ => ?_); unfold x; clear x; rotate_left; clear_value x)
    | (extract_lets +onlyGivenNames x; clear_value x) | extract_lets +onlyGivenNames _ | split)

theorem kept_execLsgOnWrite {q a1 a2 s} (h : Kept q s) : Answers q (execLsgOnWrite a1 a2 s) := by
  unfold execLsgOnWrite
  repeat' with_reducible (first
    | assumption | apply answers_next | apply kept_writeOn | split)

theorem kept_execInrushWindowEnd {q a1 s} (h : Kept q s) : Answers q (execInrushWindowEnd a1 s) := by
  unfold execInrushWindowEnd
  repeat' with_reducible (first
    | assumption | apply answers_next | apply kept_modCh | apply kept_switchOn | exact kept_mk (by assumption)
    | (extract_lets +onlyGivenNames x; refine kept_cut (q := q) (x := x) ?_ (fun _ => ?_); unfold x; clear x; rotate_left; clear_value x)
    | (extract_lets +onlyGivenNames x; clear_value x) | extract_lets +onlyGivenNames _ | split)

theorem kept_execLimitHoldTrip {q a1 s} (h : Kept q s) : Answers q (execLimitHoldTrip a1 s) := by
  unfold execLimitHoldTrip
  repeat' with_reducible (first
    | assumption | apply answers_next | apply kept_trip)

theorem kept_execOverloadTrip {q a1 s} (h : Kept q s) : Answers q (execOverloadTrip a1 s) := by
  unfold execOverloadTrip
  repeat' with_reducible (first
    | assumption | apply answers_next | apply kept_trip | split)

theorem kept_execShortToGround {q a1 s} (h : Kept q s) : Answers q (execShortToGround a1 s) := by
  unfold execShortToGround
  repeat' with_reducible (first
    | assumption | apply answers_next | apply kept_trip | split)

theorem kept_execThermalShutdown {q a1 s} (h : Kept q s) : Answers q (execThermalShutdown a1 s) := by
  unfold execThermalShutdown
  repeat' with_reducible (first
    | assumption | apply answers_next | apply kept_trip | apply kept_set)

theorem kept_execChannelCooled {q a1 s} (h : Kept q s) : Answers q (execChannelCooled a1 s) := by
  unfold execChannelCooled
  repeat' with_reducible (first
    | assumption | apply answers_next | apply kept_evalCh | apply kept_set)

theorem kept_execFreewheelMissing {q a1 s} (h : Kept q s) : Answers q (execFreewheelMissing a1 s) := by
  unfold execFreewheelMissing
  repeat' with_reducible (first
    | assumption | apply answers_next | apply kept_latchNow | apply kept_raise | apply kept_setB)

theorem kept_execRetryTimer {q a1 s} (h : Kept q s) : Answers q (execRetryTimer a1 s) := by
  unfold execRetryTimer
  repeat' with_reducible (first
    | assumption | apply answers_next | apply kept_evalCh | apply kept_modCh | exact kept_mk (by assumption)
    | (extract_lets +onlyGivenNames x; refine kept_cut (q := q) (x := x) ?_ (fun _ => ?_); unfold x; clear x; rotate_left; clear_value x)
    | (extract_lets +onlyGivenNames x; clear_value x) | extract_lets +onlyGivenNames _ | split)

theorem kept_execRetryRefill {q a1 s} (h : Kept q s) : Answers q (execRetryRefill a1 s) := by
  unfold execRetryRefill
  repeat' with_reducible (first
    | assumption | apply answers_next | apply kept_refill | exact kept_mk (by assumption)
    | (extract_lets +onlyGivenNames x; refine kept_cut (q := q) (x := x) ?_ (fun _ => ?_); unfold x; clear x; rotate_left; clear_value x)
    | (extract_lets +onlyGivenNames x; clear_value x) | extract_lets +onlyGivenNames _ | split)

theorem kept_execLsgClr {q a1 a2 s} (h : Kept q s) : Answers q (execLsgClr a1 a2 s) := by
  unfold execLsgClr
  repeat' with_reducible (first
    | assumption | intro _ | apply answers_next | apply kept_whenReady | apply kept_clearCh
    | refine kept_foldl ?_ (fun _ _ _ => ?_) | split)

theorem kept_execGroupUndervoltage {q a1 a2 s} (h : Kept q s) : Answers q (execGroupUndervoltage a1 a2 s) := by
  unfold execGroupUndervoltage
  repeat' with_reducible (first
    | assumption | apply answers_next | apply kept_setVbat | apply kept_switchOff | apply kept_setB
    | refine kept_foldl ?_ (fun _ _ _ => ?_)
    | (extract_lets +onlyGivenNames x; refine kept_cut (q := q) (x := x) ?_ (fun _ => ?_); unfold x; clear x; rotate_left; clear_value x)
    | (extract_lets +onlyGivenNames x; clear_value x) | extract_lets +onlyGivenNames _ | split)

theorem kept_execGroupVoltageReturn {q a1 a2 s} (h : Kept q s) : Answers q (execGroupVoltageReturn a1 a2 s) := by
  unfold execGroupVoltageReturn
  repeat' with_reducible (first
    | assumption | apply answers_next | apply kept_setVbat | apply kept_restartFilters | apply kept_switchOff | apply kept_turnOn
    | apply kept_setB | refine kept_foldl ?_ (fun _ _ _ => ?_)
    | (extract_lets +onlyGivenNames x; refine kept_cut (q := q) (x := x) ?_ (fun _ => ?_); unfold x; clear x; rotate_left; clear_value x)
    | (extract_lets +onlyGivenNames x; clear_value x) | extract_lets +onlyGivenNames _ | split)

theorem kept_execOpenLoadOn {q a1 a2 s} (h : Kept q s) : Answers q (execOpenLoadOn a1 a2 s) := by
  unfold execOpenLoadOn
  repeat' with_reducible (first
    | assumption | apply answers_next | apply kept_setB | apply kept_raise
    | (extract_lets +onlyGivenNames x; refine kept_cut (q := q) (x := x) ?_ (fun _ => ?_); unfold x; clear x; rotate_left; clear_value x)
    | (extract_lets +onlyGivenNames x; clear_value x) | extract_lets +onlyGivenNames _ | split)

theorem kept_execSenseSnapshot {q a1 a2 s} (h : Kept q s) : Answers q (execSenseSnapshot a1 a2 s) := by
  unfold execSenseSnapshot
  repeat' with_reducible (first
    | assumption | apply answers_next | apply kept_setB | apply kept_resClear | apply kept_raise | apply kept_resDone
    | apply kept_setI | apply kept_set | refine kept_foldl ?_ (fun _ _ _ => ?_)
    | (extract_lets +onlyGivenNames x; refine kept_cut (q := q) (x := x) ?_ (fun _ => ?_); unfold x; clear x; rotate_left; clear_value x)
    | (extract_lets +onlyGivenNames x; clear_value x) | extract_lets +onlyGivenNames _ | split)

theorem kept_execSselChange {q a1 a2 s} (h : Kept q s) : Answers q (execSselChange a1 a2 s) := by
  unfold execSselChange
  repeat' with_reducible (first
    | assumption | apply answers_next | apply kept_showSenses | apply kept_set | refine kept_foldl ?_ (fun _ _ _ => ?_))

theorem kept_execHoldTimeout {q a1 s} (h : Kept q s) : Answers q (execHoldTimeout a1 s) := by
  unfold execHoldTimeout
  repeat' with_reducible (first
    | assumption | apply answers_next | apply kept_endHold)

theorem kept_execGroupOvercurrent {q a1 s} (h : Kept q s) : Answers q (execGroupOvercurrent a1 s) := by
  unfold execGroupOvercurrent
  repeat' with_reducible (first
    | assumption | apply answers_next | apply kept_raise | apply kept_setB | split)

theorem kept_execGroupOverClear {q a1 s} (h : Kept q s) : Answers q (execGroupOverClear a1 s) := by
  unfold execGroupOverClear
  repeat' with_reducible (first
    | assumption | apply answers_next | apply kept_setB)

end Sys2Proof.Machine
end

