-- ==== Sys2Proof/Laws/KeptImage.lean ====
section
/-! SUPPORT. One lemma per operation of Machine/Image.lean that answers a state: it leaves the queue alone and keeps the register
window canonical; per meaning: it completes, and so does its state. -/

namespace Sys2Proof.Machine

theorem kept_loadWord {q s a1} (h : Kept q s) : Kept q (State.loadWord s a1) := by
  unfold State.loadWord
  repeat' with_reducible (first
    | assumption | apply kept_setWord | exact kept_mk (by assumption) | refine kept_foldl ?_ (fun _ _ _ => ?_)
    | (extract_lets +onlyGivenNames x; refine kept_cut (q := q) (x := x) ?_ (fun _ => ?_); unfold x; clear x; rotate_left; clear_value x)
    | (extract_lets +onlyGivenNames x; clear_value x) | extract_lets +onlyGivenNames _ | split)

theorem kept_showHash {q s a1} (h : Kept q s) : Kept q (State.showHash s a1) := by
  unfold State.showHash
  repeat' with_reducible (first
    | assumption | apply kept_set | refine kept_foldl ?_ (fun _ _ _ => ?_))

theorem kept_configChange {q s a1 a2 a3 a4 a5} (h : Kept q s) : Kept q (State.configChange s a1 a2 a3 a4 a5) := by
  unfold State.configChange
  repeat' with_reducible (first
    | assumption | apply kept_submit | apply kept_set | exact kept_mk (by assumption)
    | (extract_lets +onlyGivenNames x; refine kept_cut (q := q) (x := x) ?_ (fun _ => ?_); unfold x; clear x; rotate_left; clear_value x)
    | (extract_lets +onlyGivenNames x; clear_value x) | extract_lets +onlyGivenNames _)

theorem kept_newCfgCrc {q s} (h : Kept q s) : Kept q (State.newCfgCrc s) := by
  unfold State.newCfgCrc
  repeat' with_reducible (first
    | assumption | apply kept_set | exact kept_mk (by assumption)
    | (extract_lets +onlyGivenNames x; refine kept_cut (q := q) (x := x) ?_ (fun _ => ?_); unfold x; clear x; rotate_left; clear_value x)
    | (extract_lets +onlyGivenNames x; clear_value x) | extract_lets +onlyGivenNames _)

theorem kept_pushDie {q s a1} (h : Kept q s) : Kept q (State.pushDie s a1) := by
  unfold State.pushDie
  repeat' with_reducible (first
    | assumption | apply kept_setB | apply kept_evalGroup | apply kept_emit | apply kept_modDie | exact kept_mk (by assumption)
    | refine kept_foldl ?_ (fun _ _ _ => ?_)
    | (extract_lets +onlyGivenNames x; refine kept_cut (q := q) (x := x) ?_ (fun _ => ?_); unfold x; clear x; rotate_left; clear_value x)
    | (extract_lets +onlyGivenNames x; clear_value x) | extract_lets +onlyGivenNames _ | split)

theorem kept_showBanks {q s} (h : Kept q s) : Kept q (State.showBanks s) := by
  unfold State.showBanks
  repeat' with_reducible (first
    | assumption | apply kept_setB
    | (extract_lets +onlyGivenNames x; refine kept_cut (q := q) (x := x) ?_ (fun _ => ?_); unfold x; clear x; rotate_left; clear_value x)
    | (extract_lets +onlyGivenNames x; clear_value x) | extract_lets +onlyGivenNames _ | split)

theorem kept_showInForce {q s} (h : Kept q s) : Kept q (State.showInForce s) := by
  unfold State.showInForce
  repeat' with_reducible (first
    | assumption | apply kept_showHash | apply kept_set | apply kept_setB | apply kept_newCfgCrc | apply kept_showBanks
    | apply kept_pushDie | refine kept_foldl ?_ (fun _ _ _ => ?_)
    | (extract_lets +onlyGivenNames x; refine kept_cut (q := q) (x := x) ?_ (fun _ => ?_); unfold x; clear x; rotate_left; clear_value x)
    | (extract_lets +onlyGivenNames x; clear_value x) | extract_lets +onlyGivenNames _)

theorem kept_switchBank {q s a1 a2 a3} (h : Kept q s) : Kept q (State.switchBank s a1 a2 a3) := by
  unfold State.switchBank
  repeat' with_reducible (first
    | assumption | apply kept_raise | apply kept_configChange | apply kept_showInForce | apply kept_sendBruvan
    | exact kept_mk (by assumption)
    | (extract_lets +onlyGivenNames x; refine kept_cut (q := q) (x := x) ?_ (fun _ => ?_); unfold x; clear x; rotate_left; clear_value x)
    | (extract_lets +onlyGivenNames x; clear_value x) | extract_lets +onlyGivenNames _ | split)

theorem kept_learnCommit {q s a1 a2} (h : Kept q s) : Kept q (State.learnCommit s a1 a2) := by
  unfold State.learnCommit
  repeat' with_reducible (first
    | assumption | apply kept_switchBank | exact kept_mk (by assumption) | refine kept_foldl ?_ (fun _ _ _ => ?_)
    | (extract_lets +onlyGivenNames x; refine kept_cut (q := q) (x := x) ?_ (fun _ => ?_); unfold x; clear x; rotate_left; clear_value x)
    | (extract_lets +onlyGivenNames x; clear_value x) | extract_lets +onlyGivenNames _)

end Sys2Proof.Machine
end

