-- ==== Sys2Proof/Laws/KeptScView.lean ====
section
/-! SUPPORT. One lemma per operation of Machine/ScView.lean that answers a state: it leaves the queue alone and keeps the register
window canonical; per meaning: it completes, and so does its state. -/

namespace Sys2Proof.Machine

theorem kept_modSc {q s a1} (h : Kept q s) : Kept q (State.modSc s a1) := by
  unfold State.modSc
  repeat' with_reducible (first
    | assumption | exact kept_mk (by assumption)
    | (extract_lets +onlyGivenNames x; refine kept_cut (q := q) (x := x) ?_ (fun _ => ?_); unfold x; clear x; rotate_left; clear_value x)
    | (extract_lets +onlyGivenNames x; clear_value x) | extract_lets +onlyGivenNames _)

theorem kept_modScD {q s a1 a2} (h : Kept q s) : Kept q (State.modScD s a1 a2) := by
  unfold State.modScD
  repeat' with_reducible (first
    | assumption | apply kept_modSc | exact kept_mk (by assumption)
    | (extract_lets +onlyGivenNames x; refine kept_cut (q := q) (x := x) ?_ (fun _ => ?_); unfold x; clear x; rotate_left; clear_value x)
    | (extract_lets +onlyGivenNames x; clear_value x) | extract_lets +onlyGivenNames _)

theorem kept_brvEnd {q s a1} (h : Kept q s) : Kept q (State.brvEnd s a1) := by
  unfold State.brvEnd
  repeat' with_reducible (first
    | assumption | apply kept_setB | split)

theorem kept_showAlive {q s} (h : Kept q s) : Kept q (State.showAlive s) := by
  unfold State.showAlive
  repeat' with_reducible (first
    | assumption | apply kept_setB | apply kept_brvEnd
    | (extract_lets +onlyGivenNames x; refine kept_cut (q := q) (x := x) ?_ (fun _ => ?_); unfold x; clear x; rotate_left; clear_value x)
    | (extract_lets +onlyGivenNames x; clear_value x) | extract_lets +onlyGivenNames _ | split)

theorem kept_safFault {q s a1 a2 a3 a4} (h : Kept q s) : Kept q (State.safFault s a1 a2 a3 a4) := by
  unfold State.safFault
  repeat' with_reducible (first
    | assumption | apply kept_set | apply kept_modSc | apply kept_logFault | apply kept_raise | exact kept_mk (by assumption)
    | (extract_lets +onlyGivenNames x; refine kept_cut (q := q) (x := x) ?_ (fun _ => ?_); unfold x; clear x; rotate_left; clear_value x)
    | (extract_lets +onlyGivenNames x; clear_value x) | extract_lets +onlyGivenNames _ | split)

theorem kept_safEnd {q s a1 a2} (h : Kept q s) : Kept q (State.safEnd s a1 a2) := by
  unfold State.safEnd
  repeat' with_reducible (first
    | assumption | apply kept_modSc | apply kept_setB | exact kept_mk (by assumption)
    | (extract_lets +onlyGivenNames x; refine kept_cut (q := q) (x := x) ?_ (fun _ => ?_); unfold x; clear x; rotate_left; clear_value x)
    | (extract_lets +onlyGivenNames x; clear_value x) | extract_lets +onlyGivenNames _ | split)

theorem kept_safJudge {q s a1 a2 a3} (h : Kept q s) : Kept q (State.safJudge s a1 a2 a3) := by
  unfold State.safJudge
  repeat' with_reducible (first
    | assumption | apply kept_safFault | apply kept_safEnd | split)

theorem kept_restoreSaf {q s a1} (h : Kept q s) : Kept q (State.restoreSaf s a1) := by
  unfold State.restoreSaf
  repeat' with_reducible (first
    | assumption | apply kept_modScD | apply kept_set | exact kept_mk (by assumption)
    | (extract_lets +onlyGivenNames x; refine kept_cut (q := q) (x := x) ?_ (fun _ => ?_); unfold x; clear x; rotate_left; clear_value x)
    | (extract_lets +onlyGivenNames x; clear_value x) | extract_lets +onlyGivenNames _ | split)

end Sys2Proof.Machine
end

