-- ==== Sys2Proof/Laws/KeptDoorway.lean ====
section
/-! SUPPORT. One lemma per operation of Machine/Doorway.lean that answers a state: it leaves the queue alone and keeps the register
window canonical; per meaning: it completes, and so does its state. -/

namespace Sys2Proof.Machine

theorem kept_doorEv {q s a1 a2} (h : Kept q s) : Kept q (State.doorEv s a1 a2) := by
  unfold State.doorEv
  repeat' with_reducible (first
    | assumption | apply kept_raise)

theorem kept_gapFreeze {q s a1 a2 a3} (h : Kept q s) : Kept q (State.gapFreeze s a1 a2 a3) := by
  unfold State.gapFreeze
  repeat' with_reducible (first
    | assumption | apply kept_setB | exact kept_mk (by assumption)
    | (extract_lets +onlyGivenNames x; refine kept_cut (q := q) (x := x) ?_ (fun _ => ?_); unfold x; clear x; rotate_left; clear_value x)
    | (extract_lets +onlyGivenNames x; clear_value x) | extract_lets +onlyGivenNames _ | split)

theorem kept_setStep {q s a1 a2} (h : Kept q s) : Kept q (State.setStep s a1 a2) := by
  unfold State.setStep
  repeat' with_reducible (first
    | assumption | apply kept_doorEv | apply kept_set | apply kept_gapFreeze | apply kept_modDw | exact kept_mk (by assumption)
    | (extract_lets +onlyGivenNames x; refine kept_cut (q := q) (x := x) ?_ (fun _ => ?_); unfold x; clear x; rotate_left; clear_value x)
    | (extract_lets +onlyGivenNames x; clear_value x) | extract_lets +onlyGivenNames _ | split)

theorem kept_showStep {q s a1} (h : Kept q s) : Kept q (State.showStep s a1) := by
  unfold State.showStep
  repeat' with_reducible (first
    | assumption | apply kept_setStep | split)

theorem kept_setDegr {q s a1 a2 a3} (h : Kept q s) : Kept q (State.setDegr s a1 a2 a3) := by
  unfold State.setDegr
  repeat' with_reducible (first
    | assumption | apply kept_setB | apply kept_set | apply kept_doorEv
    | (extract_lets +onlyGivenNames x; refine kept_cut (q := q) (x := x) ?_ (fun _ => ?_); unfold x; clear x; rotate_left; clear_value x)
    | (extract_lets +onlyGivenNames x; clear_value x) | extract_lets +onlyGivenNames _ | split)

theorem kept_judgeModel {q s a1} (h : Kept q s) : Kept q (State.judgeModel s a1) := by
  unfold State.judgeModel
  repeat' with_reducible (first
    | assumption | apply kept_showSat | apply kept_setB | apply kept_setDegr
    | (extract_lets +onlyGivenNames x; refine kept_cut (q := q) (x := x) ?_ (fun _ => ?_); unfold x; clear x; rotate_left; clear_value x)
    | (extract_lets +onlyGivenNames x; clear_value x) | extract_lets +onlyGivenNames _)

theorem kept_judgeModels {q s} (h : Kept q s) : Kept q (State.judgeModels s) := by
  unfold State.judgeModels
  repeat' with_reducible (first
    | assumption | apply kept_judgeModel | refine kept_foldl ?_ (fun _ _ _ => ?_))

theorem kept_modCyc {q s a1 a2} (h : Kept q s) : Kept q (State.modCyc s a1 a2) := by
  unfold State.modCyc
  repeat' with_reducible (first
    | assumption | apply kept_modDw | exact kept_mk (by assumption)
    | (extract_lets +onlyGivenNames x; refine kept_cut (q := q) (x := x) ?_ (fun _ => ?_); unfold x; clear x; rotate_left; clear_value x)
    | (extract_lets +onlyGivenNames x; clear_value x) | extract_lets +onlyGivenNames _ | split)

theorem kept_startCycle {q s a1 a2} (h : Kept q s) : Kept q (State.startCycle s a1 a2) := by
  unfold State.startCycle
  repeat' with_reducible (first
    | assumption | apply kept_modDw | apply kept_setB | exact kept_mk (by assumption)
    | (extract_lets +onlyGivenNames x; refine kept_cut (q := q) (x := x) ?_ (fun _ => ?_); unfold x; clear x; rotate_left; clear_value x)
    | (extract_lets +onlyGivenNames x; clear_value x) | extract_lets +onlyGivenNames _ | split)

theorem kept_sendAdapt {q s a1} (h : Kept q s) : Kept q (State.sendAdapt s a1) := by
  unfold State.sendAdapt
  repeat' with_reducible (first
    | assumption | apply kept_sendBruvan | split)

theorem kept_adapt {q s a1} (h : Kept q s) : Kept q (State.adapt s a1) := by
  unfold State.adapt
  repeat' with_reducible (first
    | assumption | apply kept_adaptAxis | apply kept_setDegr
    | (extract_lets +onlyGivenNames x; refine kept_cut (q := q) (x := x) ?_ (fun _ => ?_); unfold x; clear x; rotate_left; clear_value x)
    | (extract_lets +onlyGivenNames x; clear_value x) | extract_lets +onlyGivenNames _ | split)

theorem kept_modDay {q s a1 a2} (h : Kept q s) : Kept q (State.modDay s a1 a2) := by
  unfold State.modDay
  repeat' with_reducible (first
    | assumption | exact kept_mk (by assumption)
    | (extract_lets +onlyGivenNames x; refine kept_cut (q := q) (x := x) ?_ (fun _ => ?_); unfold x; clear x; rotate_left; clear_value x)
    | (extract_lets +onlyGivenNames x; clear_value x) | extract_lets +onlyGivenNames _)

theorem kept_countCycle {q s a1 a2} (h : Kept q s) : Kept q (State.countCycle s a1 a2) := by
  unfold State.countCycle
  repeat' with_reducible (first
    | assumption | apply kept_modDay | exact kept_mk (by assumption)
    | (extract_lets +onlyGivenNames x; refine kept_cut (q := q) (x := x) ?_ (fun _ => ?_); unfold x; clear x; rotate_left; clear_value x)
    | (extract_lets +onlyGivenNames x; clear_value x) | extract_lets +onlyGivenNames _ | split)

theorem kept_endCycle {q s a1} (h : Kept q s) : Kept q (State.endCycle s a1) := by
  unfold State.endCycle
  repeat' with_reducible (first
    | assumption | apply kept_doorEv | apply kept_inc | apply kept_countCycle | apply kept_bumpFree | apply kept_submit
    | apply kept_adapt | apply kept_sendAdapt | apply kept_modDw | exact kept_mk (by assumption)
    | (extract_lets +onlyGivenNames x; refine kept_cut (q := q) (x := x) ?_ (fun _ => ?_); unfold x; clear x; rotate_left; clear_value x)
    | (extract_lets +onlyGivenNames x; clear_value x) | extract_lets +onlyGivenNames _ | split)

theorem kept_reloadDoor {q s a1} (h : Kept q s) : Kept q (State.reloadDoor s a1) := by
  unfold State.reloadDoor
  repeat' with_reducible (first
    | assumption | apply kept_showStep | apply kept_modDw | apply kept_loadWord | exact kept_mk (by assumption)
    | refine kept_foldl ?_ (fun _ _ _ => ?_)
    | (extract_lets +onlyGivenNames x; refine kept_cut (q := q) (x := x) ?_ (fun _ => ?_); unfold x; clear x; rotate_left; clear_value x)
    | (extract_lets +onlyGivenNames x; clear_value x) | extract_lets +onlyGivenNames _)

theorem kept_returnDoor {q s a1} (h : Kept q s) : Kept q (State.returnDoor s a1) := by
  unfold State.returnDoor
  repeat' with_reducible (first
    | assumption | apply kept_reloadDoor | apply kept_modDw | exact kept_mk (by assumption)
    | (extract_lets +onlyGivenNames x; refine kept_cut (q := q) (x := x) ?_ (fun _ => ?_); unfold x; clear x; rotate_left; clear_value x)
    | (extract_lets +onlyGivenNames x; clear_value x) | extract_lets +onlyGivenNames _ | split)

theorem kept_dwGo {q s a1 a2} (h : Kept q s) : Kept q (State.dwGo s a1 a2) := by
  unfold State.dwGo
  repeat' with_reducible (first
    | assumption | apply kept_doorEv | apply kept_set | apply kept_modDw | apply kept_modCyc | apply kept_modDay
    | apply kept_startCycle | apply kept_endCycle | apply kept_setB | apply kept_reloadDoor | exact kept_mk (by assumption)
    | (extract_lets +onlyGivenNames x; refine kept_cut (q := q) (x := x) ?_ (fun _ => ?_); unfold x; clear x; rotate_left; clear_value x)
    | (extract_lets +onlyGivenNames x; clear_value x) | extract_lets +onlyGivenNames _ | split)

theorem kept_startSection {q s a1 a2} (h : Kept q s) : Kept q (State.startSection s a1 a2) := by
  unfold State.startSection
  repeat' with_reducible (first
    | assumption | apply kept_setB | apply kept_set | apply kept_modDw | exact kept_mk (by assumption)
    | (extract_lets +onlyGivenNames x; refine kept_cut (q := q) (x := x) ?_ (fun _ => ?_); unfold x; clear x; rotate_left; clear_value x)
    | (extract_lets +onlyGivenNames x; clear_value x) | extract_lets +onlyGivenNames _)

theorem kept_dropSection {q s a1} (h : Kept q s) : Kept q (State.dropSection s a1) := by
  unfold State.dropSection
  repeat' with_reducible (first
    | assumption | apply kept_modDw | apply kept_set | exact kept_mk (by assumption)
    | (extract_lets +onlyGivenNames x; refine kept_cut (q := q) (x := x) ?_ (fun _ => ?_); unfold x; clear x; rotate_left; clear_value x)
    | (extract_lets +onlyGivenNames x; clear_value x) | extract_lets +onlyGivenNames _)

theorem kept_startClose {q s a1} (h : Kept q s) : Kept q (State.startClose s a1) := by
  unfold State.startClose
  repeat' with_reducible (first
    | assumption | apply kept_setB | apply kept_startSection)

theorem kept_dropWant {q s a1} (h : Kept q s) : Kept q (State.dropWant s a1) := by
  unfold State.dropWant
  repeat' with_reducible (first
    | assumption | apply kept_dropReq | apply kept_modAx | apply kept_release | exact kept_mk (by assumption)
    | (extract_lets +onlyGivenNames x; refine kept_cut (q := q) (x := x) ?_ (fun _ => ?_); unfold x; clear x; rotate_left; clear_value x)
    | (extract_lets +onlyGivenNames x; clear_value x) | extract_lets +onlyGivenNames _ | split)

theorem kept_dropClose {q s a1} (h : Kept q s) : Kept q (State.dropClose s a1) := by
  unfold State.dropClose
  repeat' with_reducible (first
    | assumption | apply kept_setB | apply kept_set | apply kept_modDw | exact kept_mk (by assumption)
    | (extract_lets +onlyGivenNames x; refine kept_cut (q := q) (x := x) ?_ (fun _ => ?_); unfold x; clear x; rotate_left; clear_value x)
    | (extract_lets +onlyGivenNames x; clear_value x) | extract_lets +onlyGivenNames _)

theorem kept_haltDoor {q s a1} (h : Kept q s) : Kept q (State.haltDoor s a1) := by
  unfold State.haltDoor
  repeat' with_reducible (first
    | assumption | apply kept_dropWant | apply kept_dropClose | apply kept_dropSection | apply kept_stopProfile | apply kept_modDw
    | exact kept_mk (by assumption)
    | (extract_lets +onlyGivenNames x; refine kept_cut (q := q) (x := x) ?_ (fun _ => ?_); unfold x; clear x; rotate_left; clear_value x)
    | (extract_lets +onlyGivenNames x; clear_value x) | extract_lets +onlyGivenNames _)

theorem kept_dwFault {q s a1 a2 a3 a4} (h : Kept q s) : Kept q (State.dwFault s a1 a2 a3 a4) := by
  unfold State.dwFault
  repeat' with_reducible (first
    | assumption | apply kept_set | apply kept_logFault | apply kept_haltDoor | apply kept_setStep | apply kept_dwGo
    | (extract_lets +onlyGivenNames x; refine kept_cut (q := q) (x := x) ?_ (fun _ => ?_); unfold x; clear x; rotate_left; clear_value x)
    | (extract_lets +onlyGivenNames x; clear_value x) | extract_lets +onlyGivenNames _ | split)

theorem kept_dwFaultHere {q s a1 a2} (h : Kept q s) : Kept q (State.dwFaultHere s a1 a2) := by
  unfold State.dwFaultHere
  repeat' with_reducible (first
    | assumption | apply kept_dwFault)

theorem kept_isolateStep {q s a1} (h : Kept q s) : Kept q (State.isolateStep s a1) := by
  unfold State.isolateStep
  repeat' with_reducible (first
    | assumption | apply kept_setStep | exact kept_mk (by assumption)
    | (extract_lets +onlyGivenNames x; refine kept_cut (q := q) (x := x) ?_ (fun _ => ?_); unfold x; clear x; rotate_left; clear_value x)
    | (extract_lets +onlyGivenNames x; clear_value x) | extract_lets +onlyGivenNames _ | split)

theorem kept_determineStep {q s a1} (h : Kept q s) : Kept q (State.determineStep s a1) := by
  unfold State.determineStep
  repeat' with_reducible (first
    | assumption | apply kept_setStep | apply kept_loadRef
    | (extract_lets +onlyGivenNames x; refine kept_cut (q := q) (x := x) ?_ (fun _ => ?_); unfold x; clear x; rotate_left; clear_value x)
    | (extract_lets +onlyGivenNames x; clear_value x) | extract_lets +onlyGivenNames _ | split)

theorem kept_determine {q s a1} (h : Kept q s) : Kept q (State.determine s a1) := by
  unfold State.determine
  repeat' with_reducible (first
    | assumption | apply kept_determineStep | apply kept_loadRef | apply kept_dwGo
    | (extract_lets +onlyGivenNames x; refine kept_cut (q := q) (x := x) ?_ (fun _ => ?_); unfold x; clear x; rotate_left; clear_value x)
    | (extract_lets +onlyGivenNames x; clear_value x) | extract_lets +onlyGivenNames _ | split)

theorem kept_placeDet {q s a1 a2} (h : Kept q s) : Kept q (State.placeDet s a1 a2) := by
  unfold State.placeDet
  repeat' with_reducible (first
    | assumption | apply kept_modDw | exact kept_mk (by assumption)
    | (extract_lets +onlyGivenNames x; refine kept_cut (q := q) (x := x) ?_ (fun _ => ?_); unfold x; clear x; rotate_left; clear_value x)
    | (extract_lets +onlyGivenNames x; clear_value x) | extract_lets +onlyGivenNames _)

theorem kept_learnAbort {q s a1} (h : Kept q s) : Kept q (State.learnAbort s a1) := by
  unfold State.learnAbort
  repeat' with_reducible (first
    | assumption | apply kept_setB | apply kept_set | apply kept_dwGo | apply kept_modDw | exact kept_mk (by assumption)
    | (extract_lets +onlyGivenNames x; refine kept_cut (q := q) (x := x) ?_ (fun _ => ?_); unfold x; clear x; rotate_left; clear_value x)
    | (extract_lets +onlyGivenNames x; clear_value x) | extract_lets +onlyGivenNames _)

theorem kept_obstacleStop {q s a1} (h : Kept q s) : Kept q (State.obstacleStop s a1) := by
  unfold State.obstacleStop
  repeat' with_reducible (first
    | assumption | apply kept_modDw | apply kept_stopObstacle | apply kept_dropWant | exact kept_mk (by assumption)
    | (extract_lets +onlyGivenNames x; refine kept_cut (q := q) (x := x) ?_ (fun _ => ?_); unfold x; clear x; rotate_left; clear_value x)
    | (extract_lets +onlyGivenNames x; clear_value x) | extract_lets +onlyGivenNames _)

theorem kept_obstEvent {q s a1} (h : Kept q s) : Kept q (State.obstEvent s a1) := by
  unfold State.obstEvent
  repeat' with_reducible (first
    | assumption | apply kept_modCyc | apply kept_doorEv | exact kept_mk (by assumption)
    | (extract_lets +onlyGivenNames x; refine kept_cut (q := q) (x := x) ?_ (fun _ => ?_); unfold x; clear x; rotate_left; clear_value x)
    | (extract_lets +onlyGivenNames x; clear_value x) | extract_lets +onlyGivenNames _)

theorem kept_obstacleMarks {q s a1 a2} (h : Kept q s) : Kept q (State.obstacleMarks s a1 a2) := by
  unfold State.obstacleMarks
  repeat' with_reducible (first
    | assumption | apply kept_modCyc | apply kept_set | apply kept_modDw | apply kept_obstEvent | exact kept_mk (by assumption)
    | (extract_lets +onlyGivenNames x; refine kept_cut (q := q) (x := x) ?_ (fun _ => ?_); unfold x; clear x; rotate_left; clear_value x)
    | (extract_lets +onlyGivenNames x; clear_value x) | extract_lets +onlyGivenNames _ | split)

theorem kept_closingObstacle {q s a1 a2} (h : Kept q s) : Kept q (State.closingObstacle s a1 a2) := by
  unfold State.closingObstacle
  repeat' with_reducible (first
    | assumption | apply kept_obstacleStop | apply kept_inc | apply kept_obstacleMarks | apply kept_dropClose
    | apply kept_dropSection | apply kept_dwGo | apply kept_modDw | apply kept_startSection | exact kept_mk (by assumption)
    | (extract_lets +onlyGivenNames x; refine kept_cut (q := q) (x := x) ?_ (fun _ => ?_); unfold x; clear x; rotate_left; clear_value x)
    | (extract_lets +onlyGivenNames x; clear_value x) | extract_lets +onlyGivenNames _ | split)

theorem kept_obstacle {q s a1 a2} (h : Kept q s) : Kept q (State.obstacle s a1 a2) := by
  unfold State.obstacle
  repeat' with_reducible (first
    | assumption | apply kept_closingObstacle | apply kept_dwGo | apply kept_dropSection | apply kept_obstacleStop
    | apply kept_obstacleMarks | apply kept_modDw | apply kept_learnAbort | apply kept_stopProfile | apply kept_dropWant
    | apply kept_dropClose | exact kept_mk (by assumption)
    | (extract_lets +onlyGivenNames x; refine kept_cut (q := q) (x := x) ?_ (fun _ => ?_); unfold x; clear x; rotate_left; clear_value x)
    | (extract_lets +onlyGivenNames x; clear_value x) | extract_lets +onlyGivenNames _ | split)

theorem kept_takeDets {q s a1} (h : Kept q s) : Kept q (State.takeDets s a1) := by
  unfold State.takeDets
  repeat' with_reducible (first
    | assumption | apply kept_obstacle | apply kept_modDw | exact kept_mk (by assumption) | refine kept_foldl ?_ (fun _ _ _ => ?_)
    | (extract_lets +onlyGivenNames x; refine kept_cut (q := q) (x := x) ?_ (fun _ => ?_); unfold x; clear x; rotate_left; clear_value x)
    | (extract_lets +onlyGivenNames x; clear_value x) | extract_lets +onlyGivenNames _ | split)

theorem kept_obstacleRest {q s a1} (h : Kept q s) : Kept q (State.obstacleRest s a1) := by
  unfold State.obstacleRest
  repeat' with_reducible (first
    | assumption | apply kept_modDw | apply kept_setWant | exact kept_mk (by assumption)
    | (extract_lets +onlyGivenNames x; refine kept_cut (q := q) (x := x) ?_ (fun _ => ?_); unfold x; clear x; rotate_left; clear_value x)
    | (extract_lets +onlyGivenNames x; clear_value x) | extract_lets +onlyGivenNames _ | split)

theorem kept_learnWant {q s a1 a2} (h : Kept q s) : Kept q (State.learnWant s a1 a2) := by
  unfold State.learnWant
  repeat' with_reducible (first
    | assumption | apply kept_setWant
    | (extract_lets +onlyGivenNames x; refine kept_cut (q := q) (x := x) ?_ (fun _ => ?_); unfold x; clear x; rotate_left; clear_value x)
    | (extract_lets +onlyGivenNames x; clear_value x) | extract_lets +onlyGivenNames _ | split)

theorem kept_learnStart {q s a1} (h : Kept q s) : Kept q (State.learnStart s a1) := by
  unfold State.learnStart
  repeat' with_reducible (first
    | assumption | apply kept_dwGo | apply kept_modDw | apply kept_set | apply kept_setB | apply kept_learnWant
    | exact kept_mk (by assumption)
    | (extract_lets +onlyGivenNames x; refine kept_cut (q := q) (x := x) ?_ (fun _ => ?_); unfold x; clear x; rotate_left; clear_value x)
    | (extract_lets +onlyGivenNames x; clear_value x) | extract_lets +onlyGivenNames _ | split)

theorem kept_learnFinish {q s a1} (h : Kept q s) : Kept q (State.learnFinish s a1) := by
  unfold State.learnFinish
  repeat' with_reducible (first
    | assumption | apply kept_setB | apply kept_set | apply kept_installModel | apply kept_learnCommit | apply kept_judgeModels
    | apply kept_modDw | apply kept_dwGo | exact kept_mk (by assumption) | refine kept_foldl ?_ (fun _ _ _ => ?_)
    | (extract_lets +onlyGivenNames x; refine kept_cut (q := q) (x := x) ?_ (fun _ => ?_); unfold x; clear x; rotate_left; clear_value x)
    | (extract_lets +onlyGivenNames x; clear_value x) | extract_lets +onlyGivenNames _ | split)

theorem kept_learnNext {q s a1 a2} (h : Kept q s) : Kept q (State.learnNext s a1 a2) := by
  unfold State.learnNext
  repeat' with_reducible (first
    | assumption | apply kept_modDw | apply kept_learnWant | apply kept_learnFinish | exact kept_mk (by assumption)
    | (extract_lets +onlyGivenNames x; refine kept_cut (q := q) (x := x) ?_ (fun _ => ?_); unfold x; clear x; rotate_left; clear_value x)
    | (extract_lets +onlyGivenNames x; clear_value x) | extract_lets +onlyGivenNames _ | split)

theorem kept_learnTimeout {q s a1} (h : Kept q s) : Kept q (State.learnTimeout s a1) := by
  unfold State.learnTimeout
  repeat' with_reducible (first
    | assumption | apply kept_haltDoor | apply kept_setB | apply kept_set | apply kept_dwGo | apply kept_modDw
    | exact kept_mk (by assumption)
    | (extract_lets +onlyGivenNames x; refine kept_cut (q := q) (x := x) ?_ (fun _ => ?_); unfold x; clear x; rotate_left; clear_value x)
    | (extract_lets +onlyGivenNames x; clear_value x) | extract_lets +onlyGivenNames _)

theorem kept_doorEnded {q s a1 a2} (h : Kept q s) : Kept q (State.doorEnded s a1 a2) := by
  unfold State.doorEnded
  repeat' with_reducible (first
    | assumption | apply kept_setB | apply kept_placeDet
    | (extract_lets +onlyGivenNames x; refine kept_cut (q := q) (x := x) ?_ (fun _ => ?_); unfold x; clear x; rotate_left; clear_value x)
    | (extract_lets +onlyGivenNames x; clear_value x) | extract_lets +onlyGivenNames _ | split)

theorem kept_noteClean {q s a1 a2} (h : Kept q s) : Kept q (State.noteClean s a1 a2) := by
  unfold State.noteClean
  repeat' with_reducible (first
    | assumption | apply kept_modDay | exact kept_mk (by assumption)
    | (extract_lets +onlyGivenNames x; refine kept_cut (q := q) (x := x) ?_ (fun _ => ?_); unfold x; clear x; rotate_left; clear_value x)
    | (extract_lets +onlyGivenNames x; clear_value x) | extract_lets +onlyGivenNames _ | split)

theorem kept_stepEnded {q s a1 a2} (h : Kept q s) : Kept q (State.stepEnded s a1 a2) := by
  unfold State.stepEnded
  repeat' with_reducible (first
    | assumption | apply kept_modCyc | apply kept_setStep | apply kept_doorEv | apply kept_setB | apply kept_obstEvent
    | apply kept_modDw | apply kept_dwFaultHere | apply kept_setWant | exact kept_mk (by assumption)
    | (extract_lets +onlyGivenNames x; refine kept_cut (q := q) (x := x) ?_ (fun _ => ?_); unfold x; clear x; rotate_left; clear_value x)
    | (extract_lets +onlyGivenNames x; clear_value x) | extract_lets +onlyGivenNames _ | split)

theorem kept_stepLatch {q s a1} (h : Kept q s) : Kept q (State.stepLatch s a1) := by
  unfold State.stepLatch
  repeat' with_reducible (first
    | assumption | apply kept_setStep | apply kept_modDw | apply kept_setB | exact kept_mk (by assumption)
    | (extract_lets +onlyGivenNames x; refine kept_cut (q := q) (x := x) ?_ (fun _ => ?_); unfold x; clear x; rotate_left; clear_value x)
    | (extract_lets +onlyGivenNames x; clear_value x) | extract_lets +onlyGivenNames _ | split)

theorem kept_latchLate {q s a1} (h : Kept q s) : Kept q (State.latchLate s a1) := by
  unfold State.latchLate
  repeat' with_reducible (first
    | assumption | apply kept_dwFaultHere | apply kept_modDw | exact kept_mk (by assumption)
    | (extract_lets +onlyGivenNames x; refine kept_cut (q := q) (x := x) ?_ (fun _ => ?_); unfold x; clear x; rotate_left; clear_value x)
    | (extract_lets +onlyGivenNames x; clear_value x) | extract_lets +onlyGivenNames _ | split)

theorem kept_homingNoStall {q s a1} (h : Kept q s) : Kept q (State.homingNoStall s a1) := by
  unfold State.homingNoStall
  repeat' with_reducible (first
    | assumption | apply kept_dwFaultHere | apply kept_set | apply kept_haltAxis | exact kept_mk (by assumption)
    | (extract_lets +onlyGivenNames x; refine kept_cut (q := q) (x := x) ?_ (fun _ => ?_); unfold x; clear x; rotate_left; clear_value x)
    | (extract_lets +onlyGivenNames x; clear_value x) | extract_lets +onlyGivenNames _ | split)

theorem kept_learnStall {q s a1 a2} (h : Kept q s) : Kept q (State.learnStall s a1 a2) := by
  unfold State.learnStall
  repeat' with_reducible (first
    | assumption | apply kept_placeDet | apply kept_learnNext | exact kept_mk (by assumption)
    | (extract_lets +onlyGivenNames x; refine kept_cut (q := q) (x := x) ?_ (fun _ => ?_); unfold x; clear x; rotate_left; clear_value x)
    | (extract_lets +onlyGivenNames x; clear_value x) | extract_lets +onlyGivenNames _ | split)

theorem kept_judgeEnd {q s a1} (h : Kept q s) : Kept q (State.judgeEnd s a1) := by
  unfold State.judgeEnd
  repeat' with_reducible (first
    | assumption | apply kept_modAx | apply kept_learnAbort | apply kept_haltDoor | apply kept_learnStall | apply kept_learnNext
    | apply kept_stepEnded | apply kept_noteClean | apply kept_doorEnded | exact kept_mk (by assumption)
    | (extract_lets +onlyGivenNames x; refine kept_cut (q := q) (x := x) ?_ (fun _ => ?_); unfold x; clear x; rotate_left; clear_value x)
    | (extract_lets +onlyGivenNames x; clear_value x) | extract_lets +onlyGivenNames _ | split)

theorem kept_showFaultActive {q s a1} (h : Kept q s) : Kept q (State.showFaultActive s a1) := by
  unfold State.showFaultActive
  repeat' with_reducible (first
    | assumption | apply kept_setB | exact kept_mk (by assumption)
    | (extract_lets +onlyGivenNames x; refine kept_cut (q := q) (x := x) ?_ (fun _ => ?_); unfold x; clear x; rotate_left; clear_value x)
    | (extract_lets +onlyGivenNames x; clear_value x) | extract_lets +onlyGivenNames _ | split)

theorem kept_doOpen {q s a1} (h : Kept q s) : Kept q (State.doOpen s a1) := by
  unfold State.doOpen
  repeat' with_reducible (first
    | assumption | apply kept_dwGo | apply kept_modDw | apply kept_dropClose | apply kept_dropWant | apply kept_dropSection
    | apply kept_startSection | exact kept_mk (by assumption)
    | (extract_lets +onlyGivenNames x; refine kept_cut (q := q) (x := x) ?_ (fun _ => ?_); unfold x; clear x; rotate_left; clear_value x)
    | (extract_lets +onlyGivenNames x; clear_value x) | extract_lets +onlyGivenNames _ | split)

theorem kept_doStop {q s a1} (h : Kept q s) : Kept q (State.doStop s a1) := by
  unfold State.doStop
  repeat' with_reducible (first
    | assumption | apply kept_dwGo | apply kept_haltDoor | apply kept_learnAbort | exact kept_mk (by assumption)
    | (extract_lets +onlyGivenNames x; refine kept_cut (q := q) (x := x) ?_ (fun _ => ?_); unfold x; clear x; rotate_left; clear_value x)
    | (extract_lets +onlyGivenNames x; clear_value x) | extract_lets +onlyGivenNames _ | split)

theorem kept_markClose {q s a1 a2} (h : Kept q s) : Kept q (State.markClose s a1 a2) := by
  unfold State.markClose
  repeat' with_reducible (first
    | assumption | apply kept_modDw | exact kept_mk (by assumption)
    | (extract_lets +onlyGivenNames x; refine kept_cut (q := q) (x := x) ?_ (fun _ => ?_); unfold x; clear x; rotate_left; clear_value x)
    | (extract_lets +onlyGivenNames x; clear_value x) | extract_lets +onlyGivenNames _ | split)

theorem kept_doClose {q s a1 a2} (h : Kept q s) : Kept q (State.doClose s a1 a2) := by
  unfold State.doClose
  repeat' with_reducible (first
    | assumption | apply kept_markClose | apply kept_startClose | apply kept_modDw | apply kept_dwGo | apply kept_haltDoor
    | exact kept_mk (by assumption)
    | (extract_lets +onlyGivenNames x; refine kept_cut (q := q) (x := x) ?_ (fun _ => ?_); unfold x; clear x; rotate_left; clear_value x)
    | (extract_lets +onlyGivenNames x; clear_value x) | extract_lets +onlyGivenNames _ | split)

theorem kept_clearPortOf {q s a1} (h : Kept q s) : Kept q (State.clearPortOf s a1) := by
  unfold State.clearPortOf
  repeat' with_reducible (first
    | assumption | apply kept_clearPort | exact kept_mk (by assumption)
    | (extract_lets +onlyGivenNames x; refine kept_cut (q := q) (x := x) ?_ (fun _ => ?_); unfold x; clear x; rotate_left; clear_value x)
    | (extract_lets +onlyGivenNames x; clear_value x) | extract_lets +onlyGivenNames _ | split)

theorem kept_clearDrives {q s a1} (h : Kept q s) : Kept q (State.clearDrives s a1) := by
  unfold State.clearDrives
  repeat' with_reducible (first
    | assumption | apply kept_clearAxis | apply kept_clearPortOf)

theorem kept_doRestore {q s a1} (h : Kept q s) : Kept q (State.doRestore s a1) := by
  unfold State.doRestore
  repeat' with_reducible (first
    | assumption | apply kept_clearDrives | apply kept_set | apply kept_modDw | apply kept_determine | apply kept_restoreSaf
    | exact kept_mk (by assumption)
    | (extract_lets +onlyGivenNames x; refine kept_cut (q := q) (x := x) ?_ (fun _ => ?_); unfold x; clear x; rotate_left; clear_value x)
    | (extract_lets +onlyGivenNames x; clear_value x) | extract_lets +onlyGivenNames _ | split)

theorem kept_doHome {q s a1 a2} (h : Kept q s) : Kept q (State.doHome s a1 a2) := by
  unfold State.doHome
  repeat' with_reducible (first
    | assumption | apply kept_modDw | apply kept_haltDoor | apply kept_dwGo | apply kept_startSection
    | exact kept_mk (by assumption)
    | (extract_lets +onlyGivenNames x; refine kept_cut (q := q) (x := x) ?_ (fun _ => ?_); unfold x; clear x; rotate_left; clear_value x)
    | (extract_lets +onlyGivenNames x; clear_value x) | extract_lets +onlyGivenNames _ | split)

theorem kept_perform {q s a1 a2 a3} (h : Kept q s) : Kept q (State.perform s a1 a2 a3) := by
  unfold State.perform
  repeat' with_reducible (first
    | assumption | apply kept_doOpen | apply kept_doClose | apply kept_doStop | apply kept_dwGo | apply kept_isolateStep
    | apply kept_haltDoor | apply kept_doRestore | apply kept_doHome | apply kept_modDw | exact kept_mk (by assumption)
    | (extract_lets +onlyGivenNames x; refine kept_cut (q := q) (x := x) ?_ (fun _ => ?_); unfold x; clear x; rotate_left; clear_value x)
    | (extract_lets +onlyGivenNames x; clear_value x) | extract_lets +onlyGivenNames _ | split)

theorem kept_answer {q s a1 a2 a3} (h : Kept q s) : Kept q (State.answer s a1 a2 a3) := by
  unfold State.answer
  repeat' with_reducible (first
    | assumption | apply kept_set | apply kept_incWrap | exact kept_mk (by assumption)
    | (extract_lets +onlyGivenNames x; refine kept_cut (q := q) (x := x) ?_ (fun _ => ?_); unfold x; clear x; rotate_left; clear_value x)
    | (extract_lets +onlyGivenNames x; clear_value x) | extract_lets +onlyGivenNames _ | split)

theorem kept_command {q s a1 a2} (h : Kept q s) : Kept q (State.command s a1 a2) := by
  unfold State.command
  repeat' with_reducible (first
    | assumption | apply kept_answer | apply kept_set | apply kept_perform | apply kept_incWrap
    | (extract_lets +onlyGivenNames x; refine kept_cut (q := q) (x := x) ?_ (fun _ => ?_); unfold x; clear x; rotate_left; clear_value x)
    | (extract_lets +onlyGivenNames x; clear_value x) | extract_lets +onlyGivenNames _ | split)

theorem kept_offer {q s a1 a2} (h : Kept q s) : Kept q (State.offer s a1 a2) := by
  unfold State.offer
  repeat' with_reducible (first
    | assumption | apply kept_modDw | exact kept_mk (by assumption)
    | (extract_lets +onlyGivenNames x; refine kept_cut (q := q) (x := x) ?_ (fun _ => ?_); unfold x; clear x; rotate_left; clear_value x)
    | (extract_lets +onlyGivenNames x; clear_value x) | extract_lets +onlyGivenNames _ | split)

theorem kept_arbitrate {q s a1} (h : Kept q s) : Kept q (State.arbitrate s a1) := by
  unfold State.arbitrate
  repeat' with_reducible (first
    | assumption | apply kept_modDw | apply kept_answer | apply kept_command | exact kept_mk (by assumption)
    | refine kept_foldl ?_ (fun _ _ _ => ?_)
    | (extract_lets +onlyGivenNames x; refine kept_cut (q := q) (x := x) ?_ (fun _ => ?_); unfold x; clear x; rotate_left; clear_value x)
    | (extract_lets +onlyGivenNames x; clear_value x) | extract_lets +onlyGivenNames _ | split)

end Sys2Proof.Machine
end

