-- ==== Sys2Proof/Laws/KeptRecipe.lean ====
section
/-! SUPPORT. One lemma per operation of Machine/Recipe.lean that answers a state: it leaves the queue alone and keeps the register
window canonical; per meaning: it completes, and so does its state. -/

namespace Sys2Proof.Machine

theorem kept_noteGap {q s a1 a2} (h : Kept q s) : Kept q (State.noteGap s a1 a2) := by
  unfold State.noteGap
  repeat' with_reducible (first
    | assumption | apply kept_modCyc | apply kept_setDegr | exact kept_mk (by assumption)
    | (extract_lets +onlyGivenNames x; refine kept_cut (q := q) (x := x) ?_ (fun _ => ?_); unfold x; clear x; rotate_left; clear_value x)
    | (extract_lets +onlyGivenNames x; clear_value x) | extract_lets +onlyGivenNames _ | split)

theorem kept_afterReopen {q s a1} (h : Kept q s) : Kept q (State.afterReopen s a1) := by
  unfold State.afterReopen
  repeat' with_reducible (first
    | assumption | apply kept_startClose | apply kept_modDw | apply kept_setB | exact kept_mk (by assumption)
    | (extract_lets +onlyGivenNames x; refine kept_cut (q := q) (x := x) ?_ (fun _ => ?_); unfold x; clear x; rotate_left; clear_value x)
    | (extract_lets +onlyGivenNames x; clear_value x) | extract_lets +onlyGivenNames _ | split)

theorem kept_afterClose {q s a1} (h : Kept q s) : Kept q (State.afterClose s a1) := by
  unfold State.afterClose
  repeat' with_reducible (first
    | assumption | apply kept_set | apply kept_modDw | apply kept_setB | apply kept_modCyc | apply kept_dwGo
    | exact kept_mk (by assumption)
    | (extract_lets +onlyGivenNames x; refine kept_cut (q := q) (x := x) ?_ (fun _ => ?_); unfold x; clear x; rotate_left; clear_value x)
    | (extract_lets +onlyGivenNames x; clear_value x) | extract_lets +onlyGivenNames _ | split)

theorem kept_sectionEnd {q s a1} (h : Kept q s) : Kept q (State.sectionEnd s a1) := by
  unfold State.sectionEnd
  repeat' with_reducible (first
    | assumption | apply kept_dropSection | apply kept_dwGo | apply kept_set | apply kept_modDw | apply kept_afterClose
    | apply kept_afterReopen | apply kept_setB | exact kept_mk (by assumption)
    | (extract_lets +onlyGivenNames x; refine kept_cut (q := q) (x := x) ?_ (fun _ => ?_); unfold x; clear x; rotate_left; clear_value x)
    | (extract_lets +onlyGivenNames x; clear_value x) | extract_lets +onlyGivenNames _ | split)

theorem kept_gotoStep {q s a1 a2} (h : Kept q s) : Kept q (State.gotoStep s a1 a2) := by
  unfold State.gotoStep
  repeat' with_reducible (first
    | assumption | apply kept_modDw | apply kept_set | exact kept_mk (by assumption)
    | (extract_lets +onlyGivenNames x; refine kept_cut (q := q) (x := x) ?_ (fun _ => ?_); unfold x; clear x; rotate_left; clear_value x)
    | (extract_lets +onlyGivenNames x; clear_value x) | extract_lets +onlyGivenNames _)

theorem kept_nextStep {q s a1} (h : Kept q s) : Kept q (State.nextStep s a1) := by
  unfold State.nextStep
  repeat' with_reducible (first
    | assumption | apply kept_gotoStep)

theorem kept_countStep {q s a1} (h : Kept q s) : Kept q (State.countStep s a1) := by
  unfold State.countStep
  repeat' with_reducible (first
    | assumption | apply kept_modDw | exact kept_mk (by assumption)
    | (extract_lets +onlyGivenNames x; refine kept_cut (q := q) (x := x) ?_ (fun _ => ?_); unfold x; clear x; rotate_left; clear_value x)
    | (extract_lets +onlyGivenNames x; clear_value x) | extract_lets +onlyGivenNames _)

theorem kept_beginWait {q s a1} (h : Kept q s) : Kept q (State.beginWait s a1) := by
  unfold State.beginWait
  repeat' with_reducible (first
    | assumption | apply kept_modDw | apply kept_setB | exact kept_mk (by assumption)
    | (extract_lets +onlyGivenNames x; refine kept_cut (q := q) (x := x) ?_ (fun _ => ?_); unfold x; clear x; rotate_left; clear_value x)
    | (extract_lets +onlyGivenNames x; clear_value x) | extract_lets +onlyGivenNames _ | split)

theorem kept_waitOut {q s a1 a2} (h : Kept q s) : Kept q (State.waitOut s a1 a2) := by
  unfold State.waitOut
  repeat' with_reducible (first
    | assumption | apply kept_nextStep | apply kept_setB | split)

theorem kept_keepWaiting {q s a1 a2} (h : Kept q s) : Kept q (State.keepWaiting s a1 a2).1 := by
  unfold State.keepWaiting
  repeat' with_reducible (first
    | assumption | apply kept_nextStep | apply kept_waitOut | exact kept_mk (by assumption)
    | (extract_lets +onlyGivenNames x; refine kept_cut (q := q) (x := x) ?_ (fun _ => ?_); unfold x; clear x; rotate_left; clear_value x)
    | (extract_lets +onlyGivenNames x; clear_value x) | extract_lets +onlyGivenNames _ | dsimp -zeta only | split)

theorem kept_recipeLoad {q s a1 a2 a3} (h : Kept q s) : Kept q (State.recipeLoad s a1 a2 a3) := by
  unfold State.recipeLoad
  repeat' with_reducible (first
    | assumption | apply kept_demandOn | apply kept_setB | apply kept_setDemand | exact kept_mk (by assumption)
    | (extract_lets +onlyGivenNames x; refine kept_cut (q := q) (x := x) ?_ (fun _ => ?_); unfold x; clear x; rotate_left; clear_value x)
    | (extract_lets +onlyGivenNames x; clear_value x) | extract_lets +onlyGivenNames _ | split)

theorem kept_startTimed {q s a1 a2} (h : Kept q s) : Kept q (State.startTimed s a1 a2).1 := by
  unfold State.startTimed
  repeat' with_reducible (first
    | assumption | apply kept_setB | apply kept_nextStep | apply kept_countStep | apply kept_beginWait
    | (extract_lets +onlyGivenNames x; refine kept_cut (q := q) (x := x) ?_ (fun _ => ?_); unfold x; clear x; rotate_left; clear_value x)
    | (extract_lets +onlyGivenNames x; clear_value x) | extract_lets +onlyGivenNames _ | dsimp -zeta only | split)

theorem kept_reachEnd {q s a1} (h : Kept q s) : Kept q (State.reachEnd s a1) := by
  unfold State.reachEnd
  repeat' with_reducible (first
    | assumption | apply kept_sectionEnd | split)

theorem kept_runStep {q s a1} (h : Kept q s) : Kept q (State.runStep s a1).1 := by
  unfold State.runStep
  repeat' with_reducible (first
    | assumption | apply kept_keepWaiting | apply kept_reachEnd | apply kept_setWant | apply kept_noteGap | apply kept_nextStep
    | apply kept_countStep | apply kept_beginWait | apply kept_recipeLoad | apply kept_gotoStep | apply kept_startTimed
    | refine kept_of_fst (kept_keepWaiting ?_) (by assumption) | refine kept_of_fst (kept_startTimed ?_) (by assumption)
    | exact kept_mk (by assumption)
    | (extract_lets +onlyGivenNames x; refine kept_cut (q := q) (x := x) ?_ (fun _ => ?_); unfold x; clear x; rotate_left; clear_value x)
    | (extract_lets +onlyGivenNames x; clear_value x) | extract_lets +onlyGivenNames _ | dsimp -zeta only | split)

theorem kept_runaway {q s a1} (h : Kept q s) : Kept q (State.runaway s a1) := by
  unfold State.runaway
  repeat' with_reducible (first
    | assumption | apply kept_dwFaultHere | exact kept_mk (by assumption)
    | (extract_lets +onlyGivenNames x; refine kept_cut (q := q) (x := x) ?_ (fun _ => ?_); unfold x; clear x; rotate_left; clear_value x)
    | (extract_lets +onlyGivenNames x; clear_value x) | extract_lets +onlyGivenNames _ | split)

theorem kept_runSteps {q k n} : ∀ {s : State}, Kept q s → Kept q (State.runSteps k s n) := by
  induction k with
  | zero => exact fun h => h
  | succ k ih =>
    intro s h
    unfold State.runSteps
    split
    · rename_i t e
      have ht : Kept q t := kept_of_fst (kept_runStep h) e
      dsimp only
      split
      · exact ih (kept_runaway ht)
      · exact kept_runaway ht
    · rename_i t e
      exact kept_of_fst (kept_runStep h) e

theorem kept_validateRecipe {q s a1} (h : Kept q s) : Kept q (State.validateRecipe s a1).1 := by
  unfold State.validateRecipe
  repeat' with_reducible (first
    | assumption | apply kept_set | apply kept_setB | exact kept_mk (by assumption)
    | (extract_lets +onlyGivenNames x; refine kept_cut (q := q) (x := x) ?_ (fun _ => ?_); unfold x; clear x; rotate_left; clear_value x)
    | (extract_lets +onlyGivenNames x; clear_value x) | extract_lets +onlyGivenNames _ | dsimp -zeta only | split)

theorem kept_loadReference {q s a1} (h : Kept q s) : Kept q (State.loadReference s a1) := by
  unfold State.loadReference
  repeat' with_reducible (first
    | assumption | apply kept_reject | apply kept_set | refine kept_foldl ?_ (fun _ _ _ => ?_)
    | (extract_lets +onlyGivenNames x; refine kept_cut (q := q) (x := x) ?_ (fun _ => ?_); unfold x; clear x; rotate_left; clear_value x)
    | (extract_lets +onlyGivenNames x; clear_value x) | extract_lets +onlyGivenNames _ | split)

theorem kept_recipeOp {q s a1 a2} (h : Kept q s) : Kept q (State.recipeOp s a1 a2) := by
  unfold State.recipeOp
  repeat' with_reducible (first
    | assumption | apply kept_runStep | apply kept_runaway | refine kept_of_fst (kept_runStep ?_) (by assumption)
    | exact kept_mk (by assumption)
    | (extract_lets +onlyGivenNames x; refine kept_cut (q := q) (x := x) ?_ (fun _ => ?_); unfold x; clear x; rotate_left; clear_value x)
    | (extract_lets +onlyGivenNames x; clear_value x) | extract_lets +onlyGivenNames _ | split)

theorem kept_execRecipeEnd {q a1 s} (h : Kept q s) : Answers q (execRecipeEnd a1 s) := by
  unfold execRecipeEnd
  repeat' with_reducible (first
    | assumption | intro _ | apply answers_next | apply kept_whenDoor | apply kept_recipeOp)

theorem kept_execRecipeMove {q a1 s} (h : Kept q s) : Answers q (execRecipeMove a1 s) := by
  unfold execRecipeMove
  repeat' with_reducible (first
    | assumption | intro _ | apply answers_next | apply kept_whenDoor | apply kept_recipeOp)

theorem kept_execRecipeHome {q a1 s} (h : Kept q s) : Answers q (execRecipeHome a1 s) := by
  unfold execRecipeHome
  repeat' with_reducible (first
    | assumption | intro _ | apply answers_next | apply kept_whenDoor | apply kept_recipeOp)

theorem kept_execRecipeSetLs {q a1 s} (h : Kept q s) : Answers q (execRecipeSetLs a1 s) := by
  unfold execRecipeSetLs
  repeat' with_reducible (first
    | assumption | intro _ | apply answers_next | apply kept_whenDoor | apply kept_recipeOp)

theorem kept_execRecipeClrLs {q a1 s} (h : Kept q s) : Answers q (execRecipeClrLs a1 s) := by
  unfold execRecipeClrLs
  repeat' with_reducible (first
    | assumption | intro _ | apply answers_next | apply kept_whenDoor | apply kept_recipeOp)

theorem kept_execRecipeWaitDi {q a1 s} (h : Kept q s) : Answers q (execRecipeWaitDi a1 s) := by
  unfold execRecipeWaitDi
  repeat' with_reducible (first
    | assumption | intro _ | apply answers_next | apply kept_whenDoor | apply kept_recipeOp)

theorem kept_execRecipeWaitPos {q a1 s} (h : Kept q s) : Answers q (execRecipeWaitPos a1 s) := by
  unfold execRecipeWaitPos
  repeat' with_reducible (first
    | assumption | intro _ | apply answers_next | apply kept_whenDoor | apply kept_recipeOp)

theorem kept_execRecipeWaitPorch {q a1 s} (h : Kept q s) : Answers q (execRecipeWaitPorch a1 s) := by
  unfold execRecipeWaitPorch
  repeat' with_reducible (first
    | assumption | intro _ | apply answers_next | apply kept_whenDoor | apply kept_recipeOp)

theorem kept_execRecipeDelay {q a1 s} (h : Kept q s) : Answers q (execRecipeDelay a1 s) := by
  unfold execRecipeDelay
  repeat' with_reducible (first
    | assumption | intro _ | apply answers_next | apply kept_whenDoor | apply kept_recipeOp)

theorem kept_execRecipeBranch {q a1 s} (h : Kept q s) : Answers q (execRecipeBranch a1 s) := by
  unfold execRecipeBranch
  repeat' with_reducible (first
    | assumption | intro _ | apply answers_next | apply kept_whenDoor | apply kept_recipeOp)

theorem kept_execDelayExpired {q a1 s} (h : Kept q s) : Answers q (execDelayExpired a1 s) := by
  unfold execDelayExpired
  repeat' with_reducible (first
    | assumption | intro _ | apply answers_next | apply kept_whenDoor | apply kept_nextStep | exact kept_mk (by assumption)
    | (extract_lets +onlyGivenNames x; refine kept_cut (q := q) (x := x) ?_ (fun _ => ?_); unfold x; clear x; rotate_left; clear_value x)
    | (extract_lets +onlyGivenNames x; clear_value x) | extract_lets +onlyGivenNames _ | split)

theorem kept_execWaitTimeout {q a1 s} (h : Kept q s) : Answers q (execWaitTimeout a1 s) := by
  unfold execWaitTimeout
  repeat' with_reducible (first
    | assumption | intro _ | apply answers_next | apply kept_whenDoor | apply kept_nextStep | apply kept_setB | split)

theorem kept_execRecipeRunaway {q a1 s} (h : Kept q s) : Answers q (execRecipeRunaway a1 s) := by
  unfold execRecipeRunaway
  repeat' with_reducible (first
    | assumption | intro _ | apply answers_next | apply kept_whenDoor | apply kept_dwFaultHere | exact kept_mk (by assumption)
    | (extract_lets +onlyGivenNames x; refine kept_cut (q := q) (x := x) ?_ (fun _ => ?_); unfold x; clear x; rotate_left; clear_value x)
    | (extract_lets +onlyGivenNames x; clear_value x) | extract_lets +onlyGivenNames _ | split)

theorem kept_execLoadRef {q a1 s} (h : Kept q s) : Answers q (execLoadRef a1 s) := by
  unfold execLoadRef
  repeat' with_reducible (first
    | assumption | apply answers_next | apply kept_loadReference | split)

theorem kept_execDoorwayReload {q a1 s} (h : Kept q s) : Answers q (execDoorwayReload a1 s) := by
  unfold execDoorwayReload
  repeat' with_reducible (first
    | assumption | apply answers_next | apply kept_returnDoor | exact kept_mk (by assumption)
    | (extract_lets +onlyGivenNames x; refine kept_cut (q := q) (x := x) ?_ (fun _ => ?_); unfold x; clear x; rotate_left; clear_value x)
    | (extract_lets +onlyGivenNames x; clear_value x) | extract_lets +onlyGivenNames _ | split)

end Sys2Proof.Machine
end

