-- ==== Sys2Proof/Laws/KeptPorch.lean ====
section
/-! SUPPORT. One lemma per operation of Machine/Porch.lean that answers a state: it leaves the queue alone and keeps the register
window canonical; per meaning: it completes, and so does its state. -/

namespace Sys2Proof.Machine

theorem kept_decideRate {q s} (h : Kept q s) : Kept q (State.decideRate s) := by
  unfold State.decideRate
  repeat' with_reducible (first
    | assumption | apply kept_modOe | apply kept_set | apply kept_setB | exact kept_mk (by assumption)
    | refine kept_foldl ?_ (fun _ _ _ => ?_)
    | (extract_lets +onlyGivenNames x; refine kept_cut (q := q) (x := x) ?_ (fun _ => ?_); unfold x; clear x; rotate_left; clear_value x)
    | (extract_lets +onlyGivenNames x; clear_value x) | extract_lets +onlyGivenNames _ | split)

theorem kept_linkSettle {q s a1} (h : Kept q s) : Kept q (State.linkSettle s a1) := by
  unfold State.linkSettle
  repeat' with_reducible (first
    | assumption | apply kept_modSl | apply kept_setB | exact kept_mk (by assumption)
    | (extract_lets +onlyGivenNames x; refine kept_cut (q := q) (x := x) ?_ (fun _ => ?_); unfold x; clear x; rotate_left; clear_value x)
    | (extract_lets +onlyGivenNames x; clear_value x) | extract_lets +onlyGivenNames _ | split)

theorem kept_setLink {q s a1 a2} (h : Kept q s) : Kept q (State.setLink s a1 a2) := by
  unfold State.setLink
  repeat' with_reducible (first
    | assumption | apply kept_linkSettle | apply kept_raise | apply kept_set | split)

theorem kept_showPower {q s a1} (h : Kept q s) : Kept q (State.showPower s a1) := by
  unfold State.showPower
  repeat' with_reducible (first
    | assumption | apply kept_linkSettle | apply kept_raise | apply kept_setB | exact kept_mk (by assumption)
    | (extract_lets +onlyGivenNames x; refine kept_cut (q := q) (x := x) ?_ (fun _ => ?_); unfold x; clear x; rotate_left; clear_value x)
    | (extract_lets +onlyGivenNames x; clear_value x) | extract_lets +onlyGivenNames _ | split)

theorem kept_showPowers {q s} (h : Kept q s) : Kept q (State.showPowers s) := by
  unfold State.showPowers
  repeat' with_reducible (first
    | assumption | apply kept_showPower | refine kept_foldl ?_ (fun _ _ _ => ?_))

theorem kept_nextSeq {q s a1} (h : Kept q s) : Kept q (State.nextSeq s a1) := by
  unfold State.nextSeq
  repeat' with_reducible (first
    | assumption | apply kept_modSl | exact kept_mk (by assumption)
    | (extract_lets +onlyGivenNames x; refine kept_cut (q := q) (x := x) ?_ (fun _ => ?_); unfold x; clear x; rotate_left; clear_value x)
    | (extract_lets +onlyGivenNames x; clear_value x) | extract_lets +onlyGivenNames _)

theorem kept_sendJubido {q s a1 a2 a3} (h : Kept q s) : Kept q (State.sendJubido s a1 a2 a3) := by
  unfold State.sendJubido
  repeat' with_reducible (first
    | assumption | apply kept_nextSeq | apply kept_emit | exact kept_mk (by assumption)
    | (extract_lets +onlyGivenNames x; refine kept_cut (q := q) (x := x) ?_ (fun _ => ?_); unfold x; clear x; rotate_left; clear_value x)
    | (extract_lets +onlyGivenNames x; clear_value x) | extract_lets +onlyGivenNames _ | split)

theorem kept_sendCalReq {q s a1} (h : Kept q s) : Kept q (State.sendCalReq s a1) := by
  unfold State.sendCalReq
  repeat' with_reducible (first
    | assumption | apply kept_modSl | apply kept_sendJubido | exact kept_mk (by assumption)
    | (extract_lets +onlyGivenNames x; refine kept_cut (q := q) (x := x) ?_ (fun _ => ?_); unfold x; clear x; rotate_left; clear_value x)
    | (extract_lets +onlyGivenNames x; clear_value x) | extract_lets +onlyGivenNames _ | split)

theorem kept_sendSync {q s a1} (h : Kept q s) : Kept q (State.sendSync s a1) := by
  unfold State.sendSync
  repeat' with_reducible (first
    | assumption | apply kept_sendJubido | split)

theorem kept_slFault {q s a1 a2} (h : Kept q s) : Kept q (State.slFault s a1 a2) := by
  unfold State.slFault
  repeat' with_reducible (first
    | assumption | apply kept_modSl | apply kept_set | apply kept_logFault | apply kept_raise | exact kept_mk (by assumption)
    | (extract_lets +onlyGivenNames x; refine kept_cut (q := q) (x := x) ?_ (fun _ => ?_); unfold x; clear x; rotate_left; clear_value x)
    | (extract_lets +onlyGivenNames x; clear_value x) | extract_lets +onlyGivenNames _)

theorem kept_slFaultOnce {q s a1 a2} (h : Kept q s) : Kept q (State.slFaultOnce s a1 a2) := by
  unfold State.slFaultOnce
  repeat' with_reducible (first
    | assumption | apply kept_slFault | split)

theorem kept_slInactive {q s a1 a2} (h : Kept q s) : Kept q (State.slInactive s a1 a2) := by
  unfold State.slInactive
  repeat' with_reducible (first
    | assumption | apply kept_modSl | apply kept_setB | exact kept_mk (by assumption)
    | (extract_lets +onlyGivenNames x; refine kept_cut (q := q) (x := x) ?_ (fun _ => ?_); unfold x; clear x; rotate_left; clear_value x)
    | (extract_lets +onlyGivenNames x; clear_value x) | extract_lets +onlyGivenNames _ | split)

theorem kept_judgePorch {q s a1} (h : Kept q s) : Kept q (State.judgePorch s a1) := by
  unfold State.judgePorch
  repeat' with_reducible (first
    | assumption | apply kept_raise | apply kept_set | apply kept_inc
    | (extract_lets +onlyGivenNames x; refine kept_cut (q := q) (x := x) ?_ (fun _ => ?_); unfold x; clear x; rotate_left; clear_value x)
    | (extract_lets +onlyGivenNames x; clear_value x) | extract_lets +onlyGivenNames _ | split)

theorem kept_setGapValid {q s a1 a2} (h : Kept q s) : Kept q (State.setGapValid s a1 a2) := by
  unfold State.setGapValid
  repeat' with_reducible (first
    | assumption | apply kept_raise | apply kept_setB | split)

theorem kept_setIntrusion {q s a1 a2} (h : Kept q s) : Kept q (State.setIntrusion s a1 a2) := by
  unfold State.setIntrusion
  repeat' with_reducible (first
    | assumption | apply kept_raiseIf | apply kept_setB
    | (extract_lets +onlyGivenNames x; refine kept_cut (q := q) (x := x) ?_ (fun _ => ?_); unfold x; clear x; rotate_left; clear_value x)
    | (extract_lets +onlyGivenNames x; clear_value x) | extract_lets +onlyGivenNames _)

theorem kept_setSvActive {q s a1 a2} (h : Kept q s) : Kept q (State.setSvActive s a1 a2) := by
  unfold State.setSvActive
  repeat' with_reducible (first
    | assumption | apply kept_setB | apply kept_judgePorch | apply kept_setIntrusion
    | (extract_lets +onlyGivenNames x; refine kept_cut (q := q) (x := x) ?_ (fun _ => ?_); unfold x; clear x; rotate_left; clear_value x)
    | (extract_lets +onlyGivenNames x; clear_value x) | extract_lets +onlyGivenNames _ | split)

theorem kept_clearPorch {q s a1} (h : Kept q s) : Kept q (State.clearPorch s a1) := by
  unfold State.clearPorch
  repeat' with_reducible (first
    | assumption | apply kept_setB | apply kept_setIntrusion | apply kept_set | apply kept_setGapValid | apply kept_modPz
    | exact kept_mk (by assumption) | refine kept_foldl ?_ (fun _ _ _ => ?_)
    | (extract_lets +onlyGivenNames x; refine kept_cut (q := q) (x := x) ?_ (fun _ => ?_); unfold x; clear x; rotate_left; clear_value x)
    | (extract_lets +onlyGivenNames x; clear_value x) | extract_lets +onlyGivenNames _)

theorem kept_failQuery {q s a1} (h : Kept q s) : Kept q (State.failQuery s a1) := by
  unfold State.failQuery
  repeat' with_reducible (first
    | assumption | apply kept_raise | apply kept_resDone | apply kept_modPz | exact kept_mk (by assumption)
    | (extract_lets +onlyGivenNames x; refine kept_cut (q := q) (x := x) ?_ (fun _ => ?_); unfold x; clear x; rotate_left; clear_value x)
    | (extract_lets +onlyGivenNames x; clear_value x) | extract_lets +onlyGivenNames _ | split)

theorem kept_showPorch {q s a1} (h : Kept q s) : Kept q (State.showPorch s a1) := by
  unfold State.showPorch
  repeat' with_reducible (first
    | assumption | apply kept_clearPorch | apply kept_setB | apply kept_failQuery | apply kept_modPz | apply kept_set
    | apply kept_showPower | apply kept_judgePorch | exact kept_mk (by assumption)
    | (extract_lets +onlyGivenNames x; refine kept_cut (q := q) (x := x) ?_ (fun _ => ?_); unfold x; clear x; rotate_left; clear_value x)
    | (extract_lets +onlyGivenNames x; clear_value x) | extract_lets +onlyGivenNames _ | split)

theorem kept_setDue {q s a1 a2} (h : Kept q s) : Kept q (State.setDue s a1 a2) := by
  unfold State.setDue
  repeat' with_reducible (first
    | assumption | apply kept_showPorch | apply kept_modPz | exact kept_mk (by assumption)
    | (extract_lets +onlyGivenNames x; refine kept_cut (q := q) (x := x) ?_ (fun _ => ?_); unfold x; clear x; rotate_left; clear_value x)
    | (extract_lets +onlyGivenNames x; clear_value x) | extract_lets +onlyGivenNames _)

theorem kept_setSlot {q s a1 a2 a3} (h : Kept q s) : Kept q (State.setSlot s a1 a2 a3) := by
  unfold State.setSlot
  repeat' with_reducible (first
    | assumption | apply kept_modSl | exact kept_mk (by assumption)
    | (extract_lets +onlyGivenNames x; refine kept_cut (q := q) (x := x) ?_ (fun _ => ?_); unfold x; clear x; rotate_left; clear_value x)
    | (extract_lets +onlyGivenNames x; clear_value x) | extract_lets +onlyGivenNames _)

theorem kept_dropFrame {q s a1 a2} (h : Kept q s) : Kept q (State.dropFrame s a1 a2) := by
  unfold State.dropFrame
  repeat' with_reducible (first
    | assumption | apply kept_raise | apply kept_set | apply kept_inc | apply kept_setSlot | apply kept_modSl
    | apply kept_sendCalReq | exact kept_mk (by assumption)
    | (extract_lets +onlyGivenNames x; refine kept_cut (q := q) (x := x) ?_ (fun _ => ?_); unfold x; clear x; rotate_left; clear_value x)
    | (extract_lets +onlyGivenNames x; clear_value x) | extract_lets +onlyGivenNames _ | split)

theorem kept_fcsError {q s a1} (h : Kept q s) : Kept q (State.fcsError s a1) := by
  unfold State.fcsError
  repeat' with_reducible (first
    | assumption | apply kept_inc | apply kept_dropFrame | exact kept_mk (by assumption)
    | (extract_lets +onlyGivenNames x; refine kept_cut (q := q) (x := x) ?_ (fun _ => ?_); unfold x; clear x; rotate_left; clear_value x)
    | (extract_lets +onlyGivenNames x; clear_value x) | extract_lets +onlyGivenNames _ | split)

theorem kept_frameStart {q s a1 a2} (h : Kept q s) : Kept q (State.frameStart s a1 a2) := by
  unfold State.frameStart
  repeat' with_reducible (first
    | assumption | apply kept_fcsError | apply kept_modSl | apply kept_dropFrame | apply kept_set | apply kept_raiseIf
    | apply kept_slInactive | apply kept_setSlot | apply kept_setLink | exact kept_mk (by assumption)
    | (extract_lets +onlyGivenNames x; refine kept_cut (q := q) (x := x) ?_ (fun _ => ?_); unfold x; clear x; rotate_left; clear_value x)
    | (extract_lets +onlyGivenNames x; clear_value x) | extract_lets +onlyGivenNames _ | split)

theorem kept_showLoad {q s} (h : Kept q s) : Kept q (State.showLoad s) := by
  unfold State.showLoad
  repeat' with_reducible (first
    | assumption | apply kept_set | apply kept_modOe | exact kept_mk (by assumption) | refine kept_foldl ?_ (fun _ _ _ => ?_)
    | (extract_lets +onlyGivenNames x; refine kept_cut (q := q) (x := x) ?_ (fun _ => ?_); unfold x; clear x; rotate_left; clear_value x)
    | (extract_lets +onlyGivenNames x; clear_value x) | extract_lets +onlyGivenNames _)

theorem kept_countWork {q s a1} (h : Kept q s) : Kept q (State.countWork s a1) := by
  unfold State.countWork
  repeat' with_reducible (first
    | assumption | apply kept_showLoad | apply kept_modOe | exact kept_mk (by assumption)
    | (extract_lets +onlyGivenNames x; refine kept_cut (q := q) (x := x) ?_ (fun _ => ?_); unfold x; clear x; rotate_left; clear_value x)
    | (extract_lets +onlyGivenNames x; clear_value x) | extract_lets +onlyGivenNames _ | split)

theorem kept_fusePass {q s a1 a2 a3} (h : Kept q s) : Kept q (State.fusePass s a1 a2 a3) := by
  unfold State.fusePass
  repeat' with_reducible (first
    | assumption | apply kept_modPz | apply kept_countWork | exact kept_mk (by assumption)
    | refine kept_foldl ?_ (fun _ _ _ => ?_)
    | (extract_lets +onlyGivenNames x; refine kept_cut (q := q) (x := x) ?_ (fun _ => ?_); unfold x; clear x; rotate_left; clear_value x)
    | (extract_lets +onlyGivenNames x; clear_value x) | extract_lets +onlyGivenNames _ | split)

theorem kept_closePass {q s a1} (h : Kept q s) : Kept q (State.closePass s a1) := by
  unfold State.closePass
  repeat' with_reducible (first
    | assumption | apply kept_modPz | apply kept_fusePass | apply kept_judgePorch | exact kept_mk (by assumption)
    | (extract_lets +onlyGivenNames x; refine kept_cut (q := q) (x := x) ?_ (fun _ => ?_); unfold x; clear x; rotate_left; clear_value x)
    | (extract_lets +onlyGivenNames x; clear_value x) | extract_lets +onlyGivenNames _ | split)

theorem kept_deliver {q s a1 a2 a3} (h : Kept q s) : Kept q (State.deliver s a1 a2 a3) := by
  unfold State.deliver
  repeat' with_reducible (first
    | assumption | apply kept_dropFrame | apply kept_setSlot | apply kept_modSl | apply kept_inc | apply kept_slInactive
    | apply kept_modPz | apply kept_closePass | exact kept_mk (by assumption)
    | (extract_lets +onlyGivenNames x; refine kept_cut (q := q) (x := x) ?_ (fun _ => ?_); unfold x; clear x; rotate_left; clear_value x)
    | (extract_lets +onlyGivenNames x; clear_value x) | extract_lets +onlyGivenNames _ | split)

theorem kept_rowArrives {q s a1 a2} (h : Kept q s) : Kept q (State.rowArrives s a1 a2) := by
  unfold State.rowArrives
  repeat' with_reducible (first
    | assumption | apply kept_fcsError | apply kept_dropFrame | apply kept_setSlot | apply kept_deliver
    | exact kept_mk (by assumption)
    | (extract_lets +onlyGivenNames x; refine kept_cut (q := q) (x := x) ?_ (fun _ => ?_); unfold x; clear x; rotate_left; clear_value x)
    | (extract_lets +onlyGivenNames x; clear_value x) | extract_lets +onlyGivenNames _ | split)

theorem kept_takeCal {q s a1 a2} (h : Kept q s) : Kept q (State.takeCal s a1 a2) := by
  unfold State.takeCal
  repeat' with_reducible (first
    | assumption | apply kept_set | apply kept_modSl | apply kept_setB | apply kept_slInactive | apply kept_raiseIf
    | apply kept_slFault | apply kept_raise | apply kept_linkSettle | exact kept_mk (by assumption)
    | (extract_lets +onlyGivenNames x; refine kept_cut (q := q) (x := x) ?_ (fun _ => ?_); unfold x; clear x; rotate_left; clear_value x)
    | (extract_lets +onlyGivenNames x; clear_value x) | extract_lets +onlyGivenNames _ | split)

theorem kept_calArrives {q s a1 a2} (h : Kept q s) : Kept q (State.calArrives s a1 a2) := by
  unfold State.calArrives
  repeat' with_reducible (first
    | assumption | apply kept_inc | apply kept_slFault | apply kept_takeCal | split)

theorem kept_showGap {q s a1 a2} (h : Kept q s) : Kept q (State.showGap s a1 a2) := by
  unfold State.showGap
  repeat' with_reducible (first
    | assumption | apply kept_modPz | apply kept_setI | apply kept_set | apply kept_setGapValid | exact kept_mk (by assumption)
    | refine kept_foldl ?_ (fun _ _ _ => ?_)
    | (extract_lets +onlyGivenNames x; refine kept_cut (q := q) (x := x) ?_ (fun _ => ?_); unfold x; clear x; rotate_left; clear_value x)
    | (extract_lets +onlyGivenNames x; clear_value x) | extract_lets +onlyGivenNames _ | split)

theorem kept_answerQuery {q s a1 a2} (h : Kept q s) : Kept q (State.answerQuery s a1 a2) := by
  unfold State.answerQuery
  repeat' with_reducible (first
    | assumption | apply kept_set | apply kept_modPz | apply kept_raise | apply kept_resDone | exact kept_mk (by assumption)
    | (extract_lets +onlyGivenNames x; refine kept_cut (q := q) (x := x) ?_ (fun _ => ?_); unfold x; clear x; rotate_left; clear_value x)
    | (extract_lets +onlyGivenNames x; clear_value x) | extract_lets +onlyGivenNames _ | split)

theorem kept_shortenFrame {q s a1 a2} (h : Kept q s) : Kept q (State.shortenFrame s a1 a2) := by
  unfold State.shortenFrame
  repeat' with_reducible (first
    | assumption | apply kept_set | exact kept_mk (by assumption)
    | (extract_lets +onlyGivenNames x; refine kept_cut (q := q) (x := x) ?_ (fun _ => ?_); unfold x; clear x; rotate_left; clear_value x)
    | (extract_lets +onlyGivenNames x; clear_value x) | extract_lets +onlyGivenNames _ | split)

theorem kept_noteLate {q s a1} (h : Kept q s) : Kept q (State.noteLate s a1) := by
  unfold State.noteLate
  repeat' with_reducible (first
    | assumption | apply kept_raise | apply kept_inc | split)

theorem kept_publish {q s a1} (h : Kept q s) : Kept q (State.publish s a1) := by
  unfold State.publish
  repeat' with_reducible (first
    | assumption | apply kept_modPz | apply kept_setB | apply kept_incWrap | apply kept_set | apply kept_shortenFrame
    | apply kept_inc | apply kept_setIntrusion | apply kept_judgePorch | apply kept_showLoad | apply kept_noteLate
    | apply kept_answerQuery | apply kept_showGap | exact kept_mk (by assumption) | refine kept_foldl ?_ (fun _ _ _ => ?_)
    | (extract_lets +onlyGivenNames x; refine kept_cut (q := q) (x := x) ?_ (fun _ => ?_); unfold x; clear x; rotate_left; clear_value x)
    | (extract_lets +onlyGivenNames x; clear_value x) | extract_lets +onlyGivenNames _ | split)

theorem kept_oeDown {q s a1 a2} (h : Kept q s) : Kept q (State.oeDown s a1 a2) := by
  unfold State.oeDown
  repeat' with_reducible (first
    | assumption | apply kept_modOe | apply kept_raise | apply kept_set | apply kept_showPorch | exact kept_mk (by assumption)
    | refine kept_foldl ?_ (fun _ _ _ => ?_)
    | (extract_lets +onlyGivenNames x; refine kept_cut (q := q) (x := x) ?_ (fun _ => ?_); unfold x; clear x; rotate_left; clear_value x)
    | (extract_lets +onlyGivenNames x; clear_value x) | extract_lets +onlyGivenNames _)

theorem kept_oeFault {q s a1} (h : Kept q s) : Kept q (State.oeFault s a1) := by
  unfold State.oeFault
  repeat' with_reducible (first
    | assumption | apply kept_oeDown | apply kept_logFault
    | (extract_lets +onlyGivenNames x; refine kept_cut (q := q) (x := x) ?_ (fun _ => ?_); unfold x; clear x; rotate_left; clear_value x)
    | (extract_lets +onlyGivenNames x; clear_value x) | extract_lets +onlyGivenNames _ | split)

theorem kept_oeRestarted {q s} (h : Kept q s) : Kept q (State.oeRestarted s) := by
  unfold State.oeRestarted
  repeat' with_reducible (first
    | assumption | apply kept_inc | apply kept_setB | apply kept_modOe | apply kept_showPorch | exact kept_mk (by assumption)
    | refine kept_foldl ?_ (fun _ _ _ => ?_)
    | (extract_lets +onlyGivenNames x; refine kept_cut (q := q) (x := x) ?_ (fun _ => ?_); unfold x; clear x; rotate_left; clear_value x)
    | (extract_lets +onlyGivenNames x; clear_value x) | extract_lets +onlyGivenNames _ | split)

theorem kept_preWindow {q s a1} (h : Kept q s) : Kept q (State.preWindow s a1) := by
  unfold State.preWindow
  repeat' with_reducible (first
    | assumption | apply kept_modOe | exact kept_mk (by assumption)
    | (extract_lets +onlyGivenNames x; refine kept_cut (q := q) (x := x) ?_ (fun _ => ?_); unfold x; clear x; rotate_left; clear_value x)
    | (extract_lets +onlyGivenNames x; clear_value x) | extract_lets +onlyGivenNames _)

theorem kept_writePreRel {q s a1} (h : Kept q s) : Kept q (State.writePreRel s a1) := by
  unfold State.writePreRel
  repeat' with_reducible (first
    | assumption | apply kept_set | apply kept_setB | apply kept_preWindow
    | (extract_lets +onlyGivenNames x; refine kept_cut (q := q) (x := x) ?_ (fun _ => ?_); unfold x; clear x; rotate_left; clear_value x)
    | (extract_lets +onlyGivenNames x; clear_value x) | extract_lets +onlyGivenNames _ | split)

theorem kept_execPorchStart {q a1 s} (h : Kept q s) : Answers q (execPorchStart a1 s) := by
  unfold execPorchStart
  repeat' with_reducible (first
    | assumption | apply answers_next | apply kept_setDue | split)

theorem kept_execPorchStop {q a1 s} (h : Kept q s) : Answers q (execPorchStop a1 s) := by
  unfold execPorchStop
  repeat' with_reducible (first
    | assumption | apply answers_next | apply kept_setDue | split)

theorem kept_execPreRelWrite {q a1 s} (h : Kept q s) : Answers q (execPreRelWrite a1 s) := by
  unfold execPreRelWrite
  repeat' with_reducible (first
    | assumption | apply answers_next | apply kept_writePreRel | split)

theorem kept_execPreRelWindowOpen {q a1 s} (h : Kept q s) : Answers q (execPreRelWindowOpen a1 s) := by
  unfold execPreRelWindowOpen
  repeat' with_reducible (first
    | assumption | apply answers_next | apply kept_modOe | exact kept_mk (by assumption)
    | (extract_lets +onlyGivenNames x; refine kept_cut (q := q) (x := x) ?_ (fun _ => ?_); unfold x; clear x; rotate_left; clear_value x)
    | (extract_lets +onlyGivenNames x; clear_value x) | extract_lets +onlyGivenNames _ | split)

theorem kept_execPreRelWindowClose {q a1 s} (h : Kept q s) : Answers q (execPreRelWindowClose a1 s) := by
  unfold execPreRelWindowClose
  repeat' with_reducible (first
    | assumption | apply answers_next | apply kept_modOe | exact kept_mk (by assumption)
    | (extract_lets +onlyGivenNames x; refine kept_cut (q := q) (x := x) ?_ (fun _ => ?_); unfold x; clear x; rotate_left; clear_value x)
    | (extract_lets +onlyGivenNames x; clear_value x) | extract_lets +onlyGivenNames _)

theorem kept_execFrameStart {q a1 a2 s} (h : Kept q s) : Answers q (execFrameStart a1 a2 s) := by
  unfold execFrameStart
  repeat' with_reducible (first
    | assumption | intro _ | apply answers_next | apply kept_whenRunning | apply kept_frameStart | split)

theorem kept_execRow {q a1 a2 s} (h : Kept q s) : Answers q (execRow a1 a2 s) := by
  unfold execRow
  repeat' with_reducible (first
    | assumption | intro _ | apply answers_next | apply kept_whenRunning | apply kept_rowArrives | split)

theorem kept_execCal {q a1 a2 s} (h : Kept q s) : Answers q (execCal a1 a2 s) := by
  unfold execCal
  repeat' with_reducible (first
    | assumption | intro _ | apply answers_next | apply kept_whenRunning | apply kept_calArrives | split)

theorem kept_execSync {q s} (h : Kept q s) : Answers q (execSync s) := by
  unfold execSync
  repeat' with_reducible (first
    | assumption | intro _ | apply answers_next | apply kept_whenRunning | apply kept_showLoad | apply kept_sendSync
    | exact kept_mk (by assumption) | refine kept_foldl ?_ (fun _ _ _ => ?_)
    | (extract_lets +onlyGivenNames x; refine kept_cut (q := q) (x := x) ?_ (fun _ => ?_); unfold x; clear x; rotate_left; clear_value x)
    | (extract_lets +onlyGivenNames x; clear_value x) | extract_lets +onlyGivenNames _)

theorem kept_execCalReq {q a1 s} (h : Kept q s) : Answers q (execCalReq a1 s) := by
  unfold execCalReq
  repeat' with_reducible (first
    | assumption | intro _ | apply answers_next | apply kept_whenRunning | apply kept_sendCalReq)

theorem kept_execLinkUp {q a1 a2 s} (h : Kept q s) : Answers q (execLinkUp a1 a2 s) := by
  unfold execLinkUp
  repeat' with_reducible (first
    | assumption | intro _ | apply answers_next | apply kept_whenRunning | apply kept_setLink | apply kept_setB
    | apply kept_sendCalReq | apply kept_modSl | exact kept_mk (by assumption)
    | (extract_lets +onlyGivenNames x; refine kept_cut (q := q) (x := x) ?_ (fun _ => ?_); unfold x; clear x; rotate_left; clear_value x)
    | (extract_lets +onlyGivenNames x; clear_value x) | extract_lets +onlyGivenNames _)

theorem kept_execSlLinkDown {q a1 s} (h : Kept q s) : Answers q (execSlLinkDown a1 s) := by
  unfold execSlLinkDown
  repeat' with_reducible (first
    | assumption | intro _ | apply answers_next | apply kept_whenRunning | apply kept_modSl | apply kept_setLink
    | exact kept_mk (by assumption)
    | (extract_lets +onlyGivenNames x; refine kept_cut (q := q) (x := x) ?_ (fun _ => ?_); unfold x; clear x; rotate_left; clear_value x)
    | (extract_lets +onlyGivenNames x; clear_value x) | extract_lets +onlyGivenNames _)

theorem kept_execPwrfltActive {q a1 s} (h : Kept q s) : Answers q (execPwrfltActive a1 s) := by
  unfold execPwrfltActive
  repeat' with_reducible (first
    | assumption | intro _ | apply answers_next | apply kept_whenRunning | apply kept_setB | apply kept_modSl | apply kept_raise
    | apply kept_slFault | apply kept_showPower | exact kept_mk (by assumption)
    | (extract_lets +onlyGivenNames x; refine kept_cut (q := q) (x := x) ?_ (fun _ => ?_); unfold x; clear x; rotate_left; clear_value x)
    | (extract_lets +onlyGivenNames x; clear_value x) | extract_lets +onlyGivenNames _ | split)

theorem kept_execPodlRetry {q a1 s} (h : Kept q s) : Answers q (execPodlRetry a1 s) := by
  unfold execPodlRetry
  repeat' with_reducible (first
    | assumption | intro _ | apply answers_next | apply kept_whenRunning | apply kept_showPower | apply kept_setB
    | apply kept_modSl | exact kept_mk (by assumption)
    | (extract_lets +onlyGivenNames x; refine kept_cut (q := q) (x := x) ?_ (fun _ => ?_); unfold x; clear x; rotate_left; clear_value x)
    | (extract_lets +onlyGivenNames x; clear_value x) | extract_lets +onlyGivenNames _ | split)

theorem kept_execFrameDeadline {q a1 s} (h : Kept q s) : Answers q (execFrameDeadline a1 s) := by
  unfold execFrameDeadline
  repeat' with_reducible (first
    | assumption | intro _ | apply answers_next | apply kept_whenRunning | apply kept_dropFrame | apply kept_closePass
    | exact kept_mk (by assumption) | refine kept_foldl ?_ (fun _ _ _ => ?_)
    | (extract_lets +onlyGivenNames x; refine kept_cut (q := q) (x := x) ?_ (fun _ => ?_); unfold x; clear x; rotate_left; clear_value x)
    | (extract_lets +onlyGivenNames x; clear_value x) | extract_lets +onlyGivenNames _ | split)

theorem kept_execPassPublish {q a1 s} (h : Kept q s) : Answers q (execPassPublish a1 s) := by
  unfold execPassPublish
  repeat' with_reducible (first
    | assumption | intro _ | apply answers_next | apply kept_whenRunning | apply kept_publish | split)

theorem kept_execStaleTimeout {q a1 s} (h : Kept q s) : Answers q (execStaleTimeout a1 s) := by
  unfold execStaleTimeout
  repeat' with_reducible (first
    | assumption | intro _ | apply answers_next | apply kept_whenRunning | apply kept_judgePorch | apply kept_modPz
    | exact kept_mk (by assumption)
    | (extract_lets +onlyGivenNames x; refine kept_cut (q := q) (x := x) ?_ (fun _ => ?_); unfold x; clear x; rotate_left; clear_value x)
    | (extract_lets +onlyGivenNames x; clear_value x) | extract_lets +onlyGivenNames _ | split)

theorem kept_execRateEpoch {q s} (h : Kept q s) : Answers q (execRateEpoch s) := by
  unfold execRateEpoch
  repeat' with_reducible (first
    | assumption | intro _ | apply answers_next | apply kept_whenRunning | apply kept_modOe | apply kept_raise | apply kept_setB
    | apply kept_set | exact kept_mk (by assumption)
    | (extract_lets +onlyGivenNames x; refine kept_cut (q := q) (x := x) ?_ (fun _ => ?_); unfold x; clear x; rotate_left; clear_value x)
    | (extract_lets +onlyGivenNames x; clear_value x) | extract_lets +onlyGivenNames _ | split)

theorem kept_execPorchQuery {q a1 s} (h : Kept q s) : Answers q (execPorchQuery a1 s) := by
  unfold execPorchQuery
  repeat' with_reducible (first
    | assumption | apply answers_next | apply kept_modPz | apply kept_resClear | apply kept_raise | apply kept_resDone
    | exact kept_mk (by assumption)
    | (extract_lets +onlyGivenNames x; refine kept_cut (q := q) (x := x) ?_ (fun _ => ?_); unfold x; clear x; rotate_left; clear_value x)
    | (extract_lets +onlyGivenNames x; clear_value x) | extract_lets +onlyGivenNames _ | split)

theorem kept_execFreezeGrid {q a1 a2 s} (h : Kept q s) : Answers q (execFreezeGrid a1 a2 s) := by
  unfold execFreezeGrid
  repeat' with_reducible (first
    | assumption | apply answers_next | apply kept_setB
    | (extract_lets +onlyGivenNames x; refine kept_cut (q := q) (x := x) ?_ (fun _ => ?_); unfold x; clear x; rotate_left; clear_value x)
    | (extract_lets +onlyGivenNames x; clear_value x) | extract_lets +onlyGivenNames _ | split)

theorem kept_execLinkDownTimeout {q a1 s} (h : Kept q s) : Answers q (execLinkDownTimeout a1 s) := by
  unfold execLinkDownTimeout
  repeat' with_reducible (first
    | assumption | intro _ | apply answers_next | apply kept_whenRunning | apply kept_slFaultOnce | split)

theorem kept_execCalTimeout {q a1 s} (h : Kept q s) : Answers q (execCalTimeout a1 s) := by
  unfold execCalTimeout
  repeat' with_reducible (first
    | assumption | intro _ | apply answers_next | apply kept_whenRunning | apply kept_sendCalReq | apply kept_slFaultOnce
    | exact kept_mk (by assumption)
    | (extract_lets +onlyGivenNames x; refine kept_cut (q := q) (x := x) ?_ (fun _ => ?_); unfold x; clear x; rotate_left; clear_value x)
    | (extract_lets +onlyGivenNames x; clear_value x) | extract_lets +onlyGivenNames _ | split)

theorem kept_execSyncErrTimeout {q a1 s} (h : Kept q s) : Answers q (execSyncErrTimeout a1 s) := by
  unfold execSyncErrTimeout
  repeat' with_reducible (first
    | assumption | intro _ | apply answers_next | apply kept_whenRunning | apply kept_slFaultOnce | split)

theorem kept_execNoFrameTimeout {q a1 s} (h : Kept q s) : Answers q (execNoFrameTimeout a1 s) := by
  unfold execNoFrameTimeout
  repeat' with_reducible (first
    | assumption | intro _ | apply answers_next | apply kept_whenRunning | apply kept_slFaultOnce | exact kept_mk (by assumption)
    | (extract_lets +onlyGivenNames x; refine kept_cut (q := q) (x := x) ?_ (fun _ => ?_); unfold x; clear x; rotate_left; clear_value x)
    | (extract_lets +onlyGivenNames x; clear_value x) | extract_lets +onlyGivenNames _ | split)

theorem kept_execSlClr {q a1 s} (h : Kept q s) : Answers q (execSlClr a1 s) := by
  unfold execSlClr
  repeat' with_reducible (first
    | assumption | intro _ | apply answers_next | apply kept_whenRunning | apply kept_slInactive | apply kept_modSl
    | apply kept_setB | apply kept_set | apply kept_showPower | exact kept_mk (by assumption)
    | (extract_lets +onlyGivenNames x; refine kept_cut (q := q) (x := x) ?_ (fun _ => ?_); unfold x; clear x; rotate_left; clear_value x)
    | (extract_lets +onlyGivenNames x; clear_value x) | extract_lets +onlyGivenNames _ | split)

theorem kept_execOeFault {q a1 s} (h : Kept q s) : Answers q (execOeFault a1 s) := by
  unfold execOeFault
  repeat' with_reducible (first
    | assumption | intro _ | apply answers_next | apply kept_whenRunning | apply kept_oeFault)

theorem kept_execOeRestartDone {q s} (h : Kept q s) : Answers q (execOeRestartDone s) := by
  unfold execOeRestartDone
  repeat' with_reducible (first
    | assumption | intro _ | apply answers_next | apply kept_whenRunning | apply kept_oeRestarted)

theorem kept_execOccClr {q s} (h : Kept q s) : Answers q (execOccClr s) := by
  unfold execOccClr
  repeat' with_reducible (first
    | assumption | intro _ | apply answers_next | apply kept_whenRunning | apply kept_modOe | apply kept_set
    | exact kept_mk (by assumption)
    | (extract_lets +onlyGivenNames x; refine kept_cut (q := q) (x := x) ?_ (fun _ => ?_); unfold x; clear x; rotate_left; clear_value x)
    | (extract_lets +onlyGivenNames x; clear_value x) | extract_lets +onlyGivenNames _ | split)

end Sys2Proof.Machine
end

