-- ==== Sys2Proof/Laws/KeptDoorTick.lean ====
section
/-! SUPPORT. One lemma per operation of Machine/DoorTick.lean that answers a state: it leaves the queue alone and keeps the register
window canonical; per meaning: it completes, and so does its state. -/

namespace Sys2Proof.Machine

theorem kept_sampleDegr {q s a1} (h : Kept q s) : Kept q (State.sampleDegr s a1) := by
  unfold State.sampleDegr
  repeat' with_reducible (first
    | assumption | apply kept_setDegr
    | (extract_lets +onlyGivenNames x; refine kept_cut (q := q) (x := x) ?_ (fun _ => ?_); unfold x; clear x; rotate_left; clear_value x)
    | (extract_lets +onlyGivenNames x; clear_value x) | extract_lets +onlyGivenNames _)

theorem kept_sampleDoor {q s a1} (h : Kept q s) : Kept q (State.sampleDoor s a1) := by
  unfold State.sampleDoor
  repeat' with_reducible (first
    | assumption | apply kept_sampleAxis | apply kept_modDw | apply kept_setI | apply kept_setB | apply kept_showFaultActive
    | apply kept_set | apply kept_sampleDegr | exact kept_mk (by assumption)
    | (extract_lets +onlyGivenNames x; refine kept_cut (q := q) (x := x) ?_ (fun _ => ?_); unfold x; clear x; rotate_left; clear_value x)
    | (extract_lets +onlyGivenNames x; clear_value x) | extract_lets +onlyGivenNames _ | split)

theorem kept_notePeak {q s a1} (h : Kept q s) : Kept q (State.notePeak s a1) := by
  unfold State.notePeak
  repeat' with_reducible (first
    | assumption | apply kept_modDw | apply kept_set | apply kept_modCyc | exact kept_mk (by assumption)
    | (extract_lets +onlyGivenNames x; refine kept_cut (q := q) (x := x) ?_ (fun _ => ?_); unfold x; clear x; rotate_left; clear_value x)
    | (extract_lets +onlyGivenNames x; clear_value x) | extract_lets +onlyGivenNames _ | split)

theorem kept_evalLayers {q s a1} (h : Kept q s) : Kept q (State.evalLayers s a1) := by
  unfold State.evalLayers
  repeat' with_reducible (first
    | assumption | apply kept_placeDet | apply kept_notePeak | apply kept_modDw | exact kept_mk (by assumption)
    | refine kept_foldl ?_ (fun _ _ _ => ?_)
    | (extract_lets +onlyGivenNames x; refine kept_cut (q := q) (x := x) ?_ (fun _ => ?_); unfold x; clear x; rotate_left; clear_value x)
    | (extract_lets +onlyGivenNames x; clear_value x) | extract_lets +onlyGivenNames _ | split)

theorem kept_endLearn {q s a1} (h : Kept q s) : Kept q (State.endLearn s a1) := by
  unfold State.endLearn
  repeat' with_reducible (first
    | assumption | apply kept_modDw | apply kept_set | apply kept_setB | exact kept_mk (by assumption)
    | (extract_lets +onlyGivenNames x; refine kept_cut (q := q) (x := x) ?_ (fun _ => ?_); unfold x; clear x; rotate_left; clear_value x)
    | (extract_lets +onlyGivenNames x; clear_value x) | extract_lets +onlyGivenNames _ | split)

theorem kept_enterIsolated {q s a1} (h : Kept q s) : Kept q (State.enterIsolated s a1) := by
  unfold State.enterIsolated
  repeat' with_reducible (first
    | assumption | apply kept_dwGo | apply kept_isolateStep | apply kept_endLearn | apply kept_haltDoor | split)

theorem kept_enterEgress {q s a1} (h : Kept q s) : Kept q (State.enterEgress s a1) := by
  unfold State.enterEgress
  repeat' with_reducible (first
    | assumption | apply kept_dwGo | apply kept_endLearn | apply kept_haltDoor | exact kept_mk (by assumption)
    | (extract_lets +onlyGivenNames x; refine kept_cut (q := q) (x := x) ?_ (fun _ => ?_); unfold x; clear x; rotate_left; clear_value x)
    | (extract_lets +onlyGivenNames x; clear_value x) | extract_lets +onlyGivenNames _ | split)

theorem kept_axisReaction {q s a1} (h : Kept q s) : Kept q (State.axisReaction s a1) := by
  unfold State.axisReaction
  repeat' with_reducible (first
    | assumption | apply kept_setStep | apply kept_dwFault | apply kept_endLearn | exact kept_mk (by assumption)
    | (extract_lets +onlyGivenNames x; refine kept_cut (q := q) (x := x) ?_ (fun _ => ?_); unfold x; clear x; rotate_left; clear_value x)
    | (extract_lets +onlyGivenNames x; clear_value x) | extract_lets +onlyGivenNames _ | split)

theorem kept_homingOver {q s a1} (h : Kept q s) : Kept q (State.homingOver s a1) := by
  unfold State.homingOver
  repeat' with_reducible (first
    | assumption | apply kept_homingNoStall | split)

theorem kept_reactions {q s a1} (h : Kept q s) : Kept q (State.reactions s a1) := by
  unfold State.reactions
  repeat' with_reducible (first
    | assumption | apply kept_enterIsolated | apply kept_homingOver | apply kept_axisReaction | apply kept_dwFaultHere
    | apply kept_latchLate | apply kept_doorEv | apply kept_enterEgress | exact kept_mk (by assumption)
    | refine kept_foldl ?_ (fun _ _ _ => ?_)
    | (extract_lets +onlyGivenNames x; refine kept_cut (q := q) (x := x) ?_ (fun _ => ?_); unfold x; clear x; rotate_left; clear_value x)
    | (extract_lets +onlyGivenNames x; clear_value x) | extract_lets +onlyGivenNames _ | split)

theorem kept_unlocked {q s a1} (h : Kept q s) : Kept q (State.unlocked s a1) := by
  unfold State.unlocked
  repeat' with_reducible (first
    | assumption | apply kept_startSection | apply kept_dwGo | apply kept_learnStart | exact kept_mk (by assumption)
    | (extract_lets +onlyGivenNames x; refine kept_cut (q := q) (x := x) ?_ (fun _ => ?_); unfold x; clear x; rotate_left; clear_value x)
    | (extract_lets +onlyGivenNames x; clear_value x) | extract_lets +onlyGivenNames _ | split)

theorem kept_unlockTimeout {q s a1} (h : Kept q s) : Kept q (State.unlockTimeout s a1) := by
  unfold State.unlockTimeout
  repeat' with_reducible (first
    | assumption | apply kept_dwFaultHere)

theorem kept_lockTimeout {q s a1} (h : Kept q s) : Kept q (State.lockTimeout s a1) := by
  unfold State.lockTimeout
  repeat' with_reducible (first
    | assumption | apply kept_dwFaultHere)

theorem kept_locked {q s a1} (h : Kept q s) : Kept q (State.locked s a1) := by
  unfold State.locked
  repeat' with_reducible (first
    | assumption | apply kept_dwGo | exact kept_mk (by assumption)
    | (extract_lets +onlyGivenNames x; refine kept_cut (q := q) (x := x) ?_ (fun _ => ?_); unfold x; clear x; rotate_left; clear_value x)
    | (extract_lets +onlyGivenNames x; clear_value x) | extract_lets +onlyGivenNames _ | split)

theorem kept_manualStill {q s a1} (h : Kept q s) : Kept q (State.manualStill s a1) := by
  unfold State.manualStill
  repeat' with_reducible (first
    | assumption | apply kept_modDw | apply kept_determine | exact kept_mk (by assumption)
    | (extract_lets +onlyGivenNames x; refine kept_cut (q := q) (x := x) ?_ (fun _ => ?_); unfold x; clear x; rotate_left; clear_value x)
    | (extract_lets +onlyGivenNames x; clear_value x) | extract_lets +onlyGivenNames _)

theorem kept_manualTick {q s a1} (h : Kept q s) : Kept q (State.manualTick s a1) := by
  unfold State.manualTick
  repeat' with_reducible (first
    | assumption | apply kept_modDw | apply kept_manualStill | exact kept_mk (by assumption)
    | (extract_lets +onlyGivenNames x; refine kept_cut (q := q) (x := x) ?_ (fun _ => ?_); unfold x; clear x; rotate_left; clear_value x)
    | (extract_lets +onlyGivenNames x; clear_value x) | extract_lets +onlyGivenNames _ | split)

theorem kept_selfClose {q s a1} (h : Kept q s) : Kept q (State.selfClose s a1) := by
  unfold State.selfClose
  repeat' with_reducible (first
    | assumption | apply kept_offer)

theorem kept_reopenDwellOver {q s a1} (h : Kept q s) : Kept q (State.reopenDwellOver s a1) := by
  unfold State.reopenDwellOver
  repeat' with_reducible (first
    | assumption | apply kept_selfClose | apply kept_modDw | exact kept_mk (by assumption)
    | (extract_lets +onlyGivenNames x; refine kept_cut (q := q) (x := x) ?_ (fun _ => ?_); unfold x; clear x; rotate_left; clear_value x)
    | (extract_lets +onlyGivenNames x; clear_value x) | extract_lets +onlyGivenNames _)

theorem kept_testDwellOver {q s a1} (h : Kept q s) : Kept q (State.testDwellOver s a1) := by
  unfold State.testDwellOver
  repeat' with_reducible (first
    | assumption | apply kept_selfClose | apply kept_set | apply kept_modDw | exact kept_mk (by assumption)
    | (extract_lets +onlyGivenNames x; refine kept_cut (q := q) (x := x) ?_ (fun _ => ?_); unfold x; clear x; rotate_left; clear_value x)
    | (extract_lets +onlyGivenNames x; clear_value x) | extract_lets +onlyGivenNames _)

theorem kept_dwells {q s a1} (h : Kept q s) : Kept q (State.dwells s a1) := by
  unfold State.dwells
  repeat' with_reducible (first
    | assumption | apply kept_reopenDwellOver | apply kept_testDwellOver | exact kept_mk (by assumption)
    | (extract_lets +onlyGivenNames x; refine kept_cut (q := q) (x := x) ?_ (fun _ => ?_); unfold x; clear x; rotate_left; clear_value x)
    | (extract_lets +onlyGivenNames x; clear_value x) | extract_lets +onlyGivenNames _ | split)

theorem kept_stateTick {q s a1} (h : Kept q s) : Kept q (State.stateTick s a1) := by
  unfold State.stateTick
  repeat' with_reducible (first
    | assumption | apply kept_unlocked | apply kept_locked | apply kept_dwGo | apply kept_manualTick | apply kept_learnTimeout
    | exact kept_mk (by assumption)
    | (extract_lets +onlyGivenNames x; refine kept_cut (q := q) (x := x) ?_ (fun _ => ?_); unfold x; clear x; rotate_left; clear_value x)
    | (extract_lets +onlyGivenNames x; clear_value x) | extract_lets +onlyGivenNames _ | split)

theorem kept_restReached {q s a1} (h : Kept q s) : Kept q (State.restReached s a1) := by
  unfold State.restReached
  repeat' with_reducible (first
    | assumption | apply kept_obstacleRest | split)

theorem kept_completions {q s a1} (h : Kept q s) : Kept q (State.completions s a1) := by
  unfold State.completions
  repeat' with_reducible (first
    | assumption | apply kept_judgeEnd | apply kept_restReached | apply kept_takeDets | apply kept_dwells | apply kept_stateTick
    | apply kept_stepLatch
    | (extract_lets +onlyGivenNames x; refine kept_cut (q := q) (x := x) ?_ (fun _ => ?_); unfold x; clear x; rotate_left; clear_value x)
    | (extract_lets +onlyGivenNames x; clear_value x) | extract_lets +onlyGivenNames _)

theorem kept_porchHold {q s a1} (h : Kept q s) : Kept q (State.porchHold s a1) := by
  unfold State.porchHold
  repeat' with_reducible (first
    | assumption | apply kept_setWant | apply kept_stopProfile | apply kept_obstEvent | apply kept_inc | apply kept_setB
    | apply kept_dwGo | apply kept_modCyc | exact kept_mk (by assumption)
    | (extract_lets +onlyGivenNames x; refine kept_cut (q := q) (x := x) ?_ (fun _ => ?_); unfold x; clear x; rotate_left; clear_value x)
    | (extract_lets +onlyGivenNames x; clear_value x) | extract_lets +onlyGivenNames _ | split)

theorem kept_porchGone {q s a1} (h : Kept q s) : Kept q (State.porchGone s a1) := by
  unfold State.porchGone
  repeat' with_reducible (first
    | assumption | apply kept_setB | exact kept_mk (by assumption)
    | (extract_lets +onlyGivenNames x; refine kept_cut (q := q) (x := x) ?_ (fun _ => ?_); unfold x; clear x; rotate_left; clear_value x)
    | (extract_lets +onlyGivenNames x; clear_value x) | extract_lets +onlyGivenNames _ | split)

theorem kept_stepStarts {q s a1 a2 a3} (h : Kept q s) : Kept q (State.stepStarts s a1 a2 a3) := by
  unfold State.stepStarts
  repeat' with_reducible (first
    | assumption | apply kept_modDw | apply kept_setStep | exact kept_mk (by assumption)
    | (extract_lets +onlyGivenNames x; refine kept_cut (q := q) (x := x) ?_ (fun _ => ?_); unfold x; clear x; rotate_left; clear_value x)
    | (extract_lets +onlyGivenNames x; clear_value x) | extract_lets +onlyGivenNames _ | split)

theorem kept_closeStarts {q s a1 a2} (h : Kept q s) : Kept q (State.closeStarts s a1 a2) := by
  unfold State.closeStarts
  repeat' with_reducible (first
    | assumption | apply kept_setB | apply kept_set | apply kept_modDw | apply kept_modCyc | apply kept_dwGo
    | exact kept_mk (by assumption)
    | (extract_lets +onlyGivenNames x; refine kept_cut (q := q) (x := x) ?_ (fun _ => ?_); unfold x; clear x; rotate_left; clear_value x)
    | (extract_lets +onlyGivenNames x; clear_value x) | extract_lets +onlyGivenNames _ | split)

theorem kept_edgeAtStart {q s a1} (h : Kept q s) : Kept q (State.edgeAtStart s a1) := by
  unfold State.edgeAtStart
  repeat' with_reducible (first
    | assumption | apply kept_takeDets | apply kept_placeDet | refine kept_foldl ?_ (fun _ _ _ => ?_) | split)

theorem kept_goMotion {q s a1 a2} (h : Kept q s) : Kept q (State.goMotion s a1 a2) := by
  unfold State.goMotion
  repeat' with_reducible (first
    | assumption | apply kept_startMotion | apply kept_stepStarts | apply kept_modDw | apply kept_closeStarts
    | apply kept_edgeAtStart | exact kept_mk (by assumption)
    | (extract_lets +onlyGivenNames x; refine kept_cut (q := q) (x := x) ?_ (fun _ => ?_); unfold x; clear x; rotate_left; clear_value x)
    | (extract_lets +onlyGivenNames x; clear_value x) | extract_lets +onlyGivenNames _ | split)

theorem kept_askAdmission {q s a1 a2} (h : Kept q s) : Kept q (State.askAdmission s a1 a2) := by
  unfold State.askAdmission
  repeat' with_reducible (first
    | assumption | apply kept_modAx | apply kept_set | exact kept_mk (by assumption)
    | (extract_lets +onlyGivenNames x; refine kept_cut (q := q) (x := x) ?_ (fun _ => ?_); unfold x; clear x; rotate_left; clear_value x)
    | (extract_lets +onlyGivenNames x; clear_value x) | extract_lets +onlyGivenNames _ | split)

theorem kept_admitReq {q s a1} (h : Kept q s) : Kept q (State.admitReq s a1) := by
  unfold State.admitReq
  repeat' with_reducible (first
    | assumption | apply kept_set | apply kept_modAx | apply kept_modCyc | exact kept_mk (by assumption)
    | (extract_lets +onlyGivenNames x; refine kept_cut (q := q) (x := x) ?_ (fun _ => ?_); unfold x; clear x; rotate_left; clear_value x)
    | (extract_lets +onlyGivenNames x; clear_value x) | extract_lets +onlyGivenNames _)

theorem kept_admitAtOnce {q s a1 a2} (h : Kept q s) : Kept q (State.admitAtOnce s a1 a2) := by
  unfold State.admitAtOnce
  repeat' with_reducible (first
    | assumption | apply kept_askAdmission | apply kept_admitReq | exact kept_mk (by assumption)
    | (extract_lets +onlyGivenNames x; refine kept_cut (q := q) (x := x) ?_ (fun _ => ?_); unfold x; clear x; rotate_left; clear_value x)
    | (extract_lets +onlyGivenNames x; clear_value x) | extract_lets +onlyGivenNames _ | split)

theorem kept_startWant {q s a1} (h : Kept q s) : Kept q (State.startWant s a1) := by
  unfold State.startWant
  repeat' with_reducible (first
    | assumption | apply kept_goMotion | apply kept_admitAtOnce | apply kept_askAdmission | exact kept_mk (by assumption)
    | (extract_lets +onlyGivenNames x; refine kept_cut (q := q) (x := x) ?_ (fun _ => ?_); unfold x; clear x; rotate_left; clear_value x)
    | (extract_lets +onlyGivenNames x; clear_value x) | extract_lets +onlyGivenNames _ | split)

theorem kept_showWait {q s a1} (h : Kept q s) : Kept q (State.showWait s a1) := by
  unfold State.showWait
  repeat' with_reducible (first
    | assumption | apply kept_modCyc | apply kept_set | exact kept_mk (by assumption)
    | (extract_lets +onlyGivenNames x; refine kept_cut (q := q) (x := x) ?_ (fun _ => ?_); unfold x; clear x; rotate_left; clear_value x)
    | (extract_lets +onlyGivenNames x; clear_value x) | extract_lets +onlyGivenNames _ | split)

theorem kept_learnSample {q s a1 a2} (h : Kept q s) : Kept q (State.learnSample s a1 a2) := by
  unfold State.learnSample
  repeat' with_reducible (first
    | assumption | apply kept_modDw | exact kept_mk (by assumption)
    | (extract_lets +onlyGivenNames x; refine kept_cut (q := q) (x := x) ?_ (fun _ => ?_); unfold x; clear x; rotate_left; clear_value x)
    | (extract_lets +onlyGivenNames x; clear_value x) | extract_lets +onlyGivenNames _ | split)

theorem kept_residSample {q s a1 a2} (h : Kept q s) : Kept q (State.residSample s a1 a2) := by
  unfold State.residSample
  repeat' with_reducible (first
    | assumption | apply kept_modDw | exact kept_mk (by assumption)
    | (extract_lets +onlyGivenNames x; refine kept_cut (q := q) (x := x) ?_ (fun _ => ?_); unfold x; clear x; rotate_left; clear_value x)
    | (extract_lets +onlyGivenNames x; clear_value x) | extract_lets +onlyGivenNames _ | split)

theorem kept_cycleSample {q s a1} (h : Kept q s) : Kept q (State.cycleSample s a1) := by
  unfold State.cycleSample
  repeat' with_reducible (first
    | assumption | apply kept_modCyc | exact kept_mk (by assumption)
    | (extract_lets +onlyGivenNames x; refine kept_cut (q := q) (x := x) ?_ (fun _ => ?_); unfold x; clear x; rotate_left; clear_value x)
    | (extract_lets +onlyGivenNames x; clear_value x) | extract_lets +onlyGivenNames _ | split)

theorem kept_moveAxis {q s a1} (h : Kept q s) : Kept q (State.moveAxis s a1) := by
  unfold State.moveAxis
  repeat' with_reducible (first
    | assumption | apply kept_directionCheck | apply kept_axisTick | apply kept_residSample | apply kept_learnSample
    | exact kept_mk (by assumption)
    | (extract_lets +onlyGivenNames x; refine kept_cut (q := q) (x := x) ?_ (fun _ => ?_); unfold x; clear x; rotate_left; clear_value x)
    | (extract_lets +onlyGivenNames x; clear_value x) | extract_lets +onlyGivenNames _)

theorem kept_driveTick {q s a1} (h : Kept q s) : Kept q (State.driveTick s a1) := by
  unfold State.driveTick
  repeat' with_reducible (first
    | assumption | apply kept_modDw | exact kept_mk (by assumption)
    | (extract_lets +onlyGivenNames x; refine kept_cut (q := q) (x := x) ?_ (fun _ => ?_); unfold x; clear x; rotate_left; clear_value x)
    | (extract_lets +onlyGivenNames x; clear_value x) | extract_lets +onlyGivenNames _ | split)

theorem kept_showSwept {q s a1} (h : Kept q s) : Kept q (State.showSwept s a1) := by
  unfold State.showSwept
  repeat' with_reducible (first
    | assumption | apply kept_set | apply kept_setI | apply kept_setSvActive
    | (extract_lets +onlyGivenNames x; refine kept_cut (q := q) (x := x) ?_ (fun _ => ?_); unfold x; clear x; rotate_left; clear_value x)
    | (extract_lets +onlyGivenNames x; clear_value x) | extract_lets +onlyGivenNames _)

theorem kept_trackSwept {q s a1} (h : Kept q s) : Kept q (State.trackSwept s a1) := by
  unfold State.trackSwept
  repeat' with_reducible (first
    | assumption | apply kept_sampleAxis | apply kept_setI | apply kept_showSwept
    | (extract_lets +onlyGivenNames x; refine kept_cut (q := q) (x := x) ?_ (fun _ => ?_); unfold x; clear x; rotate_left; clear_value x)
    | (extract_lets +onlyGivenNames x; clear_value x) | extract_lets +onlyGivenNames _)

theorem kept_trajectories {q s a1} (h : Kept q s) : Kept q (State.trajectories s a1) := by
  unfold State.trajectories
  repeat' with_reducible (first
    | assumption | apply kept_startWant | apply kept_moveAxis | apply kept_driveTick | apply kept_showSwept
    | apply kept_cycleSample | apply kept_showWait
    | (extract_lets +onlyGivenNames x; refine kept_cut (q := q) (x := x) ?_ (fun _ => ?_); unfold x; clear x; rotate_left; clear_value x)
    | (extract_lets +onlyGivenNames x; clear_value x) | extract_lets +onlyGivenNames _)

theorem kept_doorTick {q s a1} (h : Kept q s) : Kept q (State.doorTick s a1) := by
  unfold State.doorTick
  repeat' with_reducible (first
    | assumption | apply kept_trackSwept | apply kept_arbitrate | apply kept_snapTick | apply kept_modDw | apply kept_sampleDoor
    | apply kept_evalLayers | apply kept_reactions | apply kept_trajectories | apply kept_takeDets | apply kept_porchHold
    | apply kept_completions | apply kept_porchGone | apply kept_runSteps | exact kept_mk (by assumption)
    | (extract_lets +onlyGivenNames x; refine kept_cut (q := q) (x := x) ?_ (fun _ => ?_); unfold x; clear x; rotate_left; clear_value x)
    | (extract_lets +onlyGivenNames x; clear_value x) | extract_lets +onlyGivenNames _ | split)

theorem kept_dropHostOffers {q s a1} (h : Kept q s) : Kept q (State.dropHostOffers s a1) := by
  unfold State.dropHostOffers
  repeat' with_reducible (first
    | assumption | apply kept_modDw | apply kept_answer | exact kept_mk (by assumption) | refine kept_foldl ?_ (fun _ _ _ => ?_)
    | (extract_lets +onlyGivenNames x; refine kept_cut (q := q) (x := x) ?_ (fun _ => ?_); unfold x; clear x; rotate_left; clear_value x)
    | (extract_lets +onlyGivenNames x; clear_value x) | extract_lets +onlyGivenNames _)

theorem kept_stopKeep {q s a1} (h : Kept q s) : Kept q (State.stopKeep s a1) := by
  unfold State.stopKeep
  repeat' with_reducible (first
    | assumption | apply kept_haltDoor | apply kept_modDw | apply kept_dwGo | exact kept_mk (by assumption)
    | (extract_lets +onlyGivenNames x; refine kept_cut (q := q) (x := x) ?_ (fun _ => ?_); unfold x; clear x; rotate_left; clear_value x)
    | (extract_lets +onlyGivenNames x; clear_value x) | extract_lets +onlyGivenNames _ | split)

theorem kept_hostLost {q s a1} (h : Kept q s) : Kept q (State.hostLost s a1) := by
  unfold State.hostLost
  repeat' with_reducible (first
    | assumption | apply kept_dropHostOffers | apply kept_setB | apply kept_dwGo | apply kept_stopKeep | apply kept_learnAbort
    | apply kept_haltDoor | exact kept_mk (by assumption)
    | (extract_lets +onlyGivenNames x; refine kept_cut (q := q) (x := x) ?_ (fun _ => ?_); unfold x; clear x; rotate_left; clear_value x)
    | (extract_lets +onlyGivenNames x; clear_value x) | extract_lets +onlyGivenNames _ | split)

theorem kept_execDoorwayTick {q a1 s} (h : Kept q s) : Answers q (execDoorwayTick a1 s) := by
  unfold execDoorwayTick
  repeat' with_reducible (first
    | assumption | intro _ | apply answers_next | apply kept_whenRunning | apply kept_doorTick)

theorem kept_request {q s a1 a2} (h : Kept q s) : Kept q (State.request s a1 a2) := by
  unfold State.request
  repeat' with_reducible (first
    | assumption | intro _ | apply kept_command | apply kept_whenAwake | apply kept_offer | exact kept_mk (by assumption)
    | (extract_lets +onlyGivenNames x; refine kept_cut (q := q) (x := x) ?_ (fun _ => ?_); unfold x; clear x; rotate_left; clear_value x)
    | (extract_lets +onlyGivenNames x; clear_value x) | extract_lets +onlyGivenNames _ | split)

theorem kept_execOpenCmd {q a1 a2 s} (h : Kept q s) : Answers q (execOpenCmd a1 a2 s) := by
  unfold execOpenCmd
  repeat' with_reducible (first
    | assumption | apply answers_next | apply kept_request)

theorem kept_execCloseCmd {q a1 a2 s} (h : Kept q s) : Answers q (execCloseCmd a1 a2 s) := by
  unfold execCloseCmd
  repeat' with_reducible (first
    | assumption | apply answers_next | apply kept_request)

theorem kept_execCloseWait {q a1 a2 s} (h : Kept q s) : Answers q (execCloseWait a1 a2 s) := by
  unfold execCloseWait
  repeat' with_reducible (first
    | assumption | apply answers_next | apply kept_request)

theorem kept_execStopCmd {q a1 a2 s} (h : Kept q s) : Answers q (execStopCmd a1 a2 s) := by
  unfold execStopCmd
  repeat' with_reducible (first
    | assumption | apply answers_next | apply kept_request)

theorem kept_execIsolate {q a1 a2 s} (h : Kept q s) : Answers q (execIsolate a1 a2 s) := by
  unfold execIsolate
  repeat' with_reducible (first
    | assumption | apply answers_next | apply kept_request)

theorem kept_execRestore {q a1 a2 s} (h : Kept q s) : Answers q (execRestore a1 a2 s) := by
  unfold execRestore
  repeat' with_reducible (first
    | assumption | apply answers_next | apply kept_request)

theorem kept_execHome {q a1 a2 a3 s} (h : Kept q s) : Answers q (execHome a1 a2 a3 s) := by
  unfold execHome
  repeat' with_reducible (first
    | assumption | apply answers_next | apply kept_request | exact kept_mk (by assumption)
    | (extract_lets +onlyGivenNames x; refine kept_cut (q := q) (x := x) ?_ (fun _ => ?_); unfold x; clear x; rotate_left; clear_value x)
    | (extract_lets +onlyGivenNames x; clear_value x) | extract_lets +onlyGivenNames _)

theorem kept_execLearn {q a1 a2 a3 s} (h : Kept q s) : Answers q (execLearn a1 a2 a3 s) := by
  unfold execLearn
  repeat' with_reducible (first
    | assumption | apply answers_next | apply kept_request | exact kept_mk (by assumption)
    | (extract_lets +onlyGivenNames x; refine kept_cut (q := q) (x := x) ?_ (fun _ => ?_); unfold x; clear x; rotate_left; clear_value x)
    | (extract_lets +onlyGivenNames x; clear_value x) | extract_lets +onlyGivenNames _)

theorem kept_execTestCycle {q a1 a2 s} (h : Kept q s) : Answers q (execTestCycle a1 a2 s) := by
  unfold execTestCycle
  repeat' with_reducible (first
    | assumption | apply answers_next | apply kept_request)

theorem kept_dclRose {q s} (h : Kept q s) : Kept q (State.dclRose s) := by
  unfold State.dclRose
  repeat' with_reducible (first
    | assumption | apply kept_offer | apply kept_setB | exact kept_mk (by assumption) | refine kept_foldl ?_ (fun _ _ _ => ?_)
    | (extract_lets +onlyGivenNames x; refine kept_cut (q := q) (x := x) ?_ (fun _ => ?_); unfold x; clear x; rotate_left; clear_value x)
    | (extract_lets +onlyGivenNames x; clear_value x) | extract_lets +onlyGivenNames _ | split)

theorem kept_eachOf {q s a1 f} (h : Kept q s) (hf : ∀ t d, Kept q t → Kept q (f t d)) : Kept q (State.eachOf s a1 f) := by
  unfold State.eachOf
  exact kept_foldl h fun t x ht => by first | exact hf _ _ ht | (split; exact hf _ _ ht; exact ht)

theorem kept_releaseRose {q s a1} (h : Kept q s) : Kept q (State.releaseRose s a1) := by
  unfold State.releaseRose
  repeat' with_reducible (first
    | assumption | intro _ | apply kept_eachOf | apply kept_setB | apply kept_offer
    | (extract_lets +onlyGivenNames x; refine kept_cut (q := q) (x := x) ?_ (fun _ => ?_); unfold x; clear x; rotate_left; clear_value x)
    | (extract_lets +onlyGivenNames x; clear_value x) | extract_lets +onlyGivenNames _ | split)

theorem kept_releaseFell {q s a1} (h : Kept q s) : Kept q (State.releaseFell s a1) := by
  unfold State.releaseFell
  repeat' with_reducible (first
    | assumption | intro _ | apply kept_eachOf | apply kept_setB | apply kept_dwGo | exact kept_mk (by assumption)
    | (extract_lets +onlyGivenNames x; refine kept_cut (q := q) (x := x) ?_ (fun _ => ?_); unfold x; clear x; rotate_left; clear_value x)
    | (extract_lets +onlyGivenNames x; clear_value x) | extract_lets +onlyGivenNames _ | split)

theorem kept_execDclRise {q s} (h : Kept q s) : Answers q (execDclRise s) := by
  unfold execDclRise
  repeat' with_reducible (first
    | assumption | intro _ | apply answers_next | apply kept_whenAwake | apply kept_dclRose)

theorem kept_execSideReleaseRise {q a1 s} (h : Kept q s) : Answers q (execSideReleaseRise a1 s) := by
  unfold execSideReleaseRise
  repeat' with_reducible (first
    | assumption | intro _ | apply answers_next | apply kept_whenAwake | apply kept_releaseRose)

theorem kept_execSideReleaseWithdrawn {q a1 s} (h : Kept q s) : Answers q (execSideReleaseWithdrawn a1 s) := by
  unfold execSideReleaseWithdrawn
  repeat' with_reducible (first
    | assumption | intro _ | apply answers_next | apply kept_whenAwake | apply kept_releaseFell)

theorem kept_execOpenButtonPress {q a1 s} (h : Kept q s) : Answers q (execOpenButtonPress a1 s) := by
  unfold execOpenButtonPress
  repeat' with_reducible (first
    | assumption | intro _ | apply answers_next | apply kept_whenAwake | apply kept_offer | split)

theorem kept_execIsolationActive {q a1 s} (h : Kept q s) : Answers q (execIsolationActive a1 s) := by
  unfold execIsolationActive
  repeat' with_reducible (first
    | assumption | intro _ | apply answers_next | apply kept_whenEngine | apply kept_enterIsolated)

theorem kept_execEgressActive {q a1 s} (h : Kept q s) : Answers q (execEgressActive a1 s) := by
  unfold execEgressActive
  repeat' with_reducible (first
    | assumption | intro _ | apply answers_next | apply kept_whenEngine | apply kept_enterEgress)

theorem kept_execUnlockConfirmed {q a1 s} (h : Kept q s) : Answers q (execUnlockConfirmed a1 s) := by
  unfold execUnlockConfirmed
  repeat' with_reducible (first
    | assumption | intro _ | apply answers_next | apply kept_whenDoor | apply kept_unlocked | split)

theorem kept_execTUnlockExpired {q a1 s} (h : Kept q s) : Answers q (execTUnlockExpired a1 s) := by
  unfold execTUnlockExpired
  repeat' with_reducible (first
    | assumption | intro _ | apply answers_next | apply kept_whenEngine | apply kept_unlockTimeout | split)

theorem kept_execLockConfirmed {q a1 s} (h : Kept q s) : Answers q (execLockConfirmed a1 s) := by
  unfold execLockConfirmed
  repeat' with_reducible (first
    | assumption | intro _ | apply answers_next | apply kept_whenDoor | apply kept_dwGo | exact kept_mk (by assumption)
    | (extract_lets +onlyGivenNames x; refine kept_cut (q := q) (x := x) ?_ (fun _ => ?_); unfold x; clear x; rotate_left; clear_value x)
    | (extract_lets +onlyGivenNames x; clear_value x) | extract_lets +onlyGivenNames _ | split)

theorem kept_execTLockExpired {q a1 s} (h : Kept q s) : Answers q (execTLockExpired a1 s) := by
  unfold execTLockExpired
  repeat' with_reducible (first
    | assumption | intro _ | apply answers_next | apply kept_whenEngine | apply kept_lockTimeout | split)

theorem kept_execLockedLost {q a1 a2 s} (h : Kept q s) : Answers q (execLockedLost a1 a2 s) := by
  unfold execLockedLost
  repeat' with_reducible (first
    | assumption | intro _ | apply answers_next | apply kept_whenEngine | apply kept_dwFaultHere | split)

theorem kept_execLeavesPushed {q a1 s} (h : Kept q s) : Answers q (execLeavesPushed a1 s) := by
  unfold execLeavesPushed
  repeat' with_reducible (first
    | assumption | intro _ | apply answers_next | apply kept_whenDoor | apply kept_dwGo | split)

theorem kept_execClosedLost {q a1 s} (h : Kept q s) : Answers q (execClosedLost a1 s) := by
  unfold execClosedLost
  repeat' with_reducible (first
    | assumption | intro _ | apply answers_next | apply kept_whenDoor | apply kept_dwGo | split)

theorem kept_execManualStillExpired {q a1 s} (h : Kept q s) : Answers q (execManualStillExpired a1 s) := by
  unfold execManualStillExpired
  repeat' with_reducible (first
    | assumption | intro _ | apply answers_next | apply kept_whenDoor | apply kept_manualStill | split)

theorem kept_execHomingNoStall {q a1 s} (h : Kept q s) : Answers q (execHomingNoStall a1 s) := by
  unfold execHomingNoStall
  repeat' with_reducible (first
    | assumption | intro _ | apply answers_next | apply kept_whenEngine | apply kept_homingNoStall)

theorem kept_execStepRetractRetry {q a1 s} (h : Kept q s) : Answers q (execStepRetractRetry a1 s) := by
  unfold execStepRetractRetry
  repeat' with_reducible (first
    | assumption | intro _ | apply answers_next | apply kept_whenEngine | apply kept_startWant | apply kept_modDw
    | exact kept_mk (by assumption)
    | (extract_lets +onlyGivenNames x; refine kept_cut (q := q) (x := x) ?_ (fun _ => ?_); unfold x; clear x; rotate_left; clear_value x)
    | (extract_lets +onlyGivenNames x; clear_value x) | extract_lets +onlyGivenNames _ | split)

theorem kept_execStepLatchTimeout {q a1 s} (h : Kept q s) : Answers q (execStepLatchTimeout a1 s) := by
  unfold execStepLatchTimeout
  repeat' with_reducible (first
    | assumption | intro _ | apply answers_next | apply kept_whenEngine | apply kept_dwFaultHere | apply kept_modDw
    | exact kept_mk (by assumption)
    | (extract_lets +onlyGivenNames x; refine kept_cut (q := q) (x := x) ?_ (fun _ => ?_); unfold x; clear x; rotate_left; clear_value x)
    | (extract_lets +onlyGivenNames x; clear_value x) | extract_lets +onlyGivenNames _ | split)

theorem kept_execMotionEnd {q a1 s} (h : Kept q s) : Answers q (execMotionEnd a1 s) := by
  unfold execMotionEnd
  repeat' with_reducible (first
    | assumption | intro _ | apply answers_next | apply kept_whenEngine | apply kept_takeDets | apply kept_judgeEnd
    | apply kept_motionEnd)

theorem kept_execInposFail {q a1 s} (h : Kept q s) : Answers q (execInposFail a1 s) := by
  unfold execInposFail
  repeat' with_reducible (first
    | assumption | intro _ | apply answers_next | apply kept_whenEngine | apply kept_takeDets | apply kept_judgeEnd
    | apply kept_inposFail)

theorem kept_execStall {q a1 s} (h : Kept q s) : Answers q (execStall a1 s) := by
  unfold execStall
  repeat' with_reducible (first
    | assumption | intro _ | apply answers_next | apply kept_whenEngine | apply kept_takeDets | apply kept_judgeEnd
    | apply kept_stall)

theorem kept_execReopenDwellExpired {q a1 s} (h : Kept q s) : Answers q (execReopenDwellExpired a1 s) := by
  unfold execReopenDwellExpired
  repeat' with_reducible (first
    | assumption | intro _ | apply answers_next | apply kept_whenDoor | apply kept_reopenDwellOver | split)

theorem kept_execTestDwellExpired {q a1 s} (h : Kept q s) : Answers q (execTestDwellExpired a1 s) := by
  unfold execTestDwellExpired
  repeat' with_reducible (first
    | assumption | intro _ | apply answers_next | apply kept_whenDoor | apply kept_testDwellOver | split)

theorem kept_execPorchWaitExpired {q a1 s} (h : Kept q s) : Answers q (execPorchWaitExpired a1 s) := by
  unfold execPorchWaitExpired
  repeat' with_reducible (first
    | assumption | intro _ | apply answers_next | apply kept_whenDoor | apply kept_startWant | apply kept_modDw
    | exact kept_mk (by assumption)
    | (extract_lets +onlyGivenNames x; refine kept_cut (q := q) (x := x) ?_ (fun _ => ?_); unfold x; clear x; rotate_left; clear_value x)
    | (extract_lets +onlyGivenNames x; clear_value x) | extract_lets +onlyGivenNames _ | split)

theorem kept_execForceLimitExceeded {q a1 s} (h : Kept q s) : Answers q (execForceLimitExceeded a1 s) := by
  unfold execForceLimitExceeded
  repeat' with_reducible (first
    | assumption | intro _ | apply answers_next | apply kept_whenEngine | apply kept_obstacle | split)

theorem kept_modelFault {q s a1 a2 a3} (h : Kept q s) : Kept q (State.modelFault s a1 a2 a3) := by
  unfold State.modelFault
  repeat' with_reducible (first
    | assumption | apply kept_modDw | apply kept_setDegr | apply kept_setB | apply kept_logFault | exact kept_mk (by assumption)
    | (extract_lets +onlyGivenNames x; refine kept_cut (q := q) (x := x) ?_ (fun _ => ?_); unfold x; clear x; rotate_left; clear_value x)
    | (extract_lets +onlyGivenNames x; clear_value x) | extract_lets +onlyGivenNames _)

theorem kept_crossCheck {q s a1} (h : Kept q s) : Kept q (State.crossCheck s a1) := by
  unfold State.crossCheck
  repeat' with_reducible (first
    | assumption | apply kept_modelFault
    | (extract_lets +onlyGivenNames x; refine kept_cut (q := q) (x := x) ?_ (fun _ => ?_); unfold x; clear x; rotate_left; clear_value x)
    | (extract_lets +onlyGivenNames x; clear_value x) | extract_lets +onlyGivenNames _ | split)

theorem kept_execModelCrossCheck {q a1 s} (h : Kept q s) : Answers q (execModelCrossCheck a1 s) := by
  unfold execModelCrossCheck
  repeat' with_reducible (first
    | assumption | intro _ | apply answers_next | apply kept_whenRunning | apply kept_crossCheck | exact kept_mk (by assumption)
    | (extract_lets +onlyGivenNames x; refine kept_cut (q := q) (x := x) ?_ (fun _ => ?_); unfold x; clear x; rotate_left; clear_value x)
    | (extract_lets +onlyGivenNames x; clear_value x) | extract_lets +onlyGivenNames _)

theorem kept_execForceCheckDivergence {q a1 s} (h : Kept q s) : Answers q (execForceCheckDivergence a1 s) := by
  unfold execForceCheckDivergence
  repeat' with_reducible (first
    | assumption | intro _ | apply answers_next | apply kept_whenRunning | apply kept_modelFault)

theorem kept_execObstacleStopRest {q a1 s} (h : Kept q s) : Answers q (execObstacleStopRest a1 s) := by
  unfold execObstacleStopRest
  repeat' with_reducible (first
    | assumption | intro _ | apply answers_next | apply kept_whenEngine | apply kept_obstacleRest)

theorem kept_execLearnRunEnd {q a1 s} (h : Kept q s) : Answers q (execLearnRunEnd a1 s) := by
  unfold execLearnRunEnd
  repeat' with_reducible (first
    | assumption | intro _ | apply answers_next | apply kept_whenDoor | apply kept_learnFinish | split)

theorem kept_execLearnTimeout {q a1 s} (h : Kept q s) : Answers q (execLearnTimeout a1 s) := by
  unfold execLearnTimeout
  repeat' with_reducible (first
    | assumption | intro _ | apply answers_next | apply kept_whenDoor | apply kept_learnTimeout | split)

theorem kept_execEffSnap {q a1 s} (h : Kept q s) : Answers q (execEffSnap a1 s) := by
  unfold execEffSnap
  repeat' with_reducible (first
    | assumption | intro _ | apply answers_next | apply kept_whenRunning | apply kept_askSnap)

theorem kept_execResetAdapt {q a1 s} (h : Kept q s) : Answers q (execResetAdapt a1 s) := by
  unfold execResetAdapt
  repeat' with_reducible (first
    | assumption | intro _ | apply answers_next | apply kept_whenRunning | apply kept_judgeModel | apply kept_resetAdapt
    | apply kept_reject | split)

end Sys2Proof.Machine
end

