-- ==== Sys2Proof/Laws/KeptSafetyCore.lean ====
section
/-! SUPPORT. One lemma per operation of Machine/SafetyCore.lean that answers a state: it leaves the queue alone and keeps the register
window canonical; per meaning: it completes, and so does its state. -/

namespace Sys2Proof.Machine

theorem kept_showDegr {q s} (h : Kept q s) : Kept q (State.showDegr s) := by
  unfold State.showDegr
  repeat' with_reducible (first
    | assumption | apply kept_setB | apply kept_set | refine kept_foldl ?_ (fun _ _ _ => ?_)
    | (extract_lets +onlyGivenNames x; refine kept_cut (q := q) (x := x) ?_ (fun _ => ?_); unfold x; clear x; rotate_left; clear_value x)
    | (extract_lets +onlyGivenNames x; clear_value x) | extract_lets +onlyGivenNames _ | split)

theorem kept_degrOn {q s a1 a2} (h : Kept q s) : Kept q (State.degrOn s a1 a2) := by
  unfold State.degrOn
  repeat' with_reducible (first
    | assumption | apply kept_set | apply kept_modScD | apply kept_raise | apply kept_inc | apply kept_setB | apply kept_event
    | apply kept_showDegr | exact kept_mk (by assumption)
    | (extract_lets +onlyGivenNames x; refine kept_cut (q := q) (x := x) ?_ (fun _ => ?_); unfold x; clear x; rotate_left; clear_value x)
    | (extract_lets +onlyGivenNames x; clear_value x) | extract_lets +onlyGivenNames _ | split)

theorem kept_degrOff {q s a1 a2} (h : Kept q s) : Kept q (State.degrOff s a1 a2) := by
  unfold State.degrOff
  repeat' with_reducible (first
    | assumption | apply kept_set | apply kept_modScD | apply kept_setB | apply kept_showDegr | exact kept_mk (by assumption)
    | (extract_lets +onlyGivenNames x; refine kept_cut (q := q) (x := x) ?_ (fun _ => ?_); unfold x; clear x; rotate_left; clear_value x)
    | (extract_lets +onlyGivenNames x; clear_value x) | extract_lets +onlyGivenNames _ | split)

theorem kept_degrExpire {q s a1} (h : Kept q s) : Kept q (State.degrExpire s a1) := by
  unfold State.degrExpire
  repeat' with_reducible (first
    | assumption | apply kept_showDegr | apply kept_setB | apply kept_set | split)

theorem kept_degrFresh {q s a1} (h : Kept q s) : Kept q (State.degrFresh s a1) := by
  unfold State.degrFresh
  repeat' with_reducible (first
    | assumption | apply kept_modScD | apply kept_set | exact kept_mk (by assumption)
    | (extract_lets +onlyGivenNames x; refine kept_cut (q := q) (x := x) ?_ (fun _ => ?_); unfold x; clear x; rotate_left; clear_value x)
    | (extract_lets +onlyGivenNames x; clear_value x) | extract_lets +onlyGivenNames _ | split)

theorem kept_degrTick {q s a1} (h : Kept q s) : Kept q (State.degrTick s a1) := by
  unfold State.degrTick
  repeat' with_reducible (first
    | assumption | apply kept_modScD | apply kept_set | apply kept_degrExpire | apply kept_degrFresh
    | exact kept_mk (by assumption)
    | (extract_lets +onlyGivenNames x; refine kept_cut (q := q) (x := x) ?_ (fun _ => ?_); unfold x; clear x; rotate_left; clear_value x)
    | (extract_lets +onlyGivenNames x; clear_value x) | extract_lets +onlyGivenNames _ | split)

theorem kept_removeGates {q s a1} (h : Kept q s) : Kept q (State.removeGates s a1) := by
  unfold State.removeGates
  repeat' with_reducible (first
    | assumption | apply kept_dwFaultHere | apply kept_setGateEn
    | (extract_lets +onlyGivenNames x; refine kept_cut (q := q) (x := x) ?_ (fun _ => ?_); unfold x; clear x; rotate_left; clear_value x)
    | (extract_lets +onlyGivenNames x; clear_value x) | extract_lets +onlyGivenNames _)

theorem kept_driveGate {q s a1} (h : Kept q s) : Kept q (State.driveGate s a1) := by
  unfold State.driveGate
  repeat' with_reducible (first
    | assumption | apply kept_setGateEn | apply kept_modAx | exact kept_mk (by assumption)
    | (extract_lets +onlyGivenNames x; refine kept_cut (q := q) (x := x) ?_ (fun _ => ?_); unfold x; clear x; rotate_left; clear_value x)
    | (extract_lets +onlyGivenNames x; clear_value x) | extract_lets +onlyGivenNames _ | split)

theorem kept_tilFault {q s a1 a2} (h : Kept q s) : Kept q (State.tilFault s a1 a2) := by
  unfold State.tilFault
  repeat' with_reducible (first
    | assumption | apply kept_modSc | apply kept_set | apply kept_logFault | apply kept_raise | exact kept_mk (by assumption)
    | (extract_lets +onlyGivenNames x; refine kept_cut (q := q) (x := x) ?_ (fun _ => ?_); unfold x; clear x; rotate_left; clear_value x)
    | (extract_lets +onlyGivenNames x; clear_value x) | extract_lets +onlyGivenNames _ | split)

theorem kept_tilEnd {q s a1} (h : Kept q s) : Kept q (State.tilEnd s a1) := by
  unfold State.tilEnd
  repeat' with_reducible (first
    | assumption | apply kept_modSc | apply kept_setB | exact kept_mk (by assumption)
    | (extract_lets +onlyGivenNames x; refine kept_cut (q := q) (x := x) ?_ (fun _ => ?_); unfold x; clear x; rotate_left; clear_value x)
    | (extract_lets +onlyGivenNames x; clear_value x) | extract_lets +onlyGivenNames _ | split)

theorem kept_tilJudge {q s a1 a2} (h : Kept q s) : Kept q (State.tilJudge s a1 a2) := by
  unfold State.tilJudge
  repeat' with_reducible (first
    | assumption | apply kept_tilFault | apply kept_tilEnd | split)

theorem kept_setTrac {q s a1} (h : Kept q s) : Kept q (State.setTrac s a1) := by
  unfold State.setTrac
  repeat' with_reducible (first
    | assumption | apply kept_markPulse | apply kept_setB | apply kept_inc | apply kept_event | apply kept_raise
    | (extract_lets +onlyGivenNames x; refine kept_cut (q := q) (x := x) ?_ (fun _ => ?_); unfold x; clear x; rotate_left; clear_value x)
    | (extract_lets +onlyGivenNames x; clear_value x) | extract_lets +onlyGivenNames _ | split)

theorem kept_tracTick {q s} (h : Kept q s) : Kept q (State.tracTick s) := by
  unfold State.tracTick
  repeat' with_reducible (first
    | assumption | apply kept_modSc | apply kept_setTrac | apply kept_set | exact kept_mk (by assumption)
    | (extract_lets +onlyGivenNames x; refine kept_cut (q := q) (x := x) ?_ (fun _ => ?_); unfold x; clear x; rotate_left; clear_value x)
    | (extract_lets +onlyGivenNames x; clear_value x) | extract_lets +onlyGivenNames _ | split)

theorem kept_feedbackTick {q s} (h : Kept q s) : Kept q (State.feedbackTick s) := by
  unfold State.feedbackTick
  repeat' with_reducible (first
    | assumption | apply kept_modSc | apply kept_tilFault | apply kept_tilEnd | exact kept_mk (by assumption)
    | (extract_lets +onlyGivenNames x; refine kept_cut (q := q) (x := x) ?_ (fun _ => ?_); unfold x; clear x; rotate_left; clear_value x)
    | (extract_lets +onlyGivenNames x; clear_value x) | extract_lets +onlyGivenNames _ | split)

theorem kept_modLine {q s a1 a2} (h : Kept q s) : Kept q (State.modLine s a1 a2) := by
  unfold State.modLine
  repeat' with_reducible (first
    | assumption | apply kept_modSc | exact kept_mk (by assumption)
    | (extract_lets +onlyGivenNames x; refine kept_cut (q := q) (x := x) ?_ (fun _ => ?_); unfold x; clear x; rotate_left; clear_value x)
    | (extract_lets +onlyGivenNames x; clear_value x) | extract_lets +onlyGivenNames _)

theorem kept_passLine {q s a1 a2} (h : Kept q s) : Kept q (State.passLine s a1 a2) := by
  unfold State.passLine
  repeat' with_reducible (first
    | assumption | apply kept_dclRose | apply kept_setB | split)

theorem kept_sampleLine {q s a1} (h : Kept q s) : Kept q (State.sampleLine s a1) := by
  unfold State.sampleLine
  repeat' with_reducible (first
    | assumption | apply kept_modLine | apply kept_passLine | exact kept_mk (by assumption)
    | (extract_lets +onlyGivenNames x; refine kept_cut (q := q) (x := x) ?_ (fun _ => ?_); unfold x; clear x; rotate_left; clear_value x)
    | (extract_lets +onlyGivenNames x; clear_value x) | extract_lets +onlyGivenNames _ | split)

theorem kept_sampleVolts {q s a1} (h : Kept q s) : Kept q (State.sampleVolts s a1) := by
  unfold State.sampleVolts
  repeat' with_reducible (first
    | assumption | apply kept_modLine | apply kept_sampleLine | exact kept_mk (by assumption)
    | refine kept_foldl ?_ (fun _ _ _ => ?_)
    | (extract_lets +onlyGivenNames x; refine kept_cut (q := q) (x := x) ?_ (fun _ => ?_); unfold x; clear x; rotate_left; clear_value x)
    | (extract_lets +onlyGivenNames x; clear_value x) | extract_lets +onlyGivenNames _)

theorem kept_sampleLines {q s a1} (h : Kept q s) : Kept q (State.sampleLines s a1) := by
  unfold State.sampleLines
  repeat' with_reducible (first
    | assumption | apply kept_setB | apply kept_sampleVolts | refine kept_foldl ?_ (fun _ _ _ => ?_)
    | (extract_lets +onlyGivenNames x; refine kept_cut (q := q) (x := x) ?_ (fun _ => ?_); unfold x; clear x; rotate_left; clear_value x)
    | (extract_lets +onlyGivenNames x; clear_value x) | extract_lets +onlyGivenNames _)

theorem kept_zspFlag {q s} (h : Kept q s) : Kept q (State.zspFlag s) := by
  unfold State.zspFlag
  repeat' with_reducible (first
    | assumption | apply kept_inc | apply kept_raise | apply kept_setB | apply kept_event
    | (extract_lets +onlyGivenNames x; refine kept_cut (q := q) (x := x) ?_ (fun _ => ?_); unfold x; clear x; rotate_left; clear_value x)
    | (extract_lets +onlyGivenNames x; clear_value x) | extract_lets +onlyGivenNames _ | split)

theorem kept_zspTick {q s} (h : Kept q s) : Kept q (State.zspTick s) := by
  unfold State.zspTick
  repeat' with_reducible (first
    | assumption | apply kept_modSc | apply kept_zspFlag | apply kept_setB | exact kept_mk (by assumption)
    | (extract_lets +onlyGivenNames x; refine kept_cut (q := q) (x := x) ?_ (fun _ => ?_); unfold x; clear x; rotate_left; clear_value x)
    | (extract_lets +onlyGivenNames x; clear_value x) | extract_lets +onlyGivenNames _ | split)

theorem kept_stopOpening {q s a1} (h : Kept q s) : Kept q (State.stopOpening s a1) := by
  unfold State.stopOpening
  repeat' with_reducible (first
    | assumption | intro _ | apply kept_eachOf | apply kept_offer | exact kept_mk (by assumption)
    | (extract_lets +onlyGivenNames x; refine kept_cut (q := q) (x := x) ?_ (fun _ => ?_); unfold x; clear x; rotate_left; clear_value x)
    | (extract_lets +onlyGivenNames x; clear_value x) | extract_lets +onlyGivenNames _ | split)

theorem kept_grantSide {q s a1} (h : Kept q s) : Kept q (State.grantSide s a1) := by
  unfold State.grantSide
  repeat' with_reducible (first
    | assumption | apply kept_releaseRose | apply kept_releaseFell | apply kept_stopOpening
    | (extract_lets +onlyGivenNames x; refine kept_cut (q := q) (x := x) ?_ (fun _ => ?_); unfold x; clear x; rotate_left; clear_value x)
    | (extract_lets +onlyGivenNames x; clear_value x) | extract_lets +onlyGivenNames _ | split)

theorem kept_conflictTick {q s} (h : Kept q s) : Kept q (State.conflictTick s) := by
  unfold State.conflictTick
  repeat' with_reducible (first
    | assumption | apply kept_setB | apply kept_event | exact kept_mk (by assumption)
    | (extract_lets +onlyGivenNames x; refine kept_cut (q := q) (x := x) ?_ (fun _ => ?_); unfold x; clear x; rotate_left; clear_value x)
    | (extract_lets +onlyGivenNames x; clear_value x) | extract_lets +onlyGivenNames _ | split)

theorem kept_scDetect {q s a1 a2} (h : Kept q s) : Kept q (State.scDetect s a1 a2) := by
  unfold State.scDetect
  repeat' with_reducible (first
    | assumption | apply kept_modScD | apply kept_placeDet | exact kept_mk (by assumption)
    | (extract_lets +onlyGivenNames x; refine kept_cut (q := q) (x := x) ?_ (fun _ => ?_); unfold x; clear x; rotate_left; clear_value x)
    | (extract_lets +onlyGivenNames x; clear_value x) | extract_lets +onlyGivenNames _)

theorem kept_edgeTick {q s a1 a2} (h : Kept q s) : Kept q (State.edgeTick s a1 a2) := by
  unfold State.edgeTick
  repeat' with_reducible (first
    | assumption | apply kept_modScD | apply kept_degrOn | apply kept_safJudge | apply kept_degrOff
    | exact kept_mk (by assumption)
    | (extract_lets +onlyGivenNames x; refine kept_cut (q := q) (x := x) ?_ (fun _ => ?_); unfold x; clear x; rotate_left; clear_value x)
    | (extract_lets +onlyGivenNames x; clear_value x) | extract_lets +onlyGivenNames _ | split)

theorem kept_boundTick {q s a1} (h : Kept q s) : Kept q (State.boundTick s a1) := by
  unfold State.boundTick
  repeat' with_reducible (first
    | assumption | apply kept_modScD | apply kept_scDetect | apply kept_modelFault | exact kept_mk (by assumption)
    | (extract_lets +onlyGivenNames x; refine kept_cut (q := q) (x := x) ?_ (fun _ => ?_); unfold x; clear x; rotate_left; clear_value x)
    | (extract_lets +onlyGivenNames x; clear_value x) | extract_lets +onlyGivenNames _ | split)

theorem kept_reactTick {q s a1} (h : Kept q s) : Kept q (State.reactTick s a1) := by
  unfold State.reactTick
  repeat' with_reducible (first
    | assumption | apply kept_modScD | apply kept_removeGates | apply kept_safFault | exact kept_mk (by assumption)
    | (extract_lets +onlyGivenNames x; refine kept_cut (q := q) (x := x) ?_ (fun _ => ?_); unfold x; clear x; rotate_left; clear_value x)
    | (extract_lets +onlyGivenNames x; clear_value x) | extract_lets +onlyGivenNames _ | split)

theorem kept_sf3Tick {q s a1} (h : Kept q s) : Kept q (State.sf3Tick s a1) := by
  unfold State.sf3Tick
  repeat' with_reducible (first
    | assumption | apply kept_reactTick | apply kept_scDetect | apply kept_boundTick | apply kept_edgeTick
    | refine kept_foldl ?_ (fun _ _ _ => ?_)
    | (extract_lets +onlyGivenNames x; refine kept_cut (q := q) (x := x) ?_ (fun _ => ?_); unfold x; clear x; rotate_left; clear_value x)
    | (extract_lets +onlyGivenNames x; clear_value x) | extract_lets +onlyGivenNames _ | split)

theorem kept_stepOutFault {q s a1} (h : Kept q s) : Kept q (State.stepOutFault s a1) := by
  unfold State.stepOutFault
  repeat' with_reducible (first
    | assumption | apply kept_removeGates | apply kept_safJudge)

theorem kept_sf4Tick {q s a1} (h : Kept q s) : Kept q (State.sf4Tick s a1) := by
  unfold State.sf4Tick
  repeat' with_reducible (first
    | assumption | apply kept_modScD | apply kept_stepOutFault | apply kept_safJudge | exact kept_mk (by assumption)
    | (extract_lets +onlyGivenNames x; refine kept_cut (q := q) (x := x) ?_ (fun _ => ?_); unfold x; clear x; rotate_left; clear_value x)
    | (extract_lets +onlyGivenNames x; clear_value x) | extract_lets +onlyGivenNames _ | split)

theorem kept_egressStop {q s a1} (h : Kept q s) : Kept q (State.egressStop s a1) := by
  unfold State.egressStop
  repeat' with_reducible (first
    | assumption | apply kept_modScD | apply kept_setGateEn | exact kept_mk (by assumption)
    | (extract_lets +onlyGivenNames x; refine kept_cut (q := q) (x := x) ?_ (fun _ => ?_); unfold x; clear x; rotate_left; clear_value x)
    | (extract_lets +onlyGivenNames x; clear_value x) | extract_lets +onlyGivenNames _)

theorem kept_sf5Tick {q s a1} (h : Kept q s) : Kept q (State.sf5Tick s a1) := by
  unfold State.sf5Tick
  repeat' with_reducible (first
    | assumption | apply kept_modScD | apply kept_safJudge | apply kept_egressStop | exact kept_mk (by assumption)
    | (extract_lets +onlyGivenNames x; refine kept_cut (q := q) (x := x) ?_ (fun _ => ?_); unfold x; clear x; rotate_left; clear_value x)
    | (extract_lets +onlyGivenNames x; clear_value x) | extract_lets +onlyGivenNames _ | split)

theorem kept_lockTick {q s a1} (h : Kept q s) : Kept q (State.lockTick s a1) := by
  unfold State.lockTick
  repeat' with_reducible (first
    | assumption | apply kept_scDrive | apply kept_modScD | exact kept_mk (by assumption)
    | (extract_lets +onlyGivenNames x; refine kept_cut (q := q) (x := x) ?_ (fun _ => ?_); unfold x; clear x; rotate_left; clear_value x)
    | (extract_lets +onlyGivenNames x; clear_value x) | extract_lets +onlyGivenNames _ | split)

theorem kept_disagreement {q s a1} (h : Kept q s) : Kept q (State.disagreement s a1) := by
  unfold State.disagreement
  repeat' with_reducible (first
    | assumption | apply kept_removeGates | apply kept_safJudge)

theorem kept_sf6Tick {q s a1} (h : Kept q s) : Kept q (State.sf6Tick s a1) := by
  unfold State.sf6Tick
  repeat' with_reducible (first
    | assumption | apply kept_lockTick | apply kept_modScD | apply kept_disagreement | apply kept_safJudge
    | exact kept_mk (by assumption)
    | (extract_lets +onlyGivenNames x; refine kept_cut (q := q) (x := x) ?_ (fun _ => ?_); unfold x; clear x; rotate_left; clear_value x)
    | (extract_lets +onlyGivenNames x; clear_value x) | extract_lets +onlyGivenNames _ | split)

theorem kept_loopPulse {q s a1} (h : Kept q s) : Kept q (State.loopPulse s a1) := by
  unfold State.loopPulse
  repeat' with_reducible (first
    | assumption | apply kept_modSc | exact kept_mk (by assumption)
    | (extract_lets +onlyGivenNames x; refine kept_cut (q := q) (x := x) ?_ (fun _ => ?_); unfold x; clear x; rotate_left; clear_value x)
    | (extract_lets +onlyGivenNames x; clear_value x) | extract_lets +onlyGivenNames _ | split)

theorem kept_loopOpen {q s} (h : Kept q s) : Kept q (State.loopOpen s) := by
  unfold State.loopOpen
  repeat' with_reducible (first
    | assumption | apply kept_inc | apply kept_setB | split)

theorem kept_setLoop {q s a1 a2} (h : Kept q s) : Kept q (State.setLoop s a1 a2) := by
  unfold State.setLoop
  repeat' with_reducible (first
    | assumption | apply kept_markPulse | apply kept_raise | apply kept_setB | apply kept_event
    | (extract_lets +onlyGivenNames x; refine kept_cut (q := q) (x := x) ?_ (fun _ => ?_); unfold x; clear x; rotate_left; clear_value x)
    | (extract_lets +onlyGivenNames x; clear_value x) | extract_lets +onlyGivenNames _ | split)

theorem kept_loopEval {q s} (h : Kept q s) : Kept q (State.loopEval s) := by
  unfold State.loopEval
  repeat' with_reducible (first
    | assumption | apply kept_modSc | apply kept_setLoop | exact kept_mk (by assumption)
    | (extract_lets +onlyGivenNames x; refine kept_cut (q := q) (x := x) ?_ (fun _ => ?_); unfold x; clear x; rotate_left; clear_value x)
    | (extract_lets +onlyGivenNames x; clear_value x) | extract_lets +onlyGivenNames _)

theorem kept_sourcePulse {q s} (h : Kept q s) : Kept q (State.sourcePulse s) := by
  unfold State.sourcePulse
  repeat' with_reducible (first
    | assumption | apply kept_emit | apply kept_modSc | exact kept_mk (by assumption)
    | (extract_lets +onlyGivenNames x; refine kept_cut (q := q) (x := x) ?_ (fun _ => ?_); unfold x; clear x; rotate_left; clear_value x)
    | (extract_lets +onlyGivenNames x; clear_value x) | extract_lets +onlyGivenNames _)

theorem kept_sourceTick {q s} (h : Kept q s) : Kept q (State.sourceTick s) := by
  unfold State.sourceTick
  repeat' with_reducible (first
    | assumption | apply kept_sourcePulse
    | (extract_lets +onlyGivenNames x; refine kept_cut (q := q) (x := x) ?_ (fun _ => ?_); unfold x; clear x; rotate_left; clear_value x)
    | (extract_lets +onlyGivenNames x; clear_value x) | extract_lets +onlyGivenNames _ | split)

theorem kept_sf7Tick {q s a1} (h : Kept q s) : Kept q (State.sf7Tick s a1) := by
  unfold State.sf7Tick
  repeat' with_reducible (first
    | assumption | apply kept_loopEval | apply kept_setB | apply kept_modSc | apply kept_loopPulse | apply kept_loopOpen
    | apply kept_tilJudge | apply kept_sourceTick | exact kept_mk (by assumption)
    | (extract_lets +onlyGivenNames x; refine kept_cut (q := q) (x := x) ?_ (fun _ => ?_); unfold x; clear x; rotate_left; clear_value x)
    | (extract_lets +onlyGivenNames x; clear_value x) | extract_lets +onlyGivenNames _ | split)

theorem kept_showProven {q s} (h : Kept q s) : Kept q (State.showProven s) := by
  unfold State.showProven
  repeat' with_reducible (first
    | assumption | apply kept_setB | exact kept_mk (by assumption) | refine kept_foldl ?_ (fun _ _ _ => ?_)
    | (extract_lets +onlyGivenNames x; refine kept_cut (q := q) (x := x) ?_ (fun _ => ?_); unfold x; clear x; rotate_left; clear_value x)
    | (extract_lets +onlyGivenNames x; clear_value x) | extract_lets +onlyGivenNames _)

theorem kept_showSaf {q s} (h : Kept q s) : Kept q (State.showSaf s) := by
  unfold State.showSaf
  repeat' with_reducible (first
    | assumption | apply kept_setB
    | (extract_lets +onlyGivenNames x; refine kept_cut (q := q) (x := x) ?_ (fun _ => ?_); unfold x; clear x; rotate_left; clear_value x)
    | (extract_lets +onlyGivenNames x; clear_value x) | extract_lets +onlyGivenNames _)

theorem kept_eachDoor {q s f} (h : Kept q s) (hf : ∀ t d, Kept q t → Kept q (f t d)) : Kept q (State.eachDoor s f) := by
  unfold State.eachDoor
  exact kept_foldl h fun t x ht => by first | exact hf _ _ ht | (split; exact hf _ _ ht; exact ht)

theorem kept_scDoor {q s a1} (h : Kept q s) : Kept q (State.scDoor s a1) := by
  unfold State.scDoor
  repeat' with_reducible (first
    | assumption | apply kept_degrTick | apply kept_sf6Tick | apply kept_sf5Tick | apply kept_sf4Tick | apply kept_sf3Tick
    | exact kept_mk (by assumption)
    | (extract_lets +onlyGivenNames x; refine kept_cut (q := q) (x := x) ?_ (fun _ => ?_); unfold x; clear x; rotate_left; clear_value x)
    | (extract_lets +onlyGivenNames x; clear_value x) | extract_lets +onlyGivenNames _ | split)

theorem kept_offTestResult {q s a1 a2} (h : Kept q s) : Kept q (State.offTestResult s a1 a2) := by
  unfold State.offTestResult
  repeat' with_reducible (first
    | assumption | apply kept_setB | apply kept_raise | apply kept_latchNow | exact kept_mk (by assumption)
    | (extract_lets +onlyGivenNames x; refine kept_cut (q := q) (x := x) ?_ (fun _ => ?_); unfold x; clear x; rotate_left; clear_value x)
    | (extract_lets +onlyGivenNames x; clear_value x) | extract_lets +onlyGivenNames _ | split)

theorem kept_testPulse {q s a1 a2} (h : Kept q s) : Kept q (State.testPulse s a1 a2) := by
  unfold State.testPulse
  repeat' with_reducible (first
    | assumption | apply kept_emit | apply kept_modSc | exact kept_mk (by assumption)
    | (extract_lets +onlyGivenNames x; refine kept_cut (q := q) (x := x) ?_ (fun _ => ?_); unfold x; clear x; rotate_left; clear_value x)
    | (extract_lets +onlyGivenNames x; clear_value x) | extract_lets +onlyGivenNames _ | split)

theorem kept_endPulse {q s a1} (h : Kept q s) : Kept q (State.endPulse s a1) := by
  unfold State.endPulse
  repeat' with_reducible (first
    | assumption | apply kept_modSc | apply kept_evalCh | exact kept_mk (by assumption)
    | (extract_lets +onlyGivenNames x; refine kept_cut (q := q) (x := x) ?_ (fun _ => ?_); unfold x; clear x; rotate_left; clear_value x)
    | (extract_lets +onlyGivenNames x; clear_value x) | extract_lets +onlyGivenNames _ | split)

theorem kept_endPulses {q s} (h : Kept q s) : Kept q (State.endPulses s) := by
  unfold State.endPulses
  repeat' with_reducible (first
    | assumption | apply kept_endPulse | exact kept_mk (by assumption) | refine kept_foldl ?_ (fun _ _ _ => ?_)
    | (extract_lets +onlyGivenNames x; refine kept_cut (q := q) (x := x) ?_ (fun _ => ?_); unfold x; clear x; rotate_left; clear_value x)
    | (extract_lets +onlyGivenNames x; clear_value x) | extract_lets +onlyGivenNames _ | split)

theorem kept_pulseTick {q s} (h : Kept q s) : Kept q (State.pulseTick s) := by
  unfold State.pulseTick
  repeat' with_reducible (first
    | assumption | apply kept_testPulse | exact kept_mk (by assumption) | refine kept_foldl ?_ (fun _ _ _ => ?_)
    | (extract_lets +onlyGivenNames x; refine kept_cut (q := q) (x := x) ?_ (fun _ => ?_); unfold x; clear x; rotate_left; clear_value x)
    | (extract_lets +onlyGivenNames x; clear_value x) | extract_lets +onlyGivenNames _ | split)

theorem kept_sampleInput {q s a1 a2} (h : Kept q s) : Kept q (State.sampleInput s a1 a2) := by
  unfold State.sampleInput
  repeat' with_reducible (first
    | assumption | apply kept_setRaw | apply kept_passLevel | exact kept_mk (by assumption)
    | (extract_lets +onlyGivenNames x; refine kept_cut (q := q) (x := x) ?_ (fun _ => ?_); unfold x; clear x; rotate_left; clear_value x)
    | (extract_lets +onlyGivenNames x; clear_value x) | extract_lets +onlyGivenNames _ | split)

theorem kept_samplePins {q s a1} (h : Kept q s) : Kept q (State.samplePins s a1) := by
  unfold State.samplePins
  repeat' with_reducible (first
    | assumption | apply kept_sampleInput | exact kept_mk (by assumption) | refine kept_foldl ?_ (fun _ _ _ => ?_)
    | (extract_lets +onlyGivenNames x; refine kept_cut (q := q) (x := x) ?_ (fun _ => ?_); unfold x; clear x; rotate_left; clear_value x)
    | (extract_lets +onlyGivenNames x; clear_value x) | extract_lets +onlyGivenNames _)

theorem kept_wetTick {q s a1} (h : Kept q s) : Kept q (State.wetTick s a1) := by
  unfold State.wetTick
  repeat' with_reducible (first
    | assumption | apply kept_emit | apply kept_modSc | exact kept_mk (by assumption)
    | (extract_lets +onlyGivenNames x; refine kept_cut (q := q) (x := x) ?_ (fun _ => ?_); unfold x; clear x; rotate_left; clear_value x)
    | (extract_lets +onlyGivenNames x; clear_value x) | extract_lets +onlyGivenNames _ | split)

theorem kept_scTick {q s a1} (h : Kept q s) : Kept q (State.scTick s a1) := by
  unfold State.scTick
  repeat' with_reducible (first
    | assumption | intro _ | apply kept_samplePins | apply kept_endPulses | apply kept_modSc | apply kept_sampleLines
    | apply kept_grantSide | apply kept_conflictTick | apply kept_zspTick | apply kept_eachDoor | apply kept_scDoor
    | apply kept_showProven | apply kept_tracTick | apply kept_sf7Tick | apply kept_feedbackTick | apply kept_driveGate
    | apply kept_pulseTick | apply kept_showSaf | apply kept_zTick | apply kept_wetTick | exact kept_mk (by assumption)
    | refine kept_foldl ?_ (fun _ _ _ => ?_)
    | (extract_lets +onlyGivenNames x; refine kept_cut (q := q) (x := x) ?_ (fun _ => ?_); unfold x; clear x; rotate_left; clear_value x)
    | (extract_lets +onlyGivenNames x; clear_value x) | extract_lets +onlyGivenNames _ | split)

theorem kept_safeOff {q s} (h : Kept q s) : Kept q (State.safeOff s) := by
  unfold State.safeOff
  repeat' with_reducible (first
    | assumption | apply kept_setGateEn | apply kept_scDrive | apply kept_modSc | apply kept_setLoop | apply kept_setTrac
    | apply kept_set | apply kept_setB | exact kept_mk (by assumption) | refine kept_foldl ?_ (fun _ _ _ => ?_)
    | (extract_lets +onlyGivenNames x; refine kept_cut (q := q) (x := x) ?_ (fun _ => ?_); unfold x; clear x; rotate_left; clear_value x)
    | (extract_lets +onlyGivenNames x; clear_value x) | extract_lets +onlyGivenNames _ | split)

theorem kept_ctrlFaultAt {q s a1 a2 a3} (h : Kept q s) : Kept q (State.ctrlFaultAt s a1 a2 a3) := by
  unfold State.ctrlFaultAt
  repeat' with_reducible (first
    | assumption | apply kept_logFault | apply kept_raise | apply kept_inc | apply kept_set | apply kept_showAlive
    | apply kept_safeOff | exact kept_mk (by assumption)
    | (extract_lets +onlyGivenNames x; refine kept_cut (q := q) (x := x) ?_ (fun _ => ?_); unfold x; clear x; rotate_left; clear_value x)
    | (extract_lets +onlyGivenNames x; clear_value x) | extract_lets +onlyGivenNames _ | split)

theorem kept_ctrlFault {q s a1} (h : Kept q s) : Kept q (State.ctrlFault s a1) := by
  unfold State.ctrlFault
  repeat' with_reducible (first
    | assumption | apply kept_ctrlFaultAt)

theorem kept_showTest {q s a1 a2} (h : Kept q s) : Kept q (State.showTest s a1 a2) := by
  unfold State.showTest
  repeat' with_reducible (first
    | assumption | apply kept_raiseIf | apply kept_setB | exact kept_mk (by assumption))

theorem kept_selfTest {q s a1 a2 a3} (h : Kept q s) : Kept q (State.selfTest s a1 a2 a3) := by
  unfold State.selfTest
  repeat' with_reducible (first
    | assumption | apply kept_showTest | apply kept_ctrlFault
    | (extract_lets +onlyGivenNames x; refine kept_cut (q := q) (x := x) ?_ (fun _ => ?_); unfold x; clear x; rotate_left; clear_value x)
    | (extract_lets +onlyGivenNames x; clear_value x) | extract_lets +onlyGivenNames _ | split)

theorem kept_memoryTest {q s a1 a2 a3} (h : Kept q s) : Kept q (State.memoryTest s a1 a2 a3) := by
  unfold State.memoryTest
  repeat' with_reducible (first
    | assumption | apply kept_showTest | apply kept_ctrlFaultAt | exact kept_mk (by assumption)
    | (extract_lets +onlyGivenNames x; refine kept_cut (q := q) (x := x) ?_ (fun _ => ?_); unfold x; clear x; rotate_left; clear_value x)
    | (extract_lets +onlyGivenNames x; clear_value x) | extract_lets +onlyGivenNames _ | split)

theorem kept_chFault {q s a1} (h : Kept q s) : Kept q (State.chFault s a1) := by
  unfold State.chFault
  repeat' with_reducible (first
    | assumption | apply kept_set | apply kept_modSc | apply kept_logFault | apply kept_raise | exact kept_mk (by assumption)
    | (extract_lets +onlyGivenNames x; refine kept_cut (q := q) (x := x) ?_ (fun _ => ?_); unfold x; clear x; rotate_left; clear_value x)
    | (extract_lets +onlyGivenNames x; clear_value x) | extract_lets +onlyGivenNames _ | split)

theorem kept_chFaultEnd {q s a1} (h : Kept q s) : Kept q (State.chFaultEnd s a1) := by
  unfold State.chFaultEnd
  repeat' with_reducible (first
    | assumption | apply kept_modSc | apply kept_setB | exact kept_mk (by assumption)
    | (extract_lets +onlyGivenNames x; refine kept_cut (q := q) (x := x) ?_ (fun _ => ?_); unfold x; clear x; rotate_left; clear_value x)
    | (extract_lets +onlyGivenNames x; clear_value x) | extract_lets +onlyGivenNames _ | split)

theorem kept_pulseFailed {q s a1 a2} (h : Kept q s) : Kept q (State.pulseFailed s a1 a2) := by
  unfold State.pulseFailed
  repeat' with_reducible (first
    | assumption | apply kept_raise | apply kept_inc | apply kept_setB | apply kept_degrOn | apply kept_dwFaultHere
    | apply kept_safFault | apply kept_scDrive | apply kept_chFault | apply kept_tracTick | apply kept_tilFault
    | apply kept_loopEval | exact kept_mk (by assumption)
    | (extract_lets +onlyGivenNames x; refine kept_cut (q := q) (x := x) ?_ (fun _ => ?_); unfold x; clear x; rotate_left; clear_value x)
    | (extract_lets +onlyGivenNames x; clear_value x) | extract_lets +onlyGivenNames _ | split)

theorem kept_pulsePassed {q s a1} (h : Kept q s) : Kept q (State.pulsePassed s a1) := by
  unfold State.pulsePassed
  repeat' with_reducible (first
    | assumption | apply kept_safEnd | apply kept_chFaultEnd | apply kept_tilEnd | exact kept_mk (by assumption)
    | (extract_lets +onlyGivenNames x; refine kept_cut (q := q) (x := x) ?_ (fun _ => ?_); unfold x; clear x; rotate_left; clear_value x)
    | (extract_lets +onlyGivenNames x; clear_value x) | extract_lets +onlyGivenNames _ | split)

theorem kept_stageTest {q s a1 a2} (h : Kept q s) : Kept q (State.stageTest s a1 a2) := by
  unfold State.stageTest
  repeat' with_reducible (first
    | assumption | apply kept_tilFault | apply kept_showTest | exact kept_mk (by assumption)
    | (extract_lets +onlyGivenNames x; refine kept_cut (q := q) (x := x) ?_ (fun _ => ?_); unfold x; clear x; rotate_left; clear_value x)
    | (extract_lets +onlyGivenNames x; clear_value x) | extract_lets +onlyGivenNames _ | split)

theorem kept_pulseReadback {q s a1 a2} (h : Kept q s) : Kept q (State.pulseReadback s a1 a2) := by
  unfold State.pulseReadback
  repeat' with_reducible (first
    | assumption | apply kept_endPulse | apply kept_pulsePassed | apply kept_modSc | apply kept_pulseFailed
    | exact kept_mk (by assumption)
    | (extract_lets +onlyGivenNames x; refine kept_cut (q := q) (x := x) ?_ (fun _ => ?_); unfold x; clear x; rotate_left; clear_value x)
    | (extract_lets +onlyGivenNames x; clear_value x) | extract_lets +onlyGivenNames _ | split)

theorem kept_inputDiag {q s a1} (h : Kept q s) : Kept q (State.inputDiag s a1) := by
  unfold State.inputDiag
  repeat' with_reducible (first
    | assumption | apply kept_modSc | apply kept_degrOn | exact kept_mk (by assumption) | refine kept_foldl ?_ (fun _ _ _ => ?_)
    | (extract_lets +onlyGivenNames x; refine kept_cut (q := q) (x := x) ?_ (fun _ => ?_); unfold x; clear x; rotate_left; clear_value x)
    | (extract_lets +onlyGivenNames x; clear_value x) | extract_lets +onlyGivenNames _ | split)

theorem kept_wettingPulse {q s a1 a2} (h : Kept q s) : Kept q (State.wettingPulse s a1 a2) := by
  unfold State.wettingPulse
  repeat' with_reducible (first
    | assumption | apply kept_modSc | apply kept_setB | apply kept_inputDiag | apply kept_inc | apply kept_raiseIf
    | exact kept_mk (by assumption)
    | (extract_lets +onlyGivenNames x; refine kept_cut (q := q) (x := x) ?_ (fun _ => ?_); unfold x; clear x; rotate_left; clear_value x)
    | (extract_lets +onlyGivenNames x; clear_value x) | extract_lets +onlyGivenNames _ | split)

theorem kept_safClear {q s} (h : Kept q s) : Kept q (State.safClear s) := by
  unfold State.safClear
  repeat' with_reducible (first
    | assumption | apply kept_setB | apply kept_set | refine kept_foldl ?_ (fun _ _ _ => ?_)
    | (extract_lets +onlyGivenNames x; refine kept_cut (q := q) (x := x) ?_ (fun _ => ?_); unfold x; clear x; rotate_left; clear_value x)
    | (extract_lets +onlyGivenNames x; clear_value x) | extract_lets +onlyGivenNames _ | split)

theorem kept_tilClear {q s} (h : Kept q s) : Kept q (State.tilClear s) := by
  unfold State.tilClear
  repeat' with_reducible (first
    | assumption | apply kept_modSc | apply kept_set | exact kept_mk (by assumption)
    | (extract_lets +onlyGivenNames x; refine kept_cut (q := q) (x := x) ?_ (fun _ => ?_); unfold x; clear x; rotate_left; clear_value x)
    | (extract_lets +onlyGivenNames x; clear_value x) | extract_lets +onlyGivenNames _ | split)

theorem kept_degrCauseEnd {q s a1 a2} (h : Kept q s) : Kept q (State.degrCauseEnd s a1 a2) := by
  unfold State.degrCauseEnd
  repeat' with_reducible (first
    | assumption | apply kept_modSc | apply kept_degrOff | exact kept_mk (by assumption) | refine kept_foldl ?_ (fun _ _ _ => ?_)
    | (extract_lets +onlyGivenNames x; refine kept_cut (q := q) (x := x) ?_ (fun _ => ?_); unfold x; clear x; rotate_left; clear_value x)
    | (extract_lets +onlyGivenNames x; clear_value x) | extract_lets +onlyGivenNames _ | split)

theorem kept_execTracSettleElapsed {q s} (h : Kept q s) : Answers q (execTracSettleElapsed s) := by
  unfold execTracSettleElapsed
  repeat' with_reducible (first
    | assumption | intro _ | apply answers_next | apply kept_whenRunning | apply kept_setTrac | apply kept_set | split)

theorem kept_execTracFbMismatch {q s} (h : Kept q s) : Answers q (execTracFbMismatch s) := by
  unfold execTracFbMismatch
  repeat' with_reducible (first
    | assumption | intro _ | apply answers_next | apply kept_whenRunning | apply kept_tracTick | apply kept_tilFault
    | exact kept_mk (by assumption)
    | (extract_lets +onlyGivenNames x; refine kept_cut (q := q) (x := x) ?_ (fun _ => ?_); unfold x; clear x; rotate_left; clear_value x)
    | (extract_lets +onlyGivenNames x; clear_value x) | extract_lets +onlyGivenNames _ | split)

theorem kept_execZspDiscrepancy {q s} (h : Kept q s) : Answers q (execZspDiscrepancy s) := by
  unfold execZspDiscrepancy
  repeat' with_reducible (first
    | assumption | intro _ | apply answers_next | apply kept_whenRunning | apply kept_zspFlag)

theorem kept_execZspAgree {q s} (h : Kept q s) : Answers q (execZspAgree s) := by
  unfold execZspAgree
  repeat' with_reducible (first
    | assumption | intro _ | apply answers_next | apply kept_whenRunning | apply kept_setB)

theorem kept_execStepOutNoRelease {q a1 s} (h : Kept q s) : Answers q (execStepOutNoRelease a1 s) := by
  unfold execStepOutNoRelease
  repeat' with_reducible (first
    | assumption | intro _ | apply answers_next | apply kept_whenRunning | apply kept_stepOutFault)

theorem kept_execEgressStop {q a1 s} (h : Kept q s) : Answers q (execEgressStop a1 s) := by
  unfold execEgressStop
  repeat' with_reducible (first
    | assumption | intro _ | apply answers_next | apply kept_whenRunning | apply kept_egressStop)

theorem kept_execCommandDisagreement {q a1 s} (h : Kept q s) : Answers q (execCommandDisagreement a1 s) := by
  unfold execCommandDisagreement
  repeat' with_reducible (first
    | assumption | intro _ | apply answers_next | apply kept_whenRunning | apply kept_disagreement)

theorem kept_execEdgeDiscrepancyTimeout {q a1 s} (h : Kept q s) : Answers q (execEdgeDiscrepancyTimeout a1 s) := by
  unfold execEdgeDiscrepancyTimeout
  repeat' with_reducible (first
    | assumption | intro _ | apply answers_next | apply kept_whenRunning | apply kept_degrOn | apply kept_safJudge)

theorem kept_execCbLimitExceeded {q a1 s} (h : Kept q s) : Answers q (execCbLimitExceeded a1 s) := by
  unfold execCbLimitExceeded
  repeat' with_reducible (first
    | assumption | intro _ | apply answers_next | apply kept_whenRunning | apply kept_scDetect | split)

theorem kept_execLoopDarkPulse {q a1 s} (h : Kept q s) : Answers q (execLoopDarkPulse a1 s) := by
  unfold execLoopDarkPulse
  repeat' with_reducible (first
    | assumption | intro _ | apply answers_next | apply kept_whenRunning | apply kept_loopPulse | apply kept_sourcePulse | split)

theorem kept_execLoopOpen {q s} (h : Kept q s) : Answers q (execLoopOpen s) := by
  unfold execLoopOpen
  repeat' with_reducible (first
    | assumption | intro _ | apply answers_next | apply kept_whenRunning | apply kept_loopEval | apply kept_loopOpen)

theorem kept_execLoopSrcOvercurrent {q s} (h : Kept q s) : Answers q (execLoopSrcOvercurrent s) := by
  unfold execLoopSrcOvercurrent
  repeat' with_reducible (first
    | assumption | intro _ | apply answers_next | apply kept_whenRunning | apply kept_loopEval | apply kept_tilFault
    | apply kept_modSc | exact kept_mk (by assumption)
    | (extract_lets +onlyGivenNames x; refine kept_cut (q := q) (x := x) ?_ (fun _ => ?_); unfold x; clear x; rotate_left; clear_value x)
    | (extract_lets +onlyGivenNames x; clear_value x) | extract_lets +onlyGivenNames _ | split)

theorem kept_execTracRelOvercurrent {q s} (h : Kept q s) : Answers q (execTracRelOvercurrent s) := by
  unfold execTracRelOvercurrent
  repeat' with_reducible (first
    | assumption | intro _ | apply answers_next | apply kept_whenRunning | apply kept_setTrac | apply kept_set | apply kept_modSc
    | apply kept_tilFault | exact kept_mk (by assumption)
    | (extract_lets +onlyGivenNames x; refine kept_cut (q := q) (x := x) ?_ (fun _ => ?_); unfold x; clear x; rotate_left; clear_value x)
    | (extract_lets +onlyGivenNames x; clear_value x) | extract_lets +onlyGivenNames _ | split)

theorem kept_execTestPulse {q a1 a2 s} (h : Kept q s) : Answers q (execTestPulse a1 a2 s) := by
  unfold execTestPulse
  repeat' with_reducible (first
    | assumption | intro _ | apply answers_next | apply kept_whenRunning | apply kept_testPulse)

theorem kept_execOffStateTest {q a1 a2 s} (h : Kept q s) : Answers q (execOffStateTest a1 a2 s) := by
  unfold execOffStateTest
  repeat' with_reducible (first
    | assumption | apply answers_next | apply kept_latchNow | apply kept_offTestResult | split)

theorem kept_execTestPulseReadback {q a1 a2 s} (h : Kept q s) : Answers q (execTestPulseReadback a1 a2 s) := by
  unfold execTestPulseReadback
  repeat' with_reducible (first
    | assumption | intro _ | apply answers_next | apply kept_stageTest | apply kept_whenRunning | apply kept_pulseReadback
    | exact kept_mk (by assumption)
    | (extract_lets +onlyGivenNames x; refine kept_cut (q := q) (x := x) ?_ (fun _ => ?_); unfold x; clear x; rotate_left; clear_value x)
    | (extract_lets +onlyGivenNames x; clear_value x) | extract_lets +onlyGivenNames _ | split)

theorem kept_dropPin {q s a1} (h : Kept q s) : Kept q (State.dropPin s a1) := by
  unfold State.dropPin
  repeat' with_reducible (first
    | assumption | exact kept_mk (by assumption)
    | (extract_lets +onlyGivenNames x; refine kept_cut (q := q) (x := x) ?_ (fun _ => ?_); unfold x; clear x; rotate_left; clear_value x)
    | (extract_lets +onlyGivenNames x; clear_value x) | extract_lets +onlyGivenNames _)

theorem kept_execDiLevelChange {q a1 a2 s} (h : Kept q s) : Answers q (execDiLevelChange a1 a2 s) := by
  unfold execDiLevelChange
  repeat' with_reducible (first
    | assumption | apply answers_next | apply kept_dropPin | apply kept_setRaw | apply kept_wakeWatch | apply kept_passLevel
    | (extract_lets +onlyGivenNames x; refine kept_cut (q := q) (x := x) ?_ (fun _ => ?_); unfold x; clear x; rotate_left; clear_value x)
    | (extract_lets +onlyGivenNames x; clear_value x) | extract_lets +onlyGivenNames _ | split)

theorem kept_execWettingPulse {q a1 a2 s} (h : Kept q s) : Answers q (execWettingPulse a1 a2 s) := by
  unfold execWettingPulse
  repeat' with_reducible (first
    | assumption | intro _ | apply answers_next | apply kept_whenRunning | apply kept_wettingPulse | split)

theorem kept_execComparatorDisagreement {q a1 s} (h : Kept q s) : Answers q (execComparatorDisagreement a1 s) := by
  unfold execComparatorDisagreement
  repeat' with_reducible (first
    | assumption | intro _ | apply answers_next | apply kept_whenRunning | apply kept_inputDiag)

theorem kept_bootTests {q s} (h : Kept q s) : Kept q (State.bootTests s) := by
  unfold State.bootTests
  repeat' with_reducible (first
    | assumption | apply kept_setB | apply kept_set | exact kept_mk (by assumption)
    | (extract_lets +onlyGivenNames x; refine kept_cut (q := q) (x := x) ?_ (fun _ => ?_); unfold x; clear x; rotate_left; clear_value x)
    | (extract_lets +onlyGivenNames x; clear_value x) | extract_lets +onlyGivenNames _)

theorem kept_execScBootTestsDone {q s} (h : Kept q s) : Answers q (execScBootTestsDone s) := by
  unfold execScBootTestsDone
  repeat' with_reducible (first
    | assumption | apply answers_next | apply kept_bootTests | split)

theorem kept_execLockstepMismatch {q s} (h : Kept q s) : Answers q (execLockstepMismatch s) := by
  unfold execLockstepMismatch
  repeat' with_reducible (first
    | assumption | apply answers_next | apply kept_selfTest)

theorem kept_execLockstepInjectionTest {q a1 s} (h : Kept q s) : Answers q (execLockstepInjectionTest a1 s) := by
  unfold execLockstepInjectionTest
  repeat' with_reducible (first
    | assumption | apply answers_next | apply kept_selfTest)

theorem kept_execScMemoryScrub {q a1 s} (h : Kept q s) : Answers q (execScMemoryScrub a1 s) := by
  unfold execScMemoryScrub
  repeat' with_reducible (first
    | assumption | apply answers_next | apply kept_memoryTest | split)

theorem kept_execInstructionSetTest {q a1 s} (h : Kept q s) : Answers q (execInstructionSetTest a1 s) := by
  unfold execInstructionSetTest
  repeat' with_reducible (first
    | assumption | apply answers_next | apply kept_selfTest)

theorem kept_execInputComparatorTest {q a1 a2 s} (h : Kept q s) : Answers q (execInputComparatorTest a1 a2 s) := by
  unfold execInputComparatorTest
  repeat' with_reducible (first
    | assumption | apply answers_next | apply kept_showTest | apply kept_ctrlFault | apply kept_inputDiag
    | exact kept_mk (by assumption)
    | (extract_lets +onlyGivenNames x; refine kept_cut (q := q) (x := x) ?_ (fun _ => ?_); unfold x; clear x; rotate_left; clear_value x)
    | (extract_lets +onlyGivenNames x; clear_value x) | extract_lets +onlyGivenNames _ | split)

theorem kept_execAdcReferenceCheck {q a1 s} (h : Kept q s) : Answers q (execAdcReferenceCheck a1 s) := by
  unfold execAdcReferenceCheck
  repeat' with_reducible (first
    | assumption | apply answers_next | apply kept_selfTest)

theorem kept_execConfigCrcCheck {q s} (h : Kept q s) : Answers q (execConfigCrcCheck s) := by
  unfold execConfigCrcCheck
  repeat' with_reducible (first
    | assumption | intro _ | apply answers_next | apply kept_whenRunning | apply kept_selfTest)

theorem kept_execClockCrossCheck {q a1 a2 a3 s} (h : Kept q s) : Answers q (execClockCrossCheck a1 a2 a3 s) := by
  unfold execClockCrossCheck
  repeat' with_reducible (first
    | assumption | apply answers_next | apply kept_selfTest | apply kept_modSc | exact kept_mk (by assumption)
    | (extract_lets +onlyGivenNames x; refine kept_cut (q := q) (x := x) ?_ (fun _ => ?_); unfold x; clear x; rotate_left; clear_value x)
    | (extract_lets +onlyGivenNames x; clear_value x) | extract_lets +onlyGivenNames _ | split)

theorem kept_execDegradedCauseEnd {q a1 a2 s} (h : Kept q s) : Answers q (execDegradedCauseEnd a1 a2 s) := by
  unfold execDegradedCauseEnd
  repeat' with_reducible (first
    | assumption | intro _ | apply answers_next | apply kept_whenRunning | apply kept_degrCauseEnd)

theorem kept_execDegradedExpired {q a1 s} (h : Kept q s) : Answers q (execDegradedExpired a1 s) := by
  unfold execDegradedExpired
  repeat' with_reducible (first
    | assumption | intro _ | apply answers_next | apply kept_whenRunning | apply kept_tracTick | apply kept_showProven
    | apply kept_degrExpire)

theorem kept_execDegradedHoldExpired {q a1 s} (h : Kept q s) : Answers q (execDegradedHoldExpired a1 s) := by
  unfold execDegradedHoldExpired
  repeat' with_reducible (first
    | assumption | intro _ | apply answers_next | apply kept_whenRunning | apply kept_degrFresh)

theorem kept_execSafClr {q s} (h : Kept q s) : Answers q (execSafClr s) := by
  unfold execSafClr
  repeat' with_reducible (first
    | assumption | intro _ | apply answers_next | apply kept_whenRunning | apply kept_safClear)

theorem kept_execTilClr {q s} (h : Kept q s) : Answers q (execTilClr s) := by
  unfold execTilClr
  repeat' with_reducible (first
    | assumption | intro _ | apply answers_next | apply kept_whenRunning | apply kept_tilClear)

end Sys2Proof.Machine
end

