-- ==== Sys2Proof/Laws/KeptCan.lean ====
section
/-! SUPPORT. One lemma per operation of Machine/Can.lean that answers a state: it leaves the queue alone and keeps the register
window canonical; per meaning: it completes, and so does its state. -/

namespace Sys2Proof.Machine

theorem kept_modCan {q s a1 a2} (h : Kept q s) : Kept q (State.modCan s a1 a2) := by
  unfold State.modCan
  repeat' with_reducible (first
    | assumption | exact kept_mk (by assumption)
    | (extract_lets +onlyGivenNames x; refine kept_cut (q := q) (x := x) ?_ (fun _ => ?_); unfold x; clear x; rotate_left; clear_value x)
    | (extract_lets +onlyGivenNames x; clear_value x) | extract_lets +onlyGivenNames _ | split)

theorem kept_writeElem {q s a1 a2 a3 a4} (h : Kept q s) : Kept q (State.writeElem s a1 a2 a3 a4) := by
  unfold State.writeElem
  repeat' with_reducible (first
    | assumption | apply kept_setWord)

theorem kept_writeData {q k b e} : ∀ {s i data}, Kept q s → Kept q (State.writeData k s b e i data) := by
  induction k with
  | zero => exact fun h => h
  | succ k ih =>
    intro s i data h
    unfold State.writeData
    split
    · exact h
    · exact ih (kept_writeElem h)

theorem kept_copyFrame {q s a1 a2 a3 a4} (h : Kept q s) : Kept q (State.copyFrame s a1 a2 a3 a4) := by
  unfold State.copyFrame
  repeat' with_reducible (first
    | assumption | apply kept_writeElem | apply kept_writeData
    | (extract_lets +onlyGivenNames x; refine kept_cut (q := q) (x := x) ?_ (fun _ => ?_); unfold x; clear x; rotate_left; clear_value x)
    | (extract_lets +onlyGivenNames x; clear_value x) | extract_lets +onlyGivenNames _)

theorem kept_lost {q s a1} (h : Kept q s) : Kept q (State.lost s a1) := by
  unfold State.lost
  repeat' with_reducible (first
    | assumption | apply kept_inc)

theorem kept_toQueue {q s a1 a2 a3 a4} (h : Kept q s) : Kept q (State.toQueue s a1 a2 a3 a4) := by
  unfold State.toQueue
  repeat' with_reducible (first
    | assumption | apply kept_raise | apply kept_lost | apply kept_set | apply kept_copyFrame | apply kept_setB
    | exact kept_mk (by assumption)
    | (extract_lets +onlyGivenNames x; refine kept_cut (q := q) (x := x) ?_ (fun _ => ?_); unfold x; clear x; rotate_left; clear_value x)
    | (extract_lets +onlyGivenNames x; clear_value x) | extract_lets +onlyGivenNames _ | split)

theorem kept_toMailbox {q s a1 a2 a3} (h : Kept q s) : Kept q (State.toMailbox s a1 a2 a3) := by
  unfold State.toMailbox
  repeat' with_reducible (first
    | assumption | apply kept_lost | apply kept_raise | apply kept_setB | apply kept_copyFrame | exact kept_mk (by assumption)
    | (extract_lets +onlyGivenNames x; refine kept_cut (q := q) (x := x) ?_ (fun _ => ?_); unfold x; clear x; rotate_left; clear_value x)
    | (extract_lets +onlyGivenNames x; clear_value x) | extract_lets +onlyGivenNames _ | split)

theorem kept_toSc {q s a1 a2} (h : Kept q s) : Kept q (State.toSc s a1 a2) := by
  unfold State.toSc
  repeat' with_reducible (first
    | assumption | exact kept_mk (by assumption)
    | (extract_lets +onlyGivenNames x; refine kept_cut (q := q) (x := x) ?_ (fun _ => ?_); unfold x; clear x; rotate_left; clear_value x)
    | (extract_lets +onlyGivenNames x; clear_value x) | extract_lets +onlyGivenNames _ | split)

theorem kept_acceptFrame {q s a1 a2} (h : Kept q s) : Kept q (State.acceptFrame s a1 a2) := by
  unfold State.acceptFrame
  repeat' with_reducible (first
    | assumption | apply kept_toQueue | apply kept_toMailbox | apply kept_toSc | exact kept_mk (by assumption)
    | (extract_lets +onlyGivenNames x; refine kept_cut (q := q) (x := x) ?_ (fun _ => ?_); unfold x; clear x; rotate_left; clear_value x)
    | (extract_lets +onlyGivenNames x; clear_value x) | extract_lets +onlyGivenNames _ | split)

theorem kept_busOffEvent {q s a1} (h : Kept q s) : Kept q (State.busOffEvent s a1) := by
  unfold State.busOffEvent
  repeat' with_reducible (first
    | assumption | apply kept_event | exact kept_mk (by assumption)
    | (extract_lets +onlyGivenNames x; refine kept_cut (q := q) (x := x) ?_ (fun _ => ?_); unfold x; clear x; rotate_left; clear_value x)
    | (extract_lets +onlyGivenNames x; clear_value x) | extract_lets +onlyGivenNames _)

theorem kept_confine {q s a1} (h : Kept q s) : Kept q (State.confine s a1) := by
  unfold State.confine
  repeat' with_reducible (first
    | assumption | apply kept_raise | apply kept_setB | apply kept_busOffEvent | apply kept_inc | apply kept_set
    | (extract_lets +onlyGivenNames x; refine kept_cut (q := q) (x := x) ?_ (fun _ => ?_); unfold x; clear x; rotate_left; clear_value x)
    | (extract_lets +onlyGivenNames x; clear_value x) | extract_lets +onlyGivenNames _ | split)

theorem kept_acked {q s a1} (h : Kept q s) : Kept q (State.acked s a1) := by
  unfold State.acked
  repeat' with_reducible (first
    | assumption | apply kept_setB | apply kept_set)

theorem kept_setErr {q s a1 a2 a3} (h : Kept q s) : Kept q (State.setErr s a1 a2 a3) := by
  unfold State.setErr
  repeat' with_reducible (first
    | assumption | apply kept_set | split)

theorem kept_rxError {q s a1 a2 a3} (h : Kept q s) : Kept q (State.rxError s a1 a2 a3) := by
  unfold State.rxError
  repeat' with_reducible (first
    | assumption | apply kept_confine | apply kept_set | apply kept_setErr)

theorem kept_rxGood {q s a1} (h : Kept q s) : Kept q (State.rxGood s a1) := by
  unfold State.rxGood
  repeat' with_reducible (first
    | assumption | apply kept_bumpFree | apply kept_set | apply kept_confine | apply kept_acked | apply kept_inc
    | (extract_lets +onlyGivenNames x; refine kept_cut (q := q) (x := x) ?_ (fun _ => ?_); unfold x; clear x; rotate_left; clear_value x)
    | (extract_lets +onlyGivenNames x; clear_value x) | extract_lets +onlyGivenNames _ | split)

theorem kept_rxAlive {q s a1} (h : Kept q s) : Kept q (State.rxAlive s a1) := by
  unfold State.rxAlive
  repeat' with_reducible (first
    | assumption | apply kept_setB | split)

theorem kept_receive {q s a1 a2} (h : Kept q s) : Kept q (State.receive s a1 a2) := by
  unfold State.receive
  repeat' with_reducible (first
    | assumption | apply kept_acceptFrame | apply kept_rxGood | apply kept_set | apply kept_setErr | apply kept_raise
    | apply kept_inc | apply kept_rxError | exact kept_mk (by assumption)
    | (extract_lets +onlyGivenNames x; refine kept_cut (q := q) (x := x) ?_ (fun _ => ?_); unfold x; clear x; rotate_left; clear_value x)
    | (extract_lets +onlyGivenNames x; clear_value x) | extract_lets +onlyGivenNames _ | split)

theorem kept_logTx {q s a1 a2 a3 a4} (h : Kept q s) : Kept q (State.logTx s a1 a2 a3 a4) := by
  unfold State.logTx
  repeat' with_reducible (first
    | assumption | apply kept_lost | apply kept_writeElem | apply kept_setB | apply kept_set | exact kept_mk (by assumption)
    | refine kept_foldl ?_ (fun _ _ _ => ?_)
    | (extract_lets +onlyGivenNames x; refine kept_cut (q := q) (x := x) ?_ (fun _ => ?_); unfold x; clear x; rotate_left; clear_value x)
    | (extract_lets +onlyGivenNames x; clear_value x) | extract_lets +onlyGivenNames _ | split)

theorem kept_nextTx {q s a1} (h : Kept q s) : Kept q (State.nextTx s a1) := by
  unfold State.nextTx
  repeat' with_reducible (first
    | assumption | apply kept_set | apply kept_modCan | exact kept_mk (by assumption)
    | (extract_lets +onlyGivenNames x; refine kept_cut (q := q) (x := x) ?_ (fun _ => ?_); unfold x; clear x; rotate_left; clear_value x)
    | (extract_lets +onlyGivenNames x; clear_value x) | extract_lets +onlyGivenNames _ | split)

theorem kept_endTx {q s a1 a2 a3} (h : Kept q s) : Kept q (State.endTx s a1 a2 a3) := by
  unfold State.endTx
  repeat' with_reducible (first
    | assumption | apply kept_setB | apply kept_modCan | apply kept_nextTx | exact kept_mk (by assumption)
    | (extract_lets +onlyGivenNames x; refine kept_cut (q := q) (x := x) ?_ (fun _ => ?_); unfold x; clear x; rotate_left; clear_value x)
    | (extract_lets +onlyGivenNames x; clear_value x) | extract_lets +onlyGivenNames _ | split)

theorem kept_requestTx {q s a1 a2} (h : Kept q s) : Kept q (State.requestTx s a1 a2) := by
  unfold State.requestTx
  repeat' with_reducible (first
    | assumption | apply kept_raise | apply kept_setErr | apply kept_setB | apply kept_logTx | apply kept_modCan
    | exact kept_mk (by assumption)
    | (extract_lets +onlyGivenNames x; refine kept_cut (q := q) (x := x) ?_ (fun _ => ?_); unfold x; clear x; rotate_left; clear_value x)
    | (extract_lets +onlyGivenNames x; clear_value x) | extract_lets +onlyGivenNames _ | split)

theorem kept_cancelTx {q s a1 a2 a3} (h : Kept q s) : Kept q (State.cancelTx s a1 a2 a3) := by
  unfold State.cancelTx
  repeat' with_reducible (first
    | assumption | apply kept_modCan | apply kept_endTx | apply kept_logTx | exact kept_mk (by assumption)
    | (extract_lets +onlyGivenNames x; refine kept_cut (q := q) (x := x) ?_ (fun _ => ?_); unfold x; clear x; rotate_left; clear_value x)
    | (extract_lets +onlyGivenNames x; clear_value x) | extract_lets +onlyGivenNames _ | split)

theorem kept_measureDelay {q s a1 a2} (h : Kept q s) : Kept q (State.measureDelay s a1 a2) := by
  unfold State.measureDelay
  repeat' with_reducible (first
    | assumption | apply kept_bumpFree | apply kept_setB | apply kept_set | exact kept_mk (by assumption)
    | (extract_lets +onlyGivenNames x; refine kept_cut (q := q) (x := x) ?_ (fun _ => ?_); unfold x; clear x; rotate_left; clear_value x)
    | (extract_lets +onlyGivenNames x; clear_value x) | extract_lets +onlyGivenNames _ | split)

theorem kept_txSent {q s a1} (h : Kept q s) : Kept q (State.txSent s a1) := by
  unfold State.txSent
  repeat' with_reducible (first
    | assumption | apply kept_acked | apply kept_set | apply kept_measureDelay | apply kept_logTx | apply kept_inc
    | apply kept_raise | apply kept_confine | apply kept_endTx | apply kept_receive | apply kept_emit
    | exact kept_mk (by assumption)
    | (extract_lets +onlyGivenNames x; refine kept_cut (q := q) (x := x) ?_ (fun _ => ?_); unfold x; clear x; rotate_left; clear_value x)
    | (extract_lets +onlyGivenNames x; clear_value x) | extract_lets +onlyGivenNames _ | split)

theorem kept_txCounters {q s a1 a2 a3} (h : Kept q s) : Kept q (State.txCounters s a1 a2 a3) := by
  unfold State.txCounters
  repeat' with_reducible (first
    | assumption | apply kept_setErr | apply kept_set | apply kept_add | apply kept_raise | apply kept_setB
    | (extract_lets +onlyGivenNames x; refine kept_cut (q := q) (x := x) ?_ (fun _ => ?_); unfold x; clear x; rotate_left; clear_value x)
    | (extract_lets +onlyGivenNames x; clear_value x) | extract_lets +onlyGivenNames _ | split)

theorem kept_measureAttempt {q s a1 a2} (h : Kept q s) : Kept q (State.measureAttempt s a1 a2) := by
  unfold State.measureAttempt
  repeat' with_reducible (first
    | assumption | apply kept_measureDelay | exact kept_mk (by assumption)
    | (extract_lets +onlyGivenNames x; refine kept_cut (q := q) (x := x) ?_ (fun _ => ?_); unfold x; clear x; rotate_left; clear_value x)
    | (extract_lets +onlyGivenNames x; clear_value x) | extract_lets +onlyGivenNames _ | split)

theorem kept_txFailed {q s a1 a2 a3} (h : Kept q s) : Kept q (State.txFailed s a1 a2 a3) := by
  unfold State.txFailed
  repeat' with_reducible (first
    | assumption | apply kept_measureAttempt | apply kept_txCounters | apply kept_modCan | apply kept_endTx | apply kept_logTx
    | apply kept_raiseIf | apply kept_raise | apply kept_confine | exact kept_mk (by assumption)
    | (extract_lets +onlyGivenNames x; refine kept_cut (q := q) (x := x) ?_ (fun _ => ?_); unfold x; clear x; rotate_left; clear_value x)
    | (extract_lets +onlyGivenNames x; clear_value x) | extract_lets +onlyGivenNames _ | split)

theorem kept_placeTelegram {q s a1 a2 a3 a4} (h : Kept q s) : Kept q (State.placeTelegram s a1 a2 a3 a4) := by
  unfold State.placeTelegram
  repeat' with_reducible (first
    | assumption | apply kept_writeElem | apply kept_requestTx | apply kept_writeData | exact kept_mk (by assumption)
    | (extract_lets +onlyGivenNames x; refine kept_cut (q := q) (x := x) ?_ (fun _ => ?_); unfold x; clear x; rotate_left; clear_value x)
    | (extract_lets +onlyGivenNames x; clear_value x) | extract_lets +onlyGivenNames _ | split)

theorem kept_cancelAll {q s a1} (h : Kept q s) : Kept q (State.cancelAll s a1) := by
  unfold State.cancelAll
  repeat' with_reducible (first
    | assumption | apply kept_bumpFree | apply kept_modCan | apply kept_cancelTx | exact kept_mk (by assumption)
    | refine kept_foldl ?_ (fun _ _ _ => ?_)
    | (extract_lets +onlyGivenNames x; refine kept_cut (q := q) (x := x) ?_ (fun _ => ?_); unfold x; clear x; rotate_left; clear_value x)
    | (extract_lets +onlyGivenNames x; clear_value x) | extract_lets +onlyGivenNames _ | split)

theorem kept_showCan {q s a1} (h : Kept q s) : Kept q (State.showCan s a1) := by
  unfold State.showCan
  repeat' with_reducible (first
    | assumption | apply kept_setB
    | (extract_lets +onlyGivenNames x; refine kept_cut (q := q) (x := x) ?_ (fun _ => ?_); unfold x; clear x; rotate_left; clear_value x)
    | (extract_lets +onlyGivenNames x; clear_value x) | extract_lets +onlyGivenNames _ | split)

theorem kept_canFault {q s a1 a2 a3 a4 a5} (h : Kept q s) : Kept q (State.canFault s a1 a2 a3 a4 a5) := by
  unfold State.canFault
  repeat' with_reducible (first
    | assumption | apply kept_set | apply kept_logFault | apply kept_raise
    | (extract_lets +onlyGivenNames x; refine kept_cut (q := q) (x := x) ?_ (fun _ => ?_); unfold x; clear x; rotate_left; clear_value x)
    | (extract_lets +onlyGivenNames x; clear_value x) | extract_lets +onlyGivenNames _)

theorem kept_releaseRing {q s a1 a2 a3 a4 a5 a6 a7} (h : Kept q s) : Kept q (State.releaseRing s a1 a2 a3 a4 a5 a6 a7) := by
  unfold State.releaseRing
  repeat' with_reducible (first
    | assumption | apply kept_reject | apply kept_setB | apply kept_set | exact kept_mk (by assumption)
    | (extract_lets +onlyGivenNames x; refine kept_cut (q := q) (x := x) ?_ (fun _ => ?_); unfold x; clear x; rotate_left; clear_value x)
    | (extract_lets +onlyGivenNames x; clear_value x) | extract_lets +onlyGivenNames _ | split)

theorem kept_execCanFrameReceived {q a1 a2 s} (h : Kept q s) : Answers q (execCanFrameReceived a1 a2 s) := by
  unfold execCanFrameReceived
  repeat' with_reducible (first
    | assumption | intro _ | apply answers_next | apply kept_whenRunning | apply kept_receive | apply kept_rxAlive | split)

theorem kept_execCanTxReq {q a1 a2 s} (h : Kept q s) : Answers q (execCanTxReq a1 a2 s) := by
  unfold execCanTxReq
  repeat' with_reducible (first
    | assumption | intro _ | apply answers_next | apply kept_whenRunning | apply kept_reject | apply kept_requestTx | split)

theorem kept_execTxCancel {q a1 a2 a3 s} (h : Kept q s) : Answers q (execTxCancel a1 a2 a3 s) := by
  unfold execTxCancel
  repeat' with_reducible (first
    | assumption | intro _ | apply answers_next | apply kept_whenRunning | apply kept_reject | apply kept_cancelTx | split)

theorem kept_execCanTxComplete {q a1 s} (h : Kept q s) : Answers q (execCanTxComplete a1 s) := by
  unfold execCanTxComplete
  repeat' with_reducible (first
    | assumption | intro _ | apply answers_next | apply kept_whenRunning | apply kept_txSent | apply kept_rxAlive | split)

theorem kept_execCanTxError {q a1 a2 a3 s} (h : Kept q s) : Answers q (execCanTxError a1 a2 a3 s) := by
  unfold execCanTxError
  repeat' with_reducible (first
    | assumption | intro _ | apply answers_next | apply kept_whenRunning | apply kept_txFailed | split)

theorem kept_execCanRxError {q a1 a2 a3 s} (h : Kept q s) : Answers q (execCanRxError a1 a2 a3 s) := by
  unfold execCanRxError
  repeat' with_reducible (first
    | assumption | intro _ | apply answers_next | apply kept_whenRunning | apply kept_rxError | split)

theorem kept_execBoRecover {q a1 s} (h : Kept q s) : Answers q (execBoRecover a1 s) := by
  unfold execBoRecover
  repeat' with_reducible (first
    | assumption | intro _ | apply answers_next | apply kept_whenRunning | apply kept_set | exact kept_mk (by assumption)
    | (extract_lets +onlyGivenNames x; refine kept_cut (q := q) (x := x) ?_ (fun _ => ?_); unfold x; clear x; rotate_left; clear_value x)
    | (extract_lets +onlyGivenNames x; clear_value x) | extract_lets +onlyGivenNames _ | split)

theorem kept_execBoDelayExpired {q a1 s} (h : Kept q s) : Answers q (execBoDelayExpired a1 s) := by
  unfold execBoDelayExpired
  repeat' with_reducible (first
    | assumption | intro _ | apply answers_next | apply kept_whenRunning | apply kept_set | exact kept_mk (by assumption)
    | (extract_lets +onlyGivenNames x; refine kept_cut (q := q) (x := x) ?_ (fun _ => ?_); unfold x; clear x; rotate_left; clear_value x)
    | (extract_lets +onlyGivenNames x; clear_value x) | extract_lets +onlyGivenNames _ | split)

theorem kept_execBusOffRecoveryDone {q a1 s} (h : Kept q s) : Answers q (execBusOffRecoveryDone a1 s) := by
  unfold execBusOffRecoveryDone
  repeat' with_reducible (first
    | assumption | intro _ | apply answers_next | apply kept_whenRunning | apply kept_confine | apply kept_set | split)

theorem kept_execCanIntegrated {q a1 s} (h : Kept q s) : Answers q (execCanIntegrated a1 s) := by
  unfold execCanIntegrated
  repeat' with_reducible (first
    | assumption | intro _ | apply answers_next | apply kept_whenRunning | apply kept_confine | apply kept_set
    | apply kept_rxAlive | split)

theorem kept_execQueueRel {q a1 a2 a3 s} (h : Kept q s) : Answers q (execQueueRel a1 a2 a3 s) := by
  unfold execQueueRel
  repeat' with_reducible (first
    | assumption | apply answers_next | apply kept_releaseRing | split)

theorem kept_execTlogRel {q a1 a2 s} (h : Kept q s) : Answers q (execTlogRel a1 a2 s) := by
  unfold execTlogRel
  repeat' with_reducible (first
    | assumption | apply answers_next | apply kept_releaseRing | split)

theorem kept_execCanRxStuck {q a1 s} (h : Kept q s) : Answers q (execCanRxStuck a1 s) := by
  unfold execCanRxStuck
  repeat' with_reducible (first
    | assumption | intro _ | apply answers_next | apply kept_whenRunning | apply kept_canFault | split)

theorem kept_execCanClr {q a1 s} (h : Kept q s) : Answers q (execCanClr a1 s) := by
  unfold execCanClr
  repeat' with_reducible (first
    | assumption | apply answers_next | apply kept_set | split)

end Sys2Proof.Machine
end

