-- ==== Sys2Proof/Laws/KeptMvbBus.lean ====
section
/-! SUPPORT. One lemma per operation of Machine/MvbBus.lean that answers a state: it leaves the queue alone and keeps the register
window canonical; per meaning: it completes, and so does its state. -/

namespace Sys2Proof.Machine

theorem kept_modMvb {q s a1} (h : Kept q s) : Kept q (State.modMvb s a1) := by
  unfold State.modMvb
  repeat' with_reducible (first
    | assumption | exact kept_mk (by assumption)
    | (extract_lets +onlyGivenNames x; refine kept_cut (q := q) (x := x) ?_ (fun _ => ?_); unfold x; clear x; rotate_left; clear_value x)
    | (extract_lets +onlyGivenNames x; clear_value x) | extract_lets +onlyGivenNames _)

theorem kept_showMvb {q s} (h : Kept q s) : Kept q (State.showMvb s) := by
  unfold State.showMvb
  repeat' with_reducible (first
    | assumption | apply kept_setB
    | (extract_lets +onlyGivenNames x; refine kept_cut (q := q) (x := x) ?_ (fun _ => ?_); unfold x; clear x; rotate_left; clear_value x)
    | (extract_lets +onlyGivenNames x; clear_value x) | extract_lets +onlyGivenNames _)

theorem kept_setPort {q s a1 a2} (h : Kept q s) : Kept q (State.setPort s a1 a2) := by
  unfold State.setPort
  repeat' with_reducible (first
    | assumption | apply kept_modMvb | exact kept_mk (by assumption)
    | (extract_lets +onlyGivenNames x; refine kept_cut (q := q) (x := x) ?_ (fun _ => ?_); unfold x; clear x; rotate_left; clear_value x)
    | (extract_lets +onlyGivenNames x; clear_value x) | extract_lets +onlyGivenNames _)

theorem kept_lineSample {q s a1 a2} (h : Kept q s) : Kept q (State.lineSample s a1 a2) := by
  unfold State.lineSample
  repeat' with_reducible (first
    | assumption | apply kept_inc | apply kept_setB | exact kept_mk (by assumption)
    | (extract_lets +onlyGivenNames x; refine kept_cut (q := q) (x := x) ?_ (fun _ => ?_); unfold x; clear x; rotate_left; clear_value x)
    | (extract_lets +onlyGivenNames x; clear_value x) | extract_lets +onlyGivenNames _ | split)

theorem kept_trust {q s a1 a2} (h : Kept q s) : Kept q (State.trust s a1 a2) := by
  unfold State.trust
  repeat' with_reducible (first
    | assumption | apply kept_modMvb | apply kept_raise | apply kept_inc | apply kept_setB | exact kept_mk (by assumption)
    | (extract_lets +onlyGivenNames x; refine kept_cut (q := q) (x := x) ?_ (fun _ => ?_); unfold x; clear x; rotate_left; clear_value x)
    | (extract_lets +onlyGivenNames x; clear_value x) | extract_lets +onlyGivenNames _ | split)

theorem kept_masterFrame {q s a1 a2} (h : Kept q s) : Kept q (State.masterFrame s a1 a2) := by
  unfold State.masterFrame
  repeat' with_reducible (first
    | assumption | apply kept_inc | apply kept_modMvb | apply kept_emit | exact kept_mk (by assumption)
    | (extract_lets +onlyGivenNames x; refine kept_cut (q := q) (x := x) ?_ (fun _ => ?_); unfold x; clear x; rotate_left; clear_value x)
    | (extract_lets +onlyGivenNames x; clear_value x) | extract_lets +onlyGivenNames _ | split)

theorem kept_muteLine {q s a1 a2} (h : Kept q s) : Kept q (State.muteLine s a1 a2) := by
  unfold State.muteLine
  repeat' with_reducible (first
    | assumption | apply kept_modMvb | apply kept_setB | exact kept_mk (by assumption)
    | (extract_lets +onlyGivenNames x; refine kept_cut (q := q) (x := x) ?_ (fun _ => ?_); unfold x; clear x; rotate_left; clear_value x)
    | (extract_lets +onlyGivenNames x; clear_value x) | extract_lets +onlyGivenNames _ | split)

theorem kept_ownFrame {q s a1 a2} (h : Kept q s) : Kept q (State.ownFrame s a1 a2) := by
  unfold State.ownFrame
  repeat' with_reducible (first
    | assumption | apply kept_raise | apply kept_set | apply kept_muteLine | apply kept_logFault
    | (extract_lets +onlyGivenNames x; refine kept_cut (q := q) (x := x) ?_ (fun _ => ?_); unfold x; clear x; rotate_left; clear_value x)
    | (extract_lets +onlyGivenNames x; clear_value x) | extract_lets +onlyGivenNames _ | split)

theorem kept_slaveFrame {q s a1 a2 a3} (h : Kept q s) : Kept q (State.slaveFrame s a1 a2 a3) := by
  unfold State.slaveFrame
  repeat' with_reducible (first
    | assumption | apply kept_modMvb | apply kept_ownFrame | apply kept_inc | apply kept_setPort | apply kept_raise
    | apply kept_setB | exact kept_mk (by assumption)
    | (extract_lets +onlyGivenNames x; refine kept_cut (q := q) (x := x) ?_ (fun _ => ?_); unfold x; clear x; rotate_left; clear_value x)
    | (extract_lets +onlyGivenNames x; clear_value x) | extract_lets +onlyGivenNames _ | split)

theorem kept_execMvbMasterFrame {q a1 a2 a3 a4 s} (h : Kept q s) : Answers q (execMvbMasterFrame a1 a2 a3 a4 s) := by
  unfold execMvbMasterFrame
  repeat' with_reducible (first
    | assumption | intro _ | apply answers_next | apply kept_whenRunning | apply kept_trust | apply kept_lineSample
    | apply kept_masterFrame | apply kept_modMvb | exact kept_mk (by assumption)
    | (extract_lets +onlyGivenNames x; refine kept_cut (q := q) (x := x) ?_ (fun _ => ?_); unfold x; clear x; rotate_left; clear_value x)
    | (extract_lets +onlyGivenNames x; clear_value x) | extract_lets +onlyGivenNames _ | split)

theorem kept_execMvbSlaveFrame {q a1 a2 a3 s} (h : Kept q s) : Answers q (execMvbSlaveFrame a1 a2 a3 s) := by
  unfold execMvbSlaveFrame
  repeat' with_reducible (first
    | assumption | intro _ | apply answers_next | apply kept_whenRunning | apply kept_slaveFrame | apply kept_lineSample | split)

theorem kept_execMvbLineTimeout {q a1 s} (h : Kept q s) : Answers q (execMvbLineTimeout a1 s) := by
  unfold execMvbLineTimeout
  repeat' with_reducible (first
    | assumption | intro _ | apply answers_next | apply kept_whenRunning | apply kept_setB | exact kept_mk (by assumption)
    | (extract_lets +onlyGivenNames x; refine kept_cut (q := q) (x := x) ?_ (fun _ => ?_); unfold x; clear x; rotate_left; clear_value x)
    | (extract_lets +onlyGivenNames x; clear_value x) | extract_lets +onlyGivenNames _ | split)

theorem kept_execPortFreshnessTimeout {q a1 s} (h : Kept q s) : Answers q (execPortFreshnessTimeout a1 s) := by
  unfold execPortFreshnessTimeout
  repeat' with_reducible (first
    | assumption | intro _ | apply answers_next | apply kept_whenRunning | apply kept_raise | apply kept_setB
    | exact kept_mk (by assumption) | split)

theorem kept_execMvbPortSnap {q s} (h : Kept q s) : Answers q (execMvbPortSnap s) := by
  unfold execMvbPortSnap
  repeat' with_reducible (first
    | assumption | apply answers_next | apply kept_resClear | apply kept_set | apply kept_resDone
    | refine kept_foldl ?_ (fun _ _ _ => ?_)
    | (extract_lets +onlyGivenNames x; refine kept_cut (q := q) (x := x) ?_ (fun _ => ?_); unfold x; clear x; rotate_left; clear_value x)
    | (extract_lets +onlyGivenNames x; clear_value x) | extract_lets +onlyGivenNames _ | split)

theorem kept_execMvbPortCommit {q s} (h : Kept q s) : Answers q (execMvbPortCommit s) := by
  unfold execMvbPortCommit
  repeat' with_reducible (first
    | assumption | apply answers_next | apply kept_reject | apply kept_setB | apply kept_setPort | exact kept_mk (by assumption)
    | (extract_lets +onlyGivenNames x; refine kept_cut (q := q) (x := x) ?_ (fun _ => ?_); unfold x; clear x; rotate_left; clear_value x)
    | (extract_lets +onlyGivenNames x; clear_value x) | extract_lets +onlyGivenNames _ | split)

end Sys2Proof.Machine
end

