-- ==== Sys2Proof/Laws/KeptTelegrams.lean ====
section
/-! SUPPORT. One lemma per operation of Machine/Telegrams.lean that answers a state: it leaves the queue alone and keeps the register
window canonical; per meaning: it completes, and so does its state. -/

namespace Sys2Proof.Machine

theorem kept_modStl {q s a1} (h : Kept q s) : Kept q (State.modStl s a1) := by
  unfold State.modStl
  repeat' with_reducible (first
    | assumption | exact kept_mk (by assumption)
    | (extract_lets +onlyGivenNames x; refine kept_cut (q := q) (x := x) ?_ (fun _ => ?_); unfold x; clear x; rotate_left; clear_value x)
    | (extract_lets +onlyGivenNames x; clear_value x) | extract_lets +onlyGivenNames _)

theorem kept_modConn {q s a1 a2} (h : Kept q s) : Kept q (State.modConn s a1 a2) := by
  unfold State.modConn
  repeat' with_reducible (first
    | assumption | apply kept_modStl | exact kept_mk (by assumption)
    | (extract_lets +onlyGivenNames x; refine kept_cut (q := q) (x := x) ?_ (fun _ => ?_); unfold x; clear x; rotate_left; clear_value x)
    | (extract_lets +onlyGivenNames x; clear_value x) | extract_lets +onlyGivenNames _)

theorem kept_setConn {q s a1 a2} (h : Kept q s) : Kept q (State.setConn s a1 a2) := by
  unfold State.setConn
  repeat' with_reducible (first
    | assumption | apply kept_modConn | apply kept_set | exact kept_mk (by assumption)
    | (extract_lets +onlyGivenNames x; refine kept_cut (q := q) (x := x) ?_ (fun _ => ?_); unfold x; clear x; rotate_left; clear_value x)
    | (extract_lets +onlyGivenNames x; clear_value x) | extract_lets +onlyGivenNames _ | split)

theorem kept_startConn {q s a1} (h : Kept q s) : Kept q (State.startConn s a1) := by
  unfold State.startConn
  repeat' with_reducible (first
    | assumption | apply kept_set | apply kept_incWrap | apply kept_setConn | apply kept_modConn | exact kept_mk (by assumption)
    | (extract_lets +onlyGivenNames x; refine kept_cut (q := q) (x := x) ?_ (fun _ => ?_); unfold x; clear x; rotate_left; clear_value x)
    | (extract_lets +onlyGivenNames x; clear_value x) | extract_lets +onlyGivenNames _)

theorem kept_settleCmd {q s a1} (h : Kept q s) : Kept q (State.settleCmd s a1) := by
  unfold State.settleCmd
  repeat' with_reducible (first
    | assumption | apply kept_modConn | exact kept_mk (by assumption)
    | (extract_lets +onlyGivenNames x; refine kept_cut (q := q) (x := x) ?_ (fun _ => ?_); unfold x; clear x; rotate_left; clear_value x)
    | (extract_lets +onlyGivenNames x; clear_value x) | extract_lets +onlyGivenNames _ | split)

theorem kept_putResult {q s a1 a2 a3} (h : Kept q s) : Kept q (State.putResult s a1 a2 a3) := by
  unfold State.putResult
  repeat' with_reducible (first
    | assumption | apply kept_modConn | exact kept_mk (by assumption)
    | (extract_lets +onlyGivenNames x; refine kept_cut (q := q) (x := x) ?_ (fun _ => ?_); unfold x; clear x; rotate_left; clear_value x)
    | (extract_lets +onlyGivenNames x; clear_value x) | extract_lets +onlyGivenNames _)

theorem kept_dropOffer {q s a1 a2} (h : Kept q s) : Kept q (State.dropOffer s a1 a2) := by
  unfold State.dropOffer
  repeat' with_reducible (first
    | assumption | apply kept_modConn | apply kept_putResult | apply kept_modDw | exact kept_mk (by assumption)
    | (extract_lets +onlyGivenNames x; refine kept_cut (q := q) (x := x) ?_ (fun _ => ?_); unfold x; clear x; rotate_left; clear_value x)
    | (extract_lets +onlyGivenNames x; clear_value x) | extract_lets +onlyGivenNames _ | split)

theorem kept_dropOffers {q s a1} (h : Kept q s) : Kept q (State.dropOffers s a1) := by
  unfold State.dropOffers
  repeat' with_reducible (first
    | assumption | apply kept_settleCmd | apply kept_dropOffer | refine kept_foldl ?_ (fun _ _ _ => ?_))

theorem kept_connTimeout {q s a1} (h : Kept q s) : Kept q (State.connTimeout s a1) := by
  unfold State.connTimeout
  repeat' with_reducible (first
    | assumption | apply kept_startConn | apply kept_dropOffers | apply kept_inc | apply kept_raise | apply kept_event
    | exact kept_mk (by assumption) | refine kept_foldl ?_ (fun _ _ _ => ?_)
    | (extract_lets +onlyGivenNames x; refine kept_cut (q := q) (x := x) ?_ (fun _ => ?_); unfold x; clear x; rotate_left; clear_value x)
    | (extract_lets +onlyGivenNames x; clear_value x) | extract_lets +onlyGivenNames _ | split)

theorem kept_showTx {q s} (h : Kept q s) : Kept q (State.showTx s) := by
  unfold State.showTx
  repeat' with_reducible (first
    | assumption | apply kept_set | apply kept_setB | exact kept_mk (by assumption)
    | (extract_lets +onlyGivenNames x; refine kept_cut (q := q) (x := x) ?_ (fun _ => ?_); unfold x; clear x; rotate_left; clear_value x)
    | (extract_lets +onlyGivenNames x; clear_value x) | extract_lets +onlyGivenNames _ | split)

theorem kept_hostSend {q s a1 a2} (h : Kept q s) : Kept q (State.hostSend s a1 a2) := by
  unfold State.hostSend
  repeat' with_reducible (first
    | assumption | apply kept_set | apply kept_inc | apply kept_modStl | apply kept_raise | apply kept_showTx
    | exact kept_mk (by assumption)
    | (extract_lets +onlyGivenNames x; refine kept_cut (q := q) (x := x) ?_ (fun _ => ?_); unfold x; clear x; rotate_left; clear_value x)
    | (extract_lets +onlyGivenNames x; clear_value x) | extract_lets +onlyGivenNames _ | split)

theorem kept_sendTelegram {q s a1 a2 a3} (h : Kept q s) : Kept q (State.sendTelegram s a1 a2 a3) := by
  unfold State.sendTelegram
  repeat' with_reducible (first
    | assumption | apply kept_set | apply kept_modConn | apply kept_hostSend | apply kept_placeTelegram | apply kept_emit
    | exact kept_mk (by assumption)
    | (extract_lets +onlyGivenNames x; refine kept_cut (q := q) (x := x) ?_ (fun _ => ?_); unfold x; clear x; rotate_left; clear_value x)
    | (extract_lets +onlyGivenNames x; clear_value x) | extract_lets +onlyGivenNames _ | split)

theorem kept_sendStatus {q s a1} (h : Kept q s) : Kept q (State.sendStatus s a1) := by
  unfold State.sendStatus
  repeat' with_reducible (first
    | assumption | apply kept_sendTelegram)

theorem kept_transmit {q s a1} (h : Kept q s) : Kept q (State.transmit s a1) := by
  unfold State.transmit
  repeat' with_reducible (first
    | assumption | apply kept_sendTelegram | apply kept_sendStatus | exact kept_mk (by assumption)
    | (extract_lets +onlyGivenNames x; refine kept_cut (q := q) (x := x) ?_ (fun _ => ?_); unfold x; clear x; rotate_left; clear_value x)
    | (extract_lets +onlyGivenNames x; clear_value x) | extract_lets +onlyGivenNames _ | split)

theorem kept_discard {q s a1 a2} (h : Kept q s) : Kept q (State.discard s a1 a2) := by
  unfold State.discard
  repeat' with_reducible (first
    | assumption | apply kept_raise | apply kept_set | apply kept_inc | apply kept_modConn | apply kept_connTimeout
    | exact kept_mk (by assumption)
    | (extract_lets +onlyGivenNames x; refine kept_cut (q := q) (x := x) ?_ (fun _ => ?_); unfold x; clear x; rotate_left; clear_value x)
    | (extract_lets +onlyGivenNames x; clear_value x) | extract_lets +onlyGivenNames _ | split)

theorem kept_takeSeq {q s a1 a2} (h : Kept q s) : Kept q (State.takeSeq s a1 a2) := by
  unfold State.takeSeq
  repeat' with_reducible (first
    | assumption | apply kept_raise | apply kept_set | apply kept_modConn | exact kept_mk (by assumption)
    | (extract_lets +onlyGivenNames x; refine kept_cut (q := q) (x := x) ?_ (fun _ => ?_); unfold x; clear x; rotate_left; clear_value x)
    | (extract_lets +onlyGivenNames x; clear_value x) | extract_lets +onlyGivenNames _)

theorem kept_offerTelegram {q s a1 a2 a3 a4 a5} (h : Kept q s) : Kept q (State.offerTelegram s a1 a2 a3 a4 a5) := by
  unfold State.offerTelegram
  extract_lets rivals mine wait
  split
  · exact kept_putResult h
  · exact kept_modConn (kept_offer (kept_modDw (kept_foldl h fun _ _ ht => kept_answer ht)))

theorem kept_takeCommand {q s a1 a2 a3} (h : Kept q s) : Kept q (State.takeCommand s a1 a2 a3) := by
  unfold State.takeCommand
  repeat' with_reducible (first
    | assumption | apply kept_modConn | apply kept_putResult | apply kept_offerTelegram | apply kept_settleCmd
    | apply kept_sendStatus | exact kept_mk (by assumption) | refine kept_foldl ?_ (fun _ _ _ => ?_)
    | (extract_lets +onlyGivenNames x; refine kept_cut (q := q) (x := x) ?_ (fun _ => ?_); unfold x; clear x; rotate_left; clear_value x)
    | (extract_lets +onlyGivenNames x; clear_value x) | extract_lets +onlyGivenNames _ | split)

theorem kept_acceptTelegram {q s a1 a2} (h : Kept q s) : Kept q (State.acceptTelegram s a1 a2) := by
  unfold State.acceptTelegram
  repeat' with_reducible (first
    | assumption | apply kept_add | apply kept_takeSeq | apply kept_setConn | apply kept_takeCommand | apply kept_modConn
    | exact kept_mk (by assumption)
    | (extract_lets +onlyGivenNames x; refine kept_cut (q := q) (x := x) ?_ (fun _ => ?_); unfold x; clear x; rotate_left; clear_value x)
    | (extract_lets +onlyGivenNames x; clear_value x) | extract_lets +onlyGivenNames _ | split)

theorem kept_peerRestart {q s a1 a2} (h : Kept q s) : Kept q (State.peerRestart s a1 a2) := by
  unfold State.peerRestart
  repeat' with_reducible (first
    | assumption | apply kept_takeSeq | apply kept_startConn | apply kept_dropOffers | exact kept_mk (by assumption)
    | (extract_lets +onlyGivenNames x; refine kept_cut (q := q) (x := x) ?_ (fun _ => ?_); unfold x; clear x; rotate_left; clear_value x)
    | (extract_lets +onlyGivenNames x; clear_value x) | extract_lets +onlyGivenNames _ | split)

theorem kept_checkTelegram {q s a1 a2} (h : Kept q s) : Kept q (State.checkTelegram s a1 a2) := by
  unfold State.checkTelegram
  repeat' with_reducible (first
    | assumption | apply kept_raise | apply kept_discard | apply kept_peerRestart | apply kept_acceptTelegram
    | exact kept_mk (by assumption)
    | (extract_lets +onlyGivenNames x; refine kept_cut (q := q) (x := x) ?_ (fun _ => ?_); unfold x; clear x; rotate_left; clear_value x)
    | (extract_lets +onlyGivenNames x; clear_value x) | extract_lets +onlyGivenNames _ | split)

theorem kept_receiveTelegram {q s a1 a2} (h : Kept q s) : Kept q (State.receiveTelegram s a1 a2) := by
  unfold State.receiveTelegram
  repeat' with_reducible (first
    | assumption | apply kept_modStl | apply kept_checkTelegram | exact kept_mk (by assumption)
    | (extract_lets +onlyGivenNames x; refine kept_cut (q := q) (x := x) ?_ (fun _ => ?_); unfold x; clear x; rotate_left; clear_value x)
    | (extract_lets +onlyGivenNames x; clear_value x) | extract_lets +onlyGivenNames _ | split)

theorem kept_takeAnswers {q s} (h : Kept q s) : Kept q (State.takeAnswers s) := by
  unfold State.takeAnswers
  repeat' with_reducible (first
    | assumption | apply kept_modConn | apply kept_putResult | apply kept_settleCmd | apply kept_sendStatus
    | exact kept_mk (by assumption) | refine kept_foldl ?_ (fun _ _ _ => ?_)
    | (extract_lets +onlyGivenNames x; refine kept_cut (q := q) (x := x) ?_ (fun _ => ?_); unfold x; clear x; rotate_left; clear_value x)
    | (extract_lets +onlyGivenNames x; clear_value x) | extract_lets +onlyGivenNames _ | split)

theorem kept_evalConn {q s a1} (h : Kept q s) : Kept q (State.evalConn s a1) := by
  unfold State.evalConn
  repeat' with_reducible (first
    | assumption | apply kept_setConn | apply kept_dropOffers | apply kept_startConn | split)

theorem kept_showAge {q s a1} (h : Kept q s) : Kept q (State.showAge s a1) := by
  unfold State.showAge
  repeat' with_reducible (first
    | assumption | apply kept_set | exact kept_mk (by assumption)
    | (extract_lets +onlyGivenNames x; refine kept_cut (q := q) (x := x) ?_ (fun _ => ?_); unfold x; clear x; rotate_left; clear_value x)
    | (extract_lets +onlyGivenNames x; clear_value x) | extract_lets +onlyGivenNames _ | split)

theorem kept_superviseConn {q s a1} (h : Kept q s) : Kept q (State.superviseConn s a1) := by
  unfold State.superviseConn
  repeat' with_reducible (first
    | assumption | apply kept_showAge | apply kept_connTimeout
    | (extract_lets +onlyGivenNames x; refine kept_cut (q := q) (x := x) ?_ (fun _ => ?_); unfold x; clear x; rotate_left; clear_value x)
    | (extract_lets +onlyGivenNames x; clear_value x) | extract_lets +onlyGivenNames _ | split)

theorem kept_eachConn {q s f} (h : Kept q s) (hf : ∀ t d, Kept q t → Kept q (f t d)) : Kept q (State.eachConn s f) := by
  unfold State.eachConn
  exact kept_foldl h fun t x ht => by first | exact hf _ _ ht | (split; exact hf _ _ ht; exact ht)

theorem kept_showRx {q s} (h : Kept q s) : Kept q (State.showRx s) := by
  unfold State.showRx
  repeat' with_reducible (first
    | assumption | apply kept_set)

theorem kept_drainRx {q s} (h : Kept q s) : Kept q (State.drainRx s) := by
  unfold State.drainRx
  repeat' with_reducible (first
    | assumption | apply kept_showRx | apply kept_receiveTelegram | apply kept_modStl | exact kept_mk (by assumption)
    | refine kept_foldl ?_ (fun _ _ _ => ?_)
    | (extract_lets +onlyGivenNames x; refine kept_cut (q := q) (x := x) ?_ (fun _ => ?_); unfold x; clear x; rotate_left; clear_value x)
    | (extract_lets +onlyGivenNames x; clear_value x) | extract_lets +onlyGivenNames _)

theorem kept_stlTick {q s} (h : Kept q s) : Kept q (State.stlTick s) := by
  unfold State.stlTick
  repeat' with_reducible (first
    | assumption | intro _ | apply kept_eachConn | apply kept_drainRx | apply kept_takeAnswers | apply kept_evalConn
    | apply kept_superviseConn)

theorem kept_rxWord {q s a1} (h : Kept q s) : Kept q (State.rxWord s a1) := by
  unfold State.rxWord
  repeat' with_reducible (first
    | assumption | apply kept_showRx | apply kept_modStl | apply kept_inc | exact kept_mk (by assumption)
    | (extract_lets +onlyGivenNames x; refine kept_cut (q := q) (x := x) ?_ (fun _ => ?_); unfold x; clear x; rotate_left; clear_value x)
    | (extract_lets +onlyGivenNames x; clear_value x) | extract_lets +onlyGivenNames _ | split)

theorem kept_txPop {q s} (h : Kept q s) : Kept q (State.txPop s) := by
  unfold State.txPop
  repeat' with_reducible (first
    | assumption | apply kept_set | apply kept_showTx | apply kept_modStl | exact kept_mk (by assumption)
    | (extract_lets +onlyGivenNames x; refine kept_cut (q := q) (x := x) ?_ (fun _ => ?_); unfold x; clear x; rotate_left; clear_value x)
    | (extract_lets +onlyGivenNames x; clear_value x) | extract_lets +onlyGivenNames _ | split)

theorem kept_execConnect {q a1 a2 s} (h : Kept q s) : Answers q (execConnect a1 a2 s) := by
  unfold execConnect
  repeat' with_reducible (first
    | assumption | intro _ | apply answers_next | apply kept_whenRunning | apply kept_receiveTelegram)

theorem kept_execCommand {q a1 a2 s} (h : Kept q s) : Answers q (execCommand a1 a2 s) := by
  unfold execCommand
  repeat' with_reducible (first
    | assumption | intro _ | apply answers_next | apply kept_whenRunning | apply kept_receiveTelegram)

theorem kept_execTransmitPeriod {q a1 s} (h : Kept q s) : Answers q (execTransmitPeriod a1 s) := by
  unfold execTransmitPeriod
  repeat' with_reducible (first
    | assumption | intro _ | apply answers_next | apply kept_whenRunning | apply kept_transmit)

theorem kept_execConnectionTimeout {q a1 s} (h : Kept q s) : Answers q (execConnectionTimeout a1 s) := by
  unfold execConnectionTimeout
  repeat' with_reducible (first
    | assumption | intro _ | apply answers_next | apply kept_whenRunning | apply kept_connTimeout | split)

theorem kept_execRxWinWrite {q a1 s} (h : Kept q s) : Answers q (execRxWinWrite a1 s) := by
  unfold execRxWinWrite
  repeat' with_reducible (first
    | assumption | apply answers_next | apply kept_rxWord | split)

theorem kept_execRxPartialTimeout {q s} (h : Kept q s) : Answers q (execRxPartialTimeout s) := by
  unfold execRxPartialTimeout
  repeat' with_reducible (first
    | assumption | apply answers_next | apply kept_showRx | apply kept_setB | apply kept_modStl | exact kept_mk (by assumption)
    | (extract_lets +onlyGivenNames x; refine kept_cut (q := q) (x := x) ?_ (fun _ => ?_); unfold x; clear x; rotate_left; clear_value x)
    | (extract_lets +onlyGivenNames x; clear_value x) | extract_lets +onlyGivenNames _ | split)

theorem kept_execRxFlush {q s} (h : Kept q s) : Answers q (execRxFlush s) := by
  unfold execRxFlush
  repeat' with_reducible (first
    | assumption | apply answers_next | apply kept_showRx | apply kept_modStl | apply kept_setB | exact kept_mk (by assumption)
    | (extract_lets +onlyGivenNames x; refine kept_cut (q := q) (x := x) ?_ (fun _ => ?_); unfold x; clear x; rotate_left; clear_value x)
    | (extract_lets +onlyGivenNames x; clear_value x) | extract_lets +onlyGivenNames _ | split)

theorem kept_execTxWinRead {q s} (h : Kept q s) : Answers q (execTxWinRead s) := by
  unfold execTxWinRead
  repeat' with_reducible (first
    | assumption | apply answers_next | apply kept_emit | apply kept_txPop | split)

end Sys2Proof.Machine
end

