-- ==== Sys2Proof/Laws/KeptPantry.lean ====
section
/-! SUPPORT. One lemma per operation of Machine/Pantry.lean that answers a state: it leaves the queue alone and keeps the register
window canonical; per meaning: it completes, and so does its state. -/

namespace Sys2Proof.Machine

theorem kept_showBudget {q s} (h : Kept q s) : Kept q (State.showBudget s) := by
  unfold State.showBudget
  repeat' with_reducible (first
    | assumption | apply kept_setI | apply kept_set | exact kept_mk (by assumption) | refine kept_foldl ?_ (fun _ _ _ => ?_)
    | (extract_lets +onlyGivenNames x; refine kept_cut (q := q) (x := x) ?_ (fun _ => ?_); unfold x; clear x; rotate_left; clear_value x)
    | (extract_lets +onlyGivenNames x; clear_value x) | extract_lets +onlyGivenNames _ | split)

theorem kept_shedUntil {q k need} : ∀ {s : State × Int}, Kept q s.1 → Kept q (State.shedUntil k s need).1 := by
  induction k with
  | zero => exact fun h => h
  | succ k ih =>
    intro s h
    unfold State.shedUntil
    split
    · exact h
    · split
      · exact h
      · exact ih (kept_shedCh h)

theorem kept_shedAll {q s} (h : Kept q s) : Kept q (State.shedAll s).1 := by
  unfold State.shedAll
  refine kept_foldl_pair h fun t x ht => ?_
  dsimp only
  split
  · exact kept_shedCh ht
  · exact ht

theorem kept_restoreShed {q s} (h : Kept q s.1) : Kept q (State.restoreShed s).1 := by
  unfold State.restoreShed
  refine kept_foldl_pair h fun t x ht => ?_
  dsimp only
  split
  · exact kept_unshedCh ht
  · exact ht

theorem kept_dropSheds {q s} (h : Kept q s) : Kept q (State.dropSheds s) := by
  unfold State.dropSheds
  repeat' with_reducible (first
    | assumption | apply kept_unshedCh | exact kept_mk (by assumption) | refine kept_foldl ?_ (fun _ _ _ => ?_)
    | (extract_lets +onlyGivenNames x; refine kept_cut (q := q) (x := x) ?_ (fun _ => ?_); unfold x; clear x; rotate_left; clear_value x)
    | (extract_lets +onlyGivenNames x; clear_value x) | extract_lets +onlyGivenNames _ | split)

theorem kept_shedStep {q s} (h : Kept q s) : Kept q (State.shedStep s).1 := by
  unfold State.shedStep
  repeat' with_reducible (first
    | assumption | apply kept_dropSheds | apply kept_shedAll | apply kept_restoreShed
    | refine kept_of_fst (kept_shedAll ?_) (by assumption) | refine kept_of_fst (kept_restoreShed ?_) (by assumption)
    | (extract_lets +onlyGivenNames x; refine kept_cut (q := q) (x := x) ?_ (fun _ => ?_); unfold x; clear x; rotate_left; clear_value x)
    | (extract_lets +onlyGivenNames x; clear_value x) | extract_lets +onlyGivenNames _ | dsimp -zeta only | split)

theorem kept_rotate {q s} (h : Kept q s) : Kept q (State.rotate s) := by
  unfold State.rotate
  repeat' with_reducible (first
    | assumption | apply kept_unshedCh | apply kept_shedCh | exact kept_mk (by assumption)
    | refine kept_foldl ?_ (fun _ _ _ => ?_)
    | (extract_lets +onlyGivenNames x; refine kept_cut (q := q) (x := x) ?_ (fun _ => ?_); unfold x; clear x; rotate_left; clear_value x)
    | (extract_lets +onlyGivenNames x; clear_value x) | extract_lets +onlyGivenNames _ | split)

theorem kept_defer {q s a1} (h : Kept q s) : Kept q (State.defer s a1) := by
  unfold State.defer
  repeat' with_reducible (first
    | assumption | apply kept_raise | apply kept_inc | exact kept_mk (by assumption)
    | (extract_lets +onlyGivenNames x; refine kept_cut (q := q) (x := x) ?_ (fun _ => ?_); unfold x; clear x; rotate_left; clear_value x)
    | (extract_lets +onlyGivenNames x; clear_value x) | extract_lets +onlyGivenNames _ | split)

theorem kept_overrun {q s a1} (h : Kept q s) : Kept q (State.overrun s a1).1 := by
  unfold State.overrun
  repeat' with_reducible (first
    | assumption | apply kept_shedAll | apply kept_raise | apply kept_inc | apply kept_event | apply kept_admitReq
    | refine kept_of_fst (kept_shedAll ?_) (by assumption)
    | (extract_lets +onlyGivenNames x; refine kept_cut (q := q) (x := x) ?_ (fun _ => ?_); unfold x; clear x; rotate_left; clear_value x)
    | (extract_lets +onlyGivenNames x; clear_value x) | extract_lets +onlyGivenNames _ | dsimp -zeta only)

theorem kept_takeReq {q s a1} (h : Kept q s.1) : Kept q (State.takeReq s a1).1 := by
  unfold State.takeReq
  dsimp only
  split
  · exact kept_admitReq h
  · split
    · exact kept_overrun h
    · split
      · split
        · exact kept_admitReq (kept_shedUntil h)
        · exact kept_defer (kept_shedUntil h)
      · exact kept_defer h

theorem kept_admitStep {q s} (h : Kept q s.1) : Kept q (State.admitStep s).1 := by
  unfold State.admitStep
  exact kept_foldl_pair (kept_mk h) fun _ _ ht => kept_takeReq ht

theorem kept_showRateLim {q s} (h : Kept q s) : Kept q (State.showRateLim s) := by
  unfold State.showRateLim
  repeat' with_reducible (first
    | assumption | apply kept_decideRate | apply kept_set
    | (extract_lets +onlyGivenNames x; refine kept_cut (q := q) (x := x) ?_ (fun _ => ?_); unfold x; clear x; rotate_left; clear_value x)
    | (extract_lets +onlyGivenNames x; clear_value x) | extract_lets +onlyGivenNames _ | split)

theorem kept_enterHeat {q s a1 a2} (h : Kept q s) : Kept q (State.enterHeat s a1 a2) := by
  unfold State.enterHeat
  repeat' with_reducible (first
    | assumption | apply kept_raise | apply kept_set | apply kept_event | exact kept_mk (by assumption)
    | (extract_lets +onlyGivenNames x; refine kept_cut (q := q) (x := x) ?_ (fun _ => ?_); unfold x; clear x; rotate_left; clear_value x)
    | (extract_lets +onlyGivenNames x; clear_value x) | extract_lets +onlyGivenNames _ | split)

theorem kept_heatDown {q s} (h : Kept q s) : Kept q (State.heatDown s) := by
  unfold State.heatDown
  repeat' with_reducible (first
    | assumption | apply kept_set)

theorem kept_heatStep {q s a1} (h : Kept q s) : Kept q (State.heatStep s a1) := by
  unfold State.heatStep
  extract_lets s1 s2 p s3 s4
  have h1 : Kept q s1 := by unfold s1; split; exact kept_enterHeat h; exact h
  have h2 : Kept q s2 := by unfold s2; split; exact kept_enterHeat h1; exact h1
  have h3 : Kept q s3 := kept_mk h2
  have h4 : Kept q s4 := by unfold s4; split; exact kept_heatDown h3; exact h3
  split
  · exact kept_heatDown h4
  · exact h4

theorem kept_pkgStep {q s} (h : Kept q s) : Kept q (State.pkgStep s) := by
  unfold State.pkgStep
  extract_lets p x
  have hx : Kept q x := kept_mk h
  repeat' with_reducible (first | assumption | apply kept_set | split)

theorem kept_setEStage {q s a1} (h : Kept q s) : Kept q (State.setEStage s a1) := by
  unfold State.setEStage
  repeat' with_reducible (first
    | assumption | apply kept_raise | apply kept_set | split)

theorem kept_evalAccount {q s} (h : Kept q s) : Kept q (State.evalAccount s) := by
  unfold State.evalAccount
  repeat' with_reducible (first
    | assumption | apply kept_set | apply kept_setEStage | exact kept_mk (by assumption)
    | (extract_lets +onlyGivenNames x; refine kept_cut (q := q) (x := x) ?_ (fun _ => ?_); unfold x; clear x; rotate_left; clear_value x)
    | (extract_lets +onlyGivenNames x; clear_value x) | extract_lets +onlyGivenNames _ | split)

theorem kept_spend {q s a1} (h : Kept q s) : Kept q (State.spend s a1) := by
  unfold State.spend
  repeat' with_reducible (first
    | assumption | apply kept_set | apply kept_setEStage | exact kept_mk (by assumption)
    | (extract_lets +onlyGivenNames x; refine kept_cut (q := q) (x := x) ?_ (fun _ => ?_); unfold x; clear x; rotate_left; clear_value x)
    | (extract_lets +onlyGivenNames x; clear_value x) | extract_lets +onlyGivenNames _ | split)

theorem kept_escalated {q s} (h : Kept q s.1) : Kept q (State.escalated s).1 := by
  unfold State.escalated
  dsimp only
  split
  · exact kept_shedUntil h
  · exact h

theorem kept_showRun {q s a1} (h : Kept q s) : Kept q (State.showRun s a1) := by
  unfold State.showRun
  repeat' with_reducible (first
    | assumption | apply kept_setB | apply kept_set)

theorem kept_p3Step {q s} (h : Kept q s.1) : Kept q (State.p3Step s) := by
  unfold State.p3Step
  repeat' with_reducible (first
    | assumption | apply kept_showRun | apply kept_escalated | apply kept_set
    | refine kept_of_fst (kept_escalated ?_) (by assumption) | refine kept_foldl ?_ (fun _ _ _ => ?_)
    | (extract_lets +onlyGivenNames x; refine kept_cut (q := q) (x := x) ?_ (fun _ => ?_); unfold x; clear x; rotate_left; clear_value x)
    | (extract_lets +onlyGivenNames x; clear_value x) | extract_lets +onlyGivenNames _ | split)

theorem kept_setTask {q s a1 a2} (h : Kept q s) : Kept q (State.setTask s a1 a2) := by
  unfold State.setTask
  repeat' with_reducible (first
    | assumption | apply kept_set
    | (extract_lets +onlyGivenNames x; refine kept_cut (q := q) (x := x) ?_ (fun _ => ?_); unfold x; clear x; rotate_left; clear_value x)
    | (extract_lets +onlyGivenNames x; clear_value x) | extract_lets +onlyGivenNames _ | split)

theorem kept_scrubDue {q s a1} (h : Kept q s) : Kept q (State.scrubDue s a1) := by
  unfold State.scrubDue
  repeat' with_reducible (first
    | assumption | apply kept_setTask | refine kept_foldl ?_ (fun _ _ _ => ?_) | split)

theorem kept_scrubStep {q s a1} (h : Kept q s) : Kept q (State.scrubStep s a1) := by
  unfold State.scrubStep
  repeat' with_reducible (first
    | assumption | apply kept_set | apply kept_setTask | exact kept_mk (by assumption)
    | (extract_lets +onlyGivenNames x; refine kept_cut (q := q) (x := x) ?_ (fun _ => ?_); unfold x; clear x; rotate_left; clear_value x)
    | (extract_lets +onlyGivenNames x; clear_value x) | extract_lets +onlyGivenNames _ | split)

theorem kept_showChannel {q s a1 a2 a3} (h : Kept q s) : Kept q (State.showChannel s a1 a2 a3) := by
  unfold State.showChannel
  repeat' with_reducible (first
    | assumption | apply kept_setI | apply kept_set | apply kept_setB
    | (extract_lets +onlyGivenNames x; refine kept_cut (q := q) (x := x) ?_ (fun _ => ?_); unfold x; clear x; rotate_left; clear_value x)
    | (extract_lets +onlyGivenNames x; clear_value x) | extract_lets +onlyGivenNames _)

theorem kept_showGroup {q s a1 a2} (h : Kept q s) : Kept q (State.showGroup s a1 a2) := by
  unfold State.showGroup
  repeat' with_reducible (first
    | assumption | apply kept_showChannel | apply kept_set | apply kept_setVbat | apply kept_setI | exact kept_mk (by assumption)
    | refine kept_foldl ?_ (fun _ _ _ => ?_)
    | (extract_lets +onlyGivenNames x; refine kept_cut (q := q) (x := x) ?_ (fun _ => ?_); unfold x; clear x; rotate_left; clear_value x)
    | (extract_lets +onlyGivenNames x; clear_value x) | extract_lets +onlyGivenNames _)

theorem kept_showMeas {q s a1} (h : Kept q s) : Kept q (State.showMeas s a1) := by
  unfold State.showMeas
  repeat' with_reducible (first
    | assumption | apply kept_showGroup | apply kept_setI | apply kept_vgdBack | apply kept_set
    | refine kept_foldl ?_ (fun _ _ _ => ?_)
    | (extract_lets +onlyGivenNames x; refine kept_cut (q := q) (x := x) ?_ (fun _ => ?_); unfold x; clear x; rotate_left; clear_value x)
    | (extract_lets +onlyGivenNames x; clear_value x) | extract_lets +onlyGivenNames _ | split)

theorem kept_minuteOf {q s a1 a2} (h : Kept q s) : Kept q (State.minuteOf s a1 a2).1 := by
  unfold State.minuteOf
  repeat' with_reducible (first
    | assumption | apply kept_inc | dsimp -zeta only | split)

theorem kept_countHeat {q s a1} (h : Kept q s) : Kept q (State.countHeat s a1) := by
  have hm : ∀ {t : State} {c : Prop} [Decidable c] {f m n}, Kept q t → Kept q (if c then t.minuteOf f m else (t, n)).1 := by
    intro t c _ f m n ht
    split
    · exact kept_minuteOf ht
    · exact ht
  unfold State.countHeat
  split
  rename_i e1
  have h1 := kept_of_fst (hm h) e1
  split
  rename_i e2
  have h2 := kept_of_fst (hm h1) e2
  split
  rename_i e3
  have h3 := kept_of_fst (hm h2) e3
  extract_lets _ x
  have hx : Kept q x := kept_mk h3
  split
  · exact kept_setI hx
  · exact hx

theorem kept_countDay {q s a1} (h : Kept q s) : Kept q (State.countDay s a1) := by
  unfold State.countDay
  repeat' with_reducible (first
    | assumption | exact kept_mk (by assumption) | refine kept_foldl ?_ (fun _ _ _ => ?_)
    | (extract_lets +onlyGivenNames x; refine kept_cut (q := q) (x := x) ?_ (fun _ => ?_); unfold x; clear x; rotate_left; clear_value x)
    | (extract_lets +onlyGivenNames x; clear_value x) | extract_lets +onlyGivenNames _ | split)

theorem kept_stageStep {q s a1} (h : Kept q s) : Kept q (State.stageStep s a1) := by
  unfold State.stageStep
  repeat' with_reducible (first
    | assumption | apply kept_showRateLim | apply kept_spend | apply kept_evalAccount | apply kept_pkgStep | apply kept_heatStep)

theorem kept_pantryTick {q s a1} (h : Kept q s) : Kept q (State.pantryTick s a1) := by
  unfold State.pantryTick
  repeat' with_reducible (first
    | assumption | apply kept_showMeas | apply kept_stageStep | apply kept_countDay | apply kept_countHeat | apply kept_showBudget
    | apply kept_scrubStep | apply kept_p3Step | apply kept_admitStep | apply kept_shedStep
    | refine kept_of_fst (kept_admitStep ?_) (by assumption) | refine kept_of_fst (kept_shedStep ?_) (by assumption)
    | exact kept_mk (by assumption)
    | (extract_lets +onlyGivenNames x; refine kept_cut (q := q) (x := x) ?_ (fun _ => ?_); unfold x; clear x; rotate_left; clear_value x)
    | (extract_lets +onlyGivenNames x; clear_value x) | extract_lets +onlyGivenNames _)

theorem kept_deferMax {q s a1} (h : Kept q s) : Kept q (State.deferMax s a1) := by
  unfold State.deferMax
  repeat' with_reducible (first
    | assumption | apply kept_showBudget | apply kept_overrun | refine kept_of_fst (kept_overrun ?_) (by assumption)
    | exact kept_mk (by assumption)
    | (extract_lets +onlyGivenNames x; refine kept_cut (q := q) (x := x) ?_ (fun _ => ?_); unfold x; clear x; rotate_left; clear_value x)
    | (extract_lets +onlyGivenNames x; clear_value x) | extract_lets +onlyGivenNames _ | split)

theorem kept_execDeferMaxExpired {q a1 s} (h : Kept q s) : Answers q (execDeferMaxExpired a1 s) := by
  unfold execDeferMaxExpired
  repeat' with_reducible (first
    | assumption | intro _ | apply answers_next | apply kept_whenRunning | apply kept_deferMax)

theorem kept_execShedRotation {q s} (h : Kept q s) : Answers q (execShedRotation s) := by
  unfold execShedRotation
  repeat' with_reducible (first
    | assumption | intro _ | apply answers_next | apply kept_whenRunning | apply kept_showBudget | apply kept_rotate)

theorem kept_execHeatStageRelease {q s} (h : Kept q s) : Answers q (execHeatStageRelease s) := by
  unfold execHeatStageRelease
  repeat' with_reducible (first
    | assumption | intro _ | apply answers_next | apply kept_whenRunning | apply kept_showRateLim | apply kept_heatDown
    | (extract_lets +onlyGivenNames x; refine kept_cut (q := q) (x := x) ?_ (fun _ => ?_); unfold x; clear x; rotate_left; clear_value x)
    | (extract_lets +onlyGivenNames x; clear_value x) | extract_lets +onlyGivenNames _ | split)

theorem kept_execPkgCeilingRelease {q s} (h : Kept q s) : Answers q (execPkgCeilingRelease s) := by
  unfold execPkgCeilingRelease
  repeat' with_reducible (first
    | assumption | intro _ | apply answers_next | apply kept_whenRunning | apply kept_showRateLim | apply kept_set | split)

end Sys2Proof.Machine
end

