-- ==== Sys2Proof/Laws/KeptLedger.lean ====
section
/-! SUPPORT. One lemma per operation of Machine/Ledger.lean that answers a state: it leaves the queue alone and keeps the register
window canonical; per meaning: it completes, and so does its state. -/

namespace Sys2Proof.Machine

theorem kept_modLdg {q s a1} (h : Kept q s) : Kept q (State.modLdg s a1) := by
  unfold State.modLdg
  repeat' with_reducible (first
    | assumption | exact kept_mk (by assumption)
    | (extract_lets +onlyGivenNames x; refine kept_cut (q := q) (x := x) ?_ (fun _ => ?_); unfold x; clear x; rotate_left; clear_value x)
    | (extract_lets +onlyGivenNames x; clear_value x) | extract_lets +onlyGivenNames _)

theorem kept_powerRec {q s a1 a2 a3 a4} (h : Kept q s) : Kept q (State.powerRec s a1 a2 a3 a4) := by
  unfold State.powerRec
  repeat' with_reducible (first
    | assumption | apply kept_submit)

theorem kept_warnFollow {q s a1 a2 a3} (h : Kept q s) : Kept q (State.warnFollow s a1 a2 a3) := by
  unfold State.warnFollow
  repeat' with_reducible (first
    | assumption | apply kept_warn | apply kept_set
    | (extract_lets +onlyGivenNames x; refine kept_cut (q := q) (x := x) ?_ (fun _ => ?_); unfold x; clear x; rotate_left; clear_value x)
    | (extract_lets +onlyGivenNames x; clear_value x) | extract_lets +onlyGivenNames _ | split)

theorem kept_showRefresh {q s} (h : Kept q s) : Kept q (State.showRefresh s) := by
  unfold State.showRefresh
  repeat' with_reducible (first
    | assumption | apply kept_set | apply kept_setTask | apply kept_setB | apply kept_warnFollow
    | refine kept_foldl ?_ (fun _ _ _ => ?_)
    | (extract_lets +onlyGivenNames x; refine kept_cut (q := q) (x := x) ?_ (fun _ => ?_); unfold x; clear x; rotate_left; clear_value x)
    | (extract_lets +onlyGivenNames x; clear_value x) | extract_lets +onlyGivenNames _)

theorem kept_showFill {q s} (h : Kept q s) : Kept q (State.showFill s) := by
  unfold State.showFill
  repeat' with_reducible (first
    | assumption | apply kept_set | apply kept_warnFollow | apply kept_showJournal
    | (extract_lets +onlyGivenNames x; refine kept_cut (q := q) (x := x) ?_ (fun _ => ?_); unfold x; clear x; rotate_left; clear_value x)
    | (extract_lets +onlyGivenNames x; clear_value x) | extract_lets +onlyGivenNames _)

theorem kept_ldgFault {q s a1 a2 a3 a4} (h : Kept q s) : Kept q (State.ldgFault s a1 a2 a3 a4) := by
  unfold State.ldgFault
  repeat' with_reducible (first
    | assumption | apply kept_set | apply kept_setB | apply kept_logFault
    | (extract_lets +onlyGivenNames x; refine kept_cut (q := q) (x := x) ?_ (fun _ => ?_); unfold x; clear x; rotate_left; clear_value x)
    | (extract_lets +onlyGivenNames x; clear_value x) | extract_lets +onlyGivenNames _ | split)

theorem kept_dieAnswers {q s a1} (h : Kept q s) : Kept q (State.dieAnswers s a1) := by
  unfold State.dieAnswers
  repeat' with_reducible (first
    | assumption | apply kept_modLdg | apply kept_setB | exact kept_mk (by assumption)
    | (extract_lets +onlyGivenNames x; refine kept_cut (q := q) (x := x) ?_ (fun _ => ?_); unfold x; clear x; rotate_left; clear_value x)
    | (extract_lets +onlyGivenNames x; clear_value x) | extract_lets +onlyGivenNames _ | split)

theorem kept_nandResult {q s a1 a2} (h : Kept q s) : Kept q (State.nandResult s a1 a2) := by
  unfold State.nandResult
  repeat' with_reducible (first
    | assumption | apply kept_dieAnswers | apply kept_raise | apply kept_ldgFault | apply kept_modLdg
    | exact kept_mk (by assumption)
    | (extract_lets +onlyGivenNames x; refine kept_cut (q := q) (x := x) ?_ (fun _ => ?_); unfold x; clear x; rotate_left; clear_value x)
    | (extract_lets +onlyGivenNames x; clear_value x) | extract_lets +onlyGivenNames _ | split)

theorem kept_addPage {q s a1 a2} (h : Kept q s) : Kept q (State.addPage s a1 a2) := by
  unfold State.addPage
  repeat' with_reducible (first
    | assumption | apply kept_modLdg | apply kept_setB | exact kept_mk (by assumption)
    | (extract_lets +onlyGivenNames x; refine kept_cut (q := q) (x := x) ?_ (fun _ => ?_); unfold x; clear x; rotate_left; clear_value x)
    | (extract_lets +onlyGivenNames x; clear_value x) | extract_lets +onlyGivenNames _ | split)

theorem kept_dataPageWrite {q s a1} (h : Kept q s) : Kept q (State.dataPageWrite s a1) := by
  unfold State.dataPageWrite
  repeat' with_reducible (first
    | assumption | apply kept_nandResult | apply kept_addPage | apply kept_showFill | apply kept_raise | apply kept_inc
    | exact kept_mk (by assumption)
    | (extract_lets +onlyGivenNames x; refine kept_cut (q := q) (x := x) ?_ (fun _ => ?_); unfold x; clear x; rotate_left; clear_value x)
    | (extract_lets +onlyGivenNames x; clear_value x) | extract_lets +onlyGivenNames _ | split)

theorem kept_journalDurable {q s} (h : Kept q s) : Kept q (State.journalDurable s) :=
  kept_showJournal (kept_mk (kept_modLdg h))

theorem kept_powerFailFlush {q s a1 a2 a3} (h : Kept q s) : Kept q (State.powerFailFlush s a1 a2 a3) := by
  unfold State.powerFailFlush
  repeat' with_reducible (first
    | assumption | apply kept_journalDurable | apply kept_powerRec | apply kept_raise | apply kept_inc | apply kept_modLdg
    | exact kept_mk (by assumption)
    | (extract_lets +onlyGivenNames x; refine kept_cut (q := q) (x := x) ?_ (fun _ => ?_); unfold x; clear x; rotate_left; clear_value x)
    | (extract_lets +onlyGivenNames x; clear_value x) | extract_lets +onlyGivenNames _ | split)

theorem kept_nextAfterLoss {q s} (h : Kept q s) : Kept q (State.nextAfterLoss s) := by
  unfold State.nextAfterLoss
  repeat' with_reducible (first
    | assumption | apply kept_set
    | (extract_lets +onlyGivenNames x; refine kept_cut (q := q) (x := x) ?_ (fun _ => ?_); unfold x; clear x; rotate_left; clear_value x)
    | (extract_lets +onlyGivenNames x; clear_value x) | extract_lets +onlyGivenNames _)

theorem kept_restore {q s} (h : Kept q s) : Kept q (State.restore s) := by
  unfold State.restore
  repeat' with_reducible (first
    | assumption | exact kept_mk (by assumption) | refine kept_foldl ?_ (fun _ _ _ => ?_)
    | (extract_lets +onlyGivenNames x; refine kept_cut (q := q) (x := x) ?_ (fun _ => ?_); unfold x; clear x; rotate_left; clear_value x)
    | (extract_lets +onlyGivenNames x; clear_value x) | extract_lets +onlyGivenNames _)

theorem kept_reconciled {q s} (h : Kept q s) : Kept q (State.reconciled s) := by
  unfold State.reconciled
  repeat' with_reducible (first
    | assumption | apply kept_setB | apply kept_ldgFault | apply kept_modLdg | apply kept_showRefresh | apply kept_showFill
    | apply kept_warn | exact kept_mk (by assumption) | refine kept_foldl ?_ (fun _ _ _ => ?_)
    | (extract_lets +onlyGivenNames x; refine kept_cut (q := q) (x := x) ?_ (fun _ => ?_); unfold x; clear x; rotate_left; clear_value x)
    | (extract_lets +onlyGivenNames x; clear_value x) | extract_lets +onlyGivenNames _ | split)

theorem kept_refreshBlock {q s a1} (h : Kept q s) : Kept q (State.refreshBlock s a1) := by
  unfold State.refreshBlock
  repeat' with_reducible (first
    | assumption | apply kept_nandResult | apply kept_modLdg | apply kept_showRefresh | apply kept_showFill
    | exact kept_mk (by assumption)
    | (extract_lets +onlyGivenNames x; refine kept_cut (q := q) (x := x) ?_ (fun _ => ?_); unfold x; clear x; rotate_left; clear_value x)
    | (extract_lets +onlyGivenNames x; clear_value x) | extract_lets +onlyGivenNames _ | split)

theorem kept_changeBlock {q s a1 a2} (h : Kept q s) : Kept q (State.changeBlock s a1 a2) := by
  unfold State.changeBlock
  repeat' with_reducible (first
    | assumption | apply kept_modLdg | exact kept_mk (by assumption)
    | (extract_lets +onlyGivenNames x; refine kept_cut (q := q) (x := x) ?_ (fun _ => ?_); unfold x; clear x; rotate_left; clear_value x)
    | (extract_lets +onlyGivenNames x; clear_value x) | extract_lets +onlyGivenNames _)

theorem kept_noteBad {q s a1} (h : Kept q s) : Kept q (State.noteBad s a1) := by
  unfold State.noteBad
  repeat' with_reducible (first
    | assumption | apply kept_warn | apply kept_showFill | split)

theorem kept_markLost {q s a1 a2} (h : Kept q s) : Kept q (State.markLost s a1 a2) := by
  unfold State.markLost
  repeat' with_reducible (first
    | assumption | apply kept_noteBad | apply kept_changeBlock)

theorem kept_markBad {q s a1 a2} (h : Kept q s) : Kept q (State.markBad s a1 a2) := by
  unfold State.markBad
  repeat' with_reducible (first
    | assumption | apply kept_noteBad | apply kept_changeBlock)

theorem kept_indexLost {q s a1} (h : Kept q s) : Kept q (State.indexLost s a1) := by
  unfold State.indexLost
  repeat' with_reducible (first
    | assumption | apply kept_modLdg | apply kept_ldgFault | exact kept_mk (by assumption)
    | (extract_lets +onlyGivenNames x; refine kept_cut (q := q) (x := x) ?_ (fun _ => ?_); unfold x; clear x; rotate_left; clear_value x)
    | (extract_lets +onlyGivenNames x; clear_value x) | extract_lets +onlyGivenNames _)

theorem kept_rebuildStep {q s} (h : Kept q s) : Kept q (State.rebuildStep s) := by
  unfold State.rebuildStep
  repeat' with_reducible (first
    | assumption | apply kept_modLdg | apply kept_setB | exact kept_mk (by assumption)
    | (extract_lets +onlyGivenNames x; refine kept_cut (q := q) (x := x) ?_ (fun _ => ?_); unfold x; clear x; rotate_left; clear_value x)
    | (extract_lets +onlyGivenNames x; clear_value x) | extract_lets +onlyGivenNames _ | split)

theorem kept_markWorn {q s a1} (h : Kept q s) : Kept q (State.markWorn s a1) := by
  unfold State.markWorn
  repeat' with_reducible (first
    | assumption | apply kept_showRefresh | apply kept_modLdg | exact kept_mk (by assumption)
    | (extract_lets +onlyGivenNames x; refine kept_cut (q := q) (x := x) ?_ (fun _ => ?_); unfold x; clear x; rotate_left; clear_value x)
    | (extract_lets +onlyGivenNames x; clear_value x) | extract_lets +onlyGivenNames _)

theorem kept_skipRecord {q s a1 a2 a3} (h : Kept q s) : Kept q (State.skipRecord s a1 a2 a3) := by
  unfold State.skipRecord
  repeat' with_reducible (first
    | assumption | apply kept_showFill | apply kept_markBad | apply kept_modLdg | exact kept_mk (by assumption)
    | (extract_lets +onlyGivenNames x; refine kept_cut (q := q) (x := x) ?_ (fun _ => ?_); unfold x; clear x; rotate_left; clear_value x)
    | (extract_lets +onlyGivenNames x; clear_value x) | extract_lets +onlyGivenNames _ | split)

theorem kept_dropSlot {q s a1} (h : Kept q s) : Kept q (State.dropSlot s a1) := by
  unfold State.dropSlot
  repeat' with_reducible (first
    | assumption | apply kept_showJournal | exact kept_mk (by assumption)
    | (extract_lets +onlyGivenNames x; refine kept_cut (q := q) (x := x) ?_ (fun _ => ?_); unfold x; clear x; rotate_left; clear_value x)
    | (extract_lets +onlyGivenNames x; clear_value x) | extract_lets +onlyGivenNames _)

theorem kept_retention {q s a1} (h : Kept q s) : Kept q (State.retention s a1) := by
  unfold State.retention
  repeat' with_reducible (first
    | assumption | apply kept_changeBlock | apply kept_powerRec | apply kept_setB | apply kept_showRefresh | apply kept_showFill
    | apply kept_noteBad | refine kept_foldl ?_ (fun _ _ _ => ?_)
    | (extract_lets +onlyGivenNames x; refine kept_cut (q := q) (x := x) ?_ (fun _ => ?_); unfold x; clear x; rotate_left; clear_value x)
    | (extract_lets +onlyGivenNames x; clear_value x) | extract_lets +onlyGivenNames _ | split)

theorem kept_startCheck {q s} (h : Kept q s) : Kept q (State.startCheck s) := by
  unfold State.startCheck
  repeat' with_reducible (first
    | assumption | apply kept_showRefresh | apply kept_setB | exact kept_mk (by assumption)
    | refine kept_foldl ?_ (fun _ _ _ => ?_)
    | (extract_lets +onlyGivenNames x; refine kept_cut (q := q) (x := x) ?_ (fun _ => ?_); unfold x; clear x; rotate_left; clear_value x)
    | (extract_lets +onlyGivenNames x; clear_value x) | extract_lets +onlyGivenNames _ | split)

theorem kept_saveRecords {q s} (h : Kept q s) : Kept q (State.saveRecords s) := by
  unfold State.saveRecords
  repeat' with_reducible (first
    | assumption | exact kept_mk (by assumption) | refine kept_foldl ?_ (fun _ _ _ => ?_)
    | (extract_lets +onlyGivenNames x; refine kept_cut (q := q) (x := x) ?_ (fun _ => ?_); unfold x; clear x; rotate_left; clear_value x)
    | (extract_lets +onlyGivenNames x; clear_value x) | extract_lets +onlyGivenNames _ | split)

theorem kept_ageModels {q s} (h : Kept q s) : Kept q (State.ageModels s) := by
  unfold State.ageModels
  repeat' with_reducible (first
    | assumption | apply kept_inc | refine kept_foldl ?_ (fun _ _ _ => ?_))

theorem kept_summarise {q s a1} (h : Kept q s) : Kept q (State.summarise s a1) := by
  unfold State.summarise
  repeat' with_reducible (first
    | assumption | apply kept_submit | apply kept_saveRecords | apply kept_ageModels | apply kept_modLdg | apply kept_scrubDue
    | apply kept_showRefresh | exact kept_mk (by assumption) | refine kept_foldl ?_ (fun _ _ _ => ?_)
    | (extract_lets +onlyGivenNames x; refine kept_cut (q := q) (x := x) ?_ (fun _ => ?_); unfold x; clear x; rotate_left; clear_value x)
    | (extract_lets +onlyGivenNames x; clear_value x) | extract_lets +onlyGivenNames _ | split)

theorem kept_startQuery {q s a1} (h : Kept q s) : Kept q (State.startQuery s a1) := by
  unfold State.startQuery
  repeat' with_reducible (first
    | assumption | apply kept_resClear | apply kept_modLdg | exact kept_mk (by assumption)
    | (extract_lets +onlyGivenNames x; refine kept_cut (q := q) (x := x) ?_ (fun _ => ?_); unfold x; clear x; rotate_left; clear_value x)
    | (extract_lets +onlyGivenNames x; clear_value x) | extract_lets +onlyGivenNames _ | split)

theorem kept_requestQuery {q s a1} (h : Kept q s) : Kept q (State.requestQuery s a1) := by
  unfold State.requestQuery
  repeat' with_reducible (first
    | assumption | apply kept_modLdg | apply kept_resClear | apply kept_startQuery | exact kept_mk (by assumption)
    | (extract_lets +onlyGivenNames x; refine kept_cut (q := q) (x := x) ?_ (fun _ => ?_); unfold x; clear x; rotate_left; clear_value x)
    | (extract_lets +onlyGivenNames x; clear_value x) | extract_lets +onlyGivenNames _ | split)

theorem kept_queryDone {q s} (h : Kept q s) : Kept q (State.queryDone s) := by
  unfold State.queryDone
  repeat' with_reducible (first
    | assumption | apply kept_modLdg | apply kept_raise | apply kept_resDone | apply kept_set | apply kept_setB
    | exact kept_mk (by assumption)
    | (extract_lets +onlyGivenNames x; refine kept_cut (q := q) (x := x) ?_ (fun _ => ?_); unfold x; clear x; rotate_left; clear_value x)
    | (extract_lets +onlyGivenNames x; clear_value x) | extract_lets +onlyGivenNames _ | split)

theorem kept_rdPop {q s} (h : Kept q s) : Kept q (State.rdPop s) := by
  unfold State.rdPop
  repeat' with_reducible (first
    | assumption | apply kept_set | split)

theorem kept_runHeld {q s} (h : Kept q s) : Kept q (State.runHeld s) := by
  unfold State.runHeld
  repeat' with_reducible (first
    | assumption | apply kept_startQuery | apply kept_modLdg | exact kept_mk (by assumption)
    | (extract_lets +onlyGivenNames x; refine kept_cut (q := q) (x := x) ?_ (fun _ => ?_); unfold x; clear x; rotate_left; clear_value x)
    | (extract_lets +onlyGivenNames x; clear_value x) | extract_lets +onlyGivenNames _ | split)

theorem kept_dmaGo {q s} (h : Kept q s) : Kept q (State.dmaGo s) := by
  unfold State.dmaGo
  repeat' with_reducible (first
    | assumption | apply kept_modLdg | apply kept_resClear | apply kept_runHeld | apply kept_raise | apply kept_resDone
    | exact kept_mk (by assumption)
    | (extract_lets +onlyGivenNames x; refine kept_cut (q := q) (x := x) ?_ (fun _ => ?_); unfold x; clear x; rotate_left; clear_value x)
    | (extract_lets +onlyGivenNames x; clear_value x) | extract_lets +onlyGivenNames _ | split)

theorem kept_dmaEnd {q s a1} (h : Kept q s) : Kept q (State.dmaEnd s a1) := by
  unfold State.dmaEnd
  repeat' with_reducible (first
    | assumption | apply kept_emit | apply kept_set | apply kept_modLdg | apply kept_runHeld | apply kept_raise
    | apply kept_resDone | exact kept_mk (by assumption)
    | (extract_lets +onlyGivenNames x; refine kept_cut (q := q) (x := x) ?_ (fun _ => ?_); unfold x; clear x; rotate_left; clear_value x)
    | (extract_lets +onlyGivenNames x; clear_value x) | extract_lets +onlyGivenNames _ | split)

theorem kept_ldgClear {q s} (h : Kept q s) : Kept q (State.ldgClear s) := by
  unfold State.ldgClear
  repeat' with_reducible (first
    | assumption | apply kept_set
    | (extract_lets +onlyGivenNames x; refine kept_cut (q := q) (x := x) ?_ (fun _ => ?_); unfold x; clear x; rotate_left; clear_value x)
    | (extract_lets +onlyGivenNames x; clear_value x) | extract_lets +onlyGivenNames _ | split)

theorem kept_execRecordSubmit {q a1 a2 s} (h : Kept q s) : Answers q (execRecordSubmit a1 a2 s) := by
  unfold execRecordSubmit
  repeat' with_reducible (first
    | assumption | apply answers_next | apply kept_submit)

theorem kept_execDataPageWrite {q a1 s} (h : Kept q s) : Answers q (execDataPageWrite a1 s) := by
  unfold execDataPageWrite
  repeat' with_reducible (first
    | assumption | intro _ | apply answers_next | apply kept_whenLe | apply kept_dataPageWrite)

theorem kept_execJournalAreaWrite {q s} (h : Kept q s) : Answers q (execJournalAreaWrite s) := by
  unfold execJournalAreaWrite
  repeat' with_reducible (first
    | assumption | intro _ | apply answers_next | apply kept_whenLe | apply kept_journalDurable)

theorem kept_execLdgFlush {q s} (h : Kept q s) : Answers q (execLdgFlush s) := by
  unfold execLdgFlush
  repeat' with_reducible (first
    | assumption | intro _ | apply answers_next | apply kept_whenLe | apply kept_journalDurable)

theorem kept_execBlockRefresh {q a1 s} (h : Kept q s) : Answers q (execBlockRefresh a1 s) := by
  unfold execBlockRefresh
  repeat' with_reducible (first
    | assumption | intro _ | apply answers_next | apply kept_whenLe | apply kept_refreshBlock | split)

theorem kept_execRefreshEscalation {q s} (h : Kept q s) : Answers q (execRefreshEscalation s) := by
  unfold execRefreshEscalation
  repeat' with_reducible (first
    | assumption | intro _ | apply answers_next | apply kept_whenLe | apply kept_showRefresh)

theorem kept_execRetentionCheck {q a1 s} (h : Kept q s) : Answers q (execRetentionCheck a1 s) := by
  unfold execRetentionCheck
  repeat' with_reducible (first
    | assumption | intro _ | apply answers_next | apply kept_whenLe | apply kept_retention)

theorem kept_execLdgCheck {q s} (h : Kept q s) : Answers q (execLdgCheck s) := by
  unfold execLdgCheck
  repeat' with_reducible (first
    | assumption | intro _ | apply answers_next | apply kept_whenReady | apply kept_startCheck)

theorem kept_execDayBoundary {q s} (h : Kept q s) : Answers q (execDayBoundary s) := by
  unfold execDayBoundary
  repeat' with_reducible (first
    | assumption | intro _ | apply answers_next | apply kept_whenLe | apply kept_summarise | split)

theorem kept_execLdgQryReq {q s} (h : Kept q s) : Answers q (execLdgQryReq s) := by
  unfold execLdgQryReq
  repeat' with_reducible (first
    | assumption | intro _ | apply answers_next | apply kept_whenReady | apply kept_requestQuery)

theorem kept_execLdgQryNext {q s} (h : Kept q s) : Answers q (execLdgQryNext s) := by
  unfold execLdgQryNext
  repeat' with_reducible (first
    | assumption | intro _ | apply answers_next | apply kept_whenReady | apply kept_requestQuery)

theorem kept_execLdgQryDone {q s} (h : Kept q s) : Answers q (execLdgQryDone s) := by
  unfold execLdgQryDone
  repeat' with_reducible (first
    | assumption | intro _ | apply answers_next | apply kept_whenLe | apply kept_queryDone)

theorem kept_execRdWinRead {q s} (h : Kept q s) : Answers q (execRdWinRead s) := by
  unfold execRdWinRead
  repeat' with_reducible (first
    | assumption | apply answers_next | apply kept_emit | apply kept_rdPop | split)

theorem kept_execDmaGo {q s} (h : Kept q s) : Answers q (execDmaGo s) := by
  unfold execDmaGo
  repeat' with_reducible (first
    | assumption | intro _ | apply answers_next | apply kept_whenReady | apply kept_dmaGo)

theorem kept_execDmaAbort {q s} (h : Kept q s) : Answers q (execDmaAbort s) := by
  unfold execDmaAbort
  repeat' with_reducible (first
    | assumption | intro _ | apply answers_next | apply kept_whenReady | apply kept_bumpFree | apply kept_dmaEnd | split)

theorem kept_execDmaDone {q s} (h : Kept q s) : Answers q (execDmaDone s) := by
  unfold execDmaDone
  repeat' with_reducible (first
    | assumption | intro _ | apply answers_next | apply kept_whenLe | apply kept_dmaEnd)

theorem kept_execLdgClr {q s} (h : Kept q s) : Answers q (execLdgClr s) := by
  unfold execLdgClr
  repeat' with_reducible (first
    | assumption | intro _ | apply answers_next | apply kept_whenReady | apply kept_ldgClear)

end Sys2Proof.Machine
end

