-- ==== Sys2Proof/Laws/KeptVault.lean ====
section
/-! SUPPORT. One lemma per operation of Machine/Vault.lean that answers a state: it leaves the queue alone and keeps the register
window canonical; per meaning: it completes, and so does its state. -/

namespace Sys2Proof.Machine

theorem kept_modVlt {q s a1} (h : Kept q s) : Kept q (State.modVlt s a1) := by
  unfold State.modVlt
  repeat' with_reducible (first
    | assumption | exact kept_mk (by assumption)
    | (extract_lets +onlyGivenNames x; refine kept_cut (q := q) (x := x) ?_ (fun _ => ?_); unfold x; clear x; rotate_left; clear_value x)
    | (extract_lets +onlyGivenNames x; clear_value x) | extract_lets +onlyGivenNames _)

theorem kept_vltFault {q s a1 a2 a3 a4} (h : Kept q s) : Kept q (State.vltFault s a1 a2 a3 a4) := by
  unfold State.vltFault
  repeat' with_reducible (first
    | assumption | apply kept_set | apply kept_setB | apply kept_logFault
    | (extract_lets +onlyGivenNames x; refine kept_cut (q := q) (x := x) ?_ (fun _ => ?_); unfold x; clear x; rotate_left; clear_value x)
    | (extract_lets +onlyGivenNames x; clear_value x) | extract_lets +onlyGivenNames _)

theorem kept_vltReject {q s} (h : Kept q s) : Kept q (State.vltReject s) := by
  unfold State.vltReject
  repeat' with_reducible (first
    | assumption | apply kept_reject)

theorem kept_clearPw {q s} (h : Kept q s) : Kept q (State.clearPw s) := by
  unfold State.clearPw
  repeat' with_reducible (first
    | assumption | apply kept_modVlt | exact kept_mk (by assumption)
    | (extract_lets +onlyGivenNames x; refine kept_cut (q := q) (x := x) ?_ (fun _ => ?_); unfold x; clear x; rotate_left; clear_value x)
    | (extract_lets +onlyGivenNames x; clear_value x) | extract_lets +onlyGivenNames _)

theorem kept_sessionEvent {q s a1 a2} (h : Kept q s) : Kept q (State.sessionEvent s a1 a2) := by
  unfold State.sessionEvent
  repeat' with_reducible (first
    | assumption | apply kept_event)

theorem kept_endSession {q s a1} (h : Kept q s) : Kept q (State.endSession s a1) := by
  unfold State.endSession
  repeat' with_reducible (first
    | assumption | apply kept_modVlt | apply kept_clearPw | apply kept_set | apply kept_setB | apply kept_raise
    | apply kept_sessionEvent | exact kept_mk (by assumption)
    | (extract_lets +onlyGivenNames x; refine kept_cut (q := q) (x := x) ?_ (fun _ => ?_); unfold x; clear x; rotate_left; clear_value x)
    | (extract_lets +onlyGivenNames x; clear_value x) | extract_lets +onlyGivenNames _ | split)

theorem kept_returnStored {q s} (h : Kept q s) : Kept q (State.returnStored s) := by
  unfold State.returnStored
  repeat' with_reducible (first
    | assumption | apply kept_loadWord | apply kept_showSenses | apply kept_setB | apply kept_returnDoor
    | refine kept_foldl ?_ (fun _ _ _ => ?_)
    | (extract_lets +onlyGivenNames x; refine kept_cut (q := q) (x := x) ?_ (fun _ => ?_); unfold x; clear x; rotate_left; clear_value x)
    | (extract_lets +onlyGivenNames x; clear_value x) | extract_lets +onlyGivenNames _)

theorem kept_dropSession {q s a1} (h : Kept q s) : Kept q (State.dropSession s a1) := by
  unfold State.dropSession
  repeat' with_reducible (first
    | assumption | apply kept_returnStored | apply kept_configChange | apply kept_endSession | exact kept_mk (by assumption)
    | (extract_lets +onlyGivenNames x; refine kept_cut (q := q) (x := x) ?_ (fun _ => ?_); unfold x; clear x; rotate_left; clear_value x)
    | (extract_lets +onlyGivenNames x; clear_value x) | extract_lets +onlyGivenNames _ | split)

theorem kept_unlock {q s} (h : Kept q s) : Kept q (State.unlock s) := by
  unfold State.unlock
  repeat' with_reducible (first
    | assumption | apply kept_vltReject | apply kept_modVlt | exact kept_mk (by assumption)
    | (extract_lets +onlyGivenNames x; refine kept_cut (q := q) (x := x) ?_ (fun _ => ?_); unfold x; clear x; rotate_left; clear_value x)
    | (extract_lets +onlyGivenNames x; clear_value x) | extract_lets +onlyGivenNames _ | split)

theorem kept_passwordDone {q s} (h : Kept q s) : Kept q (State.passwordDone s) := by
  unfold State.passwordDone
  repeat' with_reducible (first
    | assumption | apply kept_modVlt | apply kept_clearPw | apply kept_set | apply kept_setB | apply kept_raise
    | apply kept_sessionEvent | apply kept_inc | exact kept_mk (by assumption)
    | (extract_lets +onlyGivenNames x; refine kept_cut (q := q) (x := x) ?_ (fun _ => ?_); unfold x; clear x; rotate_left; clear_value x)
    | (extract_lets +onlyGivenNames x; clear_value x) | extract_lets +onlyGivenNames _ | split)

theorem kept_lockoutEnd {q s} (h : Kept q s) : Kept q (State.lockoutEnd s) := by
  unfold State.lockoutEnd
  repeat' with_reducible (first
    | assumption | apply kept_set | apply kept_setB)

theorem kept_abortSession {q s} (h : Kept q s) : Kept q (State.abortSession s) := by
  unfold State.abortSession
  repeat' with_reducible (first
    | assumption | apply kept_vltReject | apply kept_dropSession | exact kept_mk (by assumption)
    | (extract_lets +onlyGivenNames x; refine kept_cut (q := q) (x := x) ?_ (fun _ => ?_); unfold x; clear x; rotate_left; clear_value x)
    | (extract_lets +onlyGivenNames x; clear_value x) | extract_lets +onlyGivenNames _ | split)

theorem kept_newPassword {q s} (h : Kept q s) : Kept q (State.newPassword s) := by
  unfold State.newPassword
  repeat' with_reducible (first
    | assumption | apply kept_vltReject | apply kept_bumpFree | apply kept_clearPw | apply kept_modVlt
    | exact kept_mk (by assumption)
    | (extract_lets +onlyGivenNames x; refine kept_cut (q := q) (x := x) ?_ (fun _ => ?_); unfold x; clear x; rotate_left; clear_value x)
    | (extract_lets +onlyGivenNames x; clear_value x) | extract_lets +onlyGivenNames _ | split)

theorem kept_commitResult {q s a1} (h : Kept q s) : Kept q (State.commitResult s a1) := by
  unfold State.commitResult
  repeat' with_reducible (first
    | assumption | apply kept_raise | apply kept_resDone | apply kept_set)

theorem kept_refuse {q s a1} (h : Kept q s) : Kept q (State.refuse s a1) := by
  unfold State.refuse
  repeat' with_reducible (first
    | assumption | apply kept_configChange | apply kept_returnStored | apply kept_endSession | apply kept_commitResult
    | (extract_lets +onlyGivenNames x; refine kept_cut (q := q) (x := x) ?_ (fun _ => ?_); unfold x; clear x; rotate_left; clear_value x)
    | (extract_lets +onlyGivenNames x; clear_value x) | extract_lets +onlyGivenNames _ | split)

theorem kept_capFilters {q s} (h : Kept q s) : Kept q (State.capFilters s) := by
  unfold State.capFilters
  repeat' with_reducible (first
    | assumption | apply kept_set | refine kept_foldl ?_ (fun _ _ _ => ?_) | split)

theorem kept_commit {q s} (h : Kept q s) : Kept q (State.commit s) := by
  unfold State.commit
  repeat' with_reducible (first
    | assumption | apply kept_vltReject | apply kept_resClear | apply kept_capFilters | apply kept_setB | apply kept_modVlt
    | apply kept_refuse | exact kept_mk (by assumption)
    | (extract_lets +onlyGivenNames x; refine kept_cut (q := q) (x := x) ?_ (fun _ => ?_); unfold x; clear x; rotate_left; clear_value x)
    | (extract_lets +onlyGivenNames x; clear_value x) | extract_lets +onlyGivenNames _ | split)

theorem kept_commitDone {q s a1} (h : Kept q s) : Kept q (State.commitDone s a1) := by
  unfold State.commitDone
  repeat' with_reducible (first
    | assumption | apply kept_setB | apply kept_modVlt | apply kept_judgeModels | apply kept_inc | apply kept_switchBank
    | apply kept_resDone | apply kept_set | apply kept_endSession | apply kept_refuse | exact kept_mk (by assumption)
    | (extract_lets +onlyGivenNames x; refine kept_cut (q := q) (x := x) ?_ (fun _ => ?_); unfold x; clear x; rotate_left; clear_value x)
    | (extract_lets +onlyGivenNames x; clear_value x) | extract_lets +onlyGivenNames _ | split)

theorem kept_fsBit {q s a1 a2} (h : Kept q s) : Kept q (State.fsBit s a1 a2) := by
  unfold State.fsBit
  repeat' with_reducible (first
    | assumption | apply kept_set
    | (extract_lets +onlyGivenNames x; refine kept_cut (q := q) (x := x) ?_ (fun _ => ?_); unfold x; clear x; rotate_left; clear_value x)
    | (extract_lets +onlyGivenNames x; clear_value x) | extract_lets +onlyGivenNames _ | split)

theorem kept_unconfirmed {q s a1} (h : Kept q s) : Kept q (State.unconfirmed s a1) := by
  unfold State.unconfirmed
  repeat' with_reducible (first
    | assumption | apply kept_modDie | apply kept_modVlt | apply kept_evalGroup | apply kept_fsBit | exact kept_mk (by assumption)
    | (extract_lets +onlyGivenNames x; refine kept_cut (q := q) (x := x) ?_ (fun _ => ?_); unfold x; clear x; rotate_left; clear_value x)
    | (extract_lets +onlyGivenNames x; clear_value x) | extract_lets +onlyGivenNames _)

theorem kept_retryPush {q s a1 a2} (h : Kept q s) : Kept q (State.retryPush s a1 a2) := by
  unfold State.retryPush
  repeat' with_reducible (first
    | assumption | apply kept_fsBit | apply kept_pushDie | apply kept_setB | apply kept_modVlt | apply kept_vltFault
    | exact kept_mk (by assumption)
    | (extract_lets +onlyGivenNames x; refine kept_cut (q := q) (x := x) ?_ (fun _ => ?_); unfold x; clear x; rotate_left; clear_value x)
    | (extract_lets +onlyGivenNames x; clear_value x) | extract_lets +onlyGivenNames _ | split)

theorem kept_loadRecords {q s} (h : Kept q s) : Kept q (State.loadRecords s) := by
  have hn : Kept q ((((List.range 16).map fin16).foldl (fun (s : State) (ax : Fin 16) => s.resetAdapt ax)
      ((wordsOf .record).foldl (fun (s : State) w => s.setWord w.1 (s.word w.1 &&& ~~~ w.2)) s)).vltFault 5 (State.vltLoc 13) 2 false) :=
    kept_vltFault (kept_foldl (kept_foldl h fun _ _ ht => kept_setWord ht) fun _ _ ht => kept_resetAdapt ht)
  unfold State.loadRecords
  extract_lets +onlyGivenNames best
  clear_value best
  cases best with
  | none => exact hn
  | some r =>
    have hp : ∀ (l : List (Nat × Word)) (t : State), Kept q t → Kept q (l.foldl (fun (s : State) (w : Nat × Word) =>
        s.setWord w.1 ((s.word w.1 &&& ~~~ w.2) ||| (cellGet zeroWord r.cells w.1 &&& w.2))) t) :=
      fun _ _ ht => kept_foldl ht fun _ _ hu => kept_setWord hu
    dsimp only
    split
    · exact kept_foldl (hp _ _ (hp _ _ h)) fun _ _ ht => kept_set ht
    · exact hp _ _ h

theorem kept_logCut {q s} (h : Kept q s) : Kept q (State.logCut s) := by
  unfold State.logCut
  repeat' with_reducible (first
    | assumption | apply kept_configChange | exact kept_mk (by assumption)
    | (extract_lets +onlyGivenNames x; refine kept_cut (q := q) (x := x) ?_ (fun _ => ?_); unfold x; clear x; rotate_left; clear_value x)
    | (extract_lets +onlyGivenNames x; clear_value x) | extract_lets +onlyGivenNames _ | split)

theorem kept_chooseBank {q s} (h : Kept q s) : Kept q (State.chooseBank s) := by
  unfold State.chooseBank
  repeat' with_reducible (first
    | assumption | apply kept_setB | apply kept_configChange | apply kept_vltFault | apply kept_modVlt | apply kept_logCut
    | exact kept_mk (by assumption)
    | (extract_lets +onlyGivenNames x; refine kept_cut (q := q) (x := x) ?_ (fun _ => ?_); unfold x; clear x; rotate_left; clear_value x)
    | (extract_lets +onlyGivenNames x; clear_value x) | extract_lets +onlyGivenNames _ | split)

theorem kept_recordCut {q s} (h : Kept q s) : Kept q (State.recordCut s) := by
  unfold State.recordCut
  repeat' with_reducible (first
    | assumption | apply kept_sessionEvent | apply kept_configChange | apply kept_modVlt | exact kept_mk (by assumption)
    | (extract_lets +onlyGivenNames x; refine kept_cut (q := q) (x := x) ?_ (fun _ => ?_); unfold x; clear x; rotate_left; clear_value x)
    | (extract_lets +onlyGivenNames x; clear_value x) | extract_lets +onlyGivenNames _ | split)

theorem kept_loadVault {q s} (h : Kept q s) : Kept q (State.loadVault s) := by
  unfold State.loadVault
  repeat' with_reducible (first
    | assumption | apply kept_chooseBank | apply kept_loadWord | apply kept_set | apply kept_showSenses | apply kept_showInForce
    | apply kept_recordCut | apply kept_judgeModels | apply kept_loadRecords | refine kept_foldl ?_ (fun _ _ _ => ?_)
    | (extract_lets +onlyGivenNames x; refine kept_cut (q := q) (x := x) ?_ (fun _ => ?_); unfold x; clear x; rotate_left; clear_value x)
    | (extract_lets +onlyGivenNames x; clear_value x) | extract_lets +onlyGivenNames _)

theorem kept_bankLost {q s a1} (h : Kept q s) : Kept q (State.bankLost s a1) := by
  unfold State.bankLost
  repeat' with_reducible (first
    | assumption | apply kept_modVlt | apply kept_showBanks | apply kept_showInForce | apply kept_vltFault
    | apply kept_judgeModels | apply kept_returnStored | apply kept_configChange | exact kept_mk (by assumption)
    | (extract_lets +onlyGivenNames x; refine kept_cut (q := q) (x := x) ?_ (fun _ => ?_); unfold x; clear x; rotate_left; clear_value x)
    | (extract_lets +onlyGivenNames x; clear_value x) | extract_lets +onlyGivenNames _ | split)

theorem kept_vaultEcc {q s a1} (h : Kept q s) : Kept q (State.vaultEcc s a1) := by
  unfold State.vaultEcc
  repeat' with_reducible (first
    | assumption | apply kept_bankLost | apply kept_modVlt | apply kept_vltFault | exact kept_mk (by assumption)
    | (extract_lets +onlyGivenNames x; refine kept_cut (q := q) (x := x) ?_ (fun _ => ?_); unfold x; clear x; rotate_left; clear_value x)
    | (extract_lets +onlyGivenNames x; clear_value x) | extract_lets +onlyGivenNames _ | split)

theorem kept_logLost {q s a1} (h : Kept q s) : Kept q (State.logLost s a1) := by
  unfold State.logLost
  repeat' with_reducible (first
    | assumption | apply kept_modVlt | apply kept_vltFault | apply kept_set | exact kept_mk (by assumption)
    | (extract_lets +onlyGivenNames x; refine kept_cut (q := q) (x := x) ?_ (fun _ => ?_); unfold x; clear x; rotate_left; clear_value x)
    | (extract_lets +onlyGivenNames x; clear_value x) | extract_lets +onlyGivenNames _ | split)

theorem kept_clearAxisModel {q s a1} (h : Kept q s) : Kept q (State.clearAxisModel s a1) := by
  unfold State.clearAxisModel
  repeat' with_reducible (first
    | assumption | apply kept_setI | apply kept_set | apply kept_setB | refine kept_foldl ?_ (fun _ _ _ => ?_)
    | (extract_lets +onlyGivenNames x; refine kept_cut (q := q) (x := x) ?_ (fun _ => ?_); unfold x; clear x; rotate_left; clear_value x)
    | (extract_lets +onlyGivenNames x; clear_value x) | extract_lets +onlyGivenNames _ | split)

theorem kept_clearModel {q s a1} (h : Kept q s) : Kept q (State.clearModel s a1) := by
  unfold State.clearModel
  repeat' with_reducible (first
    | assumption | apply kept_setDegr | apply kept_clearAxisModel | apply kept_reject | split)

theorem kept_execPwWinWrite {q a1 s} (h : Kept q s) : Answers q (execPwWinWrite a1 s) := by
  unfold execPwWinWrite
  repeat' with_reducible (first
    | assumption | intro _ | apply answers_next | apply kept_whenReady | apply kept_modVlt | exact kept_mk (by assumption)
    | (extract_lets +onlyGivenNames x; refine kept_cut (q := q) (x := x) ?_ (fun _ => ?_); unfold x; clear x; rotate_left; clear_value x)
    | (extract_lets +onlyGivenNames x; clear_value x) | extract_lets +onlyGivenNames _ | split)

theorem kept_execUnlock {q s} (h : Kept q s) : Answers q (execUnlock s) := by
  unfold execUnlock
  repeat' with_reducible (first
    | assumption | intro _ | apply answers_next | apply kept_whenReady | apply kept_unlock)

theorem kept_execPasswordCheckDone {q s} (h : Kept q s) : Answers q (execPasswordCheckDone s) := by
  unfold execPasswordCheckDone
  repeat' with_reducible (first
    | assumption | intro _ | apply answers_next | apply kept_whenLe | apply kept_passwordDone)

theorem kept_execLockoutEnd {q s} (h : Kept q s) : Answers q (execLockoutEnd s) := by
  unfold execLockoutEnd
  repeat' with_reducible (first
    | assumption | apply answers_next | apply kept_lockoutEnd)

theorem kept_execSessionTimeout {q s} (h : Kept q s) : Answers q (execSessionTimeout s) := by
  unfold execSessionTimeout
  repeat' with_reducible (first
    | assumption | intro _ | apply answers_next | apply kept_whenReady | apply kept_set | apply kept_dropSession | split)

theorem kept_execAbort {q s} (h : Kept q s) : Answers q (execAbort s) := by
  unfold execAbort
  repeat' with_reducible (first
    | assumption | intro _ | apply answers_next | apply kept_whenReady | apply kept_abortSession)

theorem kept_execNewpw {q s} (h : Kept q s) : Answers q (execNewpw s) := by
  unfold execNewpw
  repeat' with_reducible (first
    | assumption | intro _ | apply answers_next | apply kept_whenReady | apply kept_newPassword)

theorem kept_execCommit {q s} (h : Kept q s) : Answers q (execCommit s) := by
  unfold execCommit
  repeat' with_reducible (first
    | assumption | intro _ | apply answers_next | apply kept_whenReady | apply kept_commit)

theorem kept_execCommitDone {q a1 s} (h : Kept q s) : Answers q (execCommitDone a1 s) := by
  unfold execCommitDone
  repeat' with_reducible (first
    | assumption | intro _ | apply answers_next | apply kept_whenLe | apply kept_commitDone)

theorem kept_execFsConfirmTimeout {q a1 s} (h : Kept q s) : Answers q (execFsConfirmTimeout a1 s) := by
  unfold execFsConfirmTimeout
  repeat' with_reducible (first
    | assumption | intro _ | apply answers_next | apply kept_whenReady | apply kept_unconfirmed)

theorem kept_execFsPushRetry {q a1 a2 s} (h : Kept q s) : Answers q (execFsPushRetry a1 a2 s) := by
  unfold execFsPushRetry
  repeat' with_reducible (first
    | assumption | intro _ | apply answers_next | apply kept_whenLe | apply kept_retryPush)

theorem kept_execClrModel {q a1 s} (h : Kept q s) : Answers q (execClrModel a1 s) := by
  unfold execClrModel
  repeat' with_reducible (first
    | assumption | intro _ | apply answers_next | apply kept_whenReady | apply kept_clearModel)

end Sys2Proof.Machine
end

