-- ==== Sys2Proof/Laws/KeptPartner.lean ====
section
/-! SUPPORT. One lemma per operation of Machine/Partner.lean that answers a state: it leaves the queue alone and keeps the register
window canonical; per meaning: it completes, and so does its state. -/

namespace Sys2Proof.Machine

theorem kept_modPar {q s a1} (h : Kept q s) : Kept q (State.modPar s a1) := by
  unfold State.modPar
  repeat' with_reducible (first
    | assumption | exact kept_mk (by assumption)
    | (extract_lets +onlyGivenNames x; refine kept_cut (q := q) (x := x) ?_ (fun _ => ?_); unfold x; clear x; rotate_left; clear_value x)
    | (extract_lets +onlyGivenNames x; clear_value x) | extract_lets +onlyGivenNames _ | split)

theorem kept_brvFault {q s a1 a2 a3} (h : Kept q s) : Kept q (State.brvFault s a1 a2 a3) := by
  unfold State.brvFault
  repeat' with_reducible (first
    | assumption | apply kept_raise | apply kept_set | apply kept_logFault
    | (extract_lets +onlyGivenNames x; refine kept_cut (q := q) (x := x) ?_ (fun _ => ?_); unfold x; clear x; rotate_left; clear_value x)
    | (extract_lets +onlyGivenNames x; clear_value x) | extract_lets +onlyGivenNames _)

theorem kept_brvClear {q s} (h : Kept q s) : Kept q (State.brvClear s) := by
  unfold State.brvClear
  repeat' with_reducible (first
    | assumption | apply kept_set | refine kept_foldl ?_ (fun _ _ _ => ?_) | split)

theorem kept_showAxis {q s a1 a2} (h : Kept q s) : Kept q (State.showAxis s a1 a2) := by
  unfold State.showAxis
  repeat' with_reducible (first
    | assumption | apply kept_setWord | apply kept_sampleAxis | apply kept_setI
    | (extract_lets +onlyGivenNames x; refine kept_cut (q := q) (x := x) ?_ (fun _ => ?_); unfold x; clear x; rotate_left; clear_value x)
    | (extract_lets +onlyGivenNames x; clear_value x) | extract_lets +onlyGivenNames _ | split)

theorem kept_showDoor {q s a1 a2} (h : Kept q s) : Kept q (State.showDoor s a1 a2) := by
  unfold State.showDoor
  repeat' with_reducible (first
    | assumption | apply kept_setWord | apply kept_set | apply kept_gapFreeze | apply kept_showAxis | apply kept_raiseIf
    | exact kept_mk (by assumption)
    | (extract_lets +onlyGivenNames x; refine kept_cut (q := q) (x := x) ?_ (fun _ => ?_); unfold x; clear x; rotate_left; clear_value x)
    | (extract_lets +onlyGivenNames x; clear_value x) | extract_lets +onlyGivenNames _ | split)

theorem kept_showConnMirror {q s a1 a2} (h : Kept q s) : Kept q (State.showConnMirror s a1 a2) := by
  unfold State.showConnMirror
  repeat' with_reducible (first
    | assumption | apply kept_set | apply kept_modConn | exact kept_mk (by assumption)
    | (extract_lets +onlyGivenNames x; refine kept_cut (q := q) (x := x) ?_ (fun _ => ?_); unfold x; clear x; rotate_left; clear_value x)
    | (extract_lets +onlyGivenNames x; clear_value x) | extract_lets +onlyGivenNames _ | split)

theorem kept_eachIdx {q α s f} {l : List α} (h : Kept q s) (hf : ∀ t i x, Kept q t → Kept q (f t i x)) :
    Kept q (State.eachIdx s l f) := by
  unfold State.eachIdx
  exact kept_foldl_pair h fun _ _ ht => hf _ _ _ ht

theorem kept_showMirror {q s a1} (h : Kept q s) : Kept q (State.showMirror s a1) := by
  unfold State.showMirror
  repeat' with_reducible (first
    | assumption | intro _ | apply kept_eachIdx | apply kept_showDoor | apply kept_showConnMirror
    | (extract_lets +onlyGivenNames x; refine kept_cut (q := q) (x := x) ?_ (fun _ => ?_); unfold x; clear x; rotate_left; clear_value x)
    | (extract_lets +onlyGivenNames x; clear_value x) | extract_lets +onlyGivenNames _)

theorem kept_endTest {q s} (h : Kept q s) : Kept q (State.endTest s) := by
  unfold State.endTest
  repeat' with_reducible (first
    | assumption | apply kept_setTask | apply kept_modPar | exact kept_mk (by assumption)
    | (extract_lets +onlyGivenNames x; refine kept_cut (q := q) (x := x) ?_ (fun _ => ?_); unfold x; clear x; rotate_left; clear_value x)
    | (extract_lets +onlyGivenNames x; clear_value x) | extract_lets +onlyGivenNames _ | split)

theorem kept_setRole {q s a1 a2} (h : Kept q s) : Kept q (State.setRole s a1 a2) := by
  unfold State.setRole
  repeat' with_reducible (first
    | assumption | apply kept_set | apply kept_raise | apply kept_showAlive | apply kept_endTest | apply kept_event
    | exact kept_mk (by assumption)
    | (extract_lets +onlyGivenNames x; refine kept_cut (q := q) (x := x) ?_ (fun _ => ?_); unfold x; clear x; rotate_left; clear_value x)
    | (extract_lets +onlyGivenNames x; clear_value x) | extract_lets +onlyGivenNames _ | split)

theorem kept_diesFollow {q s} (h : Kept q s) : Kept q (State.diesFollow s) := by
  unfold State.diesFollow
  repeat' with_reducible (first
    | assumption | apply kept_evalAll | apply kept_modDie | exact kept_mk (by assumption) | refine kept_foldl ?_ (fun _ _ _ => ?_)
    | (extract_lets +onlyGivenNames x; refine kept_cut (q := q) (x := x) ?_ (fun _ => ?_); unfold x; clear x; rotate_left; clear_value x)
    | (extract_lets +onlyGivenNames x; clear_value x) | extract_lets +onlyGivenNames _ | split)

theorem kept_outputsFollow {q s} (h : Kept q s) : Kept q (State.outputsFollow s) := by
  unfold State.outputsFollow
  repeat' with_reducible (first
    | assumption | apply kept_loopEval | apply kept_tracTick | apply kept_driveGate | apply kept_setB | apply kept_showSaf
    | refine kept_foldl ?_ (fun _ _ _ => ?_)
    | (extract_lets +onlyGivenNames x; refine kept_cut (q := q) (x := x) ?_ (fun _ => ?_); unfold x; clear x; rotate_left; clear_value x)
    | (extract_lets +onlyGivenNames x; clear_value x) | extract_lets +onlyGivenNames _ | split)

theorem kept_busesFollow {q s} (h : Kept q s) : Kept q (State.busesFollow s) := by
  unfold State.busesFollow
  repeat' with_reducible (first
    | assumption | apply kept_showMvb | apply kept_cancelAll | apply kept_showCan | refine kept_foldl ?_ (fun _ _ _ => ?_)
    | (extract_lets +onlyGivenNames x; refine kept_cut (q := q) (x := x) ?_ (fun _ => ?_); unfold x; clear x; rotate_left; clear_value x)
    | (extract_lets +onlyGivenNames x; clear_value x) | extract_lets +onlyGivenNames _ | split)

theorem kept_dropDoor {q s a1} (h : Kept q s) : Kept q (State.dropDoor s a1) := by
  unfold State.dropDoor
  repeat' with_reducible (first
    | assumption | apply kept_haltAxis | apply kept_modDw | exact kept_mk (by assumption)
    | (extract_lets +onlyGivenNames x; refine kept_cut (q := q) (x := x) ?_ (fun _ => ?_); unfold x; clear x; rotate_left; clear_value x)
    | (extract_lets +onlyGivenNames x; clear_value x) | extract_lets +onlyGivenNames _)

theorem kept_gatesHigh {q s} (h : Kept q s) : Kept q (State.gatesHigh s) := by
  unfold State.gatesHigh
  repeat' with_reducible (first
    | assumption | apply kept_setB | apply kept_setGateEn | apply kept_modFb | exact kept_mk (by assumption)
    | refine kept_foldl ?_ (fun _ _ _ => ?_)
    | (extract_lets +onlyGivenNames x; refine kept_cut (q := q) (x := x) ?_ (fun _ => ?_); unfold x; clear x; rotate_left; clear_value x)
    | (extract_lets +onlyGivenNames x; clear_value x) | extract_lets +onlyGivenNames _ | split)

theorem kept_closeConns {q s} (h : Kept q s) : Kept q (State.closeConns s) := by
  unfold State.closeConns
  repeat' with_reducible (first
    | assumption | intro _ | apply kept_eachConn | apply kept_setConn | apply kept_dropOffers | split)

theorem kept_freshMirror {q s} (h : Kept q s) : Kept q (State.freshMirror s) := by
  unfold State.freshMirror
  repeat' with_reducible (first
    | assumption | apply kept_modPar | apply kept_setB | exact kept_mk (by assumption)
    | (extract_lets +onlyGivenNames x; refine kept_cut (q := q) (x := x) ?_ (fun _ => ?_); unfold x; clear x; rotate_left; clear_value x)
    | (extract_lets +onlyGivenNames x; clear_value x) | extract_lets +onlyGivenNames _)

theorem kept_dropOwed {q s} (h : Kept q s) : Kept q (State.dropOwed s) := by
  unfold State.dropOwed
  repeat' with_reducible (first
    | assumption | apply kept_modPar | apply kept_setB | exact kept_mk (by assumption)
    | (extract_lets +onlyGivenNames x; refine kept_cut (q := q) (x := x) ?_ (fun _ => ?_); unfold x; clear x; rotate_left; clear_value x)
    | (extract_lets +onlyGivenNames x; clear_value x) | extract_lets +onlyGivenNames _)

theorem kept_leaveActive {q s a1 a2} (h : Kept q s) : Kept q (State.leaveActive s a1 a2) := by
  unfold State.leaveActive
  repeat' with_reducible (first
    | assumption | apply kept_gatesHigh | apply kept_dropDoor | apply kept_setRole | apply kept_outputsFollow
    | apply kept_diesFollow | apply kept_dropOwed | apply kept_closeConns | apply kept_dropSession | apply kept_freshMirror
    | apply kept_encsFollow | apply kept_busesFollow | refine kept_foldl ?_ (fun _ _ _ => ?_)
    | (extract_lets +onlyGivenNames x; refine kept_cut (q := q) (x := x) ?_ (fun _ => ?_); unfold x; clear x; rotate_left; clear_value x)
    | (extract_lets +onlyGivenNames x; clear_value x) | extract_lets +onlyGivenNames _)

theorem kept_beginSync {q s} (h : Kept q s) : Kept q (State.beginSync s) := by
  unfold State.beginSync
  repeat' with_reducible (first
    | assumption | apply kept_modPar | apply kept_setB | apply kept_freshMirror | exact kept_mk (by assumption)
    | (extract_lets +onlyGivenNames x; refine kept_cut (q := q) (x := x) ?_ (fun _ => ?_); unfold x; clear x; rotate_left; clear_value x)
    | (extract_lets +onlyGivenNames x; clear_value x) | extract_lets +onlyGivenNames _ | split)

theorem kept_awaitBridge {q s a1} (h : Kept q s) : Kept q (State.awaitBridge s a1) := by
  unfold State.awaitBridge
  repeat' with_reducible (first
    | assumption | apply kept_modAx | exact kept_mk (by assumption)
    | (extract_lets +onlyGivenNames x; refine kept_cut (q := q) (x := x) ?_ (fun _ => ?_); unfold x; clear x; rotate_left; clear_value x)
    | (extract_lets +onlyGivenNames x; clear_value x) | extract_lets +onlyGivenNames _ | split)

theorem kept_takeAxis {q s a1 a2 a3 a4 a5 a6} (h : Kept q s) : Kept q (State.takeAxis s a1 a2 a3 a4 a5 a6) := by
  unfold State.takeAxis
  repeat' with_reducible (first
    | assumption | apply kept_sampleAxis | apply kept_haltAxis | apply kept_set | apply kept_modAx | apply kept_awaitBridge
    | apply kept_startMotion | exact kept_mk (by assumption) | refine kept_foldl ?_ (fun _ _ _ => ?_)
    | (extract_lets +onlyGivenNames x; refine kept_cut (q := q) (x := x) ?_ (fun _ => ?_); unfold x; clear x; rotate_left; clear_value x)
    | (extract_lets +onlyGivenNames x; clear_value x) | extract_lets +onlyGivenNames _ | split)

theorem kept_takeRetraction {q s a1} (h : Kept q s) : Kept q (State.takeRetraction s a1) := by
  unfold State.takeRetraction
  repeat' with_reducible (first
    | assumption | apply kept_modDw | apply kept_setWant | exact kept_mk (by assumption)
    | (extract_lets +onlyGivenNames x; refine kept_cut (q := q) (x := x) ?_ (fun _ => ?_); unfold x; clear x; rotate_left; clear_value x)
    | (extract_lets +onlyGivenNames x; clear_value x) | extract_lets +onlyGivenNames _ | split)

theorem kept_takeEngine {q s a1 a2 a3} (h : Kept q s) : Kept q (State.takeEngine s a1 a2 a3) := by
  unfold State.takeEngine
  repeat' with_reducible (first
    | assumption | apply kept_modDw | exact kept_mk (by assumption)
    | (extract_lets +onlyGivenNames x; refine kept_cut (q := q) (x := x) ?_ (fun _ => ?_); unfold x; clear x; rotate_left; clear_value x)
    | (extract_lets +onlyGivenNames x; clear_value x) | extract_lets +onlyGivenNames _ | split)

theorem kept_takeDoor {q s a1 a2 a3} (h : Kept q s) : Kept q (State.takeDoor s a1 a2 a3) := by
  unfold State.takeDoor
  repeat' with_reducible (first
    | assumption | apply kept_showDoor | apply kept_takeEngine | apply kept_takeAxis | apply kept_setWant | apply kept_modDw
    | apply kept_judgePorch | apply kept_takeRetraction | apply kept_setB | apply kept_learnAbort | exact kept_mk (by assumption)
    | (extract_lets +onlyGivenNames x; refine kept_cut (q := q) (x := x) ?_ (fun _ => ?_); unfold x; clear x; rotate_left; clear_value x)
    | (extract_lets +onlyGivenNames x; clear_value x) | extract_lets +onlyGivenNames _ | split)

theorem kept_takeDegr {q s a1 a2} (h : Kept q s) : Kept q (State.takeDegr s a1 a2) := by
  unfold State.takeDegr
  repeat' with_reducible (first
    | assumption | apply kept_set | apply kept_modScD | apply kept_degrExpire | apply kept_showDegr
    | exact kept_mk (by assumption)
    | (extract_lets +onlyGivenNames x; refine kept_cut (q := q) (x := x) ?_ (fun _ => ?_); unfold x; clear x; rotate_left; clear_value x)
    | (extract_lets +onlyGivenNames x; clear_value x) | extract_lets +onlyGivenNames _ | split)

theorem kept_takeDemands {q s a1} (h : Kept q s) : Kept q (State.takeDemands s a1) := by
  unfold State.takeDemands
  repeat' with_reducible (first
    | assumption | apply kept_setB | refine kept_foldl ?_ (fun _ _ _ => ?_) | split)

theorem kept_takeConn {q s a1 a2} (h : Kept q s) : Kept q (State.takeConn s a1 a2) := by
  unfold State.takeConn
  repeat' with_reducible (first
    | assumption | apply kept_setConn | apply kept_modConn | apply kept_startConn | exact kept_mk (by assumption)
    | (extract_lets +onlyGivenNames x; refine kept_cut (q := q) (x := x) ?_ (fun _ => ?_); unfold x; clear x; rotate_left; clear_value x)
    | (extract_lets +onlyGivenNames x; clear_value x) | extract_lets +onlyGivenNames _ | split)

theorem kept_takeBlind {q s a1} (h : Kept q s) : Kept q (State.takeBlind s a1) := by
  unfold State.takeBlind
  repeat' with_reducible (first
    | assumption | intro _ | apply kept_sampleAxis | apply kept_dropDoor | apply kept_awaitBridge | apply kept_modDw
    | apply kept_determine | apply kept_dropSection | apply kept_eachConn | apply kept_startConn | exact kept_mk (by assumption)
    | refine kept_foldl ?_ (fun _ _ _ => ?_)
    | (extract_lets +onlyGivenNames x; refine kept_cut (q := q) (x := x) ?_ (fun _ => ?_); unfold x; clear x; rotate_left; clear_value x)
    | (extract_lets +onlyGivenNames x; clear_value x) | extract_lets +onlyGivenNames _ | split)

theorem kept_becomeActive {q s a1} (h : Kept q s) : Kept q (State.becomeActive s a1) := by
  unfold State.becomeActive
  repeat' with_reducible (first
    | assumption | intro _ | apply kept_setRole | apply kept_modPar | apply kept_setB | apply kept_inc | apply kept_eachIdx
    | apply kept_takeDegr | apply kept_takeDoor | apply kept_takeDemands | apply kept_takeConn | apply kept_takeBlind
    | apply kept_encsFollow | apply kept_busesFollow | apply kept_outputsFollow | apply kept_diesFollow | apply kept_event
    | apply kept_warn | exact kept_mk (by assumption)
    | (extract_lets +onlyGivenNames x; refine kept_cut (q := q) (x := x) ?_ (fun _ => ?_); unfold x; clear x; rotate_left; clear_value x)
    | (extract_lets +onlyGivenNames x; clear_value x) | extract_lets +onlyGivenNames _ | split)

theorem kept_lostEarly {q s} (h : Kept q s) : Kept q (State.lostEarly s) := by
  unfold State.lostEarly
  repeat' with_reducible (first
    | assumption | apply kept_setRole | apply kept_set | split)

theorem kept_takeoverCheck {q s} (h : Kept q s) : Kept q (State.takeoverCheck s) := by
  unfold State.takeoverCheck
  repeat' with_reducible (first
    | assumption | apply kept_lostEarly | apply kept_becomeActive
    | (extract_lets +onlyGivenNames x; refine kept_cut (q := q) (x := x) ?_ (fun _ => ?_); unfold x; clear x; rotate_left; clear_value x)
    | (extract_lets +onlyGivenNames x; clear_value x) | extract_lets +onlyGivenNames _ | split)

theorem kept_partnerLost {q s} (h : Kept q s) : Kept q (State.partnerLost s) := by
  unfold State.partnerLost
  repeat' with_reducible (first
    | assumption | apply kept_inc | apply kept_setB | apply kept_modPar | apply kept_lostEarly | apply kept_brvFault
    | apply kept_takeoverCheck | exact kept_mk (by assumption)
    | (extract_lets +onlyGivenNames x; refine kept_cut (q := q) (x := x) ?_ (fun _ => ?_); unfold x; clear x; rotate_left; clear_value x)
    | (extract_lets +onlyGivenNames x; clear_value x) | extract_lets +onlyGivenNames _ | split)

theorem kept_partnerBack {q s} (h : Kept q s) : Kept q (State.partnerBack s) := by
  unfold State.partnerBack
  repeat' with_reducible (first
    | assumption | apply kept_brvEnd | apply kept_modPar | apply kept_setB | exact kept_mk (by assumption)
    | (extract_lets +onlyGivenNames x; refine kept_cut (q := q) (x := x) ?_ (fun _ => ?_); unfold x; clear x; rotate_left; clear_value x)
    | (extract_lets +onlyGivenNames x; clear_value x) | extract_lets +onlyGivenNames _)

theorem kept_ownLost {q s} (h : Kept q s) : Kept q (State.ownLost s) := by
  unfold State.ownLost
  repeat' with_reducible (first
    | assumption | apply kept_brvFault | apply kept_setB | apply kept_leaveActive | apply kept_set
    | (extract_lets +onlyGivenNames x; refine kept_cut (q := q) (x := x) ?_ (fun _ => ?_); unfold x; clear x; rotate_left; clear_value x)
    | (extract_lets +onlyGivenNames x; clear_value x) | extract_lets +onlyGivenNames _ | split)

theorem kept_evalSync {q s} (h : Kept q s) : Kept q (State.evalSync s) := by
  unfold State.evalSync
  repeat' with_reducible (first
    | assumption | apply kept_becomeActive | apply kept_modPar | apply kept_sendBruvan | apply kept_setB | apply kept_bumpFree
    | apply kept_set | exact kept_mk (by assumption)
    | (extract_lets +onlyGivenNames x; refine kept_cut (q := q) (x := x) ?_ (fun _ => ?_); unfold x; clear x; rotate_left; clear_value x)
    | (extract_lets +onlyGivenNames x; clear_value x) | extract_lets +onlyGivenNames _ | split)

theorem kept_syncDone {q s} (h : Kept q s) : Kept q (State.syncDone s) := by
  unfold State.syncDone
  repeat' with_reducible (first
    | assumption | apply kept_setRole | apply kept_setB | apply kept_set | split)

theorem kept_waitExpiredSync {q s} (h : Kept q s) : Kept q (State.waitExpiredSync s) := by
  unfold State.waitExpiredSync
  repeat' with_reducible (first
    | assumption | apply kept_becomeActive | split)

theorem kept_resync {q s} (h : Kept q s) : Kept q (State.resync s) := by
  unfold State.resync
  repeat' with_reducible (first
    | assumption | apply kept_beginSync | apply kept_setRole | split)

theorem kept_stateFrame {q s a1} (h : Kept q s) : Kept q (State.stateFrame s a1) := by
  unfold State.stateFrame
  repeat' with_reducible (first
    | assumption | apply kept_modPar | apply kept_setB | apply kept_evalSync | apply kept_showMirror
    | exact kept_mk (by assumption)
    | (extract_lets +onlyGivenNames x; refine kept_cut (q := q) (x := x) ?_ (fun _ => ?_); unfold x; clear x; rotate_left; clear_value x)
    | (extract_lets +onlyGivenNames x; clear_value x) | extract_lets +onlyGivenNames _ | split)

theorem kept_hashDiffers {q s} (h : Kept q s) : Kept q (State.hashDiffers s) := by
  unfold State.hashDiffers
  repeat' with_reducible (first
    | assumption | apply kept_setB | apply kept_brvFault | apply kept_setRole | apply kept_set | exact kept_mk (by assumption)
    | (extract_lets +onlyGivenNames x; refine kept_cut (q := q) (x := x) ?_ (fun _ => ?_); unfold x; clear x; rotate_left; clear_value x)
    | (extract_lets +onlyGivenNames x; clear_value x) | extract_lets +onlyGivenNames _ | split)

theorem kept_compareHash {q s a1 a2} (h : Kept q s) : Kept q (State.compareHash s a1 a2) := by
  unfold State.compareHash
  repeat' with_reducible (first
    | assumption | apply kept_modPar | apply kept_brvEnd | apply kept_setB | apply kept_hashDiffers
    | exact kept_mk (by assumption)
    | (extract_lets +onlyGivenNames x; refine kept_cut (q := q) (x := x) ?_ (fun _ => ?_); unfold x; clear x; rotate_left; clear_value x)
    | (extract_lets +onlyGivenNames x; clear_value x) | extract_lets +onlyGivenNames _ | split)

theorem kept_noteClash {q s} (h : Kept q s) : Kept q (State.noteClash s) := by
  unfold State.noteClash
  repeat' with_reducible (first
    | assumption | apply kept_powerRec | apply kept_raise | apply kept_setB | split)

theorem kept_followLead {q s} (h : Kept q s) : Kept q (State.followLead s) := by
  unfold State.followLead
  repeat' with_reducible (first
    | assumption | apply kept_modPar | exact kept_mk (by assumption)
    | (extract_lets +onlyGivenNames x; refine kept_cut (q := q) (x := x) ?_ (fun _ => ?_); unfold x; clear x; rotate_left; clear_value x)
    | (extract_lets +onlyGivenNames x; clear_value x) | extract_lets +onlyGivenNames _ | split)

theorem kept_healthFrame {q s a1} (h : Kept q s) : Kept q (State.healthFrame s a1) := by
  unfold State.healthFrame
  repeat' with_reducible (first
    | assumption | apply kept_setWord | apply kept_raiseIf | apply kept_set | apply kept_modPar | apply kept_noteClash
    | apply kept_evalSync | apply kept_followLead | apply kept_compareHash | exact kept_mk (by assumption)
    | refine kept_foldl ?_ (fun _ _ _ => ?_)
    | (extract_lets +onlyGivenNames x; refine kept_cut (q := q) (x := x) ?_ (fun _ => ?_); unfold x; clear x; rotate_left; clear_value x)
    | (extract_lets +onlyGivenNames x; clear_value x) | extract_lets +onlyGivenNames _ | split)

theorem kept_decideHandover {q s a1} (h : Kept q s) : Kept q (State.decideHandover s a1) := by
  unfold State.decideHandover
  repeat' with_reducible (first
    | assumption | apply kept_modPar | apply kept_bumpFree | apply kept_sendBruvan | apply kept_set
    | exact kept_mk (by assumption)
    | (extract_lets +onlyGivenNames x; refine kept_cut (q := q) (x := x) ?_ (fun _ => ?_); unfold x; clear x; rotate_left; clear_value x)
    | (extract_lets +onlyGivenNames x; clear_value x) | extract_lets +onlyGivenNames _ | split)

theorem kept_handoverRequest {q s} (h : Kept q s) : Kept q (State.handoverRequest s) := by
  unfold State.handoverRequest
  repeat' with_reducible (first
    | assumption | apply kept_decideHandover | apply kept_reject | split)

theorem kept_healthHandover {q s} (h : Kept q s) : Kept q (State.healthHandover s) := by
  unfold State.healthHandover
  repeat' with_reducible (first
    | assumption | apply kept_decideHandover | split)

theorem kept_handoverFrame {q s a1} (h : Kept q s) : Kept q (State.handoverFrame s a1) := by
  unfold State.handoverFrame
  repeat' with_reducible (first
    | assumption | apply kept_set | apply kept_modPar | apply kept_bumpFree | exact kept_mk (by assumption)
    | (extract_lets +onlyGivenNames x; refine kept_cut (q := q) (x := x) ?_ (fun _ => ?_); unfold x; clear x; rotate_left; clear_value x)
    | (extract_lets +onlyGivenNames x; clear_value x) | extract_lets +onlyGivenNames _ | split)

theorem kept_pauseDoor {q s a1} (h : Kept q s) : Kept q (State.pauseDoor s a1) := by
  unfold State.pauseDoor
  repeat' with_reducible (first
    | assumption | apply kept_modDw | apply kept_dropDoor | exact kept_mk (by assumption)
    | (extract_lets +onlyGivenNames x; refine kept_cut (q := q) (x := x) ?_ (fun _ => ?_); unfold x; clear x; rotate_left; clear_value x)
    | (extract_lets +onlyGivenNames x; clear_value x) | extract_lets +onlyGivenNames _)

theorem kept_handoverTime {q s} (h : Kept q s) : Kept q (State.handoverTime s) := by
  unfold State.handoverTime
  repeat' with_reducible (first
    | assumption | apply kept_gatesHigh | apply kept_pauseDoor | apply kept_modPar | apply kept_becomeActive
    | exact kept_mk (by assumption) | refine kept_foldl ?_ (fun _ _ _ => ?_)
    | (extract_lets +onlyGivenNames x; refine kept_cut (q := q) (x := x) ?_ (fun _ => ?_); unfold x; clear x; rotate_left; clear_value x)
    | (extract_lets +onlyGivenNames x; clear_value x) | extract_lets +onlyGivenNames _ | split)

theorem kept_overlapEnd {q s} (h : Kept q s) : Kept q (State.overlapEnd s) := by
  unfold State.overlapEnd
  repeat' with_reducible (first
    | assumption | apply kept_leaveActive | split)

theorem kept_pauseTick {q s} (h : Kept q s) : Kept q (State.pauseTick s) := by
  unfold State.pauseTick
  repeat' with_reducible (first
    | assumption | apply kept_showSaf | apply kept_modSc | exact kept_mk (by assumption)
    | (extract_lets +onlyGivenNames x; refine kept_cut (q := q) (x := x) ?_ (fun _ => ?_); unfold x; clear x; rotate_left; clear_value x)
    | (extract_lets +onlyGivenNames x; clear_value x) | extract_lets +onlyGivenNames _ | split)

theorem kept_healthCompute {q s} (h : Kept q s) : Kept q (State.healthCompute s) := by
  unfold State.healthCompute
  repeat' with_reducible (first
    | assumption | apply kept_raiseIf | apply kept_set | apply kept_setWord | apply kept_followLead | apply kept_decideHandover
    | apply kept_sendBruvan | exact kept_mk (by assumption)
    | (extract_lets +onlyGivenNames x; refine kept_cut (q := q) (x := x) ?_ (fun _ => ?_); unfold x; clear x; rotate_left; clear_value x)
    | (extract_lets +onlyGivenNames x; clear_value x) | extract_lets +onlyGivenNames _ | split)

theorem kept_bothActive {q s} (h : Kept q s) : Kept q (State.bothActive s) := by
  unfold State.bothActive
  repeat' with_reducible (first
    | assumption | apply kept_beginSync | apply kept_brvFault | apply kept_leaveActive | split)

theorem kept_startTest {q s} (h : Kept q s) : Kept q (State.startTest s) := by
  unfold State.startTest
  repeat' with_reducible (first
    | assumption | apply kept_setTask | apply kept_modPar | exact kept_mk (by assumption)
    | (extract_lets +onlyGivenNames x; refine kept_cut (q := q) (x := x) ?_ (fun _ => ?_); unfold x; clear x; rotate_left; clear_value x)
    | (extract_lets +onlyGivenNames x; clear_value x) | extract_lets +onlyGivenNames _)

theorem kept_testTick {q s} (h : Kept q s) : Kept q (State.testTick s) := by
  unfold State.testTick
  repeat' with_reducible (first
    | assumption | apply kept_modPar | apply kept_startTest | exact kept_mk (by assumption)
    | (extract_lets +onlyGivenNames x; refine kept_cut (q := q) (x := x) ?_ (fun _ => ?_); unfold x; clear x; rotate_left; clear_value x)
    | (extract_lets +onlyGivenNames x; clear_value x) | extract_lets +onlyGivenNames _ | split)

theorem kept_parTick {q s} (h : Kept q s) : Kept q (State.parTick s) := by
  unfold State.parTick
  repeat' with_reducible (first
    | assumption | apply kept_sendBruvan | apply kept_testTick | apply kept_takeoverCheck | apply kept_pauseTick
    | (extract_lets +onlyGivenNames x; refine kept_cut (q := q) (x := x) ?_ (fun _ => ?_); unfold x; clear x; rotate_left; clear_value x)
    | (extract_lets +onlyGivenNames x; clear_value x) | extract_lets +onlyGivenNames _ | split)

theorem kept_laneDown {q s a1 a2} (h : Kept q s) : Kept q (State.laneDown s a1 a2) := by
  unfold State.laneDown
  repeat' with_reducible (first
    | assumption | apply kept_brvFault | apply kept_raise | apply kept_set | refine kept_foldl ?_ (fun _ _ _ => ?_)
    | (extract_lets +onlyGivenNames x; refine kept_cut (q := q) (x := x) ?_ (fun _ => ?_); unfold x; clear x; rotate_left; clear_value x)
    | (extract_lets +onlyGivenNames x; clear_value x) | extract_lets +onlyGivenNames _ | split)

theorem kept_laneUp {q s a1 a2} (h : Kept q s) : Kept q (State.laneUp s a1 a2) := by
  unfold State.laneUp
  repeat' with_reducible (first
    | assumption | apply kept_raise | apply kept_set | apply kept_brvEnd | apply kept_setB | apply kept_sendBruvan
    | apply kept_modPar | exact kept_mk (by assumption) | refine kept_foldl ?_ (fun _ _ _ => ?_)
    | (extract_lets +onlyGivenNames x; refine kept_cut (q := q) (x := x) ?_ (fun _ => ?_); unfold x; clear x; rotate_left; clear_value x)
    | (extract_lets +onlyGivenNames x; clear_value x) | extract_lets +onlyGivenNames _ | split)

theorem kept_linkLost {q s} (h : Kept q s) : Kept q (State.linkLost s) := by
  unfold State.linkLost
  repeat' with_reducible (first
    | assumption | apply kept_setB | apply kept_raise | apply kept_brvFault
    | (extract_lets +onlyGivenNames x; refine kept_cut (q := q) (x := x) ?_ (fun _ => ?_); unfold x; clear x; rotate_left; clear_value x)
    | (extract_lets +onlyGivenNames x; clear_value x) | extract_lets +onlyGivenNames _ | split)

theorem kept_pwmUnlock {q s} (h : Kept q s) : Kept q (State.pwmUnlock s) := by
  unfold State.pwmUnlock
  repeat' with_reducible (first
    | assumption | apply kept_modPar | apply kept_setB | apply kept_brvFault | exact kept_mk (by assumption)
    | (extract_lets +onlyGivenNames x; refine kept_cut (q := q) (x := x) ?_ (fun _ => ?_); unfold x; clear x; rotate_left; clear_value x)
    | (extract_lets +onlyGivenNames x; clear_value x) | extract_lets +onlyGivenNames _ | split)

theorem kept_pwmComma {q s a1 a2} (h : Kept q s) : Kept q (State.pwmComma s a1 a2) := by
  unfold State.pwmComma
  repeat' with_reducible (first
    | assumption | apply kept_set | apply kept_modPar | apply kept_evalSync | apply kept_brvEnd | apply kept_setB
    | apply kept_pwmUnlock | exact kept_mk (by assumption)
    | (extract_lets +onlyGivenNames x; refine kept_cut (q := q) (x := x) ?_ (fun _ => ?_); unfold x; clear x; rotate_left; clear_value x)
    | (extract_lets +onlyGivenNames x; clear_value x) | extract_lets +onlyGivenNames _ | split)

theorem kept_ackFrame {q s a1} (h : Kept q s) : Kept q (State.ackFrame s a1) := by
  unfold State.ackFrame
  repeat' with_reducible (first
    | assumption | apply kept_modLdg | apply kept_modPar | exact kept_mk (by assumption) | refine kept_foldl ?_ (fun _ _ _ => ?_)
    | (extract_lets +onlyGivenNames x; refine kept_cut (q := q) (x := x) ?_ (fun _ => ?_); unfold x; clear x; rotate_left; clear_value x)
    | (extract_lets +onlyGivenNames x; clear_value x) | extract_lets +onlyGivenNames _ | split)

theorem kept_retransmit {q s} (h : Kept q s) : Kept q (State.retransmit s) := by
  unfold State.retransmit
  repeat' with_reducible (first
    | assumption | apply kept_emit | apply kept_inc | apply kept_modPar | exact kept_mk (by assumption)
    | (extract_lets +onlyGivenNames x; refine kept_cut (q := q) (x := x) ?_ (fun _ => ?_); unfold x; clear x; rotate_left; clear_value x)
    | (extract_lets +onlyGivenNames x; clear_value x) | extract_lets +onlyGivenNames _ | split)

theorem kept_sendAck {q s a1} (h : Kept q s) : Kept q (State.sendAck s a1) := by
  unfold State.sendAck
  repeat' with_reducible (first
    | assumption | apply kept_sendBruvan)

theorem kept_takeRecord {q s a1} (h : Kept q s) : Kept q (State.takeRecord s a1) := by
  unfold State.takeRecord
  repeat' with_reducible (first
    | assumption | apply kept_showJournal | apply kept_pushJournal | apply kept_warn | apply kept_inc
    | exact kept_mk (by assumption)
    | (extract_lets +onlyGivenNames x; refine kept_cut (q := q) (x := x) ?_ (fun _ => ?_); unfold x; clear x; rotate_left; clear_value x)
    | (extract_lets +onlyGivenNames x; clear_value x) | extract_lets +onlyGivenNames _ | split)

theorem kept_recordsFrame {q s a1} (h : Kept q s) : Kept q (State.recordsFrame s a1) := by
  unfold State.recordsFrame
  repeat' with_reducible (first
    | assumption | apply kept_takeRecord | apply kept_set | refine kept_foldl ?_ (fun _ _ _ => ?_)
    | (extract_lets +onlyGivenNames x; refine kept_cut (q := q) (x := x) ?_ (fun _ => ?_); unfold x; clear x; rotate_left; clear_value x)
    | (extract_lets +onlyGivenNames x; clear_value x) | extract_lets +onlyGivenNames _)

theorem kept_takeModel {q s a1} (h : Kept q s) : Kept q (State.takeModel s a1) := by
  unfold State.takeModel
  repeat' with_reducible (first
    | assumption | apply kept_resetAdapt | apply kept_loadWord | apply kept_set | apply kept_modDw | exact kept_mk (by assumption)
    | refine kept_foldl ?_ (fun _ _ _ => ?_)
    | (extract_lets +onlyGivenNames x; refine kept_cut (q := q) (x := x) ?_ (fun _ => ?_); unfold x; clear x; rotate_left; clear_value x)
    | (extract_lets +onlyGivenNames x; clear_value x) | extract_lets +onlyGivenNames _ | split)

theorem kept_vaultFrame {q s a1} (h : Kept q s) : Kept q (State.vaultFrame s a1) := by
  unfold State.vaultFrame
  extract_lets old new learned t u
  have ht : Kept q t := kept_switchBank h
  have hu : Kept q u := kept_ite ht (kept_returnStored ht)
  exact kept_judgeModels (kept_foldl hu fun _ _ hv => kept_takeModel hv)

theorem kept_putTable {q s a1 a2} (h : Kept q s) : Kept q (State.putTable s a1 a2) := by
  unfold State.putTable
  repeat' with_reducible (first
    | assumption | intro _ | apply kept_eachIdx | apply kept_setWord)

theorem kept_adaptFrame {q s a1 a2} (h : Kept q s) : Kept q (State.adaptFrame s a1 a2) := by
  unfold State.adaptFrame
  repeat' with_reducible (first
    | assumption | apply kept_putTable | apply kept_judgeModel | apply kept_set
    | (extract_lets +onlyGivenNames x; refine kept_cut (q := q) (x := x) ?_ (fun _ => ?_); unfold x; clear x; rotate_left; clear_value x)
    | (extract_lets +onlyGivenNames x; clear_value x) | extract_lets +onlyGivenNames _)

theorem kept_catchup {q s a1} (h : Kept q s) : Kept q (State.catchup s a1) := by
  unfold State.catchup
  repeat' with_reducible (first
    | assumption | apply kept_setB | apply kept_modPar | exact kept_mk (by assumption)
    | (extract_lets +onlyGivenNames x; refine kept_cut (q := q) (x := x) ?_ (fun _ => ?_); unfold x; clear x; rotate_left; clear_value x)
    | (extract_lets +onlyGivenNames x; clear_value x) | extract_lets +onlyGivenNames _ | split)

theorem kept_catchupStep {q s} (h : Kept q s) : Kept q (State.catchupStep s) := by
  unfold State.catchupStep
  repeat' with_reducible (first
    | assumption | apply kept_modPar | apply kept_sendBruvan | apply kept_setB | exact kept_mk (by assumption)
    | refine kept_foldl ?_ (fun _ _ _ => ?_)
    | (extract_lets +onlyGivenNames x; refine kept_cut (q := q) (x := x) ?_ (fun _ => ?_); unfold x; clear x; rotate_left; clear_value x)
    | (extract_lets +onlyGivenNames x; clear_value x) | extract_lets +onlyGivenNames _ | split)

theorem kept_stbyTest {q s} (h : Kept q s) : Kept q (State.stbyTest s) := by
  unfold State.stbyTest
  repeat' with_reducible (first
    | assumption | apply kept_reject | apply kept_startTest | split)

theorem kept_stbyTestDone {q s a1} (h : Kept q s) : Kept q (State.stbyTestDone s a1) := by
  unfold State.stbyTestDone
  repeat' with_reducible (first
    | assumption | apply kept_setTask | apply kept_modPar | apply kept_logFault | exact kept_mk (by assumption)
    | (extract_lets +onlyGivenNames x; refine kept_cut (q := q) (x := x) ?_ (fun _ => ?_); unfold x; clear x; rotate_left; clear_value x)
    | (extract_lets +onlyGivenNames x; clear_value x) | extract_lets +onlyGivenNames _ | split)

theorem kept_claimStrobe {q s} (h : Kept q s) : Kept q (State.claimStrobe s) := by
  unfold State.claimStrobe
  repeat' with_reducible (first
    | assumption | apply kept_set | split)

theorem kept_execScTick {q a1 s} (h : Kept q s) : Answers q (execScTick a1 s) := by
  unfold execScTick
  repeat' with_reducible (first
    | assumption | intro _ | apply answers_next | apply kept_whenRunning | apply kept_parTick | apply kept_stlTick
    | apply kept_scTick | apply kept_agePorts | exact kept_mk (by assumption)
    | (extract_lets +onlyGivenNames x; refine kept_cut (q := q) (x := x) ?_ (fun _ => ?_); unfold x; clear x; rotate_left; clear_value x)
    | (extract_lets +onlyGivenNames x; clear_value x) | extract_lets +onlyGivenNames _)

theorem kept_whenPair {q s f} (h : Kept q s) (hf : ∀ t, Kept q t → Kept q (f t)) : Kept q (whenPair s f) := by
  unfold whenPair
  refine kept_whenRunning h fun t ht => ?_
  split
  · exact hf t ht
  · exact ht

theorem kept_whenGood {q a1 s f} (h : Kept q s) (hf : ∀ t, Kept q t → Kept q (f t)) : Kept q (whenGood a1 s f) := by
  unfold whenGood
  refine kept_whenPair h fun t ht => ?_
  split
  · exact hf t ht
  · exact kept_inc ht

theorem kept_execBruvanState {q a1 s} (h : Kept q s) : Answers q (execBruvanState a1 s) := by
  unfold execBruvanState
  repeat' with_reducible (first
    | assumption | intro _ | apply answers_next | apply kept_whenGood | apply kept_stateFrame)

theorem kept_execBruvanHealth {q a1 s} (h : Kept q s) : Answers q (execBruvanHealth a1 s) := by
  unfold execBruvanHealth
  repeat' with_reducible (first
    | assumption | intro _ | apply answers_next | apply kept_whenGood | apply kept_healthFrame)

theorem kept_execHealthCompute {q s} (h : Kept q s) : Answers q (execHealthCompute s) := by
  unfold execHealthCompute
  repeat' with_reducible (first
    | assumption | intro _ | apply answers_next | apply kept_whenRunning | apply kept_healthCompute)

theorem kept_execBruvanHandover {q a1 a2 s} (h : Kept q s) : Answers q (execBruvanHandover a1 a2 s) := by
  unfold execBruvanHandover
  repeat' with_reducible (first
    | assumption | intro _ | apply answers_next | apply kept_whenGood | apply kept_handoverFrame)

theorem kept_execBruvanRecords {q a1 a2 s} (h : Kept q s) : Answers q (execBruvanRecords a1 a2 s) := by
  unfold execBruvanRecords
  repeat' with_reducible (first
    | assumption | intro _ | apply answers_next | apply kept_whenGood | apply kept_recordsFrame | apply kept_sendAck)

theorem kept_execBruvanVault {q a1 a2 s} (h : Kept q s) : Answers q (execBruvanVault a1 a2 s) := by
  unfold execBruvanVault
  repeat' with_reducible (first
    | assumption | intro _ | apply answers_next | apply kept_whenGood | apply kept_vaultFrame | apply kept_sendAck)

theorem kept_execBruvanAdapt {q a1 a2 a3 s} (h : Kept q s) : Answers q (execBruvanAdapt a1 a2 a3 s) := by
  unfold execBruvanAdapt
  repeat' with_reducible (first
    | assumption | intro _ | apply answers_next | apply kept_whenGood | apply kept_adaptFrame | apply kept_sendAck)

theorem kept_execCatchupReq {q a1 a2 s} (h : Kept q s) : Answers q (execCatchupReq a1 a2 s) := by
  unfold execCatchupReq
  repeat' with_reducible (first
    | assumption | intro _ | apply answers_next | apply kept_whenGood | apply kept_catchup | apply kept_sendAck)

theorem kept_execBruvanAck {q a1 s} (h : Kept q s) : Answers q (execBruvanAck a1 s) := by
  unfold execBruvanAck
  repeat' with_reducible (first
    | assumption | intro _ | apply answers_next | apply kept_whenGood | apply kept_ackFrame)

theorem kept_execLane1Retransmit {q s} (h : Kept q s) : Answers q (execLane1Retransmit s) := by
  unfold execLane1Retransmit
  repeat' with_reducible (first
    | assumption | intro _ | apply answers_next | apply kept_whenPair | apply kept_retransmit)

theorem kept_execLaneDown {q a1 a2 s} (h : Kept q s) : Answers q (execLaneDown a1 a2 s) := by
  unfold execLaneDown
  repeat' with_reducible (first
    | assumption | intro _ | apply answers_next | apply kept_whenPair | apply kept_laneDown)

theorem kept_execLaneUp {q a1 a2 s} (h : Kept q s) : Answers q (execLaneUp a1 a2 s) := by
  unfold execLaneUp
  repeat' with_reducible (first
    | assumption | intro _ | apply answers_next | apply kept_whenPair | apply kept_laneUp)

theorem kept_execLinkLost {q s} (h : Kept q s) : Answers q (execLinkLost s) := by
  unfold execLinkLost
  repeat' with_reducible (first
    | assumption | intro _ | apply answers_next | apply kept_whenPair | apply kept_linkLost)

theorem kept_execMirrorStale {q s} (h : Kept q s) : Answers q (execMirrorStale s) := by
  unfold execMirrorStale
  repeat' with_reducible (first
    | assumption | intro _ | apply answers_next | apply kept_whenPair | apply kept_setB | split)

theorem kept_execPwmComma {q a1 a2 s} (h : Kept q s) : Answers q (execPwmComma a1 a2 s) := by
  unfold execPwmComma
  repeat' with_reducible (first
    | assumption | intro _ | apply answers_next | apply kept_whenPair | apply kept_pwmComma)

theorem kept_execCommaTimeout {q s} (h : Kept q s) : Answers q (execCommaTimeout s) := by
  unfold execCommaTimeout
  repeat' with_reducible (first
    | assumption | intro _ | apply answers_next | apply kept_whenPair | apply kept_pwmUnlock | apply kept_modPar
    | exact kept_mk (by assumption)
    | (extract_lets +onlyGivenNames x; refine kept_cut (q := q) (x := x) ?_ (fun _ => ?_); unfold x; clear x; rotate_left; clear_value x)
    | (extract_lets +onlyGivenNames x; clear_value x) | extract_lets +onlyGivenNames _ | split)

theorem kept_execPartnerHeartbeatLoss {q s} (h : Kept q s) : Answers q (execPartnerHeartbeatLoss s) := by
  unfold execPartnerHeartbeatLoss
  repeat' with_reducible (first
    | assumption | intro _ | apply answers_next | apply kept_whenPair | apply kept_partnerLost)

theorem kept_execPartnerHeartbeatReturn {q s} (h : Kept q s) : Answers q (execPartnerHeartbeatReturn s) := by
  unfold execPartnerHeartbeatReturn
  repeat' with_reducible (first
    | assumption | intro _ | apply answers_next | apply kept_whenPair | apply kept_partnerBack)

theorem kept_execOwnHeartbeatLoss {q s} (h : Kept q s) : Answers q (execOwnHeartbeatLoss s) := by
  unfold execOwnHeartbeatLoss
  repeat' with_reducible (first
    | assumption | intro _ | apply answers_next | apply kept_whenRunning | apply kept_ownLost)

theorem kept_execHandoverRequest {q s} (h : Kept q s) : Answers q (execHandoverRequest s) := by
  unfold execHandoverRequest
  repeat' with_reducible (first
    | assumption | intro _ | apply answers_next | apply kept_whenRunning | apply kept_handoverRequest)

theorem kept_execHealthHandover {q s} (h : Kept q s) : Answers q (execHealthHandover s) := by
  unfold execHealthHandover
  repeat' with_reducible (first
    | assumption | intro _ | apply answers_next | apply kept_whenRunning | apply kept_healthHandover
    | exact kept_mk (by assumption)
    | (extract_lets +onlyGivenNames x; refine kept_cut (q := q) (x := x) ?_ (fun _ => ?_); unfold x; clear x; rotate_left; clear_value x)
    | (extract_lets +onlyGivenNames x; clear_value x) | extract_lets +onlyGivenNames _)

theorem kept_execHandoverTime {q s} (h : Kept q s) : Answers q (execHandoverTime s) := by
  unfold execHandoverTime
  repeat' with_reducible (first
    | assumption | intro _ | apply answers_next | apply kept_whenRunning | apply kept_handoverTime)

theorem kept_execOverlapEnd {q s} (h : Kept q s) : Answers q (execOverlapEnd s) := by
  unfold execOverlapEnd
  repeat' with_reducible (first
    | assumption | intro _ | apply answers_next | apply kept_whenRunning | apply kept_overlapEnd)

theorem kept_execTestPulseResume {q s} (h : Kept q s) : Answers q (execTestPulseResume s) := by
  unfold execTestPulseResume
  repeat' with_reducible (first
    | assumption | intro _ | apply answers_next | apply kept_whenRunning | apply kept_showSaf | apply kept_modSc
    | exact kept_mk (by assumption)
    | (extract_lets +onlyGivenNames x; refine kept_cut (q := q) (x := x) ?_ (fun _ => ?_); unfold x; clear x; rotate_left; clear_value x)
    | (extract_lets +onlyGivenNames x; clear_value x) | extract_lets +onlyGivenNames _)

theorem kept_execBothActive {q s} (h : Kept q s) : Answers q (execBothActive s) := by
  unfold execBothActive
  repeat' with_reducible (first
    | assumption | intro _ | apply answers_next | apply kept_whenRunning | apply kept_bothActive)

theorem kept_execPartnerWaitExpired {q s} (h : Kept q s) : Answers q (execPartnerWaitExpired s) := by
  unfold execPartnerWaitExpired
  repeat' with_reducible (first
    | assumption | intro _ | apply answers_next | apply kept_whenPair | apply kept_waitExpiredSync)

theorem kept_execSyncComplete {q s} (h : Kept q s) : Answers q (execSyncComplete s) := by
  unfold execSyncComplete
  repeat' with_reducible (first
    | assumption | intro _ | apply answers_next | apply kept_whenPair | apply kept_syncDone)

theorem kept_execHashMismatchTimeout {q s} (h : Kept q s) : Answers q (execHashMismatchTimeout s) := by
  unfold execHashMismatchTimeout
  repeat' with_reducible (first
    | assumption | intro _ | apply answers_next | apply kept_whenPair | apply kept_hashDiffers | split)

theorem kept_execResync {q s} (h : Kept q s) : Answers q (execResync s) := by
  unfold execResync
  repeat' with_reducible (first
    | assumption | intro _ | apply answers_next | apply kept_whenRunning | apply kept_resync)

theorem kept_execStbyTest {q s} (h : Kept q s) : Answers q (execStbyTest s) := by
  unfold execStbyTest
  repeat' with_reducible (first
    | assumption | intro _ | apply answers_next | apply kept_whenRunning | apply kept_stbyTest)

theorem kept_execStbyTestDone {q a1 s} (h : Kept q s) : Answers q (execStbyTestDone a1 s) := by
  unfold execStbyTestDone
  repeat' with_reducible (first
    | assumption | intro _ | apply answers_next | apply kept_whenRunning | apply kept_stbyTestDone)

theorem kept_execClaimStrobe {q s} (h : Kept q s) : Answers q (execClaimStrobe s) := by
  unfold execClaimStrobe
  repeat' with_reducible (first
    | assumption | intro _ | apply answers_next | apply kept_whenRunning | apply kept_claimStrobe)

theorem kept_execBrvClr {q s} (h : Kept q s) : Answers q (execBrvClr s) := by
  unfold execBrvClr
  repeat' with_reducible (first
    | assumption | intro _ | apply answers_next | apply kept_whenRunning | apply kept_brvClear)

end Sys2Proof.Machine
end

