-- ==== Sys2Proof/Laws/KeptWatchdog.lean ====
section
/-! SUPPORT. One lemma per operation of Machine/Watchdog.lean that answers a state: it leaves the queue alone and keeps the register
window canonical; per meaning: it completes, and so does its state. -/

namespace Sys2Proof.Machine

theorem kept_modHif {q s a1} (h : Kept q s) : Kept q (State.modHif s a1) := by
  unfold State.modHif
  repeat' with_reducible (first
    | assumption | exact kept_mk (by assumption)
    | (extract_lets +onlyGivenNames x; refine kept_cut (q := q) (x := x) ?_ (fun _ => ?_); unfold x; clear x; rotate_left; clear_value x)
    | (extract_lets +onlyGivenNames x; clear_value x) | extract_lets +onlyGivenNames _ | split)

theorem kept_wdEnter {q s a1} (h : Kept q s) : Kept q (State.wdEnter s a1) := by
  unfold State.wdEnter
  repeat' with_reducible (first
    | assumption | apply kept_modHif | apply kept_setB | apply kept_set | exact kept_mk (by assumption)
    | (extract_lets +onlyGivenNames x; refine kept_cut (q := q) (x := x) ?_ (fun _ => ?_); unfold x; clear x; rotate_left; clear_value x)
    | (extract_lets +onlyGivenNames x; clear_value x) | extract_lets +onlyGivenNames _)

theorem kept_wdBootWait {q s} (h : Kept q s) : Kept q (State.wdBootWait s) := by
  unfold State.wdBootWait
  repeat' with_reducible (first
    | assumption | apply kept_modHif | apply kept_wdEnter | exact kept_mk (by assumption)
    | (extract_lets +onlyGivenNames x; refine kept_cut (q := q) (x := x) ?_ (fun _ => ?_); unfold x; clear x; rotate_left; clear_value x)
    | (extract_lets +onlyGivenNames x; clear_value x) | extract_lets +onlyGivenNames _)

theorem kept_wdExpire {q s a1} (h : Kept q s) : Kept q (State.wdExpire s a1) := by
  unfold State.wdExpire
  repeat' with_reducible (first
    | assumption | apply kept_set | apply kept_wdEnter | apply kept_inc | apply kept_raise | apply kept_watchdogFailsafe
    | apply kept_hostLost | apply kept_dropSession | apply kept_decideHandover | refine kept_foldl ?_ (fun _ _ _ => ?_)
    | (extract_lets +onlyGivenNames x; refine kept_cut (q := q) (x := x) ?_ (fun _ => ?_); unfold x; clear x; rotate_left; clear_value x)
    | (extract_lets +onlyGivenNames x; clear_value x) | extract_lets +onlyGivenNames _ | split)

theorem kept_wdAccept {q s a1} (h : Kept q s) : Kept q (State.wdAccept s a1) := by
  unfold State.wdAccept
  repeat' with_reducible (first
    | assumption | apply kept_modHif | apply kept_setB | apply kept_set | exact kept_mk (by assumption)
    | (extract_lets +onlyGivenNames x; refine kept_cut (q := q) (x := x) ?_ (fun _ => ?_); unfold x; clear x; rotate_left; clear_value x)
    | (extract_lets +onlyGivenNames x; clear_value x) | extract_lets +onlyGivenNames _)

theorem kept_wdFirst {q s} (h : Kept q s) : Kept q (State.wdFirst s) := by
  unfold State.wdFirst
  repeat' with_reducible (first
    | assumption | apply kept_wdAccept | apply kept_setB | exact kept_mk (by assumption) | refine kept_foldl ?_ (fun _ _ _ => ?_)
    | (extract_lets +onlyGivenNames x; refine kept_cut (q := q) (x := x) ?_ (fun _ => ?_); unfold x; clear x; rotate_left; clear_value x)
    | (extract_lets +onlyGivenNames x; clear_value x) | extract_lets +onlyGivenNames _)

theorem kept_wdKey {q s a1} (h : Kept q s) : Kept q (State.wdKey s a1) := by
  unfold State.wdKey
  repeat' with_reducible (first
    | assumption | apply kept_wdExpire | apply kept_wdFirst | apply kept_wdAccept | exact kept_mk (by assumption)
    | (extract_lets +onlyGivenNames x; refine kept_cut (q := q) (x := x) ?_ (fun _ => ?_); unfold x; clear x; rotate_left; clear_value x)
    | (extract_lets +onlyGivenNames x; clear_value x) | extract_lets +onlyGivenNames _ | split)

theorem kept_wdRestart {q s} (h : Kept q s) : Kept q (State.wdRestart s) := by
  unfold State.wdRestart
  repeat' with_reducible (first
    | assumption | apply kept_wdBootWait | apply kept_wdExpire | split)

theorem kept_execWdKeyWrite {q a1 s} (h : Kept q s) : Answers q (execWdKeyWrite a1 s) := by
  unfold execWdKeyWrite
  repeat' with_reducible (first
    | assumption | apply answers_next | apply kept_wdKey | exact kept_mk (by assumption)
    | (extract_lets +onlyGivenNames x; refine kept_cut (q := q) (x := x) ?_ (fun _ => ?_); unfold x; clear x; rotate_left; clear_value x)
    | (extract_lets +onlyGivenNames x; clear_value x) | extract_lets +onlyGivenNames _ | split)

theorem kept_execWdBootExpired {q s} (h : Kept q s) : Answers q (execWdBootExpired s) := by
  unfold execWdBootExpired
  repeat' with_reducible (first
    | assumption | apply answers_next | apply kept_wdExpire | split)

theorem kept_execWdMaxExpired {q s} (h : Kept q s) : Answers q (execWdMaxExpired s) := by
  unfold execWdMaxExpired
  repeat' with_reducible (first
    | assumption | apply answers_next | apply kept_wdExpire | split)

theorem kept_execWdWarn {q s} (h : Kept q s) : Answers q (execWdWarn s) := by
  unfold execWdWarn
  repeat' with_reducible (first
    | assumption | apply answers_next | apply kept_modHif | apply kept_raise | exact kept_mk (by assumption)
    | (extract_lets +onlyGivenNames x; refine kept_cut (q := q) (x := x) ?_ (fun _ => ?_); unfold x; clear x; rotate_left; clear_value x)
    | (extract_lets +onlyGivenNames x; clear_value x) | extract_lets +onlyGivenNames _ | split)

theorem kept_execRearm {q s} (h : Kept q s) : Answers q (execRearm s) := by
  unfold execRearm
  repeat' with_reducible (first
    | assumption | apply answers_next | apply kept_wdBootWait | exact kept_mk (by assumption)
    | (extract_lets +onlyGivenNames x; refine kept_cut (q := q) (x := x) ?_ (fun _ => ?_); unfold x; clear x; rotate_left; clear_value x)
    | (extract_lets +onlyGivenNames x; clear_value x) | extract_lets +onlyGivenNames _ | split)

end Sys2Proof.Machine
end

