-- ==== Sys2Proof/Laws/KeptPages.lean ====
section
/-! SUPPORT. One lemma per operation of Machine/Pages.lean that answers a state: it leaves the queue alone and keeps the register
window canonical; per meaning: it completes, and so does its state. -/

namespace Sys2Proof.Machine

theorem kept_refuseEnable {q s a1} (h : Kept q s) : Kept q (State.refuseEnable s a1) := by
  unfold State.refuseEnable
  repeat' with_reducible (first
    | assumption | apply kept_reject)

theorem kept_setPage {q s a1 a2} (h : Kept q s) : Kept q (State.setPage s a1 a2) := by
  unfold State.setPage
  repeat' with_reducible (first
    | assumption | apply kept_setB)

theorem kept_enablePort {q s a1} (h : Kept q s) : Kept q (State.enablePort s a1) := by
  unfold State.enablePort
  repeat' with_reducible (first
    | assumption | apply kept_refuseEnable | apply kept_modFb | apply kept_setPage | apply kept_checkPairs | apply kept_set
    | exact kept_mk (by assumption)
    | (extract_lets +onlyGivenNames x; refine kept_cut (q := q) (x := x) ?_ (fun _ => ?_); unfold x; clear x; rotate_left; clear_value x)
    | (extract_lets +onlyGivenNames x; clear_value x) | extract_lets +onlyGivenNames _ | split)

theorem kept_enableAxis {q s a1} (h : Kept q s) : Kept q (State.enableAxis s a1) := by
  unfold State.enableAxis
  repeat' with_reducible (first
    | assumption | apply kept_setPage | apply kept_enablePort | apply kept_modAx | apply kept_showAngle | apply kept_axisFault
    | exact kept_mk (by assumption)
    | (extract_lets +onlyGivenNames x; refine kept_cut (q := q) (x := x) ?_ (fun _ => ?_); unfold x; clear x; rotate_left; clear_value x)
    | (extract_lets +onlyGivenNames x; clear_value x) | extract_lets +onlyGivenNames _ | split)

theorem kept_disableAxis {q s a1} (h : Kept q s) : Kept q (State.disableAxis s a1) := by
  unfold State.disableAxis
  repeat' with_reducible (first
    | assumption | apply kept_refuseEnable | apply kept_gatesOff | apply kept_setGateEn | apply kept_setPage | apply kept_setB
    | apply kept_clearAxis | apply kept_set
    | (extract_lets +onlyGivenNames x; refine kept_cut (q := q) (x := x) ?_ (fun _ => ?_); unfold x; clear x; rotate_left; clear_value x)
    | (extract_lets +onlyGivenNames x; clear_value x) | extract_lets +onlyGivenNames _ | split)

theorem kept_encPage {q s a1} (h : Kept q s) : Kept q (State.encPage s a1) := by
  unfold State.encPage
  repeat' with_reducible (first
    | assumption | apply kept_encLow | apply kept_setPage | exact kept_mk (by assumption) | refine kept_foldl ?_ (fun _ _ _ => ?_)
    | (extract_lets +onlyGivenNames x; refine kept_cut (q := q) (x := x) ?_ (fun _ => ?_); unfold x; clear x; rotate_left; clear_value x)
    | (extract_lets +onlyGivenNames x; clear_value x) | extract_lets +onlyGivenNames _ | split)

theorem kept_enableDoor {q s a1} (h : Kept q s) : Kept q (State.enableDoor s a1) := by
  unfold State.enableDoor
  repeat' with_reducible (first
    | assumption | apply kept_validateRecipe | apply kept_refuseEnable | apply kept_enableAxis | apply kept_setPage
    | refine kept_of_fst (kept_validateRecipe ?_) (by assumption) | exact kept_mk (by assumption)
    | (extract_lets +onlyGivenNames x; refine kept_cut (q := q) (x := x) ?_ (fun _ => ?_); unfold x; clear x; rotate_left; clear_value x)
    | (extract_lets +onlyGivenNames x; clear_value x) | extract_lets +onlyGivenNames _ | split)

theorem kept_clampSjw {q s a1 a2} (h : Kept q s) : Kept q (State.clampSjw s a1 a2) := by
  unfold State.clampSjw
  repeat' with_reducible (first
    | assumption | apply kept_set)

theorem kept_enableCan {q s a1} (h : Kept q s) : Kept q (State.enableCan s a1) := by
  unfold State.enableCan
  repeat' with_reducible (first
    | assumption | apply kept_refuseEnable | apply kept_clampSjw | apply kept_set | apply kept_setPage | apply kept_modCan
    | apply kept_showCan
    | (extract_lets +onlyGivenNames x; refine kept_cut (q := q) (x := x) ?_ (fun _ => ?_); unfold x; clear x; rotate_left; clear_value x)
    | (extract_lets +onlyGivenNames x; clear_value x) | extract_lets +onlyGivenNames _ | split)

theorem kept_disableCan {q s a1} (h : Kept q s) : Kept q (State.disableCan s a1) := by
  unfold State.disableCan
  repeat' with_reducible (first
    | assumption | apply kept_setPage | apply kept_cancelAll | apply kept_modCan | apply kept_set | apply kept_showCan
    | exact kept_mk (by assumption)
    | (extract_lets +onlyGivenNames x; refine kept_cut (q := q) (x := x) ?_ (fun _ => ?_); unfold x; clear x; rotate_left; clear_value x)
    | (extract_lets +onlyGivenNames x; clear_value x) | extract_lets +onlyGivenNames _ | split)

theorem kept_enableLink {q s a1} (h : Kept q s) : Kept q (State.enableLink s a1) := by
  unfold State.enableLink
  repeat' with_reducible (first
    | assumption | apply kept_showPower | apply kept_setPage | apply kept_refuseEnable | split)

theorem kept_useInv {q s} (h : Kept q s) : Kept q (State.useInv s) := by
  unfold State.useInv
  repeat' with_reducible (first
    | assumption | exact kept_mk (by assumption)
    | (extract_lets +onlyGivenNames x; refine kept_cut (q := q) (x := x) ?_ (fun _ => ?_); unfold x; clear x; rotate_left; clear_value x)
    | (extract_lets +onlyGivenNames x; clear_value x) | extract_lets +onlyGivenNames _ | split)

theorem kept_enableDin {q s} (h : Kept q s) : Kept q (State.enableDin s) := by
  unfold State.enableDin
  repeat' with_reducible (first
    | assumption | apply kept_showDi | apply kept_useInv | apply kept_setPage | refine kept_foldl ?_ (fun _ _ _ => ?_) | split)

theorem kept_showPorches {q s} (h : Kept q s) : Kept q (State.showPorches s) := by
  unfold State.showPorches
  repeat' with_reducible (first
    | assumption | apply kept_showPowers | apply kept_showPorch | refine kept_foldl ?_ (fun _ _ _ => ?_))

theorem kept_reportBadConn {q s a1} (h : Kept q s) : Kept q (State.reportBadConn s a1) := by
  unfold State.reportBadConn
  repeat' with_reducible (first
    | assumption | apply kept_refuseEnable | split)

theorem kept_enablePage {q s a1} (h : Kept q s) : Kept q (State.enablePage s a1) := by
  unfold State.enablePage
  split
  · exact h
  · split
    · exact h
    · split <;> with_reducible first
        | exact kept_enableDoor h | exact kept_enableAxis h | exact kept_enablePort h | exact kept_enableCan h
        | exact kept_enableLink h | exact kept_enableDin h | exact kept_reportBadConn (kept_setPage h)
        | exact kept_showPorches (kept_setPage h) | exact kept_showPorch (kept_setPage h)
        | exact kept_evalGroup (kept_setPage h) | exact kept_encPage h | exact kept_setPage h
        | (split; exact kept_refuseEnable h; exact kept_showMvb (kept_setB (kept_setPage h)))

theorem kept_disablePage {q s a1} (h : Kept q s) : Kept q (State.disablePage s a1) := by
  unfold State.disablePage
  repeat' with_reducible (first
    | assumption | apply kept_refuseEnable | apply kept_setPage | apply kept_disableAxis | apply kept_disableCan
    | apply kept_useInv | apply kept_showMvb | apply kept_closeConns | apply kept_showPorches | apply kept_showPorch
    | apply kept_showPower | apply kept_evalGroup | apply kept_encPage | exact kept_mk (by assumption)
    | (extract_lets +onlyGivenNames x; refine kept_cut (q := q) (x := x) ?_ (fun _ => ?_); unfold x; clear x; rotate_left; clear_value x)
    | (extract_lets +onlyGivenNames x; clear_value x) | extract_lets +onlyGivenNames _ | split)

theorem kept_bootPages {q s} (h : Kept q s) : Kept q (State.bootPages s) := by
  unfold State.bootPages
  repeat' with_reducible (first
    | assumption | apply kept_setPage | apply kept_setB | apply kept_enablePage | exact kept_mk (by assumption)
    | refine kept_foldl ?_ (fun _ _ _ => ?_)
    | (extract_lets +onlyGivenNames x; refine kept_cut (q := q) (x := x) ?_ (fun _ => ?_); unfold x; clear x; rotate_left; clear_value x)
    | (extract_lets +onlyGivenNames x; clear_value x) | extract_lets +onlyGivenNames _ | split)

theorem kept_execPageEnable {q a1 s} (h : Kept q s) : Answers q (execPageEnable a1 s) := by
  unfold execPageEnable
  repeat' with_reducible (first
    | assumption | apply answers_next | apply kept_enablePage | split)

theorem kept_execPageDisable {q a1 s} (h : Kept q s) : Answers q (execPageDisable a1 s) := by
  unfold execPageDisable
  repeat' with_reducible (first
    | assumption | apply answers_next | apply kept_disablePage | split)

end Sys2Proof.Machine
end

