-- ==== Sys2Proof/Laws/KeptBoot.lean ====
section
/-! SUPPORT. One lemma per operation of Machine/Boot.lean that answers a state: it leaves the queue alone and keeps the register
window canonical; per meaning: it completes, and so does its state. -/

namespace Sys2Proof.Machine

theorem kept_modBoot {q s a1} (h : Kept q s) : Kept q (State.modBoot s a1) := by
  unfold State.modBoot
  repeat' with_reducible (first
    | assumption | exact kept_mk (by assumption)
    | (extract_lets +onlyGivenNames x; refine kept_cut (q := q) (x := x) ?_ (fun _ => ?_); unfold x; clear x; rotate_left; clear_value x)
    | (extract_lets +onlyGivenNames x; clear_value x) | extract_lets +onlyGivenNames _)

theorem kept_modCel {q s a1} (h : Kept q s) : Kept q (State.modCel s a1) := by
  unfold State.modCel
  repeat' with_reducible (first
    | assumption | exact kept_mk (by assumption)
    | (extract_lets +onlyGivenNames x; refine kept_cut (q := q) (x := x) ?_ (fun _ => ?_); unfold x; clear x; rotate_left; clear_value x)
    | (extract_lets +onlyGivenNames x; clear_value x) | extract_lets +onlyGivenNames _ | split)

theorem kept_modSlot {q s a1 a2} (h : Kept q s) : Kept q (State.modSlot s a1 a2) := by
  unfold State.modSlot
  repeat' with_reducible (first
    | assumption | apply kept_modBoot | exact kept_mk (by assumption)
    | (extract_lets +onlyGivenNames x; refine kept_cut (q := q) (x := x) ?_ (fun _ => ?_); unfold x; clear x; rotate_left; clear_value x)
    | (extract_lets +onlyGivenNames x; clear_value x) | extract_lets +onlyGivenNames _ | split)

theorem cellsWf_filterMap {d : Nat → Word} {f : Nat × Word → Option (Nat × Word)} {m : Cells} (h : cellsWf d m = true)
    (hf : ∀ c x, f c = some x → x.1 = c.1 ∧ x.2 ≠ d c.1) : cellsWf d (m.filterMap f) = true := by
  induction m with
  | nil => rfl
  | cons c t ih =>
    obtain ⟨-, hk, ht⟩ := cellsWf_cons.1 h
    rcases hc : f c with _ | x
    · rw [List.filterMap_cons_none hc]
      exact ih ht
    · rw [List.filterMap_cons_some hc]
      obtain ⟨h1, h2⟩ := hf c x hc
      refine cellsWf_cons.2 ⟨by rw [h1]; exact h2, fun y hy => ?_, ih ht⟩
      obtain ⟨z, hz, hzy⟩ := List.mem_filterMap.1 hy
      rw [h1, (hf z y hzy).1]
      exact hk z hz

theorem cellsWf_keptRegs {s : State} {mask : Nat → Word} (h : cellsWf regReset s.regs = true) :
    cellsWf regReset (s.keptRegs mask) = true := by
  refine cellsWf_filterMap h fun c x hx => ?_
  dsimp only at hx
  split at hx
  · exact absurd hx (by simp)
  · rename_i hv
    obtain rfl := Option.some.inj hx
    exact ⟨rfl, hv⟩

theorem kept_clearCore {q s a1} (h : Kept q s) : Kept q (State.clearCore s a1) := by
  unfold State.clearCore
  extract_lets r pe s1
  have h1 : Kept q s1 := kept_modSlot h
  exact ⟨h1.queue, (h1.sent.trans (List.prefix_append _ _)).trans (List.prefix_append _ _), cellsWf_keptRegs h1.regs⟩

theorem kept_setCause {q s a1} (h : Kept q s) : Kept q (State.setCause s a1) := by
  unfold State.setCause
  repeat' with_reducible (first
    | assumption | apply kept_set)

theorem kept_cutLearns {q s s2 a1} (h : Kept q s) : Kept q (State.cutLearns s s2 a1) := by
  unfold State.cutLearns
  split
  · exact h
  · refine kept_foldl h fun t x ht => ?_
    split
    · exact kept_set ht
    · exact ht

theorem kept_coreReset {q s a1} (h : Kept q s) : Kept q (State.coreReset s a1) :=
  kept_setCause (kept_cutLearns (kept_clearCore h))

theorem kept_showSlots {q s} (h : Kept q s) : Kept q (State.showSlots s) := by
  unfold State.showSlots
  repeat' with_reducible (first
    | assumption | apply kept_set
    | (extract_lets +onlyGivenNames x; refine kept_cut (q := q) (x := x) ?_ (fun _ => ?_); unfold x; clear x; rotate_left; clear_value x)
    | (extract_lets +onlyGivenNames x; clear_value x) | extract_lets +onlyGivenNames _)

theorem kept_selectImage {q s} (h : Kept q s) : Kept q (State.selectImage s) := by
  unfold State.selectImage
  repeat' with_reducible (first
    | assumption | apply kept_modBoot | apply kept_setCause | apply kept_showSlots | apply kept_setB | apply kept_set
    | exact kept_mk (by assumption)
    | (extract_lets +onlyGivenNames x; refine kept_cut (q := q) (x := x) ?_ (fun _ => ?_); unfold x; clear x; rotate_left; clear_value x)
    | (extract_lets +onlyGivenNames x; clear_value x) | extract_lets +onlyGivenNames _ | split)

theorem kept_bootDies {q s} (h : Kept q s) : Kept q (State.bootDies s) := by
  unfold State.bootDies
  repeat' with_reducible (first
    | assumption | apply kept_evalAll | apply kept_dieFailsafe | exact kept_mk (by assumption)
    | refine kept_foldl ?_ (fun _ _ _ => ?_)
    | (extract_lets +onlyGivenNames x; refine kept_cut (q := q) (x := x) ?_ (fun _ => ?_); unfold x; clear x; rotate_left; clear_value x)
    | (extract_lets +onlyGivenNames x; clear_value x) | extract_lets +onlyGivenNames _ | split)

theorem kept_startBoot {q s} (h : Kept q s) : Kept q (State.startBoot s) := by
  unfold State.startBoot
  repeat' with_reducible (first
    | assumption | apply kept_modBoot | apply kept_setCause | apply kept_setB | apply kept_set | apply kept_selectImage
    | apply kept_bootDies | apply kept_restore | apply kept_reconciled | apply kept_loadVault | apply kept_nextAfterLoss
    | apply kept_logFault | apply kept_inc | exact kept_mk (by assumption)
    | (extract_lets +onlyGivenNames x; refine kept_cut (q := q) (x := x) ?_ (fun _ => ?_); unfold x; clear x; rotate_left; clear_value x)
    | (extract_lets +onlyGivenNames x; clear_value x) | extract_lets +onlyGivenNames _ | split)

theorem kept_linksUp {q s} (h : Kept q s) : Kept q (State.linksUp s) := by
  unfold State.linksUp
  repeat' with_reducible (first
    | assumption | apply kept_modDie | apply kept_axisFault | exact kept_mk (by assumption)
    | refine kept_foldl ?_ (fun _ _ _ => ?_)
    | (extract_lets +onlyGivenNames x; refine kept_cut (q := q) (x := x) ?_ (fun _ => ?_); unfold x; clear x; rotate_left; clear_value x)
    | (extract_lets +onlyGivenNames x; clear_value x) | extract_lets +onlyGivenNames _ | split)

theorem kept_setDoorways {q s} (h : Kept q s) : Kept q (State.setDoorways s) := by
  unfold State.setDoorways
  repeat' with_reducible (first
    | assumption | apply kept_determine | apply kept_sampleAxis | apply kept_doorEv | refine kept_foldl ?_ (fun _ _ _ => ?_)
    | (extract_lets +onlyGivenNames x; refine kept_cut (q := q) (x := x) ?_ (fun _ => ?_); unfold x; clear x; rotate_left; clear_value x)
    | (extract_lets +onlyGivenNames x; clear_value x) | extract_lets +onlyGivenNames _)

theorem kept_setRoles {q s} (h : Kept q s) : Kept q (State.setRoles s) := by
  unfold State.setRoles
  repeat' with_reducible (first
    | assumption | intro _ | apply kept_busesFollow | apply kept_diesFollow | apply kept_showAlive | apply kept_beginSync
    | apply kept_setRole | apply kept_eachConn | apply kept_startConn
    | (extract_lets +onlyGivenNames x; refine kept_cut (q := q) (x := x) ?_ (fun _ => ?_); unfold x; clear x; rotate_left; clear_value x)
    | (extract_lets +onlyGivenNames x; clear_value x) | extract_lets +onlyGivenNames _ | split)

theorem kept_bootRecords {q s} (h : Kept q s) : Kept q (State.bootRecords s) := by
  unfold State.bootRecords
  repeat' with_reducible (first
    | assumption | apply kept_inc | apply kept_powerRec | apply kept_raise | apply kept_raiseIf | apply kept_summarise
    | apply kept_startCheck | apply kept_modLdg | apply kept_modCel | exact kept_mk (by assumption)
    | (extract_lets +onlyGivenNames x; refine kept_cut (q := q) (x := x) ?_ (fun _ => ?_); unfold x; clear x; rotate_left; clear_value x)
    | (extract_lets +onlyGivenNames x; clear_value x) | extract_lets +onlyGivenNames _ | split)

theorem kept_bootReady {q s} (h : Kept q s) : Kept q (State.bootReady s) := by
  unfold State.bootReady
  repeat' with_reducible (first
    | assumption | apply kept_startBoot | apply kept_set | apply kept_setB | apply kept_modBoot | apply kept_bootPages
    | apply kept_modOe | apply kept_loadOn | apply kept_setDoorways | apply kept_decideRate | apply kept_encsFollow
    | apply kept_setRoles | apply kept_linksUp | apply kept_bootRecords | apply kept_wdRestart | apply kept_emit
    | exact kept_mk (by assumption)
    | (extract_lets +onlyGivenNames x; refine kept_cut (q := q) (x := x) ?_ (fun _ => ?_); unfold x; clear x; rotate_left; clear_value x)
    | (extract_lets +onlyGivenNames x; clear_value x) | extract_lets +onlyGivenNames _ | split)

theorem kept_resetLow {q s} (h : Kept q s) : Kept q (State.resetLow s) := by
  unfold State.resetLow
  repeat' with_reducible (first
    | assumption | apply kept_modBoot | apply kept_coreReset | exact kept_mk (by assumption)
    | (extract_lets +onlyGivenNames x; refine kept_cut (q := q) (x := x) ?_ (fun _ => ?_); unfold x; clear x; rotate_left; clear_value x)
    | (extract_lets +onlyGivenNames x; clear_value x) | extract_lets +onlyGivenNames _ | split)

theorem kept_resetHigh {q s a1 a2} (h : Kept q s) : Kept q (State.resetHigh s a1 a2) := by
  unfold State.resetHigh
  repeat' with_reducible (first
    | assumption | apply kept_modBoot | apply kept_startBoot | exact kept_mk (by assumption)
    | (extract_lets +onlyGivenNames x; refine kept_cut (q := q) (x := x) ?_ (fun _ => ?_); unfold x; clear x; rotate_left; clear_value x)
    | (extract_lets +onlyGivenNames x; clear_value x) | extract_lets +onlyGivenNames _ | split)

theorem kept_sysReject {q s a1} (h : Kept q s) : Kept q (State.sysReject s a1) := by
  unfold State.sysReject
  repeat' with_reducible (first
    | assumption | apply kept_reject)

theorem kept_softReset {q s} (h : Kept q s) : Kept q (State.softReset s) := by
  unfold State.softReset
  repeat' with_reducible (first
    | assumption | apply kept_modBoot | apply kept_startBoot | apply kept_coreReset | apply kept_sysReject
    | exact kept_mk (by assumption)
    | (extract_lets +onlyGivenNames x; refine kept_cut (q := q) (x := x) ?_ (fun _ => ?_); unfold x; clear x; rotate_left; clear_value x)
    | (extract_lets +onlyGivenNames x; clear_value x) | extract_lets +onlyGivenNames _ | split)

theorem kept_halt {q s} (h : Kept q s) : Kept q (State.halt s) := by
  unfold State.halt
  repeat' with_reducible (first
    | assumption | apply kept_showAlive | apply kept_gatesHigh | apply kept_set | exact kept_mk (by assumption)
    | (extract_lets +onlyGivenNames x; refine kept_cut (q := q) (x := x) ?_ (fun _ => ?_); unfold x; clear x; rotate_left; clear_value x)
    | (extract_lets +onlyGivenNames x; clear_value x) | extract_lets +onlyGivenNames _)

theorem kept_safetyReset {q s} (h : Kept q s) : Kept q (State.safetyReset s) := by
  unfold State.safetyReset
  repeat' with_reducible (first
    | assumption | apply kept_halt | apply kept_startBoot | apply kept_coreReset | split)

theorem kept_fwReject {q s} (h : Kept q s) : Kept q (State.fwReject s) := by
  unfold State.fwReject
  repeat' with_reducible (first
    | assumption | apply kept_sysReject)

theorem kept_startCmd {q s a1} (h : Kept q s) : Kept q (State.startCmd s a1) := by
  unfold State.startCmd
  repeat' with_reducible (first
    | assumption | apply kept_fwReject | apply kept_set | apply kept_setB | apply kept_modBoot | exact kept_mk (by assumption)
    | (extract_lets +onlyGivenNames x; refine kept_cut (q := q) (x := x) ?_ (fun _ => ?_); unfold x; clear x; rotate_left; clear_value x)
    | (extract_lets +onlyGivenNames x; clear_value x) | extract_lets +onlyGivenNames _ | split)

theorem kept_fwWord {q s a1} (h : Kept q s) : Kept q (State.fwWord s a1) := by
  unfold State.fwWord
  repeat' with_reducible (first
    | assumption | apply kept_modSlot | apply kept_set | exact kept_mk (by assumption)
    | (extract_lets +onlyGivenNames x; refine kept_cut (q := q) (x := x) ?_ (fun _ => ?_); unfold x; clear x; rotate_left; clear_value x)
    | (extract_lets +onlyGivenNames x; clear_value x) | extract_lets +onlyGivenNames _ | split)

theorem kept_fwDone {q s} (h : Kept q s) : Kept q (State.fwDone s) := by
  unfold State.fwDone
  repeat' with_reducible (first
    | assumption | apply kept_setB | apply kept_modBoot | apply kept_showSlots | apply kept_modSlot | apply kept_set
    | exact kept_mk (by assumption)
    | (extract_lets +onlyGivenNames x; refine kept_cut (q := q) (x := x) ?_ (fun _ => ?_); unfold x; clear x; rotate_left; clear_value x)
    | (extract_lets +onlyGivenNames x; clear_value x) | extract_lets +onlyGivenNames _ | split)

theorem kept_fwActivate {q s} (h : Kept q s) : Kept q (State.fwActivate s) := by
  unfold State.fwActivate
  repeat' with_reducible (first
    | assumption | apply kept_fwReject | apply kept_set | apply kept_startBoot | apply kept_coreReset | apply kept_modSlot
    | exact kept_mk (by assumption)
    | (extract_lets +onlyGivenNames x; refine kept_cut (q := q) (x := x) ?_ (fun _ => ?_); unfold x; clear x; rotate_left; clear_value x)
    | (extract_lets +onlyGivenNames x; clear_value x) | extract_lets +onlyGivenNames _ | split)

theorem kept_fwConfirm {q s} (h : Kept q s) : Kept q (State.fwConfirm s) := by
  unfold State.fwConfirm
  repeat' with_reducible (first
    | assumption | apply kept_fwReject | apply kept_modSlot | apply kept_modBoot | apply kept_set | apply kept_setB
    | exact kept_mk (by assumption)
    | (extract_lets +onlyGivenNames x; refine kept_cut (q := q) (x := x) ?_ (fun _ => ?_); unfold x; clear x; rotate_left; clear_value x)
    | (extract_lets +onlyGivenNames x; clear_value x) | extract_lets +onlyGivenNames _ | split)

theorem kept_trialOver {q s} (h : Kept q s) : Kept q (State.trialOver s) := by
  unfold State.trialOver
  repeat' with_reducible (first
    | assumption | apply kept_raise | apply kept_set | split)

theorem kept_dieBeat {q s a1 a2} (h : Kept q s) : Kept q (State.dieBeat s a1 a2) := by
  unfold State.dieBeat
  repeat' with_reducible (first
    | assumption | apply kept_emit | apply kept_evalGroup | apply kept_modDie | apply kept_modBoot | apply kept_setB
    | exact kept_mk (by assumption) | refine kept_foldl ?_ (fun _ _ _ => ?_)
    | (extract_lets +onlyGivenNames x; refine kept_cut (q := q) (x := x) ?_ (fun _ => ?_); unfold x; clear x; rotate_left; clear_value x)
    | (extract_lets +onlyGivenNames x; clear_value x) | extract_lets +onlyGivenNames _ | split)

theorem kept_switchDieLost {q s a1} (h : Kept q s) : Kept q (State.switchDieLost s a1) := by
  unfold State.switchDieLost
  repeat' with_reducible (first
    | assumption | apply kept_dieFailsafe | apply kept_loopEval | apply kept_tracTick | exact kept_mk (by assumption)
    | (extract_lets +onlyGivenNames x; refine kept_cut (q := q) (x := x) ?_ (fun _ => ?_); unfold x; clear x; rotate_left; clear_value x)
    | (extract_lets +onlyGivenNames x; clear_value x) | extract_lets +onlyGivenNames _ | split)

theorem kept_gateDieLost {q s a1} (h : Kept q s) : Kept q (State.gateDieLost s a1) := by
  unfold State.gateDieLost
  repeat' with_reducible (first
    | assumption | apply kept_modBoot | apply kept_setGateEn | apply kept_axisFault | exact kept_mk (by assumption)
    | refine kept_foldl ?_ (fun _ _ _ => ?_)
    | (extract_lets +onlyGivenNames x; refine kept_cut (q := q) (x := x) ?_ (fun _ => ?_); unfold x; clear x; rotate_left; clear_value x)
    | (extract_lets +onlyGivenNames x; clear_value x) | extract_lets +onlyGivenNames _ | split)

theorem kept_linkTimeout {q s a1} (h : Kept q s) : Kept q (State.linkTimeout s a1) := by
  unfold State.linkTimeout
  repeat' with_reducible (first
    | assumption | apply kept_set | apply kept_modBoot | apply kept_logFault | exact kept_mk (by assumption)
    | (extract_lets +onlyGivenNames x; refine kept_cut (q := q) (x := x) ?_ (fun _ => ?_); unfold x; clear x; rotate_left; clear_value x)
    | (extract_lets +onlyGivenNames x; clear_value x) | extract_lets +onlyGivenNames _ | split)

theorem kept_vbatReversed {q s a1} (h : Kept q s) : Kept q (State.vbatReversed s a1) := by
  unfold State.vbatReversed
  repeat' with_reducible (first
    | assumption | apply kept_raise | apply kept_set | apply kept_setB | apply kept_switchOff | apply kept_powerRec
    | refine kept_foldl ?_ (fun _ _ _ => ?_)
    | (extract_lets +onlyGivenNames x; refine kept_cut (q := q) (x := x) ?_ (fun _ => ?_); unfold x; clear x; rotate_left; clear_value x)
    | (extract_lets +onlyGivenNames x; clear_value x) | extract_lets +onlyGivenNames _ | split)

theorem kept_dropElement {q s a1 a2 a3} (h : Kept q s) : Kept q (State.dropElement s a1 a2 a3) := by
  unfold State.dropElement
  repeat' with_reducible (first
    | assumption | apply kept_endTx | apply kept_setB | exact kept_mk (by assumption) | refine kept_foldl ?_ (fun _ _ _ => ?_)
    | (extract_lets +onlyGivenNames x; refine kept_cut (q := q) (x := x) ?_ (fun _ => ?_); unfold x; clear x; rotate_left; clear_value x)
    | (extract_lets +onlyGivenNames x; clear_value x) | extract_lets +onlyGivenNames _ | split)

theorem kept_eccCorrected {q s a1} (h : Kept q s) : Kept q (State.eccCorrected s a1) := by
  unfold State.eccCorrected
  cases a1 with
  | fabric x => cases x <;> exact kept_raise (kept_inc h)
  | nand b p w =>
    dsimp only
    split
    · exact kept_markWorn (kept_raise (kept_inc h))
    · exact kept_raise (kept_inc h)
  | _ => exact kept_raise (kept_inc h)

theorem kept_eccRecord {q s a1 a2 a3} (h : Kept q s) : Kept q (State.eccRecord s a1 a2 a3) := by
  unfold State.eccRecord
  repeat' with_reducible (first
    | assumption | apply kept_logFault)

theorem kept_eccFatal {q s a1 a2} (h : Kept q s) : Kept q (State.eccFatal s a1 a2) := by
  unfold State.eccFatal
  repeat' with_reducible (first
    | assumption | apply kept_eccRecord | apply kept_accessErr | apply kept_raise | apply kept_dwFault | apply kept_modBoot
    | apply kept_showAlive | apply kept_oeDown | apply kept_memoryTest | apply kept_vaultEcc | apply kept_logLost
    | apply kept_ldgFault | apply kept_dropSlot | apply kept_showFill | apply kept_markLost | apply kept_markBad
    | apply kept_indexLost | apply kept_skipRecord | apply kept_canFault | apply kept_dropElement | exact kept_mk (by assumption)
    | (extract_lets +onlyGivenNames x; refine kept_cut (q := q) (x := x) ?_ (fun _ => ?_); unfold x; clear x; rotate_left; clear_value x)
    | (extract_lets +onlyGivenNames x; clear_value x) | extract_lets +onlyGivenNames _ | split)

theorem kept_restarted {q s a1} (h : Kept q s) : Kept q (State.restarted s a1) := by
  unfold State.restarted
  repeat' with_reducible (first
    | assumption | apply kept_modBoot | apply kept_showAlive | exact kept_mk (by assumption)
    | (extract_lets +onlyGivenNames x; refine kept_cut (q := q) (x := x) ?_ (fun _ => ?_); unfold x; clear x; rotate_left; clear_value x)
    | (extract_lets +onlyGivenNames x; clear_value x) | extract_lets +onlyGivenNames _ | split)

theorem kept_execResetNAssert {q s} (h : Kept q s) : Answers q (execResetNAssert s) := by
  unfold execResetNAssert
  repeat' with_reducible (first
    | assumption | apply answers_next | apply kept_resetLow)

theorem kept_execResetNRelease {q a1 a2 s} (h : Kept q s) : Answers q (execResetNRelease a1 a2 s) := by
  unfold execResetNRelease
  repeat' with_reducible (first
    | assumption | apply answers_next | apply kept_resetHigh)

theorem kept_execBootReady {q s} (h : Kept q s) : Answers q (execBootReady s) := by
  unfold execBootReady
  repeat' with_reducible (first
    | assumption | apply answers_next | apply kept_bootReady)

theorem kept_execDieLinkTimeout {q a1 s} (h : Kept q s) : Answers q (execDieLinkTimeout a1 s) := by
  unfold execDieLinkTimeout
  repeat' with_reducible (first
    | assumption | apply answers_next | apply kept_linkTimeout)

theorem kept_execSrstKeyWrite {q a1 s} (h : Kept q s) : Answers q (execSrstKeyWrite a1 s) := by
  unfold execSrstKeyWrite
  repeat' with_reducible (first
    | assumption | apply answers_next | apply kept_modBoot | exact kept_mk (by assumption)
    | (extract_lets +onlyGivenNames x; refine kept_cut (q := q) (x := x) ?_ (fun _ => ?_); unfold x; clear x; rotate_left; clear_value x)
    | (extract_lets +onlyGivenNames x; clear_value x) | extract_lets +onlyGivenNames _ | split)

theorem kept_execSreset {q s} (h : Kept q s) : Answers q (execSreset s) := by
  unfold execSreset
  repeat' with_reducible (first
    | assumption | apply answers_next | apply kept_softReset | split)

theorem kept_execSafetyReset {q s} (h : Kept q s) : Answers q (execSafetyReset s) := by
  unfold execSafetyReset
  repeat' with_reducible (first
    | assumption | apply answers_next | apply kept_safetyReset)

theorem kept_execErase {q s} (h : Kept q s) : Answers q (execErase s) := by
  unfold execErase
  repeat' with_reducible (first
    | assumption | apply answers_next | apply kept_startCmd | split)

theorem kept_execVerify {q s} (h : Kept q s) : Answers q (execVerify s) := by
  unfold execVerify
  repeat' with_reducible (first
    | assumption | apply answers_next | apply kept_startCmd | split)

theorem kept_execFwWinWrite {q a1 s} (h : Kept q s) : Answers q (execFwWinWrite a1 s) := by
  unfold execFwWinWrite
  repeat' with_reducible (first
    | assumption | apply answers_next | apply kept_fwWord | split)

theorem kept_execActivate {q s} (h : Kept q s) : Answers q (execActivate s) := by
  unfold execActivate
  repeat' with_reducible (first
    | assumption | apply answers_next | apply kept_fwActivate | split)

theorem kept_execConfirm {q s} (h : Kept q s) : Answers q (execConfirm s) := by
  unfold execConfirm
  repeat' with_reducible (first
    | assumption | apply answers_next | apply kept_fwConfirm | split)

theorem kept_execFwCommandDone {q s} (h : Kept q s) : Answers q (execFwCommandDone s) := by
  unfold execFwCommandDone
  repeat' with_reducible (first
    | assumption | apply answers_next | apply kept_fwDone)

theorem kept_execTrialTimeout {q s} (h : Kept q s) : Answers q (execTrialTimeout s) := by
  unfold execTrialTimeout
  repeat' with_reducible (first
    | assumption | apply answers_next | apply kept_trialOver)

theorem kept_execVbatReversed {q a1 s} (h : Kept q s) : Answers q (execVbatReversed a1 s) := by
  unfold execVbatReversed
  repeat' with_reducible (first
    | assumption | apply answers_next | apply kept_vbatReversed)

theorem kept_execSwitchDieHeartbeatLoss {q a1 s} (h : Kept q s) : Answers q (execSwitchDieHeartbeatLoss a1 s) := by
  unfold execSwitchDieHeartbeatLoss
  repeat' with_reducible (first
    | assumption | apply answers_next | apply kept_switchDieLost)

theorem kept_execGateDieHeartbeatLoss {q a1 s} (h : Kept q s) : Answers q (execGateDieHeartbeatLoss a1 s) := by
  unfold execGateDieHeartbeatLoss
  repeat' with_reducible (first
    | assumption | apply answers_next | apply kept_gateDieLost)

theorem kept_execDieHeartbeat {q a1 a2 s} (h : Kept q s) : Answers q (execDieHeartbeat a1 a2 s) := by
  unfold execDieHeartbeat
  repeat' with_reducible (first
    | assumption | apply answers_next | apply kept_dieBeat)

theorem kept_execEccError {q a1 a2 a3 s} (h : Kept q s) : Answers q (execEccError a1 a2 a3 s) := by
  unfold execEccError
  repeat' with_reducible (first
    | assumption | apply answers_next | apply kept_eccCorrected | apply kept_eccFatal | split)

theorem kept_execEngineRestartDone {q a1 s} (h : Kept q s) : Answers q (execEngineRestartDone a1 s) := by
  unfold execEngineRestartDone
  repeat' with_reducible (first
    | assumption | apply answers_next | apply kept_restarted)

end Sys2Proof.Machine
end

