-- ==== Sys2Proof/Laws/KeptHostRegs.lean ====
section
/-! SUPPORT. One lemma per operation of Machine/HostRegs.lean that answers a state: it leaves the queue alone and keeps the register
window canonical; per meaning: it completes, and so does its state. -/

namespace Sys2Proof.Machine

theorem kept_showPending {q s} (h : Kept q s) : Kept q (State.showPending s) := by
  unfold State.showPending
  repeat' with_reducible (first
    | assumption | apply kept_setB
    | (extract_lets +onlyGivenNames x; refine kept_cut (q := q) (x := x) ?_ (fun _ => ?_); unfold x; clear x; rotate_left; clear_value x)
    | (extract_lets +onlyGivenNames x; clear_value x) | extract_lets +onlyGivenNames _)

theorem kept_storeReg {q s a1 a2 a3} (h : Kept q s) : Kept q (State.storeReg s a1 a2 a3) := by
  unfold State.storeReg
  repeat' with_reducible (first
    | assumption | apply kept_setWord | apply kept_showPending | apply kept_reject | apply kept_msiEdges
    | refine kept_foldl ?_ (fun _ _ _ => ?_)
    | (extract_lets +onlyGivenNames x; refine kept_cut (q := q) (x := x) ?_ (fun _ => ?_); unfold x; clear x; rotate_left; clear_value x)
    | (extract_lets +onlyGivenNames x; clear_value x) | extract_lets +onlyGivenNames _ | split)

theorem kept_writeEvtEn {q s a1 a2 a3} (h : Kept q s) : Kept q (State.writeEvtEn s a1 a2 a3) := by
  unfold State.writeEvtEn
  repeat' with_reducible (first
    | assumption | apply kept_setWord | apply kept_msiEdges
    | (extract_lets +onlyGivenNames x; refine kept_cut (q := q) (x := x) ?_ (fun _ => ?_); unfold x; clear x; rotate_left; clear_value x)
    | (extract_lets +onlyGivenNames x; clear_value x) | extract_lets +onlyGivenNames _ | split)

theorem kept_forceEvents {q s a1 a2 a3} (h : Kept q s) : Kept q (State.forceEvents s a1 a2 a3) := by
  unfold State.forceEvents
  repeat' with_reducible (first
    | assumption | apply kept_raise | refine kept_foldl ?_ (fun _ _ _ => ?_) | split)

theorem kept_clearEvents {q s a1 a2 a3} (h : Kept q s) : Kept q (State.clearEvents s a1 a2 a3) := by
  unfold State.clearEvents
  repeat' with_reducible (first
    | assumption | apply kept_setWord | apply kept_setB | exact kept_mk (by assumption) | refine kept_foldl ?_ (fun _ _ _ => ?_)
    | (extract_lets +onlyGivenNames x; refine kept_cut (q := q) (x := x) ?_ (fun _ => ?_); unfold x; clear x; rotate_left; clear_value x)
    | (extract_lets +onlyGivenNames x; clear_value x) | extract_lets +onlyGivenNames _ | split)

theorem kept_clearStat {q s a1 a2} (h : Kept q s) : Kept q (State.clearStat s a1 a2) := by
  unfold State.clearStat
  repeat' with_reducible (first
    | assumption | apply kept_setB
    | (extract_lets +onlyGivenNames x; refine kept_cut (q := q) (x := x) ?_ (fun _ => ?_); unfold x; clear x; rotate_left; clear_value x)
    | (extract_lets +onlyGivenNames x; clear_value x) | extract_lets +onlyGivenNames _ | split)

end Sys2Proof.Machine
end

