-- ==== Sys2Proof/Laws/KeptPower.lean ====
section
/-! SUPPORT. One lemma per operation of Machine/Power.lean that answers a state: it leaves the queue alone and keeps the register
window canonical; per meaning: it completes, and so does its state. -/

namespace Sys2Proof.Machine

theorem kept_enterCellar {q s} (h : Kept q s) : Kept q (State.enterCellar s) := by
  unfold State.enterCellar
  repeat' with_reducible (first
    | assumption | apply kept_journalDurable | apply kept_powerRec | apply kept_set | apply kept_clearCore | apply kept_evalAll
    | apply kept_modBoot | exact kept_mk (by assumption)
    | (extract_lets +onlyGivenNames x; refine kept_cut (q := q) (x := x) ?_ (fun _ => ?_); unfold x; clear x; rotate_left; clear_value x)
    | (extract_lets +onlyGivenNames x; clear_value x) | extract_lets +onlyGivenNames _)

theorem kept_stopCan {q s} (h : Kept q s) : Kept q (State.stopCan s) := by
  unfold State.stopCan
  repeat' with_reducible (first
    | assumption | apply kept_showCan | apply kept_modCan | apply kept_set | exact kept_mk (by assumption)
    | refine kept_foldl ?_ (fun _ _ _ => ?_)
    | (extract_lets +onlyGivenNames x; refine kept_cut (q := q) (x := x) ?_ (fun _ => ?_); unfold x; clear x; rotate_left; clear_value x)
    | (extract_lets +onlyGivenNames x; clear_value x) | extract_lets +onlyGivenNames _)

theorem kept_startCan {q s} (h : Kept q s) : Kept q (State.startCan s) := by
  unfold State.startCan
  repeat' with_reducible (first
    | assumption | apply kept_showCan | apply kept_set | refine kept_foldl ?_ (fun _ _ _ => ?_) | split)

theorem kept_enterWatch {q s} (h : Kept q s) : Kept q (State.enterWatch s) := by
  unfold State.enterWatch
  repeat' with_reducible (first
    | assumption | apply kept_powerRec | apply kept_wdEnter | apply kept_set | apply kept_stopCan | apply kept_safeOff
    | apply kept_gatesHigh | apply kept_showPowers | apply kept_evalAccount | exact kept_mk (by assumption)
    | (extract_lets +onlyGivenNames x; refine kept_cut (q := q) (x := x) ?_ (fun _ => ?_); unfold x; clear x; rotate_left; clear_value x)
    | (extract_lets +onlyGivenNames x; clear_value x) | extract_lets +onlyGivenNames _ | split)

theorem kept_toService {q s} (h : Kept q s) : Kept q (State.toService s) := by
  unfold State.toService
  repeat' with_reducible (first
    | assumption | apply kept_powerRec | apply kept_modCel | apply kept_set | apply kept_raiseIf | apply kept_evalAccount
    | apply kept_wdRestart | apply kept_startCan | apply kept_setDue | apply kept_showPowers | apply kept_decideRate
    | apply kept_setDoorways | exact kept_mk (by assumption) | refine kept_foldl ?_ (fun _ _ _ => ?_)
    | (extract_lets +onlyGivenNames x; refine kept_cut (q := q) (x := x) ?_ (fun _ => ?_); unfold x; clear x; rotate_left; clear_value x)
    | (extract_lets +onlyGivenNames x; clear_value x) | extract_lets +onlyGivenNames _ | split)

theorem kept_powerRequest {q s a1} (h : Kept q s) : Kept q (State.powerRequest s a1) := by
  unfold State.powerRequest
  repeat' with_reducible (first
    | assumption | apply kept_set | apply kept_enterCellar | apply kept_enterWatch | apply kept_wakeWatch
    | (extract_lets +onlyGivenNames x; refine kept_cut (q := q) (x := x) ?_ (fun _ => ?_); unfold x; clear x; rotate_left; clear_value x)
    | (extract_lets +onlyGivenNames x; clear_value x) | extract_lets +onlyGivenNames _ | split)

theorem kept_autoCellar {q s} (h : Kept q s) : Kept q (State.autoCellar s) := by
  unfold State.autoCellar
  repeat' with_reducible (first
    | assumption | apply kept_powerRequest | split)

theorem kept_hostPower {q s a1} (h : Kept q s) : Kept q (State.hostPower s a1) := by
  unfold State.hostPower
  repeat' with_reducible (first
    | assumption | apply kept_powerRequest | exact kept_mk (by assumption)
    | (extract_lets +onlyGivenNames x; refine kept_cut (q := q) (x := x) ?_ (fun _ => ?_); unfold x; clear x; rotate_left; clear_value x)
    | (extract_lets +onlyGivenNames x; clear_value x) | extract_lets +onlyGivenNames _ | split)

theorem kept_wakeBy {q s a1} (h : Kept q s) : Kept q (State.wakeBy s a1) := by
  unfold State.wakeBy
  repeat' with_reducible (first
    | assumption | apply kept_wakeWatch | apply kept_set | apply kept_modCel | exact kept_mk (by assumption)
    | (extract_lets +onlyGivenNames x; refine kept_cut (q := q) (x := x) ?_ (fun _ => ?_); unfold x; clear x; rotate_left; clear_value x)
    | (extract_lets +onlyGivenNames x; clear_value x) | extract_lets +onlyGivenNames _ | split)

theorem kept_allFilters {q s} (h : Kept q s) : Kept q (State.allFilters s) := by
  unfold State.allFilters
  repeat' with_reducible (first
    | assumption | apply kept_restartFilters | split)

theorem kept_clocksReady {q s} (h : Kept q s) : Kept q (State.clocksReady s) := by
  unfold State.clocksReady
  repeat' with_reducible (first
    | assumption | apply kept_toService | apply kept_startBoot | apply kept_setCause | apply kept_allFilters | apply kept_modCel
    | exact kept_mk (by assumption)
    | (extract_lets +onlyGivenNames x; refine kept_cut (q := q) (x := x) ?_ (fun _ => ?_); unfold x; clear x; rotate_left; clear_value x)
    | (extract_lets +onlyGivenNames x; clear_value x) | extract_lets +onlyGivenNames _ | split)

theorem kept_burstInputs {q s} (h : Kept q s) : Kept q (State.burstInputs s) := by
  unfold State.burstInputs
  repeat' with_reducible (first
    | assumption | apply kept_sampleInput | apply kept_wakeWatch | refine kept_foldl ?_ (fun _ _ _ => ?_)
    | (extract_lets +onlyGivenNames x; refine kept_cut (q := q) (x := x) ?_ (fun _ => ?_); unfold x; clear x; rotate_left; clear_value x)
    | (extract_lets +onlyGivenNames x; clear_value x) | extract_lets +onlyGivenNames _ | split)

theorem kept_watchBurst {q s} (h : Kept q s) : Kept q (State.watchBurst s) := by
  unfold State.watchBurst
  repeat' with_reducible (first
    | assumption | apply kept_burstInputs | apply kept_showBudget | apply kept_shedStep | apply kept_showRateLim
    | apply kept_spend | apply kept_wakeWatch | apply kept_autoCellar | refine kept_of_fst (kept_shedStep ?_) (by assumption)
    | exact kept_mk (by assumption)
    | (extract_lets +onlyGivenNames x; refine kept_cut (q := q) (x := x) ?_ (fun _ => ?_); unfold x; clear x; rotate_left; clear_value x)
    | (extract_lets +onlyGivenNames x; clear_value x) | extract_lets +onlyGivenNames _ | split)

theorem kept_cellarStart {q s a1} (h : Kept q s) : Kept q (State.cellarStart s a1) := by
  unfold State.cellarStart
  repeat' with_reducible (first
    | assumption | apply kept_modCel | apply kept_modBoot | apply kept_set | apply kept_setB | exact kept_mk (by assumption)
    | (extract_lets +onlyGivenNames x; refine kept_cut (q := q) (x := x) ?_ (fun _ => ?_); unfold x; clear x; rotate_left; clear_value x)
    | (extract_lets +onlyGivenNames x; clear_value x) | extract_lets +onlyGivenNames _ | split)

theorem kept_coreValid {q s a1 a2} (h : Kept q s) : Kept q (State.coreValid s a1 a2) := by
  unfold State.coreValid
  repeat' with_reducible (first
    | assumption | apply kept_modBoot | apply kept_modCel | apply kept_set | apply kept_allFilters | apply kept_setCause
    | apply kept_clearCore | apply kept_startBoot | exact kept_mk (by assumption)
    | (extract_lets +onlyGivenNames x; refine kept_cut (q := q) (x := x) ?_ (fun _ => ?_); unfold x; clear x; rotate_left; clear_value x)
    | (extract_lets +onlyGivenNames x; clear_value x) | extract_lets +onlyGivenNames _ | split)

theorem kept_powerFail {q s a1} (h : Kept q s) : Kept q (State.powerFail s a1) := by
  unfold State.powerFail
  repeat' with_reducible (first
    | assumption | apply kept_modCel | apply kept_inc | apply kept_powerFailFlush | apply kept_set | apply kept_clearCore
    | apply kept_evalAll | apply kept_modBoot | exact kept_mk (by assumption)
    | (extract_lets +onlyGivenNames x; refine kept_cut (q := q) (x := x) ?_ (fun _ => ?_); unfold x; clear x; rotate_left; clear_value x)
    | (extract_lets +onlyGivenNames x; clear_value x) | extract_lets +onlyGivenNames _ | split)

theorem kept_cellarLoss {q s} (h : Kept q s) : Kept q (State.cellarLoss s) := by
  unfold State.cellarLoss
  repeat' with_reducible (first
    | assumption | apply kept_setB | apply kept_set | apply kept_clearCore | apply kept_evalAll | apply kept_modBoot
    | exact kept_mk (by assumption)
    | (extract_lets +onlyGivenNames x; refine kept_cut (q := q) (x := x) ?_ (fun _ => ?_); unfold x; clear x; rotate_left; clear_value x)
    | (extract_lets +onlyGivenNames x; clear_value x) | extract_lets +onlyGivenNames _ | split)

theorem kept_cellarSupply {q s a1} (h : Kept q s) : Kept q (State.cellarSupply s a1) := by
  unfold State.cellarSupply
  repeat' with_reducible (first
    | assumption | apply kept_setB | apply kept_powerRec
    | (extract_lets +onlyGivenNames x; refine kept_cut (q := q) (x := x) ?_ (fun _ => ?_); unfold x; clear x; rotate_left; clear_value x)
    | (extract_lets +onlyGivenNames x; clear_value x) | extract_lets +onlyGivenNames _)

theorem kept_supplyCrossing {q s a1 a2} (h : Kept q s) : Kept q (State.supplyCrossing s a1 a2) := by
  unfold State.supplyCrossing
  repeat' with_reducible (first
    | assumption | apply kept_modCel | apply kept_cellarSupply | apply kept_vgdBack | apply kept_raise | apply kept_setB
    | apply kept_powerRec | apply kept_inc | exact kept_mk (by assumption)
    | (extract_lets +onlyGivenNames x; refine kept_cut (q := q) (x := x) ?_ (fun _ => ?_); unfold x; clear x; rotate_left; clear_value x)
    | (extract_lets +onlyGivenNames x; clear_value x) | extract_lets +onlyGivenNames _ | split)

theorem kept_showRtc {q s} (h : Kept q s) : Kept q (State.showRtc s) := by
  unfold State.showRtc
  repeat' with_reducible (first
    | assumption | apply kept_set)

theorem kept_loadTime {q s} (h : Kept q s) : Kept q (State.loadTime s) := by
  unfold State.loadTime
  repeat' with_reducible (first
    | assumption | apply kept_setB | apply kept_showRtc | apply kept_setI | apply kept_raise | apply kept_event
    | apply kept_showRefresh | exact kept_mk (by assumption)
    | (extract_lets +onlyGivenNames x; refine kept_cut (q := q) (x := x) ?_ (fun _ => ?_); unfold x; clear x; rotate_left; clear_value x)
    | (extract_lets +onlyGivenNames x; clear_value x) | extract_lets +onlyGivenNames _ | split)

theorem kept_alarm {q s} (h : Kept q s) : Kept q (State.alarm s) := by
  unfold State.alarm
  repeat' with_reducible (first
    | assumption | apply kept_raise | apply kept_wakeBy | exact kept_mk (by assumption)
    | (extract_lets +onlyGivenNames x; refine kept_cut (q := q) (x := x) ?_ (fun _ => ?_); unfold x; clear x; rotate_left; clear_value x)
    | (extract_lets +onlyGivenNames x; clear_value x) | extract_lets +onlyGivenNames _ | split)

theorem kept_resetStuck {q s a1} (h : Kept q s) : Kept q (State.resetStuck s a1) := by
  unfold State.resetStuck
  repeat' with_reducible (first
    | assumption | apply kept_set | apply kept_modCel | apply kept_modBoot | apply kept_inc | apply kept_setCause
    | apply kept_powerRec | exact kept_mk (by assumption)
    | (extract_lets +onlyGivenNames x; refine kept_cut (q := q) (x := x) ?_ (fun _ => ?_); unfold x; clear x; rotate_left; clear_value x)
    | (extract_lets +onlyGivenNames x; clear_value x) | extract_lets +onlyGivenNames _ | split)

theorem kept_countHour {q s a1 a2} (h : Kept q s) : Kept q (State.countHour s a1 a2).1 := by
  unfold State.countHour
  repeat' with_reducible (first
    | assumption | apply kept_inc | dsimp -zeta only | split)

theorem kept_countHours {q s} (h : Kept q s) : Kept q (State.countHours s) := by
  unfold State.countHours
  repeat' with_reducible (first
    | assumption | apply kept_countHour | apply kept_modCel | refine kept_of_fst (kept_countHour ?_) (by assumption)
    | exact kept_mk (by assumption)
    | (extract_lets +onlyGivenNames x; refine kept_cut (q := q) (x := x) ?_ (fun _ => ?_); unfold x; clear x; rotate_left; clear_value x)
    | (extract_lets +onlyGivenNames x; clear_value x) | extract_lets +onlyGivenNames _ | split)

theorem kept_rtcEdge {q s} (h : Kept q s) : Kept q (State.rtcEdge s) := by
  unfold State.rtcEdge
  repeat' with_reducible (first
    | assumption | apply kept_loadTime | apply kept_showRtc | apply kept_modLdg | exact kept_mk (by assumption)
    | (extract_lets +onlyGivenNames x; refine kept_cut (q := q) (x := x) ?_ (fun _ => ?_); unfold x; clear x; rotate_left; clear_value x)
    | (extract_lets +onlyGivenNames x; clear_value x) | extract_lets +onlyGivenNames _ | split)

theorem kept_countDown {q s} (h : Kept q s) : Kept q (State.countDown s) := by
  unfold State.countDown
  repeat' with_reducible (first
    | assumption | apply kept_set | exact kept_mk (by assumption)
    | (extract_lets +onlyGivenNames x; refine kept_cut (q := q) (x := x) ?_ (fun _ => ?_); unfold x; clear x; rotate_left; clear_value x)
    | (extract_lets +onlyGivenNames x; clear_value x) | extract_lets +onlyGivenNames _ | split)

theorem kept_refresh {q s} (h : Kept q s) : Kept q (State.refresh s) := by
  unfold State.refresh
  repeat' with_reducible (first
    | assumption | apply kept_set | exact kept_mk (by assumption)
    | (extract_lets +onlyGivenNames x; refine kept_cut (q := q) (x := x) ?_ (fun _ => ?_); unfold x; clear x; rotate_left; clear_value x)
    | (extract_lets +onlyGivenNames x; clear_value x) | extract_lets +onlyGivenNames _)

theorem kept_slowEffect {q s a1} (h : Kept q s) : Kept q (State.slowEffect s a1) := by
  unfold State.slowEffect
  repeat' with_reducible (first
    | assumption | apply kept_setB | apply kept_powerRequest
    | (extract_lets +onlyGivenNames x; refine kept_cut (q := q) (x := x) ?_ (fun _ => ?_); unfold x; clear x; rotate_left; clear_value x)
    | (extract_lets +onlyGivenNames x; clear_value x) | extract_lets +onlyGivenNames _ | split)

theorem kept_applyPosted {q s a1 a2} (h : Kept q s) : Kept q (State.applyPosted s a1 a2) := by
  unfold State.applyPosted
  repeat' with_reducible (first
    | assumption | apply kept_slowEffect | apply kept_storeReg | exact kept_mk (by assumption)
    | (extract_lets +onlyGivenNames x; refine kept_cut (q := q) (x := x) ?_ (fun _ => ?_); unfold x; clear x; rotate_left; clear_value x)
    | (extract_lets +onlyGivenNames x; clear_value x) | extract_lets +onlyGivenNames _ | split)

theorem kept_postedEdge {q s} (h : Kept q s) : Kept q (State.postedEdge s) := by
  unfold State.postedEdge
  repeat' with_reducible (first
    | assumption | apply kept_setB | apply kept_applyPosted | exact kept_mk (by assumption)
    | refine kept_foldl ?_ (fun _ _ _ => ?_)
    | (extract_lets +onlyGivenNames x; refine kept_cut (q := q) (x := x) ?_ (fun _ => ?_); unfold x; clear x; rotate_left; clear_value x)
    | (extract_lets +onlyGivenNames x; clear_value x) | extract_lets +onlyGivenNames _)

theorem kept_slowEdge {q s} (h : Kept q s) : Kept q (State.slowEdge s) := by
  unfold State.slowEdge
  repeat' with_reducible (first
    | assumption | apply kept_rtcEdge | apply kept_refresh | apply kept_countDown | apply kept_countHours | apply kept_incWrap
    | apply kept_postedEdge | exact kept_mk (by assumption) | refine kept_foldl ?_ (fun _ _ _ => ?_)
    | (extract_lets +onlyGivenNames x; refine kept_cut (q := q) (x := x) ?_ (fun _ => ?_); unfold x; clear x; rotate_left; clear_value x)
    | (extract_lets +onlyGivenNames x; clear_value x) | extract_lets +onlyGivenNames _ | split)

theorem kept_postSlow {q s a1 a2} (h : Kept q s) : Kept q (State.postSlow s a1 a2) := by
  unfold State.postSlow
  repeat' with_reducible (first
    | assumption | apply kept_accessErr | apply kept_setB | exact kept_mk (by assumption)
    | (extract_lets +onlyGivenNames x; refine kept_cut (q := q) (x := x) ?_ (fun _ => ?_); unfold x; clear x; rotate_left; clear_value x)
    | (extract_lets +onlyGivenNames x; clear_value x) | extract_lets +onlyGivenNames _ | split)

theorem kept_execPantryTick {q a1 s} (h : Kept q s) : Answers q (execPantryTick a1 s) := by
  unfold execPantryTick
  repeat' with_reducible (first
    | assumption | intro _ | apply answers_next | apply kept_whenRunning | apply kept_autoCellar | apply kept_rebuildStep
    | apply kept_catchupStep | apply kept_pantryTick | exact kept_mk (by assumption)
    | (extract_lets +onlyGivenNames x; refine kept_cut (q := q) (x := x) ?_ (fun _ => ?_); unfold x; clear x; rotate_left; clear_value x)
    | (extract_lets +onlyGivenNames x; clear_value x) | extract_lets +onlyGivenNames _)

theorem kept_execPwrRequestCellar {q s} (h : Kept q s) : Answers q (execPwrRequestCellar s) := by
  unfold execPwrRequestCellar
  repeat' with_reducible (first
    | assumption | intro _ | apply answers_next | apply kept_whenReady | apply kept_hostPower)

theorem kept_execPwrRequestWatch {q s} (h : Kept q s) : Answers q (execPwrRequestWatch s) := by
  unfold execPwrRequestWatch
  repeat' with_reducible (first
    | assumption | intro _ | apply answers_next | apply kept_whenReady | apply kept_hostPower)

theorem kept_execPwrRequestService {q s} (h : Kept q s) : Answers q (execPwrRequestService s) := by
  unfold execPwrRequestService
  repeat' with_reducible (first
    | assumption | intro _ | apply answers_next | apply kept_whenReady | apply kept_hostPower)

theorem kept_execWatchBurst {q s} (h : Kept q s) : Answers q (execWatchBurst s) := by
  unfold execWatchBurst
  repeat' with_reducible (first
    | assumption | apply answers_next | apply kept_watchBurst)

theorem kept_execWake {q a1 s} (h : Kept q s) : Answers q (execWake a1 s) := by
  unfold execWake
  repeat' with_reducible (first
    | assumption | apply answers_next | apply kept_wakeBy | split)

theorem kept_execCellarStart {q a1 s} (h : Kept q s) : Answers q (execCellarStart a1 s) := by
  unfold execCellarStart
  repeat' with_reducible (first
    | assumption | apply answers_next | apply kept_cellarStart)

theorem kept_execCoreSupplyValid {q a1 a2 s} (h : Kept q s) : Answers q (execCoreSupplyValid a1 a2 s) := by
  unfold execCoreSupplyValid
  repeat' with_reducible (first
    | assumption | apply answers_next | apply kept_coreValid)

theorem kept_execPowerFail {q a1 s} (h : Kept q s) : Answers q (execPowerFail a1 s) := by
  unfold execPowerFail
  repeat' with_reducible (first
    | assumption | apply answers_next | apply kept_powerFail)

theorem kept_execCellarSupplyLoss {q s} (h : Kept q s) : Answers q (execCellarSupplyLoss s) := by
  unfold execCellarSupplyLoss
  repeat' with_reducible (first
    | assumption | apply answers_next | apply kept_cellarLoss)

theorem kept_execSupplyMonitorCrossing {q a1 a2 s} (h : Kept q s) : Answers q (execSupplyMonitorCrossing a1 a2 s) := by
  unfold execSupplyMonitorCrossing
  repeat' with_reducible (first
    | assumption | apply answers_next | apply kept_supplyCrossing)

theorem kept_execRtcSet {q s} (h : Kept q s) : Answers q (execRtcSet s) := by
  unfold execRtcSet
  repeat' with_reducible (first
    | assumption | apply answers_next | apply kept_loadTime | split)

theorem kept_execRtcAlarm {q s} (h : Kept q s) : Answers q (execRtcAlarm s) := by
  unfold execRtcAlarm
  repeat' with_reducible (first
    | assumption | apply answers_next | apply kept_alarm)

theorem kept_execResetStuck {q a1 s} (h : Kept q s) : Answers q (execResetStuck a1 s) := by
  unfold execResetStuck
  repeat' with_reducible (first
    | assumption | apply answers_next | apply kept_resetStuck)

theorem kept_execSlowDomainWrite {q a1 a2 s} (h : Kept q s) : Answers q (execSlowDomainWrite a1 a2 s) := by
  unfold execSlowDomainWrite
  repeat' with_reducible (first
    | assumption | intro _ | apply answers_next | apply kept_whenReady | apply kept_postSlow
    | (extract_lets +onlyGivenNames x; refine kept_cut (q := q) (x := x) ?_ (fun _ => ?_); unfold x; clear x; rotate_left; clear_value x)
    | (extract_lets +onlyGivenNames x; clear_value x) | extract_lets +onlyGivenNames _ | split)

theorem kept_execShadowRefresh {q s} (h : Kept q s) : Answers q (execShadowRefresh s) := by
  unfold execShadowRefresh
  repeat' with_reducible (first
    | assumption | apply answers_next | apply kept_slowEdge)

theorem kept_execClocksReady {q s} (h : Kept q s) : Answers q (execClocksReady s) := by
  unfold execClocksReady
  repeat' with_reducible (first
    | assumption | apply answers_next | apply kept_clocksReady)

theorem kept_execClk32RcFallback {q s} (h : Kept q s) : Answers q (execClk32RcFallback s) := by
  unfold execClk32RcFallback
  repeat' with_reducible (first
    | assumption | apply answers_next | apply kept_setB | split)

end Sys2Proof.Machine
end

