-- ==== Sys2Proof/Laws/KeptHostWrite.lean ====
section
/-! SUPPORT. One lemma per operation of Machine/HostWrite.lean that answers a state: it leaves the queue alone and keeps the register
window canonical; per meaning: it completes, and so does its state. -/

namespace Sys2Proof.Machine

theorem kept_after {q f s} (h : Answers q (f s)) : Kept q (after f s) := by
  obtain ⟨t, ht, hk⟩ := h
  unfold after
  rw [ht]
  exact hk

theorem kept_bitCmds {q w cmds s} (h : Kept q s) (hc : ∀ c ∈ cmds, ∀ t, Kept q t → Kept q (c.2 t)) : Kept q (bitCmds w cmds s) := by
  unfold bitCmds
  induction cmds generalizing s with
  | nil => exact h
  | cons c l ih =>
    refine ih ?_ fun c' h' => hc c' (by simp [h'])
    dsimp only
    split
    · exact hc c (by simp) s h
    · exact h

theorem kept_bits_one {q w i s} {f : State → State} (h : Kept q s) (hf : ∀ t, Kept q t → Kept q (f t)) :
    Kept q (bitCmds w [(i, f)] s) := kept_bitCmds h (by simpa using hf)

theorem kept_bits_cons {q w i c l s} {f : State → State} (h : Kept q s) (hf : ∀ t, Kept q t → Kept q (f t))
    (hl : ∀ t, Kept q t → Kept q (bitCmds w (c :: l) t)) : Kept q (bitCmds w ((i, f) :: c :: l) s) := by
  show Kept q (bitCmds w (c :: l) (if w.getLsbD i then f s else s))
  apply hl
  split
  · exact hf s h
  · exact h

theorem kept_freezePage {q s a1 a2} (h : Kept q s) : Kept q (State.freezePage s a1 a2) := by
  unfold State.freezePage
  repeat' with_reducible (first
    | assumption | exact kept_mk (by assumption) | refine kept_foldl ?_ (fun _ _ _ => ?_)
    | (extract_lets +onlyGivenNames x; refine kept_cut (q := q) (x := x) ?_ (fun _ => ?_); unfold x; clear x; rotate_left; clear_value x)
    | (extract_lets +onlyGivenNames x; clear_value x) | extract_lets +onlyGivenNames _ | split)

theorem kept_thawPage {q s a1} (h : Kept q s) : Kept q (State.thawPage s a1) := by
  unfold State.thawPage
  repeat' with_reducible (first
    | assumption | exact kept_mk (by assumption)
    | (extract_lets +onlyGivenNames x; refine kept_cut (q := q) (x := x) ?_ (fun _ => ?_); unfold x; clear x; rotate_left; clear_value x)
    | (extract_lets +onlyGivenNames x; clear_value x) | extract_lets +onlyGivenNames _)

theorem kept_hostWakes {q s} (h : Kept q s) : Kept q (State.hostWakes s) := by
  unfold State.hostWakes
  repeat' with_reducible (first
    | assumption | apply kept_wakeWatch | split)

theorem kept_fullRead {q s a1} (h : Kept q s) : Kept q (State.fullRead s a1).2 := by
  unfold State.fullRead
  repeat' with_reducible (first
    | assumption | apply kept_accessErr | apply kept_rdPop | apply kept_txPop | apply kept_hostWakes
    | exact kept_mk (by assumption)
    | (extract_lets +onlyGivenNames x; refine kept_cut (q := q) (x := x) ?_ (fun _ => ?_); unfold x; clear x; rotate_left; clear_value x)
    | (extract_lets +onlyGivenNames x; clear_value x) | extract_lets +onlyGivenNames _ | dsimp -zeta only | split)

theorem kept_plainRead {q s a1} (h : Kept q s) : Kept q (State.plainRead s a1).2 := by
  unfold State.plainRead
  repeat' with_reducible (first
    | assumption | apply kept_accessErr | apply kept_hostWakes | dsimp -zeta only | split)

theorem kept_headerWrite {q s a1 a2 a3 a4} (h : Kept q s) : Kept q (State.headerWrite s a1 a2 a3 a4) := by
  unfold State.headerWrite
  repeat' with_reducible (first
    | assumption | apply kept_enablePage | apply kept_disablePage | apply kept_setB | apply kept_freezePage | apply kept_thawPage
    | apply kept_clearStat | apply kept_clearEvents | apply kept_writeEvtEn | apply kept_forceEvents
    | exact kept_mk (by assumption)
    | (extract_lets +onlyGivenNames x; refine kept_cut (q := q) (x := x) ?_ (fun _ => ?_); unfold x; clear x; rotate_left; clear_value x)
    | (extract_lets +onlyGivenNames x; clear_value x) | extract_lets +onlyGivenNames _ | split)

theorem kept_writeSys {q s a1 a2 a3} (h : Kept q s) : Kept q (State.writeSys s a1 a2 a3) := by
  unfold State.writeSys
  repeat' with_reducible (first
    | assumption | intro _ | apply kept_bits_one | apply kept_bits_cons | apply kept_after | apply kept_execSrstKeyWrite
    | apply kept_execSreset | apply kept_execErase | apply kept_execVerify | apply kept_execActivate | apply kept_execConfirm
    | apply kept_execFwWinWrite | apply kept_storeReg | split)

theorem kept_writeHif {q s a1 a2 a3} (h : Kept q s) : Kept q (State.writeHif s a1 a2 a3) := by
  unfold State.writeHif
  repeat' with_reducible (first
    | assumption | intro _ | apply kept_bits_one | apply kept_bits_cons | apply kept_after | apply kept_execRearm
    | apply kept_execWdKeyWrite | apply kept_storeReg | split)

theorem kept_eoi {q s a1} (h : Kept q s) : Kept q (State.eoi s a1) := by
  unfold State.eoi
  repeat' with_reducible (first
    | assumption | apply kept_sendMsi
    | (extract_lets +onlyGivenNames x; refine kept_cut (q := q) (x := x) ?_ (fun _ => ?_); unfold x; clear x; rotate_left; clear_value x)
    | (extract_lets +onlyGivenNames x; clear_value x) | extract_lets +onlyGivenNames _ | split)

theorem kept_writeEva {q s a1 a2 a3} (h : Kept q s) : Kept q (State.writeEva s a1 a2 a3) := by
  unfold State.writeEva
  repeat' with_reducible (first
    | assumption | apply kept_eoi | apply kept_storeReg | split)

theorem kept_writeVlt {q s a1 a2 a3} (h : Kept q s) : Kept q (State.writeVlt s a1 a2 a3) := by
  unfold State.writeVlt
  repeat' with_reducible (first
    | assumption | intro _ | apply kept_bits_one | apply kept_bits_cons | apply kept_after | apply kept_execPwWinWrite
    | apply kept_reject | apply kept_execUnlock | apply kept_execCommit | apply kept_execAbort | apply kept_execNewpw
    | apply kept_storeReg | exact kept_mk (by assumption)
    | (extract_lets +onlyGivenNames x; refine kept_cut (q := q) (x := x) ?_ (fun _ => ?_); unfold x; clear x; rotate_left; clear_value x)
    | (extract_lets +onlyGivenNames x; clear_value x) | extract_lets +onlyGivenNames _ | split)

theorem kept_writeSaf {q s a1 a2 a3} (h : Kept q s) : Kept q (State.writeSaf s a1 a2 a3) := by
  unfold State.writeSaf
  repeat' with_reducible (first
    | assumption | intro _ | apply kept_bits_one | apply kept_bits_cons | apply kept_after | apply kept_execSafClr
    | apply kept_storeReg | split)

theorem kept_writeTil {q s a1 a2 a3} (h : Kept q s) : Kept q (State.writeTil s a1 a2 a3) := by
  unfold State.writeTil
  repeat' with_reducible (first
    | assumption | intro _ | apply kept_bits_one | apply kept_bits_cons | apply kept_after | apply kept_execTilClr
    | apply kept_storeReg | split)

theorem kept_writeStl {q s a1 a2 a3} (h : Kept q s) : Kept q (State.writeStl s a1 a2 a3) := by
  unfold State.writeStl
  repeat' with_reducible (first
    | assumption | intro _ | apply kept_bits_one | apply kept_bits_cons | apply kept_after | apply kept_execRxWinWrite
    | apply kept_execRxFlush | apply kept_storeReg | split)

theorem kept_writeBrv {q s a1 a2 a3} (h : Kept q s) : Kept q (State.writeBrv s a1 a2 a3) := by
  unfold State.writeBrv
  repeat' with_reducible (first
    | assumption | intro _ | apply kept_bits_one | apply kept_bits_cons | apply kept_after | apply kept_execHandoverRequest
    | apply kept_execResync | apply kept_execBrvClr | apply kept_execStbyTest | apply kept_storeReg | split)

theorem kept_writeLdg {q s a1 a2 a3} (h : Kept q s) : Kept q (State.writeLdg s a1 a2 a3) := by
  unfold State.writeLdg
  repeat' with_reducible (first
    | assumption | intro _ | apply kept_bits_one | apply kept_bits_cons | apply kept_after | apply kept_execLdgQryReq
    | apply kept_execLdgQryNext | apply kept_execDmaGo | apply kept_execDmaAbort | apply kept_execLdgClr | apply kept_execLdgFlush
    | apply kept_execLdgCheck | apply kept_storeReg | split)

theorem kept_writeOcc {q s a1 a2 a3} (h : Kept q s) : Kept q (State.writeOcc s a1 a2 a3) := by
  unfold State.writeOcc
  repeat' with_reducible (first
    | assumption | intro _ | apply kept_bits_one | apply kept_bits_cons | apply kept_decideRate | apply kept_storeReg
    | apply kept_writePreRel | apply kept_after | apply kept_execOccClr | split)

theorem kept_writeDin {q s a1 a2 a3} (h : Kept q s) : Kept q (State.writeDin s a1 a2 a3) := by
  unfold State.writeDin
  repeat' with_reducible (first
    | assumption | apply kept_storeReg | apply kept_set | refine kept_foldl ?_ (fun _ _ _ => ?_)
    | (extract_lets +onlyGivenNames x; refine kept_cut (q := q) (x := x) ?_ (fun _ => ?_); unfold x; clear x; rotate_left; clear_value x)
    | (extract_lets +onlyGivenNames x; clear_value x) | extract_lets +onlyGivenNames _ | split)

theorem kept_writeCmd {q s a1 a2 a3 a4} (h : Kept q s) : Kept q (State.writeCmd s a1 a2 a3 a4) := by
  unfold State.writeCmd
  repeat' with_reducible (first
    | assumption | apply kept_reject | apply kept_storeReg | apply kept_modDw | apply kept_offer | exact kept_mk (by assumption)
    | (extract_lets +onlyGivenNames x; refine kept_cut (q := q) (x := x) ?_ (fun _ => ?_); unfold x; clear x; rotate_left; clear_value x)
    | (extract_lets +onlyGivenNames x; clear_value x) | extract_lets +onlyGivenNames _ | split)

theorem kept_writeDw {q s a1 a2 a3} (h : Kept q s) : Kept q (State.writeDw s a1 a2 a3) := by
  unfold State.writeDw
  repeat' with_reducible (first
    | assumption | intro _ | apply kept_bits_one | apply kept_bits_cons | apply kept_writeCmd | apply kept_after
    | apply kept_execLoadRef | apply kept_storeReg | apply kept_execEffSnap | apply kept_execClrModel | apply kept_execResetAdapt
    | apply kept_showStep
    | (extract_lets +onlyGivenNames x; refine kept_cut (q := q) (x := x) ?_ (fun _ => ?_); unfold x; clear x; rotate_left; clear_value x)
    | (extract_lets +onlyGivenNames x; clear_value x) | extract_lets +onlyGivenNames _ | split)

theorem kept_writePz {q s a1 a2 a3} (h : Kept q s) : Kept q (State.writePz s a1 a2 a3) := by
  unfold State.writePz
  repeat' with_reducible (first
    | assumption | intro _ | apply kept_bits_one | apply kept_bits_cons | apply kept_after | apply kept_execFreezeGrid
    | apply kept_storeReg | apply kept_execPorchQuery
    | (extract_lets +onlyGivenNames x; refine kept_cut (q := q) (x := x) ?_ (fun _ => ?_); unfold x; clear x; rotate_left; clear_value x)
    | (extract_lets +onlyGivenNames x; clear_value x) | extract_lets +onlyGivenNames _ | split)

theorem kept_writeHold {q s a1 a2} (h : Kept q s) : Kept q (State.writeHold s a1 a2) := by
  unfold State.writeHold
  repeat' with_reducible (first
    | assumption | apply kept_setB | apply kept_modAx | exact kept_mk (by assumption)
    | (extract_lets +onlyGivenNames x; refine kept_cut (q := q) (x := x) ?_ (fun _ => ?_); unfold x; clear x; rotate_left; clear_value x)
    | (extract_lets +onlyGivenNames x; clear_value x) | extract_lets +onlyGivenNames _ | split)

theorem kept_writeAx {q s a1 a2 a3} (h : Kept q s) : Kept q (State.writeAx s a1 a2 a3) := by
  unfold State.writeAx
  repeat' with_reducible (first
    | assumption | intro _ | apply kept_bits_one | apply kept_bits_cons | apply kept_writeHold | apply kept_after
    | apply kept_execAxisClr | apply kept_storeReg
    | (extract_lets +onlyGivenNames x; refine kept_cut (q := q) (x := x) ?_ (fun _ => ?_); unfold x; clear x; rotate_left; clear_value x)
    | (extract_lets +onlyGivenNames x; clear_value x) | extract_lets +onlyGivenNames _ | split)

theorem kept_writeFb {q s a1 a2 a3} (h : Kept q s) : Kept q (State.writeFb s a1 a2 a3) := by
  unfold State.writeFb
  repeat' with_reducible (first
    | assumption | intro _ | apply kept_bits_one | apply kept_bits_cons | apply kept_after | apply kept_execFbClr
    | apply kept_execIdxRearm | apply kept_storeReg | split)

theorem kept_writeLsg {q s a1 a2 a3} (h : Kept q s) : Kept q (State.writeLsg s a1 a2 a3) := by
  unfold State.writeLsg
  repeat' with_reducible (first
    | assumption | intro _ | apply kept_after | apply kept_execLsgOnWrite | apply kept_execLsgClr | apply kept_setB
    | apply kept_resClear | apply kept_showSense | apply kept_storeReg
    | (extract_lets +onlyGivenNames x; refine kept_cut (q := q) (x := x) ?_ (fun _ => ?_); unfold x; clear x; rotate_left; clear_value x)
    | (extract_lets +onlyGivenNames x; clear_value x) | extract_lets +onlyGivenNames _ | split)

theorem kept_cancelBuf {q s a1 a2} (h : Kept q s) : Kept q (State.cancelBuf s a1 a2) := by
  unfold State.cancelBuf
  split
  · exact kept_bumpFree (kept_after (kept_execTxCancel h))
  · exact kept_after (kept_execTxCancel h)

theorem kept_writeCan {q s a1 a2 a3} (h : Kept q s) : Kept q (State.writeCan s a1 a2 a3) := by
  unfold State.writeCan
  extract_lets b t
  have ht : Kept q t := kept_storeReg h
  refine kept_ite ?_ (kept_ite ?_ (kept_ite ?_ (kept_ite ?_ (kept_ite ?_ (kept_ite ?_ ht)))))
  · exact kept_bits_cons h (fun _ ht => kept_after (kept_execBoRecover ht))
      fun _ ht => kept_bits_one ht fun _ hu => kept_after (kept_execCanClr hu)
  · refine kept_bitCmds h fun c hc t ht => ?_
    obtain ⟨i, -, rfl⟩ := List.mem_map.1 hc
    exact kept_after (kept_execCanTxReq ht)
  · refine kept_bitCmds h fun c hc t ht => ?_
    obtain ⟨i, -, rfl⟩ := List.mem_map.1 hc
    exact kept_cancelBuf ht
  · exact kept_after (kept_execQueueRel h)
  · exact kept_after (kept_execTlogRel h)
  · exact kept_ite (kept_confine ht) ht

theorem kept_writeMvb {q s a1 a2 a3} (h : Kept q s) : Kept q (State.writeMvb s a1 a2 a3) := by
  unfold State.writeMvb
  repeat' with_reducible (first
    | assumption | intro _ | apply kept_bits_one | apply kept_bits_cons | apply kept_after | apply kept_execMvbPortSnap
    | apply kept_execMvbPortCommit | apply kept_storeReg | split)

theorem kept_writeSl {q s a1 a2 a3} (h : Kept q s) : Kept q (State.writeSl s a1 a2 a3) := by
  unfold State.writeSl
  repeat' with_reducible (first
    | assumption | intro _ | apply kept_bits_one | apply kept_bits_cons | apply kept_after | apply kept_execSlClr
    | apply kept_execCalReq | apply kept_storeReg | split)

theorem kept_writeEnc {q s a1 a2 a3} (h : Kept q s) : Kept q (State.writeEnc s a1 a2 a3) := by
  unfold State.writeEnc
  repeat' with_reducible (first
    | assumption | apply kept_encLow | apply kept_encDrive | apply kept_storeReg | refine kept_foldl ?_ (fun _ _ _ => ?_)
    | (extract_lets +onlyGivenNames x; refine kept_cut (q := q) (x := x) ?_ (fun _ => ?_); unfold x; clear x; rotate_left; clear_value x)
    | (extract_lets +onlyGivenNames x; clear_value x) | extract_lets +onlyGivenNames _ | split)

theorem kept_regWrite {q s a1 a2 a3} (h : Kept q s) : Kept q (State.regWrite s a1 a2 a3) := by
  unfold State.regWrite
  repeat' with_reducible (first
    | assumption | apply kept_writeSys | apply kept_writeHif | apply kept_writeEva | apply kept_writeVlt | apply kept_writeSaf
    | apply kept_writeTil | apply kept_writeStl | apply kept_writeBrv | apply kept_writeLdg | apply kept_writeOcc
    | apply kept_writeDin | apply kept_writeDw | apply kept_writePz | apply kept_writeAx | apply kept_writeFb
    | apply kept_writeLsg | apply kept_writeCan | apply kept_writeMvb | apply kept_writeSl | apply kept_storeReg
    | apply kept_writeEnc | exact kept_mk (by assumption)
    | (extract_lets +onlyGivenNames x; refine kept_cut (q := q) (x := x) ?_ (fun _ => ?_); unfold x; clear x; rotate_left; clear_value x)
    | (extract_lets +onlyGivenNames x; clear_value x) | extract_lets +onlyGivenNames _ | split)

theorem kept_mappedWrite {q s a1 a2 a3} (h : Kept q s) : Kept q (State.mappedWrite s a1 a2 a3) := by
  unfold State.mappedWrite
  repeat' with_reducible (first
    | assumption | apply kept_headerWrite | apply kept_postSlow | apply kept_regWrite | exact kept_mk (by assumption)
    | (extract_lets +onlyGivenNames x; refine kept_cut (q := q) (x := x) ?_ (fun _ => ?_); unfold x; clear x; rotate_left; clear_value x)
    | (extract_lets +onlyGivenNames x; clear_value x) | extract_lets +onlyGivenNames _ | split)

theorem kept_fullWrite {q s a1 a2} (h : Kept q s) : Kept q (State.fullWrite s a1 a2) := by
  unfold State.fullWrite
  repeat' with_reducible (first
    | assumption | apply kept_accessErr | apply kept_hostWakes | apply kept_mappedWrite | exact kept_mk (by assumption)
    | (extract_lets +onlyGivenNames x; refine kept_cut (q := q) (x := x) ?_ (fun _ => ?_); unfold x; clear x; rotate_left; clear_value x)
    | (extract_lets +onlyGivenNames x; clear_value x) | extract_lets +onlyGivenNames _ | split)

end Sys2Proof.Machine
end

