-- ==== Sys2Proof/Laws/KeptHostPort.lean ====
section
/-! SUPPORT. One lemma per operation of Machine/HostPort.lean that answers a state: it leaves the queue alone and keeps the register
window canonical; per meaning: it completes, and so does its state. -/

namespace Sys2Proof.Machine

theorem kept_readSpan {q step reach k} : ∀ {s a skip len acc}, Kept q s →
    Kept q (State.readSpan step reach k s a skip len acc).2 := by
  induction k with
  | zero => exact fun h => h
  | succ k ih =>
    intro s a skip len acc h
    unfold State.readSpan
    split
    · exact h
    · apply ih
      split
      · exact kept_accessErr h
      · split
        · exact kept_fullRead h
        · exact kept_plainRead h

theorem kept_hpbHigh {q s a1 a2} (h : Kept q s) : Kept q (State.hpbHigh s a1 a2) := by
  unfold State.hpbHigh
  repeat' with_reducible (first
    | assumption | apply kept_fullWrite | apply kept_modHif | apply kept_hostWakes | apply kept_accessErr
    | exact kept_mk (by assumption)
    | (extract_lets +onlyGivenNames x; refine kept_cut (q := q) (x := x) ?_ (fun _ => ?_); unfold x; clear x; rotate_left; clear_value x)
    | (extract_lets +onlyGivenNames x; clear_value x) | extract_lets +onlyGivenNames _ | split)

theorem kept_hpbReadLow {q s a1} (h : Kept q s) : Kept q (State.hpbReadLow s a1) := by
  unfold State.hpbReadLow
  repeat' with_reducible (first
    | assumption | apply kept_fullRead | apply kept_modHif | apply kept_emit
    | refine kept_of_snd (kept_fullRead ?_) (by assumption) | exact kept_mk (by assumption)
    | (extract_lets +onlyGivenNames x; refine kept_cut (q := q) (x := x) ?_ (fun _ => ?_); unfold x; clear x; rotate_left; clear_value x)
    | (extract_lets +onlyGivenNames x; clear_value x) | extract_lets +onlyGivenNames _)

theorem kept_hpbReadHigh {q s a1} (h : Kept q s) : Kept q (State.hpbReadHigh s a1) := by
  unfold State.hpbReadHigh
  split
  · split
    · exact kept_emit (kept_modHif h)
    · exact kept_emit (kept_plainRead h)
  · exact kept_emit (kept_plainRead h)

theorem kept_qsWords {q k} : ∀ {s a bs}, Kept q s → Kept q (State.qsWords k s a bs) := by
  induction k with
  | zero => exact fun h => h
  | succ k ih =>
    intro s a bs h
    unfold State.qsWords
    split
    · exact h
    · apply ih
      split
      · exact kept_fullWrite h
      · exact kept_accessErr h
    · exact kept_accessErr h

theorem kept_quadTakes {q s} (h : Kept q s) : Kept q (State.quadTakes s) := by
  unfold State.quadTakes
  repeat' with_reducible (first
    | assumption | apply kept_modHif | exact kept_mk (by assumption)
    | (extract_lets +onlyGivenNames x; refine kept_cut (q := q) (x := x) ?_ (fun _ => ?_); unfold x; clear x; rotate_left; clear_value x)
    | (extract_lets +onlyGivenNames x; clear_value x) | extract_lets +onlyGivenNames _)

theorem kept_qsWriteTo {q s a1 a2} (h : Kept q s) : Kept q (State.qsWriteTo s a1 a2) := by
  unfold State.qsWriteTo
  repeat' with_reducible (first
    | assumption | apply kept_accessErr | apply kept_quadTakes | apply kept_qsWords | split)

theorem kept_qsReadFrom {q s a1 a2} (h : Kept q s) : Kept q (State.qsReadFrom s a1 a2) := by
  unfold State.qsReadFrom
  repeat' with_reducible (first
    | assumption | apply kept_readSpan | apply kept_emit | refine kept_of_snd (kept_readSpan ?_) (by assumption)
    | exact kept_mk (by assumption)
    | (extract_lets +onlyGivenNames x; refine kept_cut (q := q) (x := x) ?_ (fun _ => ?_); unfold x; clear x; rotate_left; clear_value x)
    | (extract_lets +onlyGivenNames x; clear_value x) | extract_lets +onlyGivenNames _)

theorem kept_barWrite {q ws} : ∀ {s a}, Kept q s → Kept q (State.barWrite s a ws) := by
  induction ws with
  | nil => exact fun h => h
  | cons x l ih =>
    intro s a h
    unfold State.barWrite
    apply ih
    split
    · exact kept_fullWrite h
    · split
      · exact h
      · exact kept_hostWakes (kept_accessErr h)

theorem kept_endpointReset {q s} (h : Kept q s) : Kept q (State.endpointReset s) := by
  unfold State.endpointReset
  repeat' with_reducible (first
    | assumption | apply kept_set | apply kept_modHif | exact kept_mk (by assumption)
    | (extract_lets +onlyGivenNames x; refine kept_cut (q := q) (x := x) ?_ (fun _ => ?_); unfold x; clear x; rotate_left; clear_value x)
    | (extract_lets +onlyGivenNames x; clear_value x) | extract_lets +onlyGivenNames _)

theorem kept_sendHeld {q s} (h : Kept q s) : Kept q (State.sendHeld s) := by
  unfold State.sendHeld
  repeat' with_reducible (first
    | assumption | apply kept_modHif | apply kept_sendMsi | exact kept_mk (by assumption) | refine kept_foldl ?_ (fun _ _ _ => ?_)
    | (extract_lets +onlyGivenNames x; refine kept_cut (q := q) (x := x) ?_ (fun _ => ?_); unfold x; clear x; rotate_left; clear_value x)
    | (extract_lets +onlyGivenNames x; clear_value x) | extract_lets +onlyGivenNames _ | split)

theorem kept_putConfig {q s a1 a2} (h : Kept q s) : Kept q (State.putConfig s a1 a2) := by
  unfold State.putConfig
  repeat' with_reducible (first
    | assumption | apply kept_modHif | exact kept_mk (by assumption) | refine kept_foldl ?_ (fun _ _ _ => ?_)
    | (extract_lets +onlyGivenNames x; refine kept_cut (q := q) (x := x) ?_ (fun _ => ?_); unfold x; clear x; rotate_left; clear_value x)
    | (extract_lets +onlyGivenNames x; clear_value x) | extract_lets +onlyGivenNames _ | split)

theorem kept_showGranted {q s} (h : Kept q s) : Kept q (State.showGranted s) := by
  unfold State.showGranted
  repeat' with_reducible (first
    | assumption | apply kept_sendHeld | apply kept_set
    | (extract_lets +onlyGivenNames x; refine kept_cut (q := q) (x := x) ?_ (fun _ => ?_); unfold x; clear x; rotate_left; clear_value x)
    | (extract_lets +onlyGivenNames x; clear_value x) | extract_lets +onlyGivenNames _ | split)

theorem kept_configWrite {q s a1 a2 a3} (h : Kept q s) : Kept q (State.configWrite s a1 a2 a3) := by
  unfold State.configWrite
  repeat' with_reducible (first
    | assumption | apply kept_bumpFree | apply kept_putConfig | apply kept_showGranted | apply kept_sendHeld
    | exact kept_mk (by assumption)
    | (extract_lets +onlyGivenNames x; refine kept_cut (q := q) (x := x) ?_ (fun _ => ?_); unfold x; clear x; rotate_left; clear_value x)
    | (extract_lets +onlyGivenNames x; clear_value x) | extract_lets +onlyGivenNames _ | split)

theorem kept_execHpbLowHalfWrite {q a1 a2 s} (h : Kept q s) : Answers q (execHpbLowHalfWrite a1 a2 s) := by
  unfold execHpbLowHalfWrite
  repeat' with_reducible (first
    | assumption | apply answers_next | apply kept_hostWakes | apply kept_modHif | exact kept_mk (by assumption)
    | (extract_lets +onlyGivenNames x; refine kept_cut (q := q) (x := x) ?_ (fun _ => ?_); unfold x; clear x; rotate_left; clear_value x)
    | (extract_lets +onlyGivenNames x; clear_value x) | extract_lets +onlyGivenNames _ | split)

theorem kept_execHpbHighHalfWrite {q a1 a2 s} (h : Kept q s) : Answers q (execHpbHighHalfWrite a1 a2 s) := by
  unfold execHpbHighHalfWrite
  repeat' with_reducible (first
    | assumption | apply answers_next | apply kept_hpbHigh | split)

theorem kept_execHpbLowHalfRead {q a1 s} (h : Kept q s) : Answers q (execHpbLowHalfRead a1 s) := by
  unfold execHpbLowHalfRead
  repeat' with_reducible (first
    | assumption | apply answers_next | apply kept_hpbReadLow | split)

theorem kept_execHpbHighHalfRead {q a1 s} (h : Kept q s) : Answers q (execHpbHighHalfRead a1 s) := by
  unfold execHpbHighHalfRead
  repeat' with_reducible (first
    | assumption | apply answers_next | apply kept_hpbReadHigh | split)

theorem kept_execQsWrite {q a1 a2 s} (h : Kept q s) : Answers q (execQsWrite a1 a2 s) := by
  unfold execQsWrite
  repeat' with_reducible (first
    | assumption | apply answers_next | apply kept_hostWakes | apply kept_qsWriteTo | split)

theorem kept_execQsRead {q a1 a2 s} (h : Kept q s) : Answers q (execQsRead a1 a2 s) := by
  unfold execQsRead
  repeat' with_reducible (first
    | assumption | apply answers_next | apply kept_hostWakes | apply kept_bumpFree | apply kept_accessErr | apply kept_qsReadFrom
    | split)

theorem kept_execQsFastRead {q a1 a2 s} (h : Kept q s) : Answers q (execQsFastRead a1 a2 s) := by
  unfold execQsFastRead
  repeat' with_reducible (first
    | assumption | apply answers_next | apply kept_qsReadFrom | split)

theorem kept_execQsStatus {q a1 s} (h : Kept q s) : Answers q (execQsStatus a1 s) := by
  unfold execQsStatus
  repeat' with_reducible (first
    | assumption | apply answers_next | apply kept_emit | apply kept_hostWakes | apply kept_modHif | exact kept_mk (by assumption)
    | (extract_lets +onlyGivenNames x; refine kept_cut (q := q) (x := x) ?_ (fun _ => ?_); unfold x; clear x; rotate_left; clear_value x)
    | (extract_lets +onlyGivenNames x; clear_value x) | extract_lets +onlyGivenNames _ | split)

theorem kept_execQsModeReset {q s} (h : Kept q s) : Answers q (execQsModeReset s) := by
  unfold execQsModeReset
  repeat' with_reducible (first
    | assumption | apply answers_next | apply kept_hostWakes | apply kept_modHif | apply kept_setB | exact kept_mk (by assumption)
    | (extract_lets +onlyGivenNames x; refine kept_cut (q := q) (x := x) ?_ (fun _ => ?_); unfold x; clear x; rotate_left; clear_value x)
    | (extract_lets +onlyGivenNames x; clear_value x) | extract_lets +onlyGivenNames _ | split)

theorem kept_execPcieBar0Write {q a1 a2 s} (h : Kept q s) : Answers q (execPcieBar0Write a1 a2 s) := by
  unfold execPcieBar0Write
  repeat' with_reducible (first
    | assumption | apply answers_next | apply kept_barWrite | split)

theorem kept_execPcieBar0Read {q a1 a2 s} (h : Kept q s) : Answers q (execPcieBar0Read a1 a2 s) := by
  unfold execPcieBar0Read
  apply answers_next
  split
  · exact kept_emit (kept_readSpan h)
  · exact h

theorem kept_execPcieBar2Read {q a1 a2 s} (h : Kept q s) : Answers q (execPcieBar2Read a1 a2 s) := by
  unfold execPcieBar2Read
  repeat' with_reducible (first
    | assumption | apply answers_next | apply kept_hostWakes | apply kept_emit | split)

theorem kept_execPcieBar2Write {q a1 s} (h : Kept q s) : Answers q (execPcieBar2Write a1 s) := by
  unfold execPcieBar2Write
  repeat' with_reducible (first
    | assumption | apply answers_next | apply kept_hostWakes | apply kept_accessErr | exact kept_mk (by assumption)
    | (extract_lets +onlyGivenNames x; refine kept_cut (q := q) (x := x) ?_ (fun _ => ?_); unfold x; clear x; rotate_left; clear_value x)
    | (extract_lets +onlyGivenNames x; clear_value x) | extract_lets +onlyGivenNames _ | split)

theorem kept_execPePerstAssert {q s} (h : Kept q s) : Answers q (execPePerstAssert s) := by
  unfold execPePerstAssert
  repeat' with_reducible (first
    | assumption | apply answers_next | apply kept_modHif | apply kept_endpointReset | exact kept_mk (by assumption)
    | (extract_lets +onlyGivenNames x; refine kept_cut (q := q) (x := x) ?_ (fun _ => ?_); unfold x; clear x; rotate_left; clear_value x)
    | (extract_lets +onlyGivenNames x; clear_value x) | extract_lets +onlyGivenNames _)

theorem kept_execPePerstRelease {q s} (h : Kept q s) : Answers q (execPePerstRelease s) := by
  unfold execPePerstRelease
  repeat' with_reducible (first
    | assumption | apply answers_next | apply kept_modHif | exact kept_mk (by assumption)
    | (extract_lets +onlyGivenNames x; refine kept_cut (q := q) (x := x) ?_ (fun _ => ?_); unfold x; clear x; rotate_left; clear_value x)
    | (extract_lets +onlyGivenNames x; clear_value x) | extract_lets +onlyGivenNames _ | split)

theorem kept_execPcieConfigRequest {q a1 a2 s} (h : Kept q s) : Answers q (execPcieConfigRequest a1 a2 s) := by
  unfold execPcieConfigRequest
  repeat' with_reducible (first
    | assumption | apply answers_next | apply kept_emit | apply kept_configWrite | exact kept_mk (by assumption)
    | (extract_lets +onlyGivenNames x; refine kept_cut (q := q) (x := x) ?_ (fun _ => ?_); unfold x; clear x; rotate_left; clear_value x)
    | (extract_lets +onlyGivenNames x; clear_value x) | extract_lets +onlyGivenNames _ | split)

theorem kept_execPcieLinkChange {q a1 a2 s} (h : Kept q s) : Answers q (execPcieLinkChange a1 a2 s) := by
  unfold execPcieLinkChange
  repeat' with_reducible (first
    | assumption | apply answers_next | apply kept_set | apply kept_setB | apply kept_endpointReset | split)

theorem kept_execUnmappedPageAccess {q a1 a2 s} (h : Kept q s) : Answers q (execUnmappedPageAccess a1 a2 s) := by
  unfold execUnmappedPageAccess
  extract_lets a t
  have ht : Kept q t := kept_ite (kept_accessErr h) h
  exact answers_next (kept_ite h (kept_ite ht (kept_emit ht)))

theorem kept_execCounter64LowRead {q a1 s} (h : Kept q s) : Answers q (execCounter64LowRead a1 s) := by
  unfold execCounter64LowRead
  repeat' with_reducible (first
    | assumption | apply answers_next | apply kept_fullRead | apply kept_emit
    | refine kept_of_snd (kept_fullRead ?_) (by assumption)
    | (extract_lets +onlyGivenNames x; refine kept_cut (q := q) (x := x) ?_ (fun _ => ?_); unfold x; clear x; rotate_left; clear_value x)
    | (extract_lets +onlyGivenNames x; clear_value x) | extract_lets +onlyGivenNames _)

theorem kept_execCounter64HighRead {q a1 s} (h : Kept q s) : Answers q (execCounter64HighRead a1 s) := by
  unfold execCounter64HighRead
  repeat' with_reducible (first
    | assumption | apply answers_next | apply kept_fullRead | apply kept_emit
    | refine kept_of_snd (kept_fullRead ?_) (by assumption)
    | (extract_lets +onlyGivenNames x; refine kept_cut (q := q) (x := x) ?_ (fun _ => ?_); unfold x; clear x; rotate_left; clear_value x)
    | (extract_lets +onlyGivenNames x; clear_value x) | extract_lets +onlyGivenNames _)

theorem kept_execRegisterWrite {q a1 a2 s} (h : Kept q s) : Answers q (execRegisterWrite a1 a2 s) := by
  unfold execRegisterWrite
  repeat' with_reducible (first
    | assumption | apply answers_next | apply kept_quadTakes | apply kept_fullWrite)

theorem kept_execEvtForce {q a1 a2 s} (h : Kept q s) : Answers q (execEvtForce a1 a2 s) := by
  unfold execEvtForce
  repeat' with_reducible (first
    | assumption | apply answers_next | apply kept_fullWrite)

theorem kept_execMsiEoi {q a1 s} (h : Kept q s) : Answers q (execMsiEoi a1 s) := by
  unfold execMsiEoi
  repeat' with_reducible (first
    | assumption | intro _ | apply answers_next | apply kept_whenReady | apply kept_eoi)

theorem kept_execMsiUnmask {q a1 s} (h : Kept q s) : Answers q (execMsiUnmask a1 s) := by
  unfold execMsiUnmask
  repeat' with_reducible (first
    | assumption | apply answers_next | apply kept_sendHeld | apply kept_putConfig | exact kept_mk (by assumption)
    | (extract_lets +onlyGivenNames x; refine kept_cut (q := q) (x := x) ?_ (fun _ => ?_); unfold x; clear x; rotate_left; clear_value x)
    | (extract_lets +onlyGivenNames x; clear_value x) | extract_lets +onlyGivenNames _ | split)

end Sys2Proof.Machine
end

