-- ==== Sys2Proof/Tests/Slice0.lean ====
section
/-! SUPPORT. Tests: for every statement with hypotheses one theorem `meets_…` that gives, clause by clause, a state and operands which
meet them (boundary numbers where the range has them); the checks of `Instr.wf`; and worked examples of the spec. -/

-- The theorems below are checked one after the other: each is a kernel evaluation.
set_option Elab.async false

namespace Sys2Proof.Tests

open Sys2Proof Sys2Proof.Machine

/-- A state with these fields set. -/
def put (l : List (Fld × Nat)) (s : State) : State := l.foldl (fun s f => s.set f.1 f.2) s

/-- READY, in SERVICE, SC in RUN. -/
def ready : State := State.reset |> put [(SYS.BOOT_STAT_READY, 1), (PWR.STATE_STATE, 3), (SAF.STAT_SC_STATE, 1)]

/-- The same on an ACTIVE unit. -/
def up : State := ready |> put [(BRV.STAT_ROLE, 2)]

/-- A doorway whose page is enabled, in a state. -/
def door (n : Nat) (d : DwState) : State := up |> put [(HDR.ENABLE (pgDW n), 1), (DW.STATE_DW_STATE n, d.code)]

/-- The bank in force holds these committed fields, and zeros. -/
def bank (l : List (Fld × Nat)) (s : State) : State :=
  let cells := l.foldl (fun m f => cellSet zeroWord m f.1.addr (fieldPut (cellGet zeroWord m f.1.addr) f.1.lo f.1.width f.2)) []
  { s with vlt := { s.vlt with a := { Bank.empty with good := true, magic := bankMagic, commit := bankCommit, cells := cells } } }

/-- A telegram of 36 bytes with the check of an identity. -/
def tel (id : Nat) (b : List Byte) : Telegram := ⟨b ++ wordBytes (shazoukCrc (BitVec.ofNat 32 id) b)⟩

/-- How many bytes the last read answered. -/
def lastLen (s : State) : Option Nat :=
  match s.out.getLast? with
  | some (.readData bs) => some bs.length
  | _ => none

/-! ### The states -/

def wDoorOn : State → State := put [(DW.STATE_SIDE_REL 7, 1), (DW.STATE_POS_VALID 7, 1), (DW.DIMAP_D 7 0, 0), (DW.DIMAP_D 7 1, 1), (DW.CFG_STEP_EN 7, 1), (DW.RCP_ENTRY_HOME 7, 4)]
def wLocked : State := door 7 .closedLocked |> wDoorOn |> fun s => { s with diFilt := 3 }
def wHeld : State := door 7 .held |> wDoorOn
def wOpen : State := door 7 .opn |> wDoorOn
def wUnlocking : State := door 7 .unlocking |> wDoorOn
def wLocking : State := door 7 .locking |> wDoorOn
def wOpensD : State := door 7 .opening |> wDoorOn
def wReopening : State := door 7 .reopening |> wDoorOn
def wClosing : State := door 7 .closing |> wDoorOn |> put [(DW.M_C_DOOR_M_EQ 7, 1)]
def wLearning : State := door 7 .learning
def wHomingD : State := door 7 .homing
def wEgress : State := door 7 .egress
def wFaulted : State := door 7 .fault |> put [(DW.FAULT_CAUSE_CAUSE 7, 1)]
def wIsolated : State := door 7 .isolated |> put [(DW.DIMAP_D 7 0, 0), (DW.DIMAP_D 7 1, 1)]
def wBlocked : State := wLocked |> put [(DW.STATE_HOST_BLOCK 7, 1), (DW.CMD_STAT_SEQ 7, 65535), (DW.CMD_OP 7, 3)]
def wStandby : State := ready |> put [(BRV.STAT_ROLE, 1)]
def wSide : State := (wOpen |> put [(DW.CFG_AUTO_OPEN 7, 1), (DW.CFG_BTN_EN 7, 1)]) |> bank [(DW.CFG_SIDE 7, 1)]
def wShut : State := (door 7 .closedUnlocked |> put [(DW.STATE_SIDE_REL 7, 1)]) |> bank [(DW.CFG_SIDE 7, 1)]
def wFor : DwOp → State := fun p => wUnlocking.modDw 7 fun e => { e with purpose := p }
def wManual : State := door 7 .manual |> put [(DW.DIMAP_D 7 0, 0), (DW.DIMAP_D 7 1, 1)] |> fun s => s.modAx 14 fun e => { e with posValid := true }
def wWant : Want := { target := 5, limit := 0, closing := false, free := false, reopen := false, home := none, learn := false, resumed := false }
def wRetry : State := door 7 .opn |> put [(DW.STATE_STEP_STATE 7, 3)] |> fun s => (s.modAx 15 fun e => { e with want := some wWant, start := .ready }).modDw 7 fun e => { e with stepRetry := some 0 }
def wDwell : State := wOpen |> fun s => s.modDw 7 fun e => { e with reclose := some 3, testFrom := some 4, closeWait := some 5 }
def wLatch : State := wOpen |> fun s => s.modDw 7 fun e => { e with latchFrom := some 2 }
def wSect : State := door 7 .opening |> put [(DW.SECT_SECTION 7, 1)]
def wHoming : State := door 7 .homing |> fun s => s.modAx 14 fun e => { e with moving := true, kind := .home true }
def wStep : State := wSect |> put [(DW.SECT_STEP 7, 47), (DW.LSMAP_L 7 0, 47)] |> fun s => s.modDw 7 fun e => { e with run := 254 }
def wOp : Nat → Nat → State := fun w a => wStep |> put [(DW.RECIPE 7 94, w), (DW.RECIPE 7 95, a)]
def wEnd : Nat → DwState → State := fun k d => wStep |> put [(DW.SECT_SECTION 7, k), (DW.STATE_DW_STATE 7, d.code)]
def wWaitsD : Nat → Nat → State := fun w c => (wOp w c).modDw 7 fun e => { e with waitFrom := some 0 }
def wEdit : State := up |> put [(VLT.STAT_SESSION, 1), (DW.STATE_DW_STATE 7, 1), (DW.RCP_CTRL_REF_SEL 7, 1)]
def wObst : State := wOpen |> fun s => s.modDw 7 fun e => { e with obstStop := true }
def wMeas0 : State := up |> fun s => s.modAx 15 fun e => { e with start := .measuring }
def wMoving : State := up |> fun s => s.modAx 15 fun e => { e with moving := true }
def wPre : State := up |> fun s => s.modAx 15 fun e => { e with start := .precharge }
def wMeas : State := up |> fun s => s.modAx 15 fun e => { e with start := .measuring }
def wAlign : State := up |> fun s => s.modAx 15 fun e => { e with moving := true, kind := .align }
def wBrushed : State := up |> put [(AX.CFG_MOTOR 15, 1)]
def wOver : State := up |> put [(AX.FAULT_CAUSE 15, 1)]
def wGate : State := up |> put [(AX.STAT_GATE_EN 15, 1)]
def wTravel : State := door 7 .opn |> fun s => s.modAx 14 fun e => { e with moving := true, kind := .move, trajDone := true }
def wHall : State := up |> put [(HDR.ENABLE (pgFB 15), 1), (FB.CFG_TYPE 15, 1), (FB.HALL_SECTOR 15, 7), (AX.CFG_FB_SEL 14, 15)]
def wQuad : State := up |> put [(HDR.ENABLE (pgFB 15), 1), (FB.CFG_TYPE 15, 0), (FB.CFG_IDX_EN 15, 1), (AX.CFG_FB_SEL 14, 15)]
def wSsi : State := up |> put [(HDR.ENABLE (pgFB 15), 1), (FB.CFG_TYPE 15, 2), (FB.CFG_SSI_SHARE 15, 1), (FB.SSI_CFG_BITS 15, 12)]
def wListen : State := wSsi |> put [(BRV.STAT_ROLE, 1)]
def wBroken : State := wQuad |> put [(State.pairFlag 15 .a, 1), (FB.FAULT_CAUSE 15, 1)]
def wEnc : State := up |> put [(HDR.ENABLE 0x0F, 1), (ENC.CFG_EN 3, 1)] |> fun s => s.modEnc 3 fun e => { e with back := -1 }
def wPlain : State := wQuad |> put [(FB.CFG_IDX_EN 15, 0), (FB.COUNT 15, 2 ^ 32 - 1)]
def wSector : State := wHall |> fun s => s.modFb 15 fun e => { e with hallSec := some 0 }
def wOn : State := up |> put [(State.chStat 47, 2), (State.chOut 47, 1), (State.chRetry 47, 1)]
def wInrush : State := up |> put [(State.chStat 47, 1), (State.chOut 47, 1)]
def wTest : State := up |> put [(LSG.CH_CFG_OL_OFF_EN 3 11, 1)] |> fun s => s.modDie 3 fun d => { d with active := true }
def wDie : State := up |> put [(HDR.ENABLE (pgLSG 3), 1)] |> fun s => s.modDie 3 fun d => { d with active := true, alive := true, src := 4 ^ 11 }
def wLit : State := wDie |> put [(State.chStat 47, 2), (State.chOut 47, 1), (LSG.CH_STAT_LSIN 3 11, 1)]
def wWanted : State := wDie |> put [(LSG.CH_STAT_LSIN 3 11, 1), (State.chRetry 47, 1), (LSG.CH_MEAS_T 3 11, 1499)]
def wHot : State := wWanted |> put [(State.chStat 47, 5), (LSG.CH_MEAS_T 3 11, 1600)]
def wTripped : State := wWanted |> put [(State.chStat 47, 3)]
def wLatched : State := wWanted |> put [(State.chStat 47, 4), (State.chCause 47, 3)]
def wUv : State := wWanted |> put [(State.chStat 47, 6)]
def wHold : State := wDie |> fun s => s.modCh 47 fun e => { e with hold := some 0 }
def wFree : State := wDie |> fun s => { s with onBlocked := false }
def wOl : State := wOn |> put [(LSG.CH_CFG_OL_ON_EN 3 11, 1)]
def wDue : State := up |> put [(PZ.CTRL_FORCE_RUN 7, 1), (HDR.ENABLE 0x0D, 1), (HDR.ENABLE (pgPZ 7), 1)]
def wStop : State := up |> fun s => s.modPz 7 fun e => { e with due := true }
def wPre0 : State := up |> fun s => { s with oe := { s.oe with preSet := (false, true) } }
def wPass : ClosedPass := ⟨5, true, false, false, 0, false, [], none, 0, 0, 0⟩
def wRun : State := wDue |> put [(PZ.STAT_RUNNING 7, 1)] |> fun s => s.modPz 7 fun e => { e with due := true, closed := [wPass] }
def wRate : State := up |> fun s => { s with oe := { s.oe with next := some (133332, 3) } }
def wDown : State := up |> put [(OCC.FAULT_ACTIVE, 1)] |> fun s => { s with oe := { s.oe with down := true } }
def wStopped : State := up |> fun s => { s with oe := { s.oe with down := true, stopped := true, faults := [0] } }
def wOcc : State := up |> put [(OCC.FAULT_CAUSE, 3)]
def wLink : State := up |> put [(SL.CFG_PRESENT 15, 1), (HDR.ENABLE (pgSL 15), 1), (SL.LINK_STAT_LINK 15, 2), (SL.LINK_STAT_PWREN 15, 1), (PZ.STAT_RUNNING 7, 1)]
def wStart : FrameStartMsg := ⟨⟨false, 0x88B5, true, 1, 1, 32, 0⟩, 3, 28166, 100, 320, 240, 0, 0, 7⟩
def wRow : RowMsg := ⟨⟨false, 0x88B5, true, 1, 2, 968, 0⟩, 3, 0, List.replicate 320 0, List.replicate 320 0⟩
def wCal : CalMsg := ⟨⟨false, 0x88B5, true, 1, 3, 32, 0⟩, 9, 1, 1, 1, 1, 0, 6553, 1, crc32 (State.calBytes ⟨⟨false, 0x88B5, true, 1, 3, 32, 0⟩, 9, 1, 1, 1, 1, 0, 6553, 1, 0⟩)⟩
def wHead : State := wLink |> fun s => s.modSl 15 fun e => { e with calCrc := some 7 }
def wFrame : State := wHead |> fun s => s.modSl 15 fun e => { e with frame := some 3, slots := e.slots.set 3 (some ⟨wStart, [], false, false, 0⟩) }
def wNoLink : State := wLink |> put [(SL.LINK_STAT_LINK 15, 0)]
def wPodl : State := wLink |> fun s => s.modSl 15 fun e => { e with podl := [0, 0, 0] }
def wPodlOff : State := wLink |> put [(SL.LINK_STAT_PWRFLT 15, 1)] |> fun s => s.modSl 15 fun e => { e with podlOff := true }
def wSc : State := up |> put [(TIL.STAT_TRAC_REL, 1), (SAF.SELFTEST, 0x1FF)] |> bank [(DIN.SAFE 1, 0x80000000)]
def wDiag : State := wSc |> fun s => s.modSc fun c => { c with diag := 1 }
def wBooting : State := up |> put [(SAF.STAT_SC_STATE, 0), (SYS.BOOT_STAT_READY, 0)]
def wStageBad : State := wBooting |> fun s => { s with sc := { s.sc with tilAct := [3] } }
def wTrac : State := up |> put [(HDR.ENABLE 0x09, 1), (TIL.STAT_CAR_PROVEN, 1)] |> fun s => { s.modSc (fun c => { c with settle := some 0 }) with die := Vector.replicate 4 { s.die[0] with alive := true, active := true } }
def wRel : State := wTrac |> put [(TIL.STAT_TRAC_REL, 1)] |> bank [(TIL.CFG_FB_EN, 1), (TIL.CFG_LOOP_MODE, 1), (TIL.LOOP_CFG_LOOP_TP_W, 20)]
def wSrc : State := wRel |> fun s => s.modSc fun c => { c with srcOn := true }
def wIn : State := up |> put [(TIL.STAT_IN_PRESENT, 1)]
def wPulse : State := wRel |> fun s => s.modSc fun c => { c with pulses := [⟨.tracRel, false, false, c.tick⟩] }
def wPulse2 : State := wPulse |> fun s => s.modSc fun c => { c with failed := [48] }
def wSd : State := up |> put [(SAF.DEGR_CAUSE 7, 7), (AX.STAT_GATE_EN 14, 1), (AX.STAT_GATE_EN 15, 1), (HDR.ENABLE 0x0E, 1)] |> bank [(DIN.SAFE 1, 0x80000000), (DW.DIMAP_D 7 0, 63), (SAF.CFG_DEGR_TMAX, 60), (DIN.GRP_CFG_WET_I 3, 1)]
def wHeldD : State := wSd |> fun s => s.modSc fun c => { c with dw := c.dw.set 7 { c.dw[7] with degrHold := some 0 } }
def wWet : State := wSd |> put [(State.bitFld (DIN.WET_FAIL 0).addr 63, 1)] |> fun s => s.modSc fun c => { c with wetGood := c.wetGood.set 63 9, wetBad := 0x8000000000000000 }
def wWet2 : State := wWet |> put [(State.bitFld (DIN.WET_FAIL 0).addr 63, 0)]
def wStopSc : State := up |> put [(SAF.STAT_SC_STATE, 2), (TIL.STAT_TRAC_REL, 1), (AX.STAT_GATE_EN 15, 1)]
def wConn : State := up |> put [(STL.CONN_STAT_STATE 7, 1), (STL.CONN_RX_SEQ 7, 1)] |> bank [(STL.NODE_OWN_ID, 3), (STL.CONN_CFG_PEER_ID 7, 9), (STL.CONN_ID 7, 77), (STL.CONN_LIM_SEQ_WIN 7, 4), (STL.CONN_CFG_DW_MASK 7, 0x80), (STL.CONN_LIM_CMD_MASK 7, 1)] |> fun s => s.modConn 7 fun c => { c with sent := [(5, 0)], next := 2 ^ 32 - 1 }
def wConnect : Telegram := tel 77 ([1, 1, 9, 0, 3, 0, 0, 0, 2, 0, 0, 0, 5, 0, 0, 0] ++ List.replicate 20 0)
def wCommand : Telegram := tel 77 ([2, 1, 9, 0, 3, 0, 4, 0, 2, 0, 0, 0, 5, 0, 0, 0, 0, 0, 0, 0, 0x80, 1, 0] ++ List.replicate 13 0)
def wBadTel : Telegram := tel 78 ([1, 1, 9, 0, 3, 0, 0, 0, 2, 0, 0, 0, 5, 0, 0, 0] ++ List.replicate 20 0)
def wLive : State := wConn |> put [(STL.CONN_STAT_STATE 7, 2)]
def wWords : State := up |> fun s => s.modStl fun x => { x with words := List.replicate 9 0, tx := [(0, List.replicate 40 7)] }
def wBus : State := up |> put [(HDR.ENABLE (pgCAN 3), 1), (CAN.STAT_BUS 3, 2), (CAN.RULES_COUNT 3, 0), (CAN.CFG_NOMATCH 3, 4), (CAN.RAM_MAP_ROLE 3 15, 3), (CAN.RAM_MAP_QUEUE 3 15, 3), (CAN.QUEUE_STAT_COUNT 3 3, 62), (CAN.TLOG_STAT_COUNT 3, 1), (CAN.RAM_MAP_ROLE 3 14, 1), (CAN.LIMITS_WARN_TH 3, 96)]
def wFrameC : CanFrame := ⟨0, false, false, false, false, false, 1, 0, 0, 2047, 0, [1]⟩
def wNoMatch : State := wBus |> put [(CAN.CFG_NOMATCH 3, 0)]
def wOff : State := wBus |> put [(CAN.STAT_BUS 3, 4)]
def wOffA : State := wOff |> put [(CAN.CFG_BO_AUTO 3, 1)]
def wRecov : State := wBus |> put [(CAN.STAT_BUS 3, 5), (CAN.ERR_CNT_TEC 3, 256)]
def wJoin : State := wBus |> put [(CAN.STAT_BUS 3, 1), (CAN.ERR_CNT_TEC 3, 127), (CAN.ERR_CNT_REC 3, 127)]
def wCanF : State := wBus |> put [(CAN.FAULT_CAUSE 3, 2)]
def wRes : State := wBus |> put [(CAN.STLBUF_EN 3 7, 1), (CAN.STLBUF_BUF 3 7, 62)]
def wReq : State := wBus |> put [(State.txReqF 3 62, 1), (CAN.CFG_RETRY_MAX 3, 15)] |> fun s => s.modCan 3 fun e => { e with cur := some 62 }
def wMvb : State := up |> put [(HDR.ENABLE 0x48, 1), (MVB.CFG_LINE_A_EN, 1), (MVB.CFG_LINE_B_EN, 1), (MVB.CFG_DEV_ADDR, 4095), (MVB.STAT_TX_ON, 1), (MVB.PORT_CFG_DIR 255, 2), (MVB.PORT_CFG_FRESH_MAX 255, 1), (MVB.PORT_CFG_PORT_ADDR 255, 5), (MVB.PORT_CFG_FCODE 255, 4), (MVB.PORT_SEL_PORT, 255)]
def wMaster : State := wMvb |> fun s => { s with mvb := { s.mvb with master := some (4, 5) } }
def wMasterSrc : State := wMaster |> put [(MVB.PORT_CFG_DIR 255, 1)]
def wSource : State := wMvb |> put [(MVB.PORT_CFG_DIR 255, 1), (MVB.PORT_DATA 0, 9)]
def wMeasP : PantryMeas := ⟨[], 900, 0, 0, 0, 0, 0, 0, 0, 0, 0⟩
def wWaits : State := up |> fun s => { s with pan := { s.pan with reqs := [⟨3, 0, 40, true⟩, ⟨15, 0, 70, false⟩] } }
def wShed : State := up |> put [(HDR.ENABLE 0x06, 1), (HDR.ENABLE (pgLSG 3), 1), (HDR.ENABLE (pgLSG 0), 1), (PBS.CFG_BUDGET, 100), (PBS.P2_MASK1_LS, 0x8000), (PBS.P2_MASK0, 1), (State.onBit 47, 1), (State.onBit 0, 1), (State.chOut 0, 1), (LSG.CH_CFG_I_NOM 3 11, 20), (LSG.DIE_MEAS_VBAT 3, 2400), (PBS.ROT_MIN_OFF, 1)] |> fun s => { s with clk32 := 40000, pan := { s.pan with shed := [(47, 0)] }, ch := s.ch.set 47 { s.ch[47] with offAt := some 0 } }
def wLate : State := up |> put [(LDG.CFG_REFRESH_DUE, 365), (TMR.STAT_RTC_VALID, 1)] |> fun s => { s with rtc := 400 * dayMs, ldg := { s.ldg with day := 400, blocks := [⟨4, [], [], false, false, []⟩] } }
def wRecA : Record := ⟨false, false, false, 8, 0, 1, .event 1 2 3 4 5 6⟩
def wOwes : State := up |> fun s => { s with par := { s.par with owed := List.replicate 97 wRecA } }
def wHeat2 : State := up |> put [(PBS.HEAT_HEAT_STAGE, 2), (PWR.TEMP_D_TJ1, 1149), (PWR.PKG_PKG_P, 90), (PBS.THERM_PKG_MAX, 100), (PBS.HEAT_PKG_STAGE, 1)]
def wHeat1 : State := up |> put [(PBS.HEAT_HEAT_STAGE, 1), (PWR.TEMP_D_TJ1, 1049)]
def wNoPort : State := up |> put [(HIF.HOST_CFG_HOSTSEL, 3)]
def wHaltSc : State := up |> put [(SAF.STAT_SC_STATE, 3)]
def wWaking : State := up |> fun s => { s with cel := { s.cel with waking := true } }
def wInWatch : State := up |> put [(PWR.STATE_STATE, 2), (CEL.WAKE_EN_EN, 255), (CEL.DI_WAKE1, 0x80000000), (CEL.WAKE_EN_CAN_WAKE, 8)]
def wBusyMotion : State := up |> fun s => s.modAx 15 fun e => { e with moving := true }
def wInWatchOffer : State := wInWatch |> fun s => s.modDw 7 fun e => { e with offers := [State.offerOf .opn .telegram] }
def wInWatchWaking : State := wInWatch |> fun s => { s with cel := { s.cel with waking := true } }
def wCellar : State := wInWatch |> put [(PWR.STATE_STATE, 1)] |> fun s => { s with boot := { s.boot with held := true } }
def wCellarWaking : State := wCellar |> fun s => { s with cel := { s.cel with waking := true } }
def wOffCell : State := wCellar |> fun s => { s with cel := { s.cel with off := true, coreUp := false } }
def wNoCore : State := wCellar |> fun s => { s with cel := { s.cel with coreUp := false } }
def wNoCoreLow : State := wNoCore |> fun s => { s with boot := { s.boot with resetLow := true } }
def wSlow : State := up |> put [(TMR.SET_LO, 0xFFFFFFFF), (TMR.SET_HI_SET, 65535), (TMR.CTRL_SET, 1), (TMR.CTRL_ALARM_EN, 1)] |> fun s => { s with posted := [(0x4048, 7, 1), (0x3040, 9, 2)], boot := { s.boot with resetLow := true } }
def wAlarm : State := up |> put [(TMR.CTRL_ALARM_EN, 1)]
def wEdge : State := up |> fun s => { s with rtc := 2 ^ 48 - 1, rtcFrac := 32767999999, posted := [(0x4048, 7, 0), (0x3040, 9, 2)] }
def wBusyPage : State := up |> put [(HDR.BUSY 0x04, 1)]
def wPair : State := ready |> put [(BRV.CFG_PAIR, 1), (BRV.STAT_ROLE, 1), (HDR.ENABLE 0x0B, 1)] |> fun s => { s with clk32 := 100000, journal := [⟨⟨false, false, false, 8, 0, 1, .event 1 2 3 4 5 6⟩, false, 0, 0⟩] }
def wPairUp : State := wPair |> put [(BRV.STAT_ROLE, 2)]
def wPairB : State := wPairUp |> put [(BRV.STAT_UNITSEL, 1)]
def wMirror : MirrorFrame := ⟨[], 0, []⟩
def wRecB : Record := ⟨true, false, false, 7, 0, 1, .event 1 2 3 4 5 6⟩
def wVaultF : VaultFrame := ⟨[(0x40000, 5)], [], [], [], 9⟩
def wUnacked : State := wPair |> fun s => { s with par := { s.par with unacked := [(3, .catchup (some 4)), (65535, .catchup (some 5))] } }
def wLinks : State := wPair |> put [(BRV.LINK_STAT_TX_UP, 3), (BRV.LINK_STAT_RX_UP, 2), (BRV.STAT_PART_SEEN, 1)]
def wOneWay : State := wPair |> put [(BRV.LINK_STAT_TX_UP, 1), (BRV.STAT_PART_SEEN, 1)]
def wGone : State := wOneWay |> put [(BRV.LINK_STAT_LOST, 1)]
def wLock99 : State := wPair |> fun s => { s with par := { s.par with pwmGood := 99 } }
def wLockOn : State := wPair |> put [(BRV.STAT_PWM_LOCK, 1)]
def wArrives : State := wPair |> put [(BRV.STAT_PART_SEEN, 1)] |> fun s => { s with par := { s.par with stateAt := some 100000, diffFrom := some 3 } }
def wDiffers : State := wArrives |> put [(BRV.STAT_ROLE, 0), (BRV.STAT_PART_ROLE, 2)]
def wMayHand : State := wPairUp |> put [(BRV.STAT_PART_ROLE, 1), (BRV.STAT_HASH_MATCH, 1), (BRV.STAT_PWM_LOCK, 1), (BRV.GRADE_PART, 1)] |> fun s => { s with par := { s.par with leadFrom := some 5 } }
def wDecided : State := wMayHand |> put [(AX.STAT_GATE_EN 15, 1), (AX.STAT_OWNED 15, 1)] |> fun s => { s with par := { s.par with decided := some (5, 2) } }
def wHandOverlap : State := wDecided |> fun s => { s with par := { s.par with overlap := true } }
def wSynced : State := wPair |> put [(BRV.STAT_ROLE, 0), (BRV.STAT_PART_ROLE, 2), (BRV.STAT_HASH_MATCH, 1), (BRV.STAT_PWM_LOCK, 1)] |> fun s => { s with par := { s.par with mirror := some wMirror, asked := true } }
def wOut : State := wPair |> put [(BRV.STAT_ROLE, 3)]
def wTesting : State := wPair |> put [(PBS.P3_STAT_DUE, 15)] |> fun s => { s with par := { s.par with testing := true } }
def wCompat : State := up |> put [(BRV.CFG_COMPAT, 1), (BRV.GRADE_OWN, 15)]
def wBrvF : State := up |> put [(BRV.FAULT_CAUSE, 7)]
def wIncoming : State := wPair |> fun s => { s with par := { s.par with incoming := some (5, 2) } }
def wAlone : State := wPair |> put [(BRV.STAT_ROLE, 0), (BRV.STAT_PART_SEEN, 1)]
def wPl : Payload := .event 1 2 3 4 5 6
def wRecJ : Record := ⟨false, false, false, 8, 0, 1, .event 1 2 3 4 5 6⟩
def wPlBig : Payload := .summary (List.replicate 112 1)
def wJFull : State := up |> fun s => { s with journal := List.replicate 1024 ⟨wRecJ, false, 0, 0⟩ }
def wJLast : State := up |> fun s => { s with journal := List.replicate 1023 ⟨wRecJ, false, 0, 0⟩ }
def wJPage : State := up |> fun s => { s with journal := List.replicate 257 ⟨wRecJ, false, 0, 0⟩ }
def wBlocks : State := up |> put [(LDG.CFG_REFRESH_DUE, 365), (TMR.STAT_RTC_VALID, 1)] |> fun s => { s with rtc := 400 * dayMs, ldg := { s.ldg with day := 400, blocks := [⟨390, [[wRecJ]], [], false, true, []⟩, ⟨35, [[wRecJ], [wRecJ, wRecJ], []], [1], false, false, [1]⟩] } }
def wCheckRun : State := wBlocks |> put [(LDG.STAT_CHECKING, 1)]
def wNewDay : State := wBlocks |> fun s => { s with ldg := { s.ldg with day := 399 } }
def wNoRtc : State := wNewDay |> put [(TMR.STAT_RTC_VALID, 0)]
def wQry : State := wBlocks |> put [(LDG.QRY_SEL_TYPES, 63), (LDG.QRY_SEL_DW, 511), (LDG.QRY_SEL_UNIT, 3), (LDG.QRY_TO_LO, 0xFFFFFFFF), (LDG.QRY_MAX_MAX, 2)]
def wQryDma : State := wQry |> fun s => { s with ldg := { s.ldg with dma := true, staged := List.replicate 16 5 } }
def wWin : State := wQry |> put [(LDG.RD_STAT_LEFT, 1)] |> fun s => { s with ldg := { s.ldg with staged := List.replicate 16 5 } }
def wWin15 : State := wWin |> put [(LDG.RD_STAT_WORD, 15)]
def wDmaHeld : State := wQryDma |> fun s => { s with ldg := { s.ldg with held := some .first } }
def wDmaOk : State := wQry |> put [(HIF.HOST_CFG_HOSTSEL, 2), (LDG.DMA_ADDR_LO, 0xFFFFFFC0), (LDG.DMA_ADDR_HI, 0xFFFFFFFF)]
def wDmaOdd : State := wQry |> put [(HIF.HOST_CFG_HOSTSEL, 2), (LDG.DMA_ADDR_LO, 32)]
def wLdgWarn : State := up |> put [(LDG.STAT_WARN, 63), (LDG.FAULT_CAUSE, 2), (LDG.FAULT_LOC, 9)]
def wReq1 : State := wQry |> fun s => { s with ldg := { s.ldg with req := some .first, query := ⟨[wRecJ, wRecJ, { wRecJ with rseq := 9 }]⟩ } }
def wReqBad : State := wReq1 |> put [(LDG.QRY_FROM_HI_FROM, 65535)]
def wPw8 : State := up |> fun s => { s with vlt := { s.vlt with pw := List.replicate 8 1 } }
def wSess : State := up |> put [(VLT.STAT_SESSION, 1)]
def wCommitting : State := wSess |> put [(VLT.STAT_COMMITTING, 1)]
def wDelivery : State := wSess |> put [(VLT.STAT_DELIVERY, 1)]
def wPushed : State := up |> fun s => { s with vlt := { s.vlt with pushes := Vector.replicate 4 9 } }
def wLockedOut : State := up |> put [(VLT.STAT_LOCKOUT, 1), (VLT.LOCK_LEFT_S, 60)]
def wChecking : State := up |> bank [] |> put [(VLT.PW_LEN_LEN, 1)] |> fun s => { s with vlt := { s.vlt with checking := true, pw := [5] } }
def wRight : State := wChecking |> fun s => { s with vlt := { s.vlt with a := { s.vlt.a with hash := sha256 [5] } } }
def wWrong5 : State := wChecking |> put [(VLT.STAT_FAIL_CNT, 4)]
def wBuilding : State := wCommitting |> fun s => { s with vlt := { s.vlt with building := some { Bank.empty with gen := 7, good := true, magic := bankMagic, commit := bankCommit } } }
def wUnconf : State := wPushed |> put [(VLT.STAT_FS_UNCONF, 8)]
def wHalt : State := up |> put [(SAF.STAT_SC_STATE, 3)]
def wHeldLow : State := up |> put [(CEL.RST_CAUSE_CAUSE, 3)] |> fun s => { s with boot := { s.boot with resetLow := true, held := true } }
def wLoaded : State := State.reset |> put [(PWR.STATE_STATE, 3), (SAF.STAT_SC_STATE, 1)] |> fun s => { s with boot := { s.boot with loaded := true } }
def wKeyed : State := up |> fun s => { s with clk32 := 327, boot := { s.boot with srstAt := some 0 } }
def wKeyedHalt : State := wKeyed |> put [(SAF.STAT_SC_STATE, 3)]
def wTrip3 : State := up |> put [(SAF.STAT_SC_STATE, 2), (AX.STAT_GATE_EN 15, 1)] |> fun s => { s with clk32 := 117964799, trips := [0, 1, 2] }
def wTrip2 : State := wTrip3 |> fun s => { s with clk32 := 117964800 }
def wFwBusy : State := up |> put [(SYS.FW_STAT_BUSY, 1)]
def wFwAddr : State := up |> put [(SYS.FW_ADDR_ADDR, 2 ^ 22 - 1), (SYS.FW_STAT_STATE, 1)]
def wVerified : State := up |> put [(SYS.FW_STAT_STATE, 2)]
def wVerSess : State := wVerified |> put [(VLT.STAT_SESSION, 1)]
def wVerBusy : State := wVerSess |> fun s => s.modAx 15 fun e => { e with moving := true }
def wTrialB : State := up |> put [(SYS.BOOT_STAT_SLOT, 1), (SYS.FW_STAT_TRIAL, 1)]
def wErasing : State := wFwBusy |> fun s => { s with boot := { s.boot with cmd := some .erase } }
def wVerifyB : State := wFwBusy |> fun s => { s with boot := { s.boot with cmd := some .verify } }
def wVerifyA : State := wVerifyB |> put [(SYS.BOOT_STAT_SLOT, 1)]
def wDies : State := up |> put [(TIL.STAT_TRAC_REL, 1), (AX.STAT_GATE_EN 15, 1), (AX.FAULT_CAUSE 15, 11), (AX.FAULT_ACTIVE 15, 1)] |> fun s => s.modSc fun c => { c with srcOn := true }
def wEcc : State := up |> put [(VLT.ECC_CNT, 0xFFFFFFFF)]
def wEccLog : State := wEcc |> fun s => { s with vlt := { s.vlt with log := [wRecJ, wRecJ] } }
def wEccPages : State := wEcc |> fun s => { s with ldg := { s.ldg with blocks := [⟨0, [[], []], [], false, false, []⟩] } }
def wEccDoor : State := door 7 .closing
def wPbsOff : State := up |> put [(PBS.STAT_P_NOW, 9)]
def wSlOpen : State := up |> put [(VLT.STAT_SESSION, 1)]
def wPassT : State := up |> put [(PZ.PASS_T_LO 7, 5), (PZ.PASS_T_HI 7, 6)]
def wFrozenHi : State := wPassT |> fun s => { s with hiFrozen := [((PZ.PASS_T_LO 7).addr + 4, 9)] }
def wCmOn : State := up |> put [(HDR.ENABLE 0xBF, 1)]
def wEdge2 : State := up |> put [(DW.EDGE_CFG_MODE 7, 2), (DW.DIMAP_D 7 8, 3), (DW.DIMAP_D 7 9, 255)]
def wOpening : State := door 7 .opening
def wHpbHold : State := up |> fun s => { s with hif := { s.hif with hold := some (0x06048, 0x1234), latch := some (0x06048, 0xABCD) } }
def wQspi : State := up |> put [(HIF.HOST_CFG_HOSTSEL, 1)]
def wQsQuad : State := wQspi |> put [(HIF.QS_CTRL_QUAD, 1)] |> fun s => { s with hif := { s.hif with quad := true } }
def wPcie : State := up |> put [(HIF.HOST_CFG_HOSTSEL, 2), (HIF.PE_STAT_GRANTED, 16), (HIF.PE_STAT_LINK_UP, 1)] |> fun s => { s with boot := { s.boot with loaded := true } }
def wPcieEarly : State := wPcie |> fun s => { s with boot := { s.boot with loaded := false } }
def wMasked : State := wPcie |> put [(HDR.EVT_EN_BIT 0x01 0, 1), (HDR.EVT_BIT 0x01 0, 1), (EVA.ROUTE_ROUTE 91, 0xF3)] |> fun s => { s with pcieMask := 0xFFFF, hif := { s.hif with msiHeld := 0x8000 } }
def wUnmasked : State := wMasked |> fun s => { s with pcieMask := 0 }
def wPerst : State := wPcie |> fun s => { s with hif := { s.hif with perst := true } }
def wBlk : State := up |> put [(DW.STATE_HOST_BLOCK 7, 1), (HIF.WD_MAX_MAX, 100), (HIF.WD_BOOT_BOOT, 60000)] |> fun s => { s with clk32 := 32768000, hif := { s.hif with wdAt := 32768000 - 32768, wdBoot := 1000 } }
def wBlkLate : State := wBlk |> fun s => { s with hif := { s.hif with wdBoot := 999 } }
def wWdExp : State := wBlk |> put [(HIF.WD_STAT_STATE, 2), (HIF.WD_EXP_CNT_COUNT, 65535)]
def wWdRun : State := wBlk |> put [(HIF.WD_STAT_STATE, 1), (HIF.WD_STAT_NEXT, 1), (HIF.WD_EXP_CNT_COUNT, 65535)] |> fun s => { s with hif := { s.hif with wdAt := 32768000 - 3277, wdMin := 50, wdMax := 101 } }
def wWdEarly : State := wWdRun |> fun s => { s with hif := { s.hif with wdMin := 101 } }
def wWdLate : State := wWdRun |> fun s => { s with hif := { s.hif with wdMax := 100 } }
def wUnsafe : State := up |> put [(DW.DIMAP_D 7 9, 63), (DW.EDGE_CFG_MODE 7, 2)]
def wPassQ : State := wFrozenHi |> put [(HIF.HOST_CFG_HOSTSEL, 1)]
def wPassE : State := wFrozenHi |> put [(HIF.HOST_CFG_HOSTSEL, 2)]

theorem meets_StepRunsFront :
    (({State.reset with pending := [.dclRise]} : State).pending = .dclRise :: []) := by decide +kernel

theorem meets_InvKept :
    (({State.reset with pending := [.dclRise]} : State).regsWf = true ∧ ({State.reset with pending := [.dclRise]} : State).queueWf = true) := by decide +kernel

theorem meets_DoorwayCommandsAct_1 :
    (wLocked.running = true ∧ wLocked.active = true ∧ wLocked.par.overlap = false ∧ wLocked.pageOn (pgDW 7) = true ∧ wLocked.on (DW.STATE_HOST_BLOCK 7) = false ∧ wLocked.released 7 = true ∧ wLocked.dcl = false ∧ wLocked.dwState 7 = .closedLocked) ∧
    (wLocking.running = true ∧ wLocking.active = true ∧ wLocking.par.overlap = false ∧ wLocking.pageOn (pgDW 7) = true ∧ wLocking.on (DW.STATE_HOST_BLOCK 7) = false ∧ wLocking.released 7 = true ∧ wLocking.dcl = false ∧ wLocking.dwState 7 = .locking) ∧
    (wUnlocking.running = true ∧ wUnlocking.active = true ∧ wUnlocking.par.overlap = false ∧ wUnlocking.pageOn (pgDW 7) = true ∧ wUnlocking.on (DW.STATE_HOST_BLOCK 7) = false ∧ wUnlocking.released 7 = true ∧ wUnlocking.dcl = false ∧ wUnlocking.dwState 7 = .unlocking) ∧
    (wOpensD.running = true ∧ wOpensD.active = true ∧ wOpensD.par.overlap = false ∧ wOpensD.pageOn (pgDW 7) = true ∧ wOpensD.on (DW.STATE_HOST_BLOCK 7) = false ∧ wOpensD.released 7 = true ∧ wOpensD.dcl = false ∧ wOpensD.dwState 7 = .opening) := by decide +kernel

theorem meets_DoorwayCommandsAct_2 :
    (wOpen.running = true ∧ wOpen.active = true ∧ wOpen.par.overlap = false ∧ wOpen.pageOn (pgDW 7) = true ∧ wOpen.on (DW.STATE_HOST_BLOCK 7) = false ∧ wOpen.released 7 = true ∧ wOpen.dcl = false ∧ wOpen.dwState 7 = .opn) ∧
    (wHeld.running = true ∧ wHeld.active = true ∧ wHeld.par.overlap = false ∧ wHeld.pageOn (pgDW 7) = true ∧ wHeld.on (DW.STATE_HOST_BLOCK 7) = false ∧ wHeld.released 7 = true ∧ wHeld.dcl = false ∧ wHeld.dwState 7 = .held) ∧
    (wClosing.running = true ∧ wClosing.active = true ∧ wClosing.par.overlap = false ∧ wClosing.pageOn (pgDW 7) = true ∧ wClosing.on (DW.STATE_HOST_BLOCK 7) = false ∧ wClosing.released 7 = true ∧ wClosing.dcl = false ∧ wClosing.dwState 7 = .closing) ∧
    (wReopening.running = true ∧ wReopening.active = true ∧ wReopening.par.overlap = false ∧ wReopening.pageOn (pgDW 7) = true ∧ wReopening.on (DW.STATE_HOST_BLOCK 7) = false ∧ wReopening.released 7 = true ∧ wReopening.dcl = false ∧ wReopening.dwState 7 = .reopening) := by decide +kernel

theorem meets_DoorwayCommandsAct_3 :
    (wHeld.running = true ∧ wHeld.active = true ∧ wHeld.par.overlap = false ∧ wHeld.pageOn (pgDW 7) = true ∧ wHeld.on (DW.STATE_HOST_BLOCK 7) = false ∧ wHeld.released 7 = true ∧ wHeld.dcl = false ∧ wHeld.get (DW.RCP_ENTRY_HOME 7) ≠ 63 ∧ wHeld.dwState 7 = .held ∧ wHeld.lockedIn 7 = false) ∧
    (wLocked.running = true ∧ wLocked.active = true ∧ wLocked.par.overlap = false ∧ wLocked.pageOn (pgDW 7) = true ∧ wLocked.on (DW.STATE_HOST_BLOCK 7) = false ∧ wLocked.released 7 = true ∧ wLocked.dcl = false ∧ wLocked.get (DW.RCP_ENTRY_HOME 7) ≠ 63 ∧ wLocked.dwState 7 = .closedLocked ∧ wLocked.lockedIn 7 = true) ∧
    (wLocked.running = true ∧ wLocked.active = true ∧ wLocked.par.overlap = false ∧ wLocked.pageOn (pgDW 7) = true ∧ wLocked.on (DW.STATE_HOST_BLOCK 7) = false ∧ wLocked.released 7 = true ∧ wLocked.dcl = false ∧ wLocked.dwState 7 = .closedLocked ∧ wLocked.on (DW.STATE_POS_VALID 7) = true) := by decide +kernel

theorem meets_DoorwayCommandsAct_4 :
    (wLocked.running = true ∧ wLocked.active = true ∧ wLocked.par.overlap = false ∧ wLocked.pageOn (pgDW 7) = true ∧ wLocked.on (DW.STATE_HOST_BLOCK 7) = false ∧ wLocked.released 7 = true ∧ wLocked.dcl = false ∧ wLocked.dwState 7 = .closedLocked) ∧
    (wOpen.running = true ∧ wOpen.active = true ∧ wOpen.par.overlap = false ∧ wOpen.pageOn (pgDW 7) = true ∧ wOpen.on (DW.STATE_HOST_BLOCK 7) = false ∧ wOpen.dwState 7 = .opn ∧ wOpen.on (DW.STATE_CLOSE_PEND 7) = false) ∧
    (wHeld.running = true ∧ wHeld.active = true ∧ wHeld.par.overlap = false ∧ wHeld.pageOn (pgDW 7) = true ∧ wHeld.on (DW.STATE_HOST_BLOCK 7) = false ∧ wHeld.dwState 7 = .held ∧ wHeld.on (DW.STATE_CLOSE_PEND 7) = false ∧ wHeld.on (DW.STATE_RESUME_PEND 7) = false) ∧
    (wOpensD.running = true ∧ wOpensD.active = true ∧ wOpensD.par.overlap = false ∧ wOpensD.pageOn (pgDW 7) = true ∧ wOpensD.on (DW.STATE_HOST_BLOCK 7) = false ∧ wOpensD.dwState 7 = .opening) ∧
    (wReopening.running = true ∧ wReopening.active = true ∧ wReopening.par.overlap = false ∧ wReopening.pageOn (pgDW 7) = true ∧ wReopening.on (DW.STATE_HOST_BLOCK 7) = false ∧ wReopening.dwState 7 = .reopening) := by decide +kernel

theorem meets_DoorwayCommandsAct_5 :
    (wUnlocking.running = true ∧ wUnlocking.active = true ∧ wUnlocking.par.overlap = false ∧ wUnlocking.pageOn (pgDW 7) = true ∧ wUnlocking.on (DW.STATE_HOST_BLOCK 7) = false ∧ wUnlocking.dwState 7 = .unlocking) ∧
    (wClosing.running = true ∧ wClosing.active = true ∧ wClosing.par.overlap = false ∧ wClosing.pageOn (pgDW 7) = true ∧ wClosing.on (DW.STATE_HOST_BLOCK 7) = false ∧ wClosing.dwState 7 = .closing) ∧
    (wOpen.running = true ∧ wOpen.active = true ∧ wOpen.par.overlap = false ∧ wOpen.pageOn (pgDW 7) = true ∧ wOpen.on (DW.STATE_HOST_BLOCK 7) = false ∧ wOpen.dwState 7 = .opn ∧ wOpen.on (DW.STATE_CLOSE_PEND 7) = false) ∧
    (wHeld.running = true ∧ wHeld.active = true ∧ wHeld.par.overlap = false ∧ wHeld.pageOn (pgDW 7) = true ∧ wHeld.on (DW.STATE_HOST_BLOCK 7) = false ∧ wHeld.dwState 7 = .held ∧ wHeld.on (DW.STATE_CLOSE_PEND 7) = false ∧ wHeld.on (DW.STATE_RESUME_PEND 7) = false) ∧
    (wOpensD.running = true ∧ wOpensD.active = true ∧ wOpensD.par.overlap = false ∧ wOpensD.pageOn (pgDW 7) = true ∧ wOpensD.on (DW.STATE_HOST_BLOCK 7) = false ∧ wOpensD.dwState 7 = .opening) := by decide +kernel

theorem meets_DoorwayCommandsAct_6 :
    (wReopening.running = true ∧ wReopening.active = true ∧ wReopening.par.overlap = false ∧ wReopening.pageOn (pgDW 7) = true ∧ wReopening.on (DW.STATE_HOST_BLOCK 7) = false ∧ wReopening.dwState 7 = .reopening) ∧
    (wUnlocking.running = true ∧ wUnlocking.active = true ∧ wUnlocking.par.overlap = false ∧ wUnlocking.pageOn (pgDW 7) = true ∧ wUnlocking.on (DW.STATE_HOST_BLOCK 7) = false ∧ wUnlocking.dwState 7 = .unlocking) ∧
    (wClosing.running = true ∧ wClosing.active = true ∧ wClosing.par.overlap = false ∧ wClosing.pageOn (pgDW 7) = true ∧ wClosing.on (DW.STATE_HOST_BLOCK 7) = false ∧ wClosing.dwState 7 = .closing) ∧
    (wUnlocking.running = true ∧ wUnlocking.active = true ∧ wUnlocking.par.overlap = false ∧ wUnlocking.pageOn (pgDW 7) = true ∧ wUnlocking.on (DW.STATE_HOST_BLOCK 7) = false ∧ wUnlocking.dwState 7 = .unlocking) ∧
    (wReopening.running = true ∧ wReopening.active = true ∧ wReopening.par.overlap = false ∧ wReopening.pageOn (pgDW 7) = true ∧ wReopening.on (DW.STATE_HOST_BLOCK 7) = false ∧ wReopening.dwState 7 = .reopening) ∧
    (wHomingD.running = true ∧ wHomingD.active = true ∧ wHomingD.par.overlap = false ∧ wHomingD.pageOn (pgDW 7) = true ∧ wHomingD.on (DW.STATE_HOST_BLOCK 7) = false ∧ wHomingD.dwState 7 = .homing) := by decide +kernel

theorem meets_DoorwayCommandsAct_7 :
    (wLearning.running = true ∧ wLearning.active = true ∧ wLearning.par.overlap = false ∧ wLearning.pageOn (pgDW 7) = true ∧ wLearning.on (DW.STATE_HOST_BLOCK 7) = false ∧ wLearning.dwState 7 = .learning) ∧
    (wOpen.running = true ∧ wOpen.active = true ∧ wOpen.par.overlap = false ∧ wOpen.pageOn (pgDW 7) = true ∧ wOpen.on (DW.STATE_HOST_BLOCK 7) = false ∧ wOpen.dwState 7 = .opn) ∧
    (wHeld.running = true ∧ wHeld.active = true ∧ wHeld.par.overlap = false ∧ wHeld.pageOn (pgDW 7) = true ∧ wHeld.on (DW.STATE_HOST_BLOCK 7) = false ∧ wHeld.dwState 7 = .held) ∧
    (wLocked.running = true ∧ wLocked.active = true ∧ wLocked.par.overlap = false ∧ wLocked.pageOn (pgDW 7) = true ∧ wLocked.on (DW.STATE_HOST_BLOCK 7) = false ∧ wLocked.dwState 7 = .closedLocked) ∧
    (wEgress.running = true ∧ wEgress.active = true ∧ wEgress.par.overlap = false ∧ wEgress.pageOn (pgDW 7) = true ∧ wEgress.on (DW.STATE_HOST_BLOCK 7) = false ∧ wEgress.dwState 7 = .egress) ∧
    (wFaulted.running = true ∧ wFaulted.active = true ∧ wFaulted.par.overlap = false ∧ wFaulted.pageOn (pgDW 7) = true ∧ wFaulted.on (DW.STATE_HOST_BLOCK 7) = false ∧ wFaulted.dwState 7 = .fault) := by decide +kernel

theorem meets_DoorwayCommandsAct_8 :
    (wLocked.running = true ∧ wLocked.active = true ∧ wLocked.par.overlap = false ∧ wLocked.pageOn (pgDW 7) = true ∧ wLocked.on (DW.STATE_HOST_BLOCK 7) = false ∧ wLocked.dwState 7 = .closedLocked ∧ wLocked.closedIn 7 = true ∧ wLocked.lockedIn 7 = true) ∧
    (({wIsolated.modAx 14 (fun e => { e with posValid := false }) with diFilt := 0} : State).running = true ∧ ({wIsolated.modAx 14 (fun e => { e with posValid := false }) with diFilt := 0} : State).active = true ∧ ({wIsolated.modAx 14 (fun e => { e with posValid := false }) with diFilt := 0} : State).par.overlap = false ∧ ({wIsolated.modAx 14 (fun e => { e with posValid := false }) with diFilt := 0} : State).pageOn (pgDW 7) = true ∧ ({wIsolated.modAx 14 (fun e => { e with posValid := false }) with diFilt := 0} : State).on (DW.STATE_HOST_BLOCK 7) = false ∧ ({wIsolated.modAx 14 (fun e => { e with posValid := false }) with diFilt := 0} : State).dwState 7 = .isolated ∧ ({wIsolated.modAx 14 (fun e => { e with posValid := false }) with diFilt := 0} : State).role 7 3 = false ∧ ({wIsolated.modAx 14 (fun e => { e with posValid := false }) with diFilt := 0} : State).closedIn 7 = false ∧ ({wIsolated.modAx 14 (fun e => { e with posValid := false }) with diFilt := 0} : State).lockedIn 7 = false ∧ ({wIsolated.modAx 14 (fun e => { e with posValid := false }) with diFilt := 0} : State).ax[doorAxis 7].posValid = false) ∧
    (({wIsolated.modAx 14 (fun e => { e with posValid := true }) with diFilt := 0} : State).running = true ∧ ({wIsolated.modAx 14 (fun e => { e with posValid := true }) with diFilt := 0} : State).active = true ∧ ({wIsolated.modAx 14 (fun e => { e with posValid := true }) with diFilt := 0} : State).par.overlap = false ∧ ({wIsolated.modAx 14 (fun e => { e with posValid := true }) with diFilt := 0} : State).pageOn (pgDW 7) = true ∧ ({wIsolated.modAx 14 (fun e => { e with posValid := true }) with diFilt := 0} : State).on (DW.STATE_HOST_BLOCK 7) = false ∧ ({wIsolated.modAx 14 (fun e => { e with posValid := true }) with diFilt := 0} : State).dwState 7 = .isolated ∧ ({wIsolated.modAx 14 (fun e => { e with posValid := true }) with diFilt := 0} : State).role 7 3 = false ∧ ({wIsolated.modAx 14 (fun e => { e with posValid := true }) with diFilt := 0} : State).closedIn 7 = false ∧ ({wIsolated.modAx 14 (fun e => { e with posValid := true }) with diFilt := 0} : State).lockedIn 7 = false ∧ ({wIsolated.modAx 14 (fun e => { e with posValid := true }) with diFilt := 0} : State).ax[doorAxis 7].posValid = true) := by decide +kernel

theorem meets_DoorwayCommandsAct_9 :
    (({wIsolated.modAx 14 (fun e => { e with posValid := false }) with diFilt := 2} : State).running = true ∧ ({wIsolated.modAx 14 (fun e => { e with posValid := false }) with diFilt := 2} : State).active = true ∧ ({wIsolated.modAx 14 (fun e => { e with posValid := false }) with diFilt := 2} : State).par.overlap = false ∧ ({wIsolated.modAx 14 (fun e => { e with posValid := false }) with diFilt := 2} : State).pageOn (pgDW 7) = true ∧ ({wIsolated.modAx 14 (fun e => { e with posValid := false }) with diFilt := 2} : State).on (DW.STATE_HOST_BLOCK 7) = false ∧ ({wIsolated.modAx 14 (fun e => { e with posValid := false }) with diFilt := 2} : State).dwState 7 = .isolated ∧ ({wIsolated.modAx 14 (fun e => { e with posValid := false }) with diFilt := 2} : State).role 7 3 = false ∧ ({wIsolated.modAx 14 (fun e => { e with posValid := false }) with diFilt := 2} : State).closedIn 7 = false ∧ ({wIsolated.modAx 14 (fun e => { e with posValid := false }) with diFilt := 2} : State).lockedIn 7 = true ∧ ({wIsolated.modAx 14 (fun e => { e with posValid := false }) with diFilt := 2} : State).ax[doorAxis 7].posValid = false) ∧
    (({wIsolated.modAx 14 (fun e => { e with posValid := true }) with diFilt := 2} : State).running = true ∧ ({wIsolated.modAx 14 (fun e => { e with posValid := true }) with diFilt := 2} : State).active = true ∧ ({wIsolated.modAx 14 (fun e => { e with posValid := true }) with diFilt := 2} : State).par.overlap = false ∧ ({wIsolated.modAx 14 (fun e => { e with posValid := true }) with diFilt := 2} : State).pageOn (pgDW 7) = true ∧ ({wIsolated.modAx 14 (fun e => { e with posValid := true }) with diFilt := 2} : State).on (DW.STATE_HOST_BLOCK 7) = false ∧ ({wIsolated.modAx 14 (fun e => { e with posValid := true }) with diFilt := 2} : State).dwState 7 = .isolated ∧ ({wIsolated.modAx 14 (fun e => { e with posValid := true }) with diFilt := 2} : State).role 7 3 = false ∧ ({wIsolated.modAx 14 (fun e => { e with posValid := true }) with diFilt := 2} : State).closedIn 7 = false ∧ ({wIsolated.modAx 14 (fun e => { e with posValid := true }) with diFilt := 2} : State).lockedIn 7 = true ∧ ({wIsolated.modAx 14 (fun e => { e with posValid := true }) with diFilt := 2} : State).ax[doorAxis 7].posValid = true) ∧
    (({wIsolated.modAx 14 (fun e => { e with posValid := false }) with diFilt := 1} : State).running = true ∧ ({wIsolated.modAx 14 (fun e => { e with posValid := false }) with diFilt := 1} : State).active = true ∧ ({wIsolated.modAx 14 (fun e => { e with posValid := false }) with diFilt := 1} : State).par.overlap = false ∧ ({wIsolated.modAx 14 (fun e => { e with posValid := false }) with diFilt := 1} : State).pageOn (pgDW 7) = true ∧ ({wIsolated.modAx 14 (fun e => { e with posValid := false }) with diFilt := 1} : State).on (DW.STATE_HOST_BLOCK 7) = false ∧ ({wIsolated.modAx 14 (fun e => { e with posValid := false }) with diFilt := 1} : State).dwState 7 = .isolated ∧ ({wIsolated.modAx 14 (fun e => { e with posValid := false }) with diFilt := 1} : State).role 7 3 = false ∧ ({wIsolated.modAx 14 (fun e => { e with posValid := false }) with diFilt := 1} : State).closedIn 7 = true ∧ ({wIsolated.modAx 14 (fun e => { e with posValid := false }) with diFilt := 1} : State).lockedIn 7 = false ∧ ({wIsolated.modAx 14 (fun e => { e with posValid := false }) with diFilt := 1} : State).ax[doorAxis 7].posValid = false) := by decide +kernel

theorem meets_DoorwayCommandsAct_10 :
    (({wIsolated.modAx 14 (fun e => { e with posValid := true }) with diFilt := 1} : State).running = true ∧ ({wIsolated.modAx 14 (fun e => { e with posValid := true }) with diFilt := 1} : State).active = true ∧ ({wIsolated.modAx 14 (fun e => { e with posValid := true }) with diFilt := 1} : State).par.overlap = false ∧ ({wIsolated.modAx 14 (fun e => { e with posValid := true }) with diFilt := 1} : State).pageOn (pgDW 7) = true ∧ ({wIsolated.modAx 14 (fun e => { e with posValid := true }) with diFilt := 1} : State).on (DW.STATE_HOST_BLOCK 7) = false ∧ ({wIsolated.modAx 14 (fun e => { e with posValid := true }) with diFilt := 1} : State).dwState 7 = .isolated ∧ ({wIsolated.modAx 14 (fun e => { e with posValid := true }) with diFilt := 1} : State).role 7 3 = false ∧ ({wIsolated.modAx 14 (fun e => { e with posValid := true }) with diFilt := 1} : State).closedIn 7 = true ∧ ({wIsolated.modAx 14 (fun e => { e with posValid := true }) with diFilt := 1} : State).lockedIn 7 = false ∧ ({wIsolated.modAx 14 (fun e => { e with posValid := true }) with diFilt := 1} : State).ax[doorAxis 7].posValid = true) ∧
    (({wIsolated.modAx 14 (fun e => { e with posValid := false }) with diFilt := 3} : State).running = true ∧ ({wIsolated.modAx 14 (fun e => { e with posValid := false }) with diFilt := 3} : State).active = true ∧ ({wIsolated.modAx 14 (fun e => { e with posValid := false }) with diFilt := 3} : State).par.overlap = false ∧ ({wIsolated.modAx 14 (fun e => { e with posValid := false }) with diFilt := 3} : State).pageOn (pgDW 7) = true ∧ ({wIsolated.modAx 14 (fun e => { e with posValid := false }) with diFilt := 3} : State).on (DW.STATE_HOST_BLOCK 7) = false ∧ ({wIsolated.modAx 14 (fun e => { e with posValid := false }) with diFilt := 3} : State).dwState 7 = .isolated ∧ ({wIsolated.modAx 14 (fun e => { e with posValid := false }) with diFilt := 3} : State).role 7 3 = false ∧ ({wIsolated.modAx 14 (fun e => { e with posValid := false }) with diFilt := 3} : State).closedIn 7 = true ∧ ({wIsolated.modAx 14 (fun e => { e with posValid := false }) with diFilt := 3} : State).lockedIn 7 = true ∧ ({wIsolated.modAx 14 (fun e => { e with posValid := false }) with diFilt := 3} : State).ax[doorAxis 7].posValid = false) ∧
    (({wIsolated.modAx 14 (fun e => { e with posValid := true }) with diFilt := 3} : State).running = true ∧ ({wIsolated.modAx 14 (fun e => { e with posValid := true }) with diFilt := 3} : State).active = true ∧ ({wIsolated.modAx 14 (fun e => { e with posValid := true }) with diFilt := 3} : State).par.overlap = false ∧ ({wIsolated.modAx 14 (fun e => { e with posValid := true }) with diFilt := 3} : State).pageOn (pgDW 7) = true ∧ ({wIsolated.modAx 14 (fun e => { e with posValid := true }) with diFilt := 3} : State).on (DW.STATE_HOST_BLOCK 7) = false ∧ ({wIsolated.modAx 14 (fun e => { e with posValid := true }) with diFilt := 3} : State).dwState 7 = .isolated ∧ ({wIsolated.modAx 14 (fun e => { e with posValid := true }) with diFilt := 3} : State).role 7 3 = false ∧ ({wIsolated.modAx 14 (fun e => { e with posValid := true }) with diFilt := 3} : State).closedIn 7 = true ∧ ({wIsolated.modAx 14 (fun e => { e with posValid := true }) with diFilt := 3} : State).lockedIn 7 = true ∧ ({wIsolated.modAx 14 (fun e => { e with posValid := true }) with diFilt := 3} : State).ax[doorAxis 7].posValid = true) := by decide +kernel

theorem meets_DoorwayCommandsAct_11 :
    (wEgress.running = true ∧ wEgress.active = true ∧ wEgress.par.overlap = false ∧ wEgress.pageOn (pgDW 7) = true ∧ wEgress.on (DW.STATE_HOST_BLOCK 7) = false ∧ wEgress.dwState 7 = .egress ∧ wEgress.role 7 2 = false ∧ wEgress.closedIn 7 = false ∧ wEgress.lockedIn 7 = false ∧ wEgress.ax[doorAxis 7].posValid = false) ∧
    (wFaulted.running = true ∧ wFaulted.active = true ∧ wFaulted.par.overlap = false ∧ wFaulted.pageOn (pgDW 7) = true ∧ wFaulted.on (DW.STATE_HOST_BLOCK 7) = false ∧ wFaulted.dwState 7 = .fault ∧ wFaulted.get (DW.FAULT_CAUSE_CAUSE 7) ≠ 7 ∧ wFaulted.get (DW.FAULT_CAUSE_CAUSE 7) ≠ 10 ∧ wFaulted.closedIn 7 = false ∧ wFaulted.lockedIn 7 = false ∧ wFaulted.ax[doorAxis 7].posValid = false) := by decide +kernel

theorem meets_RejectedCommandsAnswer :
    (wBlocked.running = true ∧ wBlocked.rejectReason 7 .opn .host ≠ 0) ∧
    (wBlocked.running = true ∧ wBlocked.rejectReason 7 .close .host ≠ 0 ∧ wBlocked.rejectReason 7 .closeWait .host ≠ 0) ∧
    (wBlocked.running = true ∧ wBlocked.rejectReason 7 .stop .host ≠ 0 ∧ wBlocked.rejectReason 7 .isolate .host ≠ 0 ∧ wBlocked.rejectReason 7 .restore .host ≠ 0) ∧
    (wBlocked.running = true ∧ wBlocked.rejectReason 7 .home .host ≠ 0 ∧ wBlocked.rejectReason 7 .learn .host ≠ 0 ∧ wBlocked.rejectReason 7 .testCycle .host ≠ 0) ∧
    (wBlocked.running = true ∧ wBlocked.rejectReason 7 .close .host ≠ 0) ∧
    (wBlocked.running = true ∧ wBlocked.rejectReason 7 .stop .host ≠ 0) ∧
    (wBlocked.running = true ∧ wBlocked.rejectReason 7 .isolate .host ≠ 0) ∧
    (wBlocked.running = true ∧ wBlocked.rejectReason 7 .home .host ≠ 0) ∧
    (wBlocked.running = true ∧ wBlocked.rejectReason 7 .testCycle .host ≠ 0) := by decide +kernel

theorem meets_DoorwayEventsAct_1 :
    (wStandby.running = true ∧ wStandby.active = false ∧ wStandby.dw[7].offers = []) ∧
    (wOpen.running = true) ∧
    (wSide.running = true ∧ wSide.scGet (DW.CFG_SIDE 7) = State.sideNo .right) ∧
    (wShut.running = true ∧ wShut.scGet (DW.CFG_SIDE 7) = State.sideNo .right ∧ wShut.active = true) ∧
    (wSide.running = true ∧ wSide.on (DW.CFG_BTN_EN 7) = true) ∧
    (wHeld.running = true ∧ wHeld.par.overlap = false ∧ wHeld.active = true ∧ wHeld.dwState 7 ≠ .isolated) ∧
    (wHeld.running = true ∧ wHeld.par.overlap = false ∧ wHeld.active = true ∧ wHeld.dwState 7 ≠ .isolated ∧ wHeld.dwState 7 ≠ .fault ∧ wHeld.dwState 7 ≠ .egress) ∧
    ((wFor .opn : State).running = true ∧ (wFor .opn : State).active = true ∧ (wFor .opn : State).par.overlap = false ∧ (wFor .opn : State).pageOn (pgDW 7) = true ∧ (wFor .opn : State).dwState 7 = .unlocking ∧ (wFor .opn : State).dw[7].purpose = .opn) ∧
    ((wFor .testCycle : State).running = true ∧ (wFor .testCycle : State).active = true ∧ (wFor .testCycle : State).par.overlap = false ∧ (wFor .testCycle : State).pageOn (pgDW 7) = true ∧ (wFor .testCycle : State).dwState 7 = .unlocking ∧ (wFor .testCycle : State).dw[7].purpose = .testCycle) := by decide +kernel

theorem meets_DoorwayEventsAct_2 :
    ((wFor .home : State).running = true ∧ (wFor .home : State).active = true ∧ (wFor .home : State).par.overlap = false ∧ (wFor .home : State).pageOn (pgDW 7) = true ∧ (wFor .home : State).dwState 7 = .unlocking ∧ (wFor .home : State).dw[7].purpose = .home) ∧
    ((wFor .learn : State).running = true ∧ (wFor .learn : State).active = true ∧ (wFor .learn : State).par.overlap = false ∧ (wFor .learn : State).pageOn (pgDW 7) = true ∧ (wFor .learn : State).dwState 7 = .unlocking ∧ (wFor .learn : State).dw[7].purpose = .learn) ∧
    (wLocking.running = true ∧ wLocking.active = true ∧ wLocking.par.overlap = false ∧ wLocking.pageOn (pgDW 7) = true ∧ wLocking.dwState 7 = .locking) ∧
    (wOpen.running = true ∧ wOpen.active = true ∧ wOpen.par.overlap = false ∧ wOpen.pageOn (pgDW 7) = true ∧ wOpen.dwState 7 = .opn) ∧
    (wHeld.running = true ∧ wHeld.active = true ∧ wHeld.par.overlap = false ∧ wHeld.pageOn (pgDW 7) = true ∧ wHeld.dwState 7 = .held) ∧
    (wShut.running = true ∧ wShut.active = true ∧ wShut.par.overlap = false ∧ wShut.pageOn (pgDW 7) = true ∧ wShut.dwState 7 = .closedUnlocked) := by decide +kernel

theorem meets_DoorwayEventsAct_3 :
    (({wManual with diFilt := 3} : State).running = true ∧ ({wManual with diFilt := 3} : State).active = true ∧ ({wManual with diFilt := 3} : State).par.overlap = false ∧ ({wManual with diFilt := 3} : State).pageOn (pgDW 7) = true ∧ ({wManual with diFilt := 3} : State).dwState 7 = .manual ∧ ({wManual with diFilt := 3} : State).closedIn 7 = true ∧ ({wManual with diFilt := 3} : State).lockedIn 7 = true) ∧
    (({wManual with diFilt := 1} : State).running = true ∧ ({wManual with diFilt := 1} : State).active = true ∧ ({wManual with diFilt := 1} : State).par.overlap = false ∧ ({wManual with diFilt := 1} : State).pageOn (pgDW 7) = true ∧ ({wManual with diFilt := 1} : State).dwState 7 = .manual ∧ ({wManual with diFilt := 1} : State).closedIn 7 = true ∧ ({wManual with diFilt := 1} : State).lockedIn 7 = false ∧ ({wManual with diFilt := 1} : State).ax[doorAxis 7].posValid = true) ∧
    (({wManual with diFilt := 0} : State).running = true ∧ ({wManual with diFilt := 0} : State).active = true ∧ ({wManual with diFilt := 0} : State).par.overlap = false ∧ ({wManual with diFilt := 0} : State).pageOn (pgDW 7) = true ∧ ({wManual with diFilt := 0} : State).dwState 7 = .manual ∧ ({wManual with diFilt := 0} : State).closedIn 7 = false ∧ ({wManual with diFilt := 0} : State).ax[doorAxis 7].posValid = true) ∧
    ((door 7 .manual : State).running = true ∧ (door 7 .manual : State).active = true ∧ (door 7 .manual : State).par.overlap = false ∧ (door 7 .manual : State).pageOn (pgDW 7) = true ∧ (door 7 .manual : State).dwState 7 = .manual ∧ (door 7 .manual : State).closedIn 7 = false ∧ (door 7 .manual : State).ax[doorAxis 7].posValid = false) := by decide +kernel

theorem meets_DoorwayEventsAct_4 :
    (wRetry.running = true ∧ wRetry.active = true ∧ wRetry.par.overlap = false ∧ wRetry.dw[7].stepRetry.isSome = true ∧ wRetry.stepState 7 = .retracting ∧ wRetry.ax[stepAxis 7].want = some wWant ∧ wRetry.ax[stepAxis 7].start = .ready ∧ wRetry.ax[stepAxis 7].stopNow = false ∧ wRetry.pageOn 0x06 = false) ∧
    ((wRetry.setB (HDR.ENABLE 0x06) true : State).running = true ∧ (wRetry.setB (HDR.ENABLE 0x06) true : State).active = true ∧ (wRetry.setB (HDR.ENABLE 0x06) true : State).par.overlap = false ∧ (wRetry.setB (HDR.ENABLE 0x06) true : State).dw[7].stepRetry.isSome = true ∧ (wRetry.setB (HDR.ENABLE 0x06) true : State).stepState 7 = .retracting ∧ (wRetry.setB (HDR.ENABLE 0x06) true : State).ax[stepAxis 7].want = some wWant ∧ (wRetry.setB (HDR.ENABLE 0x06) true : State).ax[stepAxis 7].start = .ready ∧ (wRetry.setB (HDR.ENABLE 0x06) true : State).ax[stepAxis 7].stopNow = false ∧ (wRetry.setB (HDR.ENABLE 0x06) true : State).pageOn 0x06 = true ∧ wWant.free = false ∧ (wRetry.setB (HDR.ENABLE 0x06) true : State).ax[stepAxis 7].adm = .none) ∧
    (wDwell.running = true ∧ wDwell.active = true ∧ wDwell.par.overlap = false ∧ wDwell.pageOn (pgDW 7) = true ∧ wDwell.dw[7].reclose.isSome = true) ∧
    (wDwell.running = true ∧ wDwell.active = true ∧ wDwell.par.overlap = false ∧ wDwell.pageOn (pgDW 7) = true ∧ wDwell.dw[7].testFrom.isSome = true) ∧
    (wDwell.running = true ∧ wDwell.active = true ∧ wDwell.par.overlap = false ∧ wDwell.pageOn (pgDW 7) = true ∧ wDwell.dw[7].closeWait.isSome = true ∧ wDwell.ax[doorAxis 7].want = none) := by decide +kernel

theorem meets_DoorwayEventsAct_5 :
    (wStandby.running = true ∧ wStandby.active = false) ∧
    (({wUnlocking with par := { wUnlocking.par with overlap := true }} : State).running = true ∧ ({wUnlocking with par := { wUnlocking.par with overlap := true }} : State).par.overlap = true) ∧
    ((wUnlocking.setB (HDR.ENABLE (pgDW 7)) false : State).running = true ∧ (wUnlocking.setB (HDR.ENABLE (pgDW 7)) false : State).pageOn (pgDW 7) = false) := by decide +kernel

theorem meets_DoorwayFaults_1 :
    (wUnlocking.active = true ∧ wUnlocking.par.overlap = false ∧ wUnlocking.running = true ∧ wUnlocking.dwState 7 = .unlocking) ∧
    (wLocking.active = true ∧ wLocking.par.overlap = false ∧ wLocking.running = true ∧ wLocking.dwState 7 = .locking) ∧
    (wLocked.active = true ∧ wLocked.par.overlap = false ∧ wLocked.running = true ∧ wLocked.dwState 7 = .closedLocked) ∧
    (wLocked.active = true ∧ wLocked.par.overlap = false ∧ wLocked.running = true ∧ wLocked.dwState 7 = .closedLocked) ∧
    (wLatch.active = true ∧ wLatch.par.overlap = false ∧ wLatch.running = true ∧ wLatch.dwState 7 ≠ .fault ∧ wLatch.dwState 7 ≠ .isolated ∧ wLatch.dw[7].latchFrom.isSome = true) ∧
    (wSect.active = true ∧ wSect.par.overlap = false ∧ wSect.running = true ∧ wSect.dwState 7 ≠ .fault ∧ wSect.dwState 7 ≠ .isolated ∧ wSect.pageOn (pgDW 7) = true ∧ wSect.sect 7 ≠ .none ∧ wSect.sect 7 ≠ .testDwell) := by decide +kernel

theorem meets_DoorwayFaults_2 :
    (wHoming.active = true ∧ wHoming.par.overlap = false ∧ wHoming.running = true ∧ wHoming.dwState 7 ≠ .fault ∧ wHoming.dwState 7 ≠ .isolated ∧ wHoming.ax[doorAxis 7].moving = true ∧ wHoming.ax[doorAxis 7].kind = .home true) := by decide +kernel

theorem meets_TicksCount :
    (up.running = true) := by decide +kernel

theorem meets_RecipeStepsRun_1 :
    (wStep.running = true ∧ wStep.active = true ∧ wStep.par.overlap = false ∧ wStep.pageOn (pgDW 7) = true ∧ wStep.sect 7 ≠ .none ∧ wStep.sect 7 ≠ .testDwell ∧ wStep.get (DW.SECT_STEP 7) < 48 ∧ wStep.dw[7].waitFrom = none ∧ wStep.dw[7].run < 255 ∧ (wStep.recipeStep 7 (wStep.get (DW.SECT_STEP 7))).op = 0 ∧ wStep.sect 7 = .opn ∧ wStep.dwState 7 = .opening) ∧
    ((wEnd 2 .closing : State).running = true ∧ (wEnd 2 .closing : State).active = true ∧ (wEnd 2 .closing : State).par.overlap = false ∧ (wEnd 2 .closing : State).pageOn (pgDW 7) = true ∧ (wEnd 2 .closing : State).sect 7 ≠ .none ∧ (wEnd 2 .closing : State).sect 7 ≠ .testDwell ∧ (wEnd 2 .closing : State).get (DW.SECT_STEP 7) < 48 ∧ (wEnd 2 .closing : State).dw[7].waitFrom = none ∧ (wEnd 2 .closing : State).dw[7].run < 255 ∧ ((wEnd 2 .closing : State).recipeStep 7 ((wEnd 2 .closing : State).get (DW.SECT_STEP 7))).op = 0 ∧ (wEnd 2 .closing : State).sect 7 = .close ∧ (wEnd 2 .closing : State).closingPends 7 = false ∧ (wEnd 2 .closing : State).dwState 7 = .closing) := by decide +kernel

theorem meets_RecipeStepsRun_2 :
    ((wEnd 2 .opn : State).running = true ∧ (wEnd 2 .opn : State).active = true ∧ (wEnd 2 .opn : State).par.overlap = false ∧ (wEnd 2 .opn : State).pageOn (pgDW 7) = true ∧ (wEnd 2 .opn : State).sect 7 ≠ .none ∧ (wEnd 2 .opn : State).sect 7 ≠ .testDwell ∧ (wEnd 2 .opn : State).get (DW.SECT_STEP 7) < 48 ∧ (wEnd 2 .opn : State).dw[7].waitFrom = none ∧ (wEnd 2 .opn : State).dw[7].run < 255 ∧ ((wEnd 2 .opn : State).recipeStep 7 ((wEnd 2 .opn : State).get (DW.SECT_STEP 7))).op = 0 ∧ (wEnd 2 .opn : State).sect 7 = .close ∧ (wEnd 2 .opn : State).closingPends 7 = false ∧ (wEnd 2 .opn : State).dwState 7 ≠ .closing) ∧
    (((wEnd 2 .closing).modAx 14 fun e => { e with moving := true, closing := true } : State).running = true ∧ ((wEnd 2 .closing).modAx 14 fun e => { e with moving := true, closing := true } : State).active = true ∧ ((wEnd 2 .closing).modAx 14 fun e => { e with moving := true, closing := true } : State).par.overlap = false ∧ ((wEnd 2 .closing).modAx 14 fun e => { e with moving := true, closing := true } : State).pageOn (pgDW 7) = true ∧ ((wEnd 2 .closing).modAx 14 fun e => { e with moving := true, closing := true } : State).sect 7 ≠ .none ∧ ((wEnd 2 .closing).modAx 14 fun e => { e with moving := true, closing := true } : State).sect 7 ≠ .testDwell ∧ ((wEnd 2 .closing).modAx 14 fun e => { e with moving := true, closing := true } : State).get (DW.SECT_STEP 7) < 48 ∧ ((wEnd 2 .closing).modAx 14 fun e => { e with moving := true, closing := true } : State).dw[7].waitFrom = none ∧ ((wEnd 2 .closing).modAx 14 fun e => { e with moving := true, closing := true } : State).dw[7].run < 255 ∧ (((wEnd 2 .closing).modAx 14 fun e => { e with moving := true, closing := true } : State).recipeStep 7 (((wEnd 2 .closing).modAx 14 fun e => { e with moving := true, closing := true } : State).get (DW.SECT_STEP 7))).op = 0 ∧ ((wEnd 2 .closing).modAx 14 fun e => { e with moving := true, closing := true } : State).closingPends 7 = true) ∧
    ((wEnd 3 .reopening : State).running = true ∧ (wEnd 3 .reopening : State).active = true ∧ (wEnd 3 .reopening : State).par.overlap = false ∧ (wEnd 3 .reopening : State).pageOn (pgDW 7) = true ∧ (wEnd 3 .reopening : State).sect 7 ≠ .none ∧ (wEnd 3 .reopening : State).sect 7 ≠ .testDwell ∧ (wEnd 3 .reopening : State).get (DW.SECT_STEP 7) < 48 ∧ (wEnd 3 .reopening : State).dw[7].waitFrom = none ∧ (wEnd 3 .reopening : State).dw[7].run < 255 ∧ ((wEnd 3 .reopening : State).recipeStep 7 ((wEnd 3 .reopening : State).get (DW.SECT_STEP 7))).op = 0 ∧ (wEnd 3 .reopening : State).sect 7 = .reopen ∧ (wEnd 3 .reopening : State).dwState 7 = .reopening) := by decide +kernel

theorem meets_RecipeStepsRun_3 :
    ((wEnd 4 .homing : State).running = true ∧ (wEnd 4 .homing : State).active = true ∧ (wEnd 4 .homing : State).par.overlap = false ∧ (wEnd 4 .homing : State).pageOn (pgDW 7) = true ∧ (wEnd 4 .homing : State).sect 7 ≠ .none ∧ (wEnd 4 .homing : State).sect 7 ≠ .testDwell ∧ (wEnd 4 .homing : State).get (DW.SECT_STEP 7) < 48 ∧ (wEnd 4 .homing : State).dw[7].waitFrom = none ∧ (wEnd 4 .homing : State).dw[7].run < 255 ∧ ((wEnd 4 .homing : State).recipeStep 7 ((wEnd 4 .homing : State).get (DW.SECT_STEP 7))).op = 0 ∧ (wEnd 4 .homing : State).sect 7 = .home ∧ (wEnd 4 .homing : State).dwState 7 = .homing) ∧
    ((wOp 0x01 0 : State).running = true ∧ (wOp 0x01 0 : State).active = true ∧ (wOp 0x01 0 : State).par.overlap = false ∧ (wOp 0x01 0 : State).pageOn (pgDW 7) = true ∧ (wOp 0x01 0 : State).sect 7 ≠ .none ∧ (wOp 0x01 0 : State).sect 7 ≠ .testDwell ∧ (wOp 0x01 0 : State).get (DW.SECT_STEP 7) < 48 ∧ (wOp 0x01 0 : State).dw[7].waitFrom = none ∧ (wOp 0x01 0 : State).dw[7].run < 255 ∧ ((wOp 0x01 0 : State).recipeStep 7 ((wOp 0x01 0 : State).get (DW.SECT_STEP 7))).op = 1) ∧
    ((wOp 0x31 0 : State).running = true ∧ (wOp 0x31 0 : State).active = true ∧ (wOp 0x31 0 : State).par.overlap = false ∧ (wOp 0x31 0 : State).pageOn (pgDW 7) = true ∧ (wOp 0x31 0 : State).sect 7 ≠ .none ∧ (wOp 0x31 0 : State).sect 7 ≠ .testDwell ∧ (wOp 0x31 0 : State).get (DW.SECT_STEP 7) < 48 ∧ (wOp 0x31 0 : State).dw[7].waitFrom = none ∧ (wOp 0x31 0 : State).dw[7].run < 255 ∧ ((wOp 0x31 0 : State).recipeStep 7 ((wOp 0x31 0 : State).get (DW.SECT_STEP 7))).op = 1 ∧ ((wOp 0x31 0 : State).recipeStep 7 ((wOp 0x31 0 : State).get (DW.SECT_STEP 7))).nw = true) := by decide +kernel

theorem meets_RecipeStepsRun_4 :
    ((wOp 0x02 0 : State).running = true ∧ (wOp 0x02 0 : State).active = true ∧ (wOp 0x02 0 : State).par.overlap = false ∧ (wOp 0x02 0 : State).pageOn (pgDW 7) = true ∧ (wOp 0x02 0 : State).sect 7 ≠ .none ∧ (wOp 0x02 0 : State).sect 7 ≠ .testDwell ∧ (wOp 0x02 0 : State).get (DW.SECT_STEP 7) < 48 ∧ (wOp 0x02 0 : State).dw[7].waitFrom = none ∧ (wOp 0x02 0 : State).dw[7].run < 255 ∧ ((wOp 0x02 0 : State).recipeStep 7 ((wOp 0x02 0 : State).get (DW.SECT_STEP 7))).op = 2) ∧
    ((((wOp 0x02 0).set (DW.SECT_SECTION 7) 4).modDw 7 fun e => { e with axsel := 2 } : State).running = true ∧ (((wOp 0x02 0).set (DW.SECT_SECTION 7) 4).modDw 7 fun e => { e with axsel := 2 } : State).active = true ∧ (((wOp 0x02 0).set (DW.SECT_SECTION 7) 4).modDw 7 fun e => { e with axsel := 2 } : State).par.overlap = false ∧ (((wOp 0x02 0).set (DW.SECT_SECTION 7) 4).modDw 7 fun e => { e with axsel := 2 } : State).pageOn (pgDW 7) = true ∧ (((wOp 0x02 0).set (DW.SECT_SECTION 7) 4).modDw 7 fun e => { e with axsel := 2 } : State).sect 7 ≠ .none ∧ (((wOp 0x02 0).set (DW.SECT_SECTION 7) 4).modDw 7 fun e => { e with axsel := 2 } : State).sect 7 ≠ .testDwell ∧ (((wOp 0x02 0).set (DW.SECT_SECTION 7) 4).modDw 7 fun e => { e with axsel := 2 } : State).get (DW.SECT_STEP 7) < 48 ∧ (((wOp 0x02 0).set (DW.SECT_SECTION 7) 4).modDw 7 fun e => { e with axsel := 2 } : State).dw[7].waitFrom = none ∧ (((wOp 0x02 0).set (DW.SECT_SECTION 7) 4).modDw 7 fun e => { e with axsel := 2 } : State).dw[7].run < 255 ∧ ((((wOp 0x02 0).set (DW.SECT_SECTION 7) 4).modDw 7 fun e => { e with axsel := 2 } : State).recipeStep 7 ((((wOp 0x02 0).set (DW.SECT_SECTION 7) 4).modDw 7 fun e => { e with axsel := 2 } : State).get (DW.SECT_STEP 7))).op = 2 ∧ (((wOp 0x02 0).set (DW.SECT_SECTION 7) 4).modDw 7 fun e => { e with axsel := 2 } : State).sect 7 = .home ∧ (((wOp 0x02 0).set (DW.SECT_SECTION 7) 4).modDw 7 fun e => { e with axsel := 2 } : State).dw[7].axsel = 2 ∧ ((((wOp 0x02 0).set (DW.SECT_SECTION 7) 4).modDw 7 fun e => { e with axsel := 2 } : State).recipeStep 7 ((((wOp 0x02 0).set (DW.SECT_SECTION 7) 4).modDw 7 fun e => { e with axsel := 2 } : State).get (DW.SECT_STEP 7))).step = false) ∧
    ((wOp 3 0 : State).running = true ∧ (wOp 3 0 : State).active = true ∧ (wOp 3 0 : State).par.overlap = false ∧ (wOp 3 0 : State).pageOn (pgDW 7) = true ∧ (wOp 3 0 : State).sect 7 ≠ .none ∧ (wOp 3 0 : State).sect 7 ≠ .testDwell ∧ (wOp 3 0 : State).get (DW.SECT_STEP 7) < 48 ∧ (wOp 3 0 : State).dw[7].waitFrom = none ∧ (wOp 3 0 : State).dw[7].run < 255 ∧ ((wOp 3 0 : State).recipeStep 7 ((wOp 3 0 : State).get (DW.SECT_STEP 7))).op = 3 ∧ (wOp 3 0 : State).roleLs 7 ((wOp 3 0 : State).recipeStep 7 ((wOp 3 0 : State).get (DW.SECT_STEP 7))).a = some 47 ∧ (wOp 3 0 : State).chSafe (fin48 47) = false) := by decide +kernel

theorem meets_RecipeStepsRun_5 :
    ((wOp 4 0 : State).running = true ∧ (wOp 4 0 : State).active = true ∧ (wOp 4 0 : State).par.overlap = false ∧ (wOp 4 0 : State).pageOn (pgDW 7) = true ∧ (wOp 4 0 : State).sect 7 ≠ .none ∧ (wOp 4 0 : State).sect 7 ≠ .testDwell ∧ (wOp 4 0 : State).get (DW.SECT_STEP 7) < 48 ∧ (wOp 4 0 : State).dw[7].waitFrom = none ∧ (wOp 4 0 : State).dw[7].run < 255 ∧ ((wOp 4 0 : State).recipeStep 7 ((wOp 4 0 : State).get (DW.SECT_STEP 7))).op = 4 ∧ (wOp 4 0 : State).roleLs 7 ((wOp 4 0 : State).recipeStep 7 ((wOp 4 0 : State).get (DW.SECT_STEP 7))).a = some 47 ∧ (wOp 4 0 : State).chSafe (fin48 47) = false) ∧
    ((wOp 0x05 9 : State).running = true ∧ (wOp 0x05 9 : State).active = true ∧ (wOp 0x05 9 : State).par.overlap = false ∧ (wOp 0x05 9 : State).pageOn (pgDW 7) = true ∧ (wOp 0x05 9 : State).sect 7 ≠ .none ∧ (wOp 0x05 9 : State).sect 7 ≠ .testDwell ∧ (wOp 0x05 9 : State).get (DW.SECT_STEP 7) < 48 ∧ (wOp 0x05 9 : State).dw[7].waitFrom = none ∧ (wOp 0x05 9 : State).dw[7].run < 255 ∧ ((wOp 0x05 9 : State).recipeStep 7 ((wOp 0x05 9 : State).get (DW.SECT_STEP 7))).op = 5 ∧ (wOp 0x05 9 : State).role 7 (((wOp 0x05 9 : State).recipeStep 7 ((wOp 0x05 9 : State).get (DW.SECT_STEP 7))).a % 16) = decide (((wOp 0x05 9 : State).recipeStep 7 ((wOp 0x05 9 : State).get (DW.SECT_STEP 7))).b % 2 = 1)) ∧
    ((wOp 0x10005 9 : State).running = true ∧ (wOp 0x10005 9 : State).active = true ∧ (wOp 0x10005 9 : State).par.overlap = false ∧ (wOp 0x10005 9 : State).pageOn (pgDW 7) = true ∧ (wOp 0x10005 9 : State).sect 7 ≠ .none ∧ (wOp 0x10005 9 : State).sect 7 ≠ .testDwell ∧ (wOp 0x10005 9 : State).get (DW.SECT_STEP 7) < 48 ∧ (wOp 0x10005 9 : State).dw[7].waitFrom = none ∧ (wOp 0x10005 9 : State).dw[7].run < 255 ∧ ((wOp 0x10005 9 : State).recipeStep 7 ((wOp 0x10005 9 : State).get (DW.SECT_STEP 7))).op = 5 ∧ ¬ (wOp 0x10005 9 : State).role 7 (((wOp 0x10005 9 : State).recipeStep 7 ((wOp 0x10005 9 : State).get (DW.SECT_STEP 7))).a % 16) = decide (((wOp 0x10005 9 : State).recipeStep 7 ((wOp 0x10005 9 : State).get (DW.SECT_STEP 7))).b % 2 = 1)) := by decide +kernel

theorem meets_RecipeStepsRun_6 :
    ((wOp 0x06 0 : State).running = true ∧ (wOp 0x06 0 : State).active = true ∧ (wOp 0x06 0 : State).par.overlap = false ∧ (wOp 0x06 0 : State).pageOn (pgDW 7) = true ∧ (wOp 0x06 0 : State).sect 7 ≠ .none ∧ (wOp 0x06 0 : State).sect 7 ≠ .testDwell ∧ (wOp 0x06 0 : State).get (DW.SECT_STEP 7) < 48 ∧ (wOp 0x06 0 : State).dw[7].waitFrom = none ∧ (wOp 0x06 0 : State).dw[7].run < 255 ∧ ((wOp 0x06 0 : State).recipeStep 7 ((wOp 0x06 0 : State).get (DW.SECT_STEP 7))).op = 6 ∧ ((wOp 0x06 0 : State).recipeStep 7 ((wOp 0x06 0 : State).get (DW.SECT_STEP 7))).b / 2 % 2 = 0 ∧ (if ((wOp 0x06 0 : State).recipeStep 7 ((wOp 0x06 0 : State).get (DW.SECT_STEP 7))).b % 2 = 0 then ((wOp 0x06 0 : State).recipeStep 7 ((wOp 0x06 0 : State).get (DW.SECT_STEP 7))).pos ≤ (wOp 0x06 0 : State).getI (AX.POS (((wOp 0x06 0 : State).recipeStep 7 ((wOp 0x06 0 : State).get (DW.SECT_STEP 7))).axis 7)) else (wOp 0x06 0 : State).getI (AX.POS (((wOp 0x06 0 : State).recipeStep 7 ((wOp 0x06 0 : State).get (DW.SECT_STEP 7))).axis 7)) ≤ ((wOp 0x06 0 : State).recipeStep 7 ((wOp 0x06 0 : State).get (DW.SECT_STEP 7))).pos)) ∧
    (((wOp 0x06 0).setI (AX.POS 14) (-1) : State).running = true ∧ ((wOp 0x06 0).setI (AX.POS 14) (-1) : State).active = true ∧ ((wOp 0x06 0).setI (AX.POS 14) (-1) : State).par.overlap = false ∧ ((wOp 0x06 0).setI (AX.POS 14) (-1) : State).pageOn (pgDW 7) = true ∧ ((wOp 0x06 0).setI (AX.POS 14) (-1) : State).sect 7 ≠ .none ∧ ((wOp 0x06 0).setI (AX.POS 14) (-1) : State).sect 7 ≠ .testDwell ∧ ((wOp 0x06 0).setI (AX.POS 14) (-1) : State).get (DW.SECT_STEP 7) < 48 ∧ ((wOp 0x06 0).setI (AX.POS 14) (-1) : State).dw[7].waitFrom = none ∧ ((wOp 0x06 0).setI (AX.POS 14) (-1) : State).dw[7].run < 255 ∧ (((wOp 0x06 0).setI (AX.POS 14) (-1) : State).recipeStep 7 (((wOp 0x06 0).setI (AX.POS 14) (-1) : State).get (DW.SECT_STEP 7))).op = 6 ∧ (((wOp 0x06 0).setI (AX.POS 14) (-1) : State).recipeStep 7 (((wOp 0x06 0).setI (AX.POS 14) (-1) : State).get (DW.SECT_STEP 7))).b / 2 % 2 = 0 ∧ ¬ (if (((wOp 0x06 0).setI (AX.POS 14) (-1) : State).recipeStep 7 (((wOp 0x06 0).setI (AX.POS 14) (-1) : State).get (DW.SECT_STEP 7))).b % 2 = 0 then (((wOp 0x06 0).setI (AX.POS 14) (-1) : State).recipeStep 7 (((wOp 0x06 0).setI (AX.POS 14) (-1) : State).get (DW.SECT_STEP 7))).pos ≤ ((wOp 0x06 0).setI (AX.POS 14) (-1) : State).getI (AX.POS ((((wOp 0x06 0).setI (AX.POS 14) (-1) : State).recipeStep 7 (((wOp 0x06 0).setI (AX.POS 14) (-1) : State).get (DW.SECT_STEP 7))).axis 7)) else ((wOp 0x06 0).setI (AX.POS 14) (-1) : State).getI (AX.POS ((((wOp 0x06 0).setI (AX.POS 14) (-1) : State).recipeStep 7 (((wOp 0x06 0).setI (AX.POS 14) (-1) : State).get (DW.SECT_STEP 7))).axis 7)) ≤ (((wOp 0x06 0).setI (AX.POS 14) (-1) : State).recipeStep 7 (((wOp 0x06 0).setI (AX.POS 14) (-1) : State).get (DW.SECT_STEP 7))).pos)) := by decide +kernel

theorem meets_RecipeStepsRun_7 :
    ((wOp 0x20006 0 : State).running = true ∧ (wOp 0x20006 0 : State).active = true ∧ (wOp 0x20006 0 : State).par.overlap = false ∧ (wOp 0x20006 0 : State).pageOn (pgDW 7) = true ∧ (wOp 0x20006 0 : State).sect 7 ≠ .none ∧ (wOp 0x20006 0 : State).sect 7 ≠ .testDwell ∧ (wOp 0x20006 0 : State).get (DW.SECT_STEP 7) < 48 ∧ (wOp 0x20006 0 : State).dw[7].waitFrom = none ∧ (wOp 0x20006 0 : State).dw[7].run < 255 ∧ ((wOp 0x20006 0 : State).recipeStep 7 ((wOp 0x20006 0 : State).get (DW.SECT_STEP 7))).op = 6 ∧ ((wOp 0x20006 0 : State).recipeStep 7 ((wOp 0x20006 0 : State).get (DW.SECT_STEP 7))).b / 2 % 2 = 1 ∧ (wOp 0x20006 0 : State).ax[((wOp 0x20006 0 : State).recipeStep 7 ((wOp 0x20006 0 : State).get (DW.SECT_STEP 7))).axis 7].moving = false ∧ (wOp 0x20006 0 : State).ax[((wOp 0x20006 0 : State).recipeStep 7 ((wOp 0x20006 0 : State).get (DW.SECT_STEP 7))).axis 7].want = none ∧ (wOp 0x20006 0 : State).ax[((wOp 0x20006 0 : State).recipeStep 7 ((wOp 0x20006 0 : State).get (DW.SECT_STEP 7))).axis 7].ended = none) ∧
    (((wOp 0x20006 0).modAx 14 fun e => { e with moving := true } : State).running = true ∧ ((wOp 0x20006 0).modAx 14 fun e => { e with moving := true } : State).active = true ∧ ((wOp 0x20006 0).modAx 14 fun e => { e with moving := true } : State).par.overlap = false ∧ ((wOp 0x20006 0).modAx 14 fun e => { e with moving := true } : State).pageOn (pgDW 7) = true ∧ ((wOp 0x20006 0).modAx 14 fun e => { e with moving := true } : State).sect 7 ≠ .none ∧ ((wOp 0x20006 0).modAx 14 fun e => { e with moving := true } : State).sect 7 ≠ .testDwell ∧ ((wOp 0x20006 0).modAx 14 fun e => { e with moving := true } : State).get (DW.SECT_STEP 7) < 48 ∧ ((wOp 0x20006 0).modAx 14 fun e => { e with moving := true } : State).dw[7].waitFrom = none ∧ ((wOp 0x20006 0).modAx 14 fun e => { e with moving := true } : State).dw[7].run < 255 ∧ (((wOp 0x20006 0).modAx 14 fun e => { e with moving := true } : State).recipeStep 7 (((wOp 0x20006 0).modAx 14 fun e => { e with moving := true } : State).get (DW.SECT_STEP 7))).op = 6 ∧ (((wOp 0x20006 0).modAx 14 fun e => { e with moving := true } : State).recipeStep 7 (((wOp 0x20006 0).modAx 14 fun e => { e with moving := true } : State).get (DW.SECT_STEP 7))).b / 2 % 2 = 1 ∧ ¬ (((wOp 0x20006 0).modAx 14 fun e => { e with moving := true } : State).ax[(((wOp 0x20006 0).modAx 14 fun e => { e with moving := true } : State).recipeStep 7 (((wOp 0x20006 0).modAx 14 fun e => { e with moving := true } : State).get (DW.SECT_STEP 7))).axis 7].moving = false ∧ ((wOp 0x20006 0).modAx 14 fun e => { e with moving := true } : State).ax[(((wOp 0x20006 0).modAx 14 fun e => { e with moving := true } : State).recipeStep 7 (((wOp 0x20006 0).modAx 14 fun e => { e with moving := true } : State).get (DW.SECT_STEP 7))).axis 7].want = none ∧ ((wOp 0x20006 0).modAx 14 fun e => { e with moving := true } : State).ax[(((wOp 0x20006 0).modAx 14 fun e => { e with moving := true } : State).recipeStep 7 (((wOp 0x20006 0).modAx 14 fun e => { e with moving := true } : State).get (DW.SECT_STEP 7))).axis 7].ended = none)) := by decide +kernel

theorem meets_RecipeStepsRun_8 :
    (((wOp 0x8007 0).set (PZ.ZONE_STAT_ZONE 7 7) 1 : State).running = true ∧ ((wOp 0x8007 0).set (PZ.ZONE_STAT_ZONE 7 7) 1 : State).active = true ∧ ((wOp 0x8007 0).set (PZ.ZONE_STAT_ZONE 7 7) 1 : State).par.overlap = false ∧ ((wOp 0x8007 0).set (PZ.ZONE_STAT_ZONE 7 7) 1 : State).pageOn (pgDW 7) = true ∧ ((wOp 0x8007 0).set (PZ.ZONE_STAT_ZONE 7 7) 1 : State).sect 7 ≠ .none ∧ ((wOp 0x8007 0).set (PZ.ZONE_STAT_ZONE 7 7) 1 : State).sect 7 ≠ .testDwell ∧ ((wOp 0x8007 0).set (PZ.ZONE_STAT_ZONE 7 7) 1 : State).get (DW.SECT_STEP 7) < 48 ∧ ((wOp 0x8007 0).set (PZ.ZONE_STAT_ZONE 7 7) 1 : State).dw[7].waitFrom = none ∧ ((wOp 0x8007 0).set (PZ.ZONE_STAT_ZONE 7 7) 1 : State).dw[7].run < 255 ∧ (((wOp 0x8007 0).set (PZ.ZONE_STAT_ZONE 7 7) 1 : State).recipeStep 7 (((wOp 0x8007 0).set (PZ.ZONE_STAT_ZONE 7 7) 1 : State).get (DW.SECT_STEP 7))).op = 7 ∧ (((wOp 0x8007 0).set (PZ.ZONE_STAT_ZONE 7 7) 1 : State).recipeStep 7 (((wOp 0x8007 0).set (PZ.ZONE_STAT_ZONE 7 7) 1 : State).get (DW.SECT_STEP 7))).a.testBit 7 = true ∧ ((List.range 8).all (fun z => !(((wOp 0x8007 0).set (PZ.ZONE_STAT_ZONE 7 7) 1 : State).recipeStep 7 (((wOp 0x8007 0).set (PZ.ZONE_STAT_ZONE 7 7) 1 : State).get (DW.SECT_STEP 7))).a.testBit z || ((wOp 0x8007 0).set (PZ.ZONE_STAT_ZONE 7 7) 1 : State).get (PZ.ZONE_STAT_ZONE 7 z) == 1) = true)) ∧
    ((wOp 0x8007 0 : State).running = true ∧ (wOp 0x8007 0 : State).active = true ∧ (wOp 0x8007 0 : State).par.overlap = false ∧ (wOp 0x8007 0 : State).pageOn (pgDW 7) = true ∧ (wOp 0x8007 0 : State).sect 7 ≠ .none ∧ (wOp 0x8007 0 : State).sect 7 ≠ .testDwell ∧ (wOp 0x8007 0 : State).get (DW.SECT_STEP 7) < 48 ∧ (wOp 0x8007 0 : State).dw[7].waitFrom = none ∧ (wOp 0x8007 0 : State).dw[7].run < 255 ∧ ((wOp 0x8007 0 : State).recipeStep 7 ((wOp 0x8007 0 : State).get (DW.SECT_STEP 7))).op = 7 ∧ ¬ ((List.range 8).all (fun z => !((wOp 0x8007 0 : State).recipeStep 7 ((wOp 0x8007 0 : State).get (DW.SECT_STEP 7))).a.testBit z || (wOp 0x8007 0 : State).get (PZ.ZONE_STAT_ZONE 7 z) == 1) = true)) ∧
    ((wOp 0x08 1 : State).running = true ∧ (wOp 0x08 1 : State).active = true ∧ (wOp 0x08 1 : State).par.overlap = false ∧ (wOp 0x08 1 : State).pageOn (pgDW 7) = true ∧ (wOp 0x08 1 : State).sect 7 ≠ .none ∧ (wOp 0x08 1 : State).sect 7 ≠ .testDwell ∧ (wOp 0x08 1 : State).get (DW.SECT_STEP 7) < 48 ∧ (wOp 0x08 1 : State).dw[7].waitFrom = none ∧ (wOp 0x08 1 : State).dw[7].run < 255 ∧ ((wOp 0x08 1 : State).recipeStep 7 ((wOp 0x08 1 : State).get (DW.SECT_STEP 7))).op = 8) := by decide +kernel

theorem meets_RecipeStepsRun_9 :
    ((wOp 0x3F0009 0 : State).running = true ∧ (wOp 0x3F0009 0 : State).active = true ∧ (wOp 0x3F0009 0 : State).par.overlap = false ∧ (wOp 0x3F0009 0 : State).pageOn (pgDW 7) = true ∧ (wOp 0x3F0009 0 : State).sect 7 ≠ .none ∧ (wOp 0x3F0009 0 : State).sect 7 ≠ .testDwell ∧ (wOp 0x3F0009 0 : State).get (DW.SECT_STEP 7) < 48 ∧ (wOp 0x3F0009 0 : State).dw[7].waitFrom = none ∧ (wOp 0x3F0009 0 : State).dw[7].run < 255 ∧ ((wOp 0x3F0009 0 : State).recipeStep 7 ((wOp 0x3F0009 0 : State).get (DW.SECT_STEP 7))).op = 9 ∧ (wOp 0x3F0009 0 : State).branchTaken 7 ((wOp 0x3F0009 0 : State).recipeStep 7 ((wOp 0x3F0009 0 : State).get (DW.SECT_STEP 7))) = true) ∧
    ((wOp 0x3F0109 0 : State).running = true ∧ (wOp 0x3F0109 0 : State).active = true ∧ (wOp 0x3F0109 0 : State).par.overlap = false ∧ (wOp 0x3F0109 0 : State).pageOn (pgDW 7) = true ∧ (wOp 0x3F0109 0 : State).sect 7 ≠ .none ∧ (wOp 0x3F0109 0 : State).sect 7 ≠ .testDwell ∧ (wOp 0x3F0109 0 : State).get (DW.SECT_STEP 7) < 48 ∧ (wOp 0x3F0109 0 : State).dw[7].waitFrom = none ∧ (wOp 0x3F0109 0 : State).dw[7].run < 255 ∧ ((wOp 0x3F0109 0 : State).recipeStep 7 ((wOp 0x3F0109 0 : State).get (DW.SECT_STEP 7))).op = 9 ∧ (wOp 0x3F0109 0 : State).branchTaken 7 ((wOp 0x3F0109 0 : State).recipeStep 7 ((wOp 0x3F0109 0 : State).get (DW.SECT_STEP 7))) = false) := by decide +kernel

theorem meets_RecipesLoadAndGoOn_1 :
    ((wWaitsD 0x08 1 : State).running = true ∧ (wWaitsD 0x08 1 : State).active = true ∧ (wWaitsD 0x08 1 : State).par.overlap = false ∧ (wWaitsD 0x08 1 : State).pageOn (pgDW 7) = true ∧ (wWaitsD 0x08 1 : State).sect 7 ≠ .none ∧ (wWaitsD 0x08 1 : State).sect 7 ≠ .testDwell ∧ (wWaitsD 0x08 1 : State).get (DW.SECT_STEP 7) < 48 ∧ (wWaitsD 0x08 1 : State).dw[7].waitFrom.isSome = true ∧ ((wWaitsD 0x08 1 : State).recipeStep 7 ((wWaitsD 0x08 1 : State).get (DW.SECT_STEP 7))).op = 8) ∧
    ((wWaitsD 0x10005 9 : State).running = true ∧ (wWaitsD 0x10005 9 : State).active = true ∧ (wWaitsD 0x10005 9 : State).par.overlap = false ∧ (wWaitsD 0x10005 9 : State).pageOn (pgDW 7) = true ∧ (wWaitsD 0x10005 9 : State).sect 7 ≠ .none ∧ (wWaitsD 0x10005 9 : State).sect 7 ≠ .testDwell ∧ (wWaitsD 0x10005 9 : State).get (DW.SECT_STEP 7) < 48 ∧ (wWaitsD 0x10005 9 : State).dw[7].waitFrom.isSome = true ∧ ((wWaitsD 0x10005 9 : State).recipeStep 7 ((wWaitsD 0x10005 9 : State).get (DW.SECT_STEP 7))).op = 5 ∧ ((wWaitsD 0x10005 9 : State).recipeStep 7 ((wWaitsD 0x10005 9 : State).get (DW.SECT_STEP 7))).c ≠ 0) ∧
    ((wWaitsD 0x8007 9 : State).running = true ∧ (wWaitsD 0x8007 9 : State).active = true ∧ (wWaitsD 0x8007 9 : State).par.overlap = false ∧ (wWaitsD 0x8007 9 : State).pageOn (pgDW 7) = true ∧ (wWaitsD 0x8007 9 : State).sect 7 ≠ .none ∧ (wWaitsD 0x8007 9 : State).sect 7 ≠ .testDwell ∧ (wWaitsD 0x8007 9 : State).get (DW.SECT_STEP 7) < 48 ∧ (wWaitsD 0x8007 9 : State).dw[7].waitFrom.isSome = true ∧ ((wWaitsD 0x8007 9 : State).recipeStep 7 ((wWaitsD 0x8007 9 : State).get (DW.SECT_STEP 7))).op = 7 ∧ ((wWaitsD 0x8007 9 : State).recipeStep 7 ((wWaitsD 0x8007 9 : State).get (DW.SECT_STEP 7))).c ≠ 0) := by decide +kernel

theorem meets_RecipesLoadAndGoOn_2 :
    ((wWaitsD 0x0106 0 : State).running = true ∧ (wWaitsD 0x0106 0 : State).active = true ∧ (wWaitsD 0x0106 0 : State).par.overlap = false ∧ (wWaitsD 0x0106 0 : State).pageOn (pgDW 7) = true ∧ (wWaitsD 0x0106 0 : State).sect 7 ≠ .none ∧ (wWaitsD 0x0106 0 : State).sect 7 ≠ .testDwell ∧ (wWaitsD 0x0106 0 : State).get (DW.SECT_STEP 7) < 48 ∧ (wWaitsD 0x0106 0 : State).dw[7].waitFrom.isSome = true ∧ ((wWaitsD 0x0106 0 : State).recipeStep 7 ((wWaitsD 0x0106 0 : State).get (DW.SECT_STEP 7))).op = 6 ∧ ((wWaitsD 0x0106 0 : State).recipeStep 7 ((wWaitsD 0x0106 0 : State).get (DW.SECT_STEP 7))).a ≠ 0) ∧
    (wEdit.ready = true ∧ wEdit.pageOn (pgDW 7) = false ∧ wEdit.editable = true) ∧
    (wLocked.ready = true ∧ wLocked.pageOn (pgDW 7) = true) ∧
    (wHeld.ready = true ∧ wHeld.dwState 7 = .held) ∧
    (wLocked.ready = true ∧ wLocked.dwState 7 = .closedLocked) := by decide +kernel

theorem meets_EffortCommandsAct_1 :
    (wClosing.running = true ∧ wClosing.active = true ∧ wClosing.par.overlap = false ∧ wClosing.dw[7].obstStop = false ∧ wClosing.dwState 7 = .closing ∧ wClosing.on (DW.CFG_OBST_REACT 7) = false) ∧
    ((wClosing.setB (DW.CFG_OBST_REACT 7) true : State).running = true ∧ (wClosing.setB (DW.CFG_OBST_REACT 7) true : State).active = true ∧ (wClosing.setB (DW.CFG_OBST_REACT 7) true : State).par.overlap = false ∧ (wClosing.setB (DW.CFG_OBST_REACT 7) true : State).dw[7].obstStop = false ∧ (wClosing.setB (DW.CFG_OBST_REACT 7) true : State).dwState 7 = .closing ∧ (wClosing.setB (DW.CFG_OBST_REACT 7) true : State).on (DW.CFG_OBST_REACT 7) = true) ∧
    ((wOpensD.modAx 14 fun e => { e with moving := true } : State).running = true ∧ (wOpensD.modAx 14 fun e => { e with moving := true } : State).active = true ∧ (wOpensD.modAx 14 fun e => { e with moving := true } : State).par.overlap = false ∧ (wOpensD.modAx 14 fun e => { e with moving := true } : State).dw[7].obstStop = false ∧ (wOpensD.modAx 14 fun e => { e with moving := true } : State).dwState 7 = .opening ∧ (wOpensD.modAx 14 fun e => { e with moving := true } : State).leavesClose 7 = false ∧ (wOpensD.modAx 14 fun e => { e with moving := true } : State).ax[doorAxis 7].moving = true) ∧
    (wClosing.running = true ∧ wClosing.dwState 7 = .closing) ∧
    ((wLearning.modAx 14 fun e => { e with moving := true, closing := true } : State).running = true ∧ (wLearning.modAx 14 fun e => { e with moving := true, closing := true } : State).leavesClose 7 = true) ∧
    ((wClosing.set (State.crcF 14) 1 : State).running = true ∧ (wClosing.set (State.crcF 14) 1 : State).mEq (doorAxis 7) ≠ 0 ∧ (wClosing.set (State.crcF 14) 1 : State).mEq (stepAxis 7) = 0) ∧
    (up.running = true) ∧
    (wObst.running = true ∧ wObst.active = true ∧ wObst.par.overlap = false ∧ wObst.dw[7].obstStop = true) ∧
    (wLearning.running = true ∧ wLearning.active = true ∧ wLearning.par.overlap = false ∧ wLearning.pageOn (pgDW 7) = true ∧ wLearning.dwState 7 = .learning) := by decide +kernel

theorem meets_EffortCommandsAct_2 :
    (wLearning.running = true ∧ wLearning.active = true ∧ wLearning.par.overlap = false ∧ wLearning.pageOn (pgDW 7) = true ∧ wLearning.dwState 7 = .learning) ∧
    (wLearning.running = true) ∧
    ((wStandby.modDw 7 fun e => { e with snap := some false } : State).running = true ∧ (wStandby.modDw 7 fun e => { e with snap := some false } : State).active = false ∧ (wStandby.modDw 7 fun e => { e with snap := some false } : State).dw[7].offers = [] ∧ (wStandby.modDw 7 fun e => { e with snap := some false } : State).dw[7].snap = some false) ∧
    (wLocked.running = true ∧ wLocked.dwState 7 = .closedLocked) ∧
    (wEdit.running = true ∧ wEdit.dwState 7 = .closedLocked ∧ wEdit.pageOn (pgDW 7) = false ∧ wEdit.editable = true) ∧
    (wHeld.running = true ∧ wHeld.dwState 7 ≠ .closedLocked) ∧
    (wHeld.running = true ∧ wHeld.dwState 7 ≠ .closedLocked) := by decide +kernel

theorem meets_DriveFaultsStopTheirAxis_1 :
    (wMoving.on (AX.FAULT_ACTIVE 15) = false ∧ wMoving.active = true ∧ wMoving.par.overlap = false ∧ wMoving.running = true ∧ wMoving.ax[15].moving = true) ∧
    (wMoving.on (AX.FAULT_ACTIVE 15) = false ∧ wMoving.running = true) ∧
    (wMoving.running = true ∧ wMoving.on (AX.FAULT_ACTIVE 15) = false ∧ (15 : Nat) / 8 = 1) ∧
    (wMoving.on (AX.FAULT_ACTIVE 15) = false ∧ wMoving.running = true) ∧
    (wMoving.on (AX.FAULT_ACTIVE 15) = false ∧ wMoving.running = true) ∧
    (wMoving.on (AX.FAULT_ACTIVE 15) = false ∧ wMoving.running = true) ∧
    (wMoving.on (AX.FAULT_ACTIVE 15) = false ∧ wMoving.running = true ∧ wMoving.get (AX.CFG_MOTOR 15) = 0) ∧
    (wMoving.on (AX.FAULT_ACTIVE 15) = false ∧ wMoving.running = true) ∧
    (wMoving.on (AX.FAULT_ACTIVE 15) = false ∧ wMoving.running = true) ∧
    (({wMeas0 with boot := { wMeas0.boot with vgd := Vector.replicate 2 .low } } : State).running = true ∧ ({wMeas0 with boot := { wMeas0.boot with vgd := Vector.replicate 2 .low } } : State).on (AX.FAULT_ACTIVE 15) = false ∧ ({wMeas0 with boot := { wMeas0.boot with vgd := Vector.replicate 2 .low } } : State).ax[15].start = .measuring ∧ ({wMeas0 with boot := { wMeas0.boot with vgd := Vector.replicate 2 .low } } : State).boot.vgd[State.gateDie 15] ≠ .good) ∧
    (wPre.on (AX.FAULT_ACTIVE 15) = false ∧ wPre.running = true ∧ wPre.ax[15].start = .precharge) ∧
    (wMeas.on (AX.FAULT_ACTIVE 15) = false ∧ wMeas.running = true ∧ wMeas.ax[15].start = .measuring) := by decide +kernel

theorem meets_DriveFaultsStopTheirAxis_2 :
    (wAlign.on (AX.FAULT_ACTIVE 15) = false ∧ wAlign.running = true ∧ wAlign.ax[15].moving = true ∧ wAlign.ax[15].kind = .align ∧ Int.natAbs (-4) ≤ 4) := by decide +kernel

theorem meets_DriveCommandsAct_1 :
    (wBrushed.running = true ∧ wBrushed.get (AX.CFG_MOTOR 15) = 1 ∧ -(2 ^ 31) < (-2147483647 : Int) ∧ (2147483647 : Int) < 2 ^ 31) ∧
    (up.running = true ∧ up.get (AX.CFG_MOTOR 15) = 0 ∧ up.aligning 15 = false) ∧
    (wBrushed.running = true) ∧
    (wBrushed.running = true) ∧
    (wBrushed.running = true) ∧
    (wOver.running = true ∧ wOver.get (AX.FAULT_CAUSE 15) ≠ 0 ∧ wOver.on (AX.FAULT_ACTIVE 15) = false ∧ wOver.standing 15 = []) ∧
    (wMeas.running = true ∧ wMeas.ax[15].start = .measuring ∧ wMeas.boot.vgd[State.gateDie 15] = .good ∧ wMeas.ax[15].moving = false) ∧
    (wMeas.running = true ∧ wMeas.boot.vgd[State.gateDie 15] = .good ∧ wMeas.ax[15].moving = false) ∧
    (wPre.running = true ∧ wPre.ax[15].start = .precharge ∧ wPre.ax[15].moving = false) ∧
    (wGate.running = true ∧ wGate.active = true ∧ wGate.on (AX.STAT_GATE_EN 15) = true ∧ wGate.on (AX.STAT_OWNED 15) = false ∧ wGate.get (AX.STAT_AX_STATE 15) ≠ 5) ∧
    (wGate.running = true ∧ wGate.active = true) ∧
    (wGate.running = true ∧ wGate.active = true) := by decide +kernel

theorem meets_DriveCommandsAct_2 :
    (wAlign.running = true ∧ wAlign.ax[15].moving = true ∧ wAlign.ax[15].kind = .align ∧ 4 < Int.natAbs (-5) ∧ -4 ≤ (5 : Int)) ∧
    (wAlign.running = true ∧ wAlign.ax[15].moving = true ∧ wAlign.ax[15].kind = .align ∧ 4 < Int.natAbs (-5) ∧ (-5 : Int) < -4) := by decide +kernel

theorem meets_MotionsEnd :
    (wTravel.active = true ∧ wTravel.par.overlap = false ∧ wTravel.running = true ∧ wTravel.dwState 7 = .opn ∧ wTravel.dw[7].dets = [] ∧ wTravel.ax[doorAxis 7].moving = true ∧ wTravel.ax[doorAxis 7].kind = .move ∧ wTravel.ax[doorAxis 7].closing = false ∧ wTravel.ax[doorAxis 7].trajDone = true ∧ wTravel.ax[doorAxis 7].travelOut = false) ∧
    (wTravel.dwState 7 = .opn ∧ wTravel.dw[7].dets = [] ∧ wTravel.ax[doorAxis 7].moving = true ∧ wTravel.ax[doorAxis 7].kind = .move ∧ wTravel.ax[doorAxis 7].closing = false ∧ wTravel.active = true ∧ wTravel.par.overlap = false ∧ wTravel.ax[doorAxis 7].trajDone = true ∧ wTravel.ax[doorAxis 7].travelOut = false ∧ wTravel.running = true) ∧
    (wTravel.dwState 7 = .opn ∧ wTravel.dw[7].dets = [] ∧ wTravel.ax[doorAxis 7].moving = true ∧ wTravel.ax[doorAxis 7].kind = .move ∧ wTravel.ax[doorAxis 7].closing = false ∧ wTravel.active = true ∧ wTravel.par.overlap = false ∧ wTravel.running = true) := by decide +kernel

theorem meets_PortFaultsStopTheirAxes :
    (wHall.on (AX.FAULT_ACTIVE 14) = false ∧ wHall.running = true ∧ wHall.counts 15 = true ∧ wHall.get (FB.CFG_TYPE 15) = 1 ∧ wHall.get (FB.HALL_SECTOR 15) = 7 ∧ wHall.portOf 14 = some 15) ∧
    (wQuad.on (AX.FAULT_ACTIVE 14) = false ∧ wQuad.running = true ∧ wQuad.counts 15 = true ∧ wQuad.get (FB.CFG_TYPE 15) = 0 ∧ wQuad.on (FB.CFG_IDX_EN 15) = true ∧ wQuad.portOf 14 = some 15) ∧
    ((wQuad.modAx 14 fun e => { e with moving := true, kind := .align } : State).running = true ∧ (wQuad.modAx 14 fun e => { e with moving := true, kind := .align } : State).on (AX.FAULT_ACTIVE 14) = false ∧ (wQuad.modAx 14 fun e => { e with moving := true, kind := .align } : State).counts 15 = true ∧ (wQuad.modAx 14 fun e => { e with moving := true, kind := .align } : State).portOf 14 = some 15 ∧ (wQuad.modAx 14 fun e => { e with moving := true, kind := .align } : State).ax[14].moving = true ∧ (wQuad.modAx 14 fun e => { e with moving := true, kind := .align } : State).ax[14].kind = .align) ∧
    ((wQuad.modAx 14 fun e => { e with moving := true, firstFrom := some (2499, 0) } : State).running = true ∧ (wQuad.modAx 14 fun e => { e with moving := true, firstFrom := some (2499, 0) } : State).on (AX.FAULT_ACTIVE 14) = false ∧ (wQuad.modAx 14 fun e => { e with moving := true, firstFrom := some (2499, 0) } : State).counts 15 = true ∧ (wQuad.modAx 14 fun e => { e with moving := true, firstFrom := some (2499, 0) } : State).portOf 14 = some 15 ∧ (wQuad.modAx 14 fun e => { e with moving := true, firstFrom := some (2499, 0) } : State).ax[14].moving = true ∧ (wQuad.modAx 14 fun e => { e with moving := true, firstFrom := some (2499, 0) } : State).ax[14].firstFrom = some (2499, 0)) ∧
    (wQuad.running = true ∧ wQuad.portOf 14 = some 15 ∧ wQuad.on (AX.FAULT_ACTIVE 14) = false ∧ wQuad.pageOn (pgFB 15) = true ∧ wQuad.get (FB.FAULT_CAUSE 15) = 0 ∧ wQuad.pairUsed 15 .i = true) := by decide +kernel

theorem meets_PortCommandsAct :
    (wListen.running = true ∧ wListen.pageOn (pgFB 15) = true ∧ wListen.get (FB.CFG_TYPE 15) = 2 ∧ wListen.on (FB.CFG_SSI_SHARE 15) = true ∧ wListen.active = false) ∧
    ((wSsi.modFb 15 fun e => { e with clocking := true } : State).running = true ∧ (wSsi.modFb 15 fun e => { e with clocking := true } : State).pageOn (pgFB 15) = true ∧ (wSsi.modFb 15 fun e => { e with clocking := true } : State).get (FB.CFG_TYPE 15) = 2 ∧ (wSsi.modFb 15 fun e => { e with clocking := true } : State).active = true ∧ (wSsi.modFb 15 fun e => { e with clocking := true } : State).fb[15].clocking = true) ∧
    (wSsi.running = true ∧ wSsi.pageOn (pgFB 15) = true ∧ wSsi.get (FB.CFG_TYPE 15) = 2 ∧ wSsi.active = true) ∧
    (wQuad.running = true ∧ wQuad.on (FB.CFG_IDX_EN 15) = true ∧ wQuad.get (FB.CFG_TYPE 15) = 0 ∧ wQuad.counts 15 = true) ∧
    (wQuad.running = true) ∧
    (wQuad.running = true) ∧
    (wBroken.running = true ∧ wBroken.on (State.pairFlag 15 .a) = true ∧ wBroken.pageOn (pgFB 15) = true) ∧
    ((wBroken.setB (State.pairFlag 15 .a) false : State).running = true ∧ (∀ p ∈ [State.pairFlag 15 .a, State.pairFlag 15 .b, State.pairFlag 15 .i], (wBroken.setB (State.pairFlag 15 .a) false : State).on p = false) ∧ (wBroken.setB (State.pairFlag 15 .a) false : State).get (FB.FAULT_CAUSE 15) ≠ 0 ∧ (wBroken.setB (State.pairFlag 15 .a) false : State).on (FB.FAULT_ACTIVE 15) = false ∧ (wBroken.setB (State.pairFlag 15 .a) false : State).get (FB.CFG_TYPE 15) ≤ 1) ∧
    (wEnc.running = true ∧ wEnc.pageOn 0x0F = true ∧ wEnc.on (ENC.CFG_EN 3) = true ∧ wEnc.enc[3].back ≠ 0 ∧ wEnc.on (ENC.CFG_SHARED 3) = false) := by decide +kernel

theorem meets_PortsCount_1 :
    (wPlain.running = true ∧ wPlain.counts 15 = true ∧ wPlain.get (FB.CFG_TYPE 15) = 0 ∧ wPlain.on (FB.CFG_IDX_EN 15) = false ∧ wPlain.fb[15].a = false ∧ wPlain.fb[15].b = false) ∧
    (wPlain.running = true ∧ wPlain.counts 15 = true ∧ wPlain.get (FB.CFG_TYPE 15) = 0 ∧ wPlain.on (FB.CFG_IDX_EN 15) = false ∧ wPlain.fb[15].a = false ∧ wPlain.fb[15].b = false) ∧
    (wPlain.running = true ∧ wPlain.counts 15 = true ∧ wPlain.get (FB.CFG_TYPE 15) = 0 ∧ wPlain.on (FB.CFG_IDX_EN 15) = false ∧ wPlain.fb[15].a = false ∧ wPlain.fb[15].b = false) ∧
    (wHall.running = true ∧ wHall.counts 15 = true ∧ wHall.get (FB.CFG_TYPE 15) = 1) ∧
    (wSector.running = true ∧ wSector.counts 15 = true ∧ wSector.get (FB.CFG_TYPE 15) = 1 ∧ wSector.on (FB.CFG_HALL_INV 15) = false ∧ wSector.fb[15].hallSec = some 0) ∧
    (wQuad.running = true ∧ wQuad.counts 15 = true ∧ wQuad.get (FB.CFG_TYPE 15) = 0 ∧ wQuad.on (FB.CFG_IDX_EN 15) = true ∧ wQuad.on (FB.CFG_IDX_QUAL 15) = false ∧ wQuad.fb[15].idx = false ∧ wQuad.on (FB.STAT_IDX_SEEN 15) = false) := by decide +kernel

theorem meets_PortsCount_2 :
    (wSsi.running = true ∧ wSsi.counts 15 = true ∧ wSsi.get (FB.CFG_TYPE 15) = 2 ∧ wSsi.fb[15].ssiSeen = false ∧ wSsi.on (FB.SSI_CFG_CODE 15) = false ∧ wSsi.ssiGood 15 ⟨true, 0xABCDE, true, true, false⟩ 0 = true) ∧
    (wSsi.running = true ∧ wSsi.counts 15 = true ∧ wSsi.get (FB.CFG_TYPE 15) = 2 ∧ wSsi.fb[15].ssiSeen = false ∧ wSsi.on (FB.SSI_CFG_CODE 15) = false ∧ wSsi.fb[15].ssiBad = 0 ∧ wSsi.ssiGood 15 ⟨false, 0xABCDE, true, true, false⟩ 0 = false) := by decide +kernel

theorem meets_ChannelsTrip :
    (wOn.get (State.chStat 47) = 1 ∨ wOn.get (State.chStat 47) = 2) ∧
    ((wInrush.get (State.chStat 47) = 1 ∨ wInrush.get (State.chStat 47) = 2) ∧ wInrush.get (State.chRetry 47) = 0) ∧
    (wOn.get (State.chStat 47) = 2) ∧
    (wOn.get (State.chStat 47) = 2) ∧
    (up.get (State.chStat 47) ≠ 4) ∧
    (wTest.get (State.chStat 47) ≠ 4 ∧ wTest.on (LSG.CH_CFG_OL_OFF_EN 3 11) = true ∧ wTest.die[groupOf 47].active = true ∧ wTest.on (State.chOut 47) = false ∧ wTest.longOff 47 = true ∧ wTest.pulseOn (.channel 47) = none ∧ wTest.pulseDue 47 = false ∧ wTest.chSafe 47 = false) ∧
    (wOn.get (State.chStat 47) ≠ 4 ∧ wOn.on (State.chOut 47) = true) ∧
    ((up.set (State.chStat 47) 4 : State).get (State.chStat 47) = 4) := by decide +kernel

theorem meets_ChannelsFollowTheirDemand_1 :
    (wDie.die[groupOf 47].active = true ∧ wDie.get (State.chStat 47) = 0 ∧ wDie.chCool 47 = true ∧ wDie.longOff 47 = true ∧ wDie.isP2 47 = false ∧ wDie.pulsedOff 47 = false ∧ (wDie.setB (LSG.CH_STAT_LSIN 3 11) true).chWanted 47 = true) ∧
    (wLit.die[groupOf 47].active = true ∧ (wLit.get (State.chStat 47) = 1 ∨ wLit.get (State.chStat 47) = 2) ∧ (wLit.setB (LSG.CH_STAT_LSIN 3 11) false).chDemand 47 = false) ∧
    (wHot.die[groupOf 47].active = true ∧ wHot.chWanted 47 = true ∧ wHot.get (State.chStat 47) = 5) ∧
    (wTripped.die[groupOf 47].active = true ∧ wTripped.chWanted 47 = true ∧ wTripped.chCool 47 = true ∧ wTripped.get (State.chStat 47) = 3) ∧
    (wLatched.die[groupOf 47].active = true ∧ wLatched.chWanted 47 = true ∧ wLatched.chCool 47 = true ∧ wLatched.ready = true ∧ wLatched.get (State.chStat 47) = 4 ∧ wLatched.get (State.chCause 47) ≠ 7 ∧ wLatched.on (LSG.GRP_STAT_UV 3) = false) ∧
    (wUv.die[groupOf 47].active = true ∧ wUv.get (State.chStat 47) = 6 ∧ wUv.chWanted 47 = true ∧ wUv.chCool 47 = true ∧ 1700 < 1701) ∧
    (wInrush.get (State.chStat 47) = 1) ∧
    (wOn.on (State.chOut 47) = true) ∧
    (wOn.get (State.chStat 47) ≠ 4 ∧ 1599 < 1600) ∧
    (wHold.ch[47].hold.isSome = true) ∧
    (up.ready = true ∧ up.onBlocked = true) := by decide +kernel

theorem meets_ChannelsFollowTheirDemand_2 :
    (wFree.ready = true ∧ wFree.onBlocked = false ∧ (List.range 12).all (fun j => wFree.chSafe (36 + j) == false) = true) := by decide +kernel

theorem meets_GroupsMeasure :
    (up.ready = true) ∧
    (wOl.on (LSG.CH_CFG_OL_ON_EN 3 11) = true ∧ wOl.on (State.chOut 47) = true ∧ wOl.on (LSG.CH_STAT_OL_ON 3 11) = false) ∧
    (wTest.pulseOn (.channel 47) = none ∧ wTest.pulseDue 47 = false ∧ wTest.chSafe 47 = false ∧ wTest.on (LSG.CH_CFG_OL_OFF_EN 3 11) = true ∧ wTest.die[groupOf 47].active = true ∧ wTest.on (State.chOut 47) = false ∧ wTest.longOff 47 = true) ∧
    (wTest.on (LSG.CH_CFG_OL_OFF_EN 3 11) = true ∧ wTest.die[groupOf 47].active = true ∧ wTest.on (State.chOut 47) = false ∧ wTest.pulseOn (.channel 47) = none ∧ wTest.pulseDue 47 = false ∧ wTest.chSafe 47 = false ∧ wTest.longOff 47 = true) ∧
    (wTest.on (LSG.CH_CFG_OL_OFF_EN 3 11) = true ∧ wTest.die[groupOf 47].active = true ∧ wTest.on (State.chOut 47) = false ∧ wTest.pulseOn (.channel 47) = none ∧ wTest.pulseDue 47 = false ∧ wTest.chSafe 47 = false ∧ wTest.longOff 47 = true) ∧
    (wDie.pageOn (pgLSG 3) = true) ∧
    (up.pageOn (pgLSG 3) = false) ∧
    (up.ready = true) ∧
    (up.on (LSG.GRP_STAT_GRP_OVER 3) = false) ∧
    (up.ready = true) := by decide +kernel

theorem meets_PorchesRun_1 :
    (wDue.porchWanted 7 = true ∧ wDue.pz[7].due = false) ∧
    (wStop.porchWanted 7 = false ∧ wStop.pz[7].due = true) ∧
    (up.ready = true) ∧
    (up.ready = true) ∧
    (up.ready = true) ∧
    (State.sideGet wPre0.oe.preSet .right = true) ∧
    (wPre0.running = true) ∧
    (wRun.running = true ∧ wRun.on (PZ.STAT_RUNNING 7) = true ∧ wRun.pz[7].got = [] ∧ wRun.sl[14].frame = none ∧ wRun.sl[15].frame = none) ∧
    (wRun.running = true ∧ wRun.on (PZ.STAT_RUNNING 7) = true ∧ wRun.pz[7].closed = [wPass]) ∧
    (wRun.running = true ∧ wRun.on (PZ.STAT_RUNNING 7) = true ∧ wRun.oe.down = false ∧ wRun.porchEnabled 7 = true ∧ wRun.pz[7].miss0 < 3) ∧
    (wRun.running = true ∧ wRun.on (PZ.STAT_RUNNING 7) = true ∧ wRun.queryBad 7 = false) ∧
    (up.running = true ∧ (up.on (PZ.STAT_RUNNING 7) = false ∨ up.queryBad 7 = true)) := by decide +kernel

theorem meets_PorchesRun_2 :
    (wRate.running = true ∧ wRate.oe.next = some (133332, 3)) ∧
    (wRun.running = true ∧ wRun.pz[7].due = true) ∧
    (wDown.running = true ∧ wDown.oe.down = true ∧ wDown.oe.stopped = false) ∧
    (wStopped.running = true ∧ wStopped.oe.stopped = true) ∧
    (wOcc.running = true ∧ wOcc.oe.stopped = false ∧ wOcc.on OCC.FAULT_ACTIVE = false) := by decide +kernel

theorem meets_SensorLinksAct_1 :
    (wHead.running = true ∧ wHead.listens 15 = true ∧ State.jubido wStart.hdr = true ∧ wStart.hdr.fcs = true ∧ wHead.sl[15].frame = none ∧ State.headOk wStart.hdr 1 32 = true ∧ wHead.sl[15].calCrc = some wStart.calCrc ∧ (wHead.exposureOf (State.doorOfLink 15) wStart.expEnd.toNat).isSome = true ∧ wStart.width.toNat = 320 ∧ wStart.height.toNat = 240 ∧ wStart.headStat.getLsbD 2 = false ∧ wHead.linkFault 15 = false) ∧
    (wLink.running = true ∧ wLink.listens 15 = true ∧ State.jubido ({ wStart with hdr := ⟨true, 0x88B5, true, 1, 1, 32, 0⟩ } : FrameStartMsg).hdr = false) ∧
    (wLink.running = true ∧ State.jubido ({ wStart with hdr := ⟨false, 0x88B5, false, 1, 1, 32, 0⟩ } : FrameStartMsg).hdr = true ∧ wLink.listens 15 = true ∧ ({ wStart with hdr := ⟨false, 0x88B5, false, 1, 1, 32, 0⟩ } : FrameStartMsg).hdr.fcs = false) ∧
    (wFrame.running = true ∧ wFrame.listens 15 = true ∧ wFrame.sl[15].frame = some 3 ∧ wFrame.sl[15].slots[(3 : Fin 4)] = some ⟨wStart, [], false, false, 0⟩ ∧ State.jubido wRow.hdr = true ∧ wRow.hdr.fcs = true ∧ State.headOk wRow.hdr 2 968 = true ∧ wRow.depth.length = 320 ∧ wRow.conf.length = 320 ∧ wRow.frameNo = wStart.frameNo ∧ wRow.row.toNat = 0) := by decide +kernel

theorem meets_SensorLinksAct_2 :
    (wFrame.running = true ∧ wFrame.listens 15 = true ∧ wFrame.sl[15].frame = some 3 ∧ wFrame.sl[15].slots[(3 : Fin 4)] = some ⟨wStart, [], false, false, 0⟩ ∧ State.jubido wRow.hdr = true ∧ wRow.hdr.fcs = true ∧ State.headOk wRow.hdr 2 968 = true ∧ wRow.depth.length = 320 ∧ wRow.conf.length = 320 ∧ ({ wRow with frameNo := 4 } : RowMsg).frameNo ≠ wStart.frameNo) ∧
    (wLink.running = true ∧ wLink.listens 15 = true ∧ State.jubido wCal.hdr = true ∧ wCal.hdr.fcs = true ∧ State.headOk wCal.hdr 3 32 = true ∧ crc32 (State.calBytes wCal) = wCal.crc ∧ wCal.fmt ≠ 0 ∧ wCal.rangeMax.toNat ≤ 6553 ∧ wCal.rangeMin.toNat < wCal.rangeMax.toNat ∧ wLink.word (SL.HEAD_ID_EXP 15).addr = 0) ∧
    (wLink.running = true ∧ wLink.listens 15 = true) ∧
    (wLink.running = true ∧ wLink.listens 15 = true) ∧
    ((wLink.modSl 15 fun e => { e with calTries := 2 } : State).running = true ∧ (wLink.modSl 15 fun e => { e with calTries := 2 } : State).listens 15 = true ∧ (wLink.modSl 15 fun e => { e with calTries := 2 } : State).sl[15].calTries = 2) ∧
    ((wLink.modSl 15 fun e => { e with calTries := 3 } : State).running = true ∧ (wLink.modSl 15 fun e => { e with calTries := 3 } : State).listens 15 = true ∧ (wLink.modSl 15 fun e => { e with calTries := 3 } : State).sl[15].calTries = 3 ∧ (wLink.modSl 15 fun e => { e with calTries := 3 } : State).sl[15].present.contains 4 = false) ∧
    (wLink.running = true ∧ wLink.listens 15 = true ∧ wLink.sl[15].present.contains 5 = false) := by decide +kernel

theorem meets_SensorLinksAct_3 :
    (wLink.running = true ∧ wLink.listens 15 = true ∧ wLink.sl[15].present.contains 6 = false ∧ wLink.on (PZ.STAT_RUNNING 7) = true) ∧
    (wNoLink.running = true ∧ wNoLink.isUp 15 = false ∧ wNoLink.on (SL.LINK_STAT_PWREN 15) = true ∧ wNoLink.on (SL.CFG_PRESENT 15) = true ∧ wNoLink.sl[15].present.contains 1 = false) ∧
    (wNoLink.running = true ∧ wNoLink.linkUsed 15 = true) ∧
    (wLink.running = true) ∧
    (wPodl.running = true ∧ 3 ≤ (wPodl.sl[15].podl.filter (fun x => decide (wPodl.clk32 < x + 60 * 32768))).length) ∧
    (wLink.running = true) ∧
    (wPodlOff.running = true ∧ wPodlOff.sl[15].podlOff = true ∧ wPodlOff.on (SL.LINK_STAT_PWR_LATCHED 15) = false) ∧
    (wLink.running = true ∧ wLink.on (SL.FAULT_ACTIVE 15) = false) := by decide +kernel

theorem meets_SelfTestsJudge_1 :
    (wSc.coreOn = true ∧ wSc.get SAF.STAT_SC_STATE = 1) ∧
    (wSc.get SAF.STAT_SC_STATE = 1 ∧ wSc.coreOn = true) ∧
    (wSc.get SAF.STAT_SC_STATE = 1 ∧ wSc.coreOn = true) ∧
    (wSc.get SAF.STAT_SC_STATE = 1 ∧ wSc.coreOn = true) ∧
    (wSc.get SAF.STAT_SC_STATE = 1 ∧ wSc.coreOn = true) ∧
    (wSc.get SAF.STAT_SC_STATE = 1 ∧ wSc.coreOn = true) ∧
    (wDiag.coreOn = true ∧ wDiag.get SAF.STAT_SC_STATE = 1 ∧ wDiag.scDiSafe 63 = true ∧ (wDiag.sc.diag &&& ~~~ (1#64 <<< 63)) ≠ 0) ∧
    (up.coreOn = true) ∧
    (up.booting = false ∧ up.coreOn = true) ∧
    (up.coreOn = true) ∧
    (up.coreOn = true) ∧
    (up.coreOn = true) := by decide +kernel

theorem meets_SelfTestsJudge_2 :
    (wBooting.booting = true ∧ wBooting.coreOn = true ∧ wBooting.get SAF.STAT_SC_STATE = 0) ∧
    (wBooting.coreOn = true ∧ wBooting.booting = true) ∧
    (wBooting.coreOn = true ∧ wBooting.booting = true) ∧
    (wBooting.coreOn = true ∧ wBooting.booting = true) ∧
    (wBooting.booting = true ∧ wBooting.coreOn = true ∧ wBooting.get SAF.STAT_SC_STATE = 0) ∧
    (wBooting.coreOn = true ∧ wBooting.get SAF.STAT_SC_STATE = 0) ∧
    (wStageBad.coreOn = true ∧ wStageBad.get SAF.STAT_SC_STATE = 0) := by decide +kernel

theorem meets_TrainLinesAct_1 :
    (wTrac.running = true ∧ wTrac.tracMissing = 0 ∧ wTrac.s0Alive = true ∧ wTrac.sc.settle.isSome = true ∧ wTrac.tracRel = false) ∧
    (wRel.running = true ∧ wRel.scOn TIL.CFG_FB_EN = true ∧ wRel.sc.tilAct.contains 1 = false) ∧
    (up.running = true ∧ up.on TIL.STAT_ZSP_DISC = false) ∧
    (up.running = true) ∧
    (wSrc.running = true ∧ wSrc.headMode = true ∧ wSrc.sc.srcOn = true ∧ 10 * wSrc.scGet TIL.LOOP_CFG_LOOP_TP_W ≤ 2 * 300 ∧ 2 * 300 ≤ 30 * wSrc.scGet TIL.LOOP_CFG_LOOP_TP_W) ∧
    (wSrc.running = true ∧ 10 * wSrc.scGet TIL.LOOP_CFG_LOOP_TP_W ≤ 2 * 100) ∧
    (wIn.running = true ∧ wIn.on TIL.STAT_IN_PRESENT = true) ∧
    (wSrc.running = true ∧ wSrc.sc.srcOn = true ∧ wSrc.sc.tilAct.contains 5 = false) ∧
    (wRel.running = true ∧ wRel.tracRel = true ∧ wRel.sc.tilAct.contains 6 = false) ∧
    (wRel.running = true ∧ wRel.scRun = true ∧ wRel.active = true ∧ wRel.sc.paused = false ∧ wRel.pulseFree (State.pulseDie .tracRel) = true ∧ wRel.pulseApplies .tracRel false = true) ∧
    (wPulse.running = true ∧ wPulse.pulseOn .tracRel = some ⟨.tracRel, false, false, wPulse.sc.tick⟩ ∧ wPulse.sc.paused = false ∧ wPulse.sc.failed.contains (wPulse.pulseCode .tracRel) = false) := by decide +kernel

theorem meets_TrainLinesAct_2 :
    (wPulse2.running = true ∧ wPulse2.pulseOn .tracRel = some ⟨.tracRel, false, false, wPulse2.sc.tick⟩ ∧ wPulse2.sc.paused = false ∧ wPulse2.sc.failed.contains (wPulse2.pulseCode .tracRel) = true ∧ wPulse2.sc.tilAct.contains 2 = false) ∧
    (up.running = true ∧ up.on TIL.FAULT_ACTIVE = false) := by decide +kernel

theorem meets_SafetyCoreJudges :
    (wSd.running = true ∧ wSd.safActive 7 19 = false) ∧
    (wSd.running = true ∧ wSd.safActive 7 17 = false) ∧
    (wSd.running = true ∧ wSd.safActive 7 20 = false) ∧
    (wSd.running = true) ∧
    (wSd.running = true ∧ (wSd.get (SAF.DEGR_CAUSE 7)).testBit (State.degrBit .inputDiag) = true) ∧
    (wSd.running = true ∧ wSd.get (SAF.DEGR_CAUSE 7) ≠ 0) ∧
    (wHeldD.running = true ∧ wHeldD.sc.dw[7].degrHold.isSome = true) ∧
    (wSd.running = true ∧ wSd.on SAF.FAULT_LEVEL = false ∧ wSd.on SAF.FAULT_ACTIVE = false) ∧
    (wSd.running = true ∧ wSd.pageOn 0x0E = true) ∧
    (wWet.running = true ∧ wWet.active = true ∧ wWet.scOn (DIN.GRP_CFG_WET_I 3) = true ∧ false = wWet.diFilt.getLsbD 63 ∧ 9 ≤ wWet.sc.wetGood[63]) ∧
    (wWet2.running = true ∧ wWet2.active = true ∧ wWet2.scOn (DIN.GRP_CFG_WET_I 3) = true ∧ wWet2.pageOn 0x0E = true ∧ true ≠ wWet2.diFilt.getLsbD 63 ∧ wWet2.sc.wetBad.getLsbD 63 = true ∧ wWet2.on (State.bitFld (DIN.WET_FAIL 0).addr 63) = false) ∧
    (wSd.running = true ∧ wSd.scDiSafe 63 = true ∧ 7 ∈ wSd.doorsOf 63) := by decide +kernel

theorem meets_NoEnableOutsideRun :
    (wStopSc.running = true ∧ wStopSc.scRun = false ∧ wStopSc.pair = false) := by decide +kernel

theorem meets_TelegramsAct_1 :
    (wConn.running = true ∧ wConn.active = true ∧ wConn.named wConnect.bytes .host = some 7 ∧ wConn.stl.conn[7].taken ≠ some wConn.sc.tick ∧ wConn.checkGood 7 wConnect.bytes = true ∧ State.formatGood wConnect.bytes = true ∧ wConn.laterClass 7 wConnect.bytes .host = none ∧ telField wConnect.bytes 0 1 = 1 ∧ telField wConnect.bytes 12 4 ≠ 0 ∧ wConn.connState 7 = 1) ∧
    (wLive.running = true ∧ wLive.active = true ∧ wLive.named wCommand.bytes .host = some 7 ∧ wLive.stl.conn[7].taken ≠ some wLive.sc.tick ∧ wLive.checkGood 7 wCommand.bytes = true ∧ State.formatGood wCommand.bytes = true ∧ wLive.laterClass 7 wCommand.bytes .host = none ∧ telField wCommand.bytes 0 1 = 2 ∧ wLive.connState 7 = 2 ∧ DwOp.ofCode (telField wCommand.bytes 21 1) = some .opn ∧ (telField wCommand.bytes 20 1).testBit 7 = true ∧ (wLive.scGet (STL.CONN_CFG_DW_MASK 7)).testBit 7 = true ∧ (wLive.scGet (STL.CONN_LIM_CMD_MASK 7)).testBit (DwOp.code .opn - 1) = true ∧ wLive.dw[7].offers = []) ∧
    (wConn.running = true ∧ wConn.active = true ∧ wConn.stl.conn[7].taken ≠ some wConn.sc.tick ∧ wConn.named wBadTel.bytes .host = some 7 ∧ wConn.checkGood 7 wBadTel.bytes = false ∧ wConn.connState 7 = 1) ∧
    (wConn.running = true ∧ wConn.active = true ∧ wConn.named wBadTel.bytes .host = some 7 ∧ wConn.stl.conn[7].taken ≠ some wConn.sc.tick ∧ wConn.checkGood 7 wBadTel.bytes = false ∧ wConn.connState 7 = 1) := by decide +kernel

theorem meets_TelegramsAct_2 :
    (wConn.running = true ∧ wConn.active = true ∧ (wConn.connState 7 = 1 ∨ wConn.connState 7 = 2)) ∧
    (wLive.running = true ∧ wLive.active = true ∧ 2 ≤ wLive.connState 7) ∧
    (up.ready = true ∧ up.stl.words.length < 9) ∧
    (wWords.ready = true ∧ wWords.stl.words.length = 9 ∧ (wWords.stl.rx.filter (fun x => x.2 == .host)).length < 8) ∧
    (wWords.ready = true) ∧
    (up.ready = true) ∧
    (wWords.ready = true ∧ wWords.stl.tx ≠ [] ∧ wWords.get STL.TX_STAT_WORD < 9) ∧
    (wWords.stl.words ≠ []) := by decide +kernel

theorem meets_CanReceivesAndConfines_1 :
    (wBus.get (CAN.QUEUE_STAT_COUNT 3 3) + 1 < 2 ^ 11 ∧ wBus.running = true ∧ wBus.busOn 3 = true ∧ wFrameC.fmt.val ≤ wBus.get (CAN.CFG_MODE 3) ∧ wBus.get (CAN.RULES_COUNT 3) = 0 ∧ wBus.get (CAN.CFG_NOMATCH 3) = (3 : Fin 4).val + 1 ∧ wBus.get (CAN.QUEUE_STAT_COUNT 3 3) < wBus.queueSize 3 3 ∧ (wBus.elements 3 3 (some 3))[(wBus.get (CAN.QUEUE_STAT_HEAD 3 3) + wBus.get (CAN.QUEUE_STAT_COUNT 3 3)) % wBus.queueSize 3 3]? = some (15, 992, 48) ∧ wFrameC.data.length ≤ 48) ∧
    (wNoMatch.running = true ∧ wNoMatch.busOn 3 = true ∧ wFrameC.fmt.val ≤ wNoMatch.get (CAN.CFG_MODE 3) ∧ wNoMatch.get (CAN.RULES_COUNT 3) = 0 ∧ wNoMatch.get (CAN.CFG_NOMATCH 3) = 0) ∧
    (wBus.running = true ∧ wBus.busOn 3 = true) ∧
    (wOff.running = true ∧ wOff.get (CAN.STAT_BUS 3) = 4 ∧ wOff.on (CAN.CFG_BO_AUTO 3) = false) ∧
    (wOffA.running = true ∧ wOffA.get (CAN.STAT_BUS 3) = 4 ∧ wOffA.on (CAN.CFG_BO_AUTO 3) = true) ∧
    (wRecov.running = true ∧ wRecov.get (CAN.STAT_BUS 3) = 5) ∧
    (wJoin.running = true ∧ wJoin.pageOn (pgCAN 3) = true ∧ wJoin.get (CAN.STAT_BUS 3) = 1 ∧ wJoin.get (CAN.ERR_CNT_TEC 3) < 128 ∧ wJoin.get (CAN.ERR_CNT_REC 3) < 128) ∧
    (wBus.running = true ∧ wBus.pageOn (pgCAN 3) = true) ∧
    (wBus.ready = true ∧ 0 < fieldOf 62 0 11 ∧ fieldOf 62 0 11 ≤ wBus.get (CAN.QUEUE_STAT_COUNT 3 3)) ∧
    (wBus.ready = true ∧ wBus.get (CAN.QUEUE_STAT_COUNT 3 3) < fieldOf 63 0 11) := by decide +kernel

theorem meets_CanReceivesAndConfines_2 :
    (wBus.ready = true ∧ 0 < fieldOf 1 0 11 ∧ fieldOf 1 0 11 ≤ wBus.get (CAN.TLOG_STAT_COUNT 3)) ∧
    (wBus.ready = true ∧ wBus.get (CAN.TLOG_STAT_COUNT 3) < fieldOf 2 0 11) ∧
    (wCanF.ready = true ∧ wCanF.on (CAN.FAULT_ACTIVE 3) = false) := by decide +kernel

theorem meets_CanTransmits :
    (wRes.running = true ∧ wRes.reserved 3 62 = true) ∧
    (wRes.running = true ∧ wRes.reserved 3 62 = true) ∧
    (wBus.running = true ∧ wBus.reserved 3 62 = false ∧ wBus.pageOn (pgCAN 3) = true ∧ wBus.badFormat 3 62 = false ∧ wBus.can[3].cur = none) ∧
    (wBus.running = true ∧ wBus.reserved 3 63 = false ∧ wBus.pageOn (pgCAN 3) = true ∧ wBus.badFormat 3 63 = true) ∧
    (wReq.running = true ∧ wReq.reserved 3 62 = false ∧ wReq.on (State.txReqF 3 62) = true) ∧
    (wReq.running = true ∧ wReq.reserved 3 62 = false ∧ wReq.on (State.txReqF 3 62) = true ∧ wReq.can[3].cur = some 62) ∧
    (wReq.running = true ∧ wReq.maySend 3 = true ∧ wReq.can[3].cur = some 62 ∧ (wReq.bufFrame 3 62).isSome = true ∧ wReq.get (CAN.CFG_OPMODE 3) ≠ 2) ∧
    (wReq.running = true ∧ wReq.maySend 3 = true ∧ wReq.can[3].cur = some 62 ∧ wReq.can[3].last = false ∧ (2 : Fin 8).val ≠ 3 ∧ wReq.can[3].late.contains 62 = false ∧ wReq.get (CAN.CFG_RETRY_MAX 3) = 15) := by decide +kernel

theorem meets_MvbDeviceActs_1 :
    (wMvb.running = true ∧ wMvb.mvbOn = true ∧ wMvb.on MVB.CFG_LINE_A_EN = true ∧ wMvb.on MVB.CFG_LINE_B_EN = true ∧ (4 : Fin 16).val ≤ 4) ∧
    (wMvb.running = true ∧ wMvb.mvbOn = true ∧ wMvb.on MVB.CFG_LINE_A_EN = true ∧ wMvb.on MVB.CFG_LINE_B_EN = true ∧ (15 : Fin 16).val = 15 ∧ (4095 : BitVec 12).toNat = wMvb.get MVB.CFG_DEV_ADDR ∧ wMvb.on MVB.STAT_TX_ON = true) ∧
    (wMaster.on MVB.CFG_LINE_A_EN = true ∧ wMaster.on MVB.CFG_LINE_B_EN = true ∧ wMaster.running = true ∧ wMaster.mvbOn = true ∧ wMaster.mvb.master = some (4, 5) ∧ wMaster.portAt 1 4 5 = none ∧ wMaster.portAt 2 4 5 = some 255) ∧
    (wMasterSrc.running = true ∧ wMasterSrc.mvbOn = true ∧ wMasterSrc.on MVB.CFG_LINE_A_EN = true ∧ wMasterSrc.on MVB.CFG_LINE_B_EN = true ∧ wMasterSrc.mvb.master = some (4, 5) ∧ (wMasterSrc.portAt 1 4 5).isSome = true ∧ wMasterSrc.on MVB.STAT_TX_ON = true ∧ wMasterSrc.mvb.mute.1 = false) ∧
    (wMvb.running = true) ∧
    (wMvb.running = true ∧ wMvb.mvbOn = true ∧ wMvb.get (MVB.PORT_CFG_DIR (255 : Fin 256)) = 2 ∧ wMvb.get (MVB.PORT_CFG_FRESH_MAX (255 : Fin 256)) ≠ 0) ∧
    (wMvb.ready = true) ∧
    (wSource.ready = true ∧ wSource.get (MVB.PORT_CFG_DIR (wSource.get MVB.PORT_SEL_PORT)) = 1) := by decide +kernel

theorem meets_MvbDeviceActs_2 :
    (wMvb.ready = true ∧ wMvb.get (MVB.PORT_CFG_DIR (wMvb.get MVB.PORT_SEL_PORT)) ≠ 1) := by decide +kernel

theorem meets_PantryActs :
    (up.running = true) ∧
    (wWaits.running = true ∧ wWaits.pan.reqs.find? (fun r => r.ax == (15 : Fin 16).val) = some ⟨15, 0, 70, false⟩) ∧
    (wShed.running = true ∧ wShed.pageOn 0x06 = true ∧ wShed.p2Barred = false ∧ wShed.pan.shed.find? (fun x => wShed.mayReturn (fin48 x.1)) = some (47, 0) ∧ wShed.oldestOn = some 0 ∧ (wShed.nomPower 47 : Int) ≤ wShed.headroom + wShed.freedBy 0) ∧
    (wCheckRun.running = true ∧ wCheckRun.ready = true ∧ wCheckRun.boot.leDown = false ∧ wCheckRun.on LDG.STAT_CHECKING = true) ∧
    (wLate.running = true ∧ wLate.ready = true ∧ wLate.boot.leDown = false ∧ (wLate.ldg.blocks.any fun b => wLate.blockDue b) = true ∧ (wLate.ldg.blocks.any fun b => decide (wLate.get LDG.CFG_REFRESH_DUE + 30 < wLate.blockAge b)) = true) ∧
    (wBlocks.running = true ∧ wBlocks.ready = true ∧ wBlocks.boot.leDown = false ∧ wBlocks.on LDG.STAT_CHECKING = false ∧ (wBlocks.ldg.blocks.all fun b => decide (wBlocks.blockAge b ≤ wBlocks.get LDG.CFG_REFRESH_DUE + 30)) = true) ∧
    (wOwes.running = true ∧ wOwes.pageOn 0x06 = false ∧ wOwes.boot.leDown = false ∧ wOwes.boot.xeDown = false) ∧
    (wHeat2.running = true ∧ wHeat2.get PBS.HEAT_HEAT_STAGE = 2 ∧ wHeat2.getI PWR.TEMP_D_TJ1 < 1150) ∧
    (wHeat1.running = true ∧ wHeat1.get PBS.HEAT_HEAT_STAGE = 1 ∧ wHeat1.getI PWR.TEMP_D_TJ1 < 1050) ∧
    (wHeat2.running = true ∧ 10 * wHeat2.get PWR.PKG_PKG_P ≤ 9 * wHeat2.get PBS.THERM_PKG_MAX) := by decide +kernel

theorem meets_PowerStatesFollow_1 :
    (wNoPort.hostPort = false) ∧
    (wHaltSc.get SAF.STAT_SC_STATE = 3) ∧
    (wHaltSc.get SAF.STAT_SC_STATE = 3) ∧
    (wNoPort.hostPort = false) ∧
    (wWaking.hostPort = true ∧ wWaking.get SAF.STAT_SC_STATE ≠ 3 ∧ wWaking.ready = true ∧ wWaking.cel.waking = true) ∧
    (wWaking.hostPort = true ∧ wWaking.get SAF.STAT_SC_STATE ≠ 3 ∧ wWaking.cel.waking = true ∧ wWaking.ready = true) ∧
    (wWaking.hostPort = true ∧ wWaking.get SAF.STAT_SC_STATE ≠ 3 ∧ wWaking.cel.waking = true ∧ wWaking.ready = true) ∧
    (up.hostPort = true ∧ up.get SAF.STAT_SC_STATE ≠ 3 ∧ up.ready = true ∧ up.cel.waking = false ∧ 2 ≤ up.get PWR.STATE_STATE ∧ up.notAllowed = 0) ∧
    (wInWatch.hostPort = true ∧ wInWatch.get SAF.STAT_SC_STATE ≠ 3 ∧ wInWatch.ready = true ∧ wInWatch.cel.waking = false ∧ wInWatch.get PWR.STATE_STATE = 2 ∧ wInWatch.notAllowed = 0) ∧
    (wBusyMotion.hostPort = true ∧ wBusyMotion.get SAF.STAT_SC_STATE ≠ 3 ∧ wBusyMotion.ready = true ∧ wBusyMotion.cel.waking = false ∧ 2 ≤ wBusyMotion.get PWR.STATE_STATE ∧ wBusyMotion.notAllowed ≠ 0) := by decide +kernel

theorem meets_PowerStatesFollow_2 :
    (up.ready = true ∧ up.hostPort = true ∧ up.get SAF.STAT_SC_STATE ≠ 3 ∧ up.cel.waking = false ∧ up.get PWR.STATE_STATE = 3 ∧ up.notAllowed = 0) ∧
    (wBusyMotion.ready = true ∧ wBusyMotion.hostPort = true ∧ wBusyMotion.get SAF.STAT_SC_STATE ≠ 3 ∧ wBusyMotion.cel.waking = false ∧ wBusyMotion.get PWR.STATE_STATE = 3 ∧ wBusyMotion.notAllowed ≠ 0) ∧
    (wInWatch.hostPort = true ∧ wInWatch.watching = true ∧ wInWatch.cel.waking = false) ∧
    (wInWatchOffer.watching = true ∧ wInWatchOffer.dw[7].offers ≠ [] ∧ wInWatchOffer.on PBS.ENERGY_AUTO_CELLAR = false) ∧
    (wInWatch.watching = true ∧ wInWatch.wakeOn (.di 63) = true) ∧
    (wInWatch.watching = true ∧ wInWatch.wakeOn (.can 3) = true) ∧
    (wInWatch.watching = true ∧ wInWatch.wakeOn .partner = true) ∧
    (wInWatchWaking.watching = true ∧ wInWatchWaking.cel.waking = true) ∧
    (wCellar.get PWR.STATE_STATE = 1 ∧ wCellar.cel.off = false ∧ wCellar.cel.coreUp = true ∧ wCellar.boot.resetLow = false ∧ wCellar.wakeOn .rtcAlarm = true) ∧
    (wCellarWaking.cel.waking = true ∧ wCellarWaking.get PWR.STATE_STATE = 1 ∧ wCellarWaking.cel.off = false ∧ wCellarWaking.boot.resetLow = false) := by decide +kernel

theorem meets_SuppliesAct :
    (wOffCell.cel.off = true) ∧
    (wNoCoreLow.cel.off = false ∧ wNoCoreLow.cel.coreUp = false ∧ wNoCoreLow.get PWR.STATE_STATE = 1 ∧ wNoCoreLow.boot.resetLow = true) ∧
    (wNoCore.cel.off = false ∧ wNoCore.cel.coreUp = false ∧ wNoCore.get PWR.STATE_STATE = 1 ∧ wNoCore.boot.resetLow = false) ∧
    (up.cel.off = false ∧ up.get PWR.STATE_STATE ≠ 1) ∧
    (wCellar.cel.off = false) ∧
    (up.cel.off = false) ∧
    (up.coreOn = true ∧ up.on (State.supField (.surge 3)) ≠ true) ∧
    (up.coreOn = true ∧ (4 : Fin 8).val < 5 ∧ up.on (State.supField (.undervolt 4)) ≠ true) ∧
    (5 ≤ (7 : Fin 8).val) ∧
    (up.cel.off = false ∧ up.on CEL.STAT_XTAL32 = false) := by decide +kernel

theorem meets_SlowDomainActs :
    (wSlow.cel.off = false) ∧
    (wAlarm.cel.off = false ∧ wAlarm.coreOn = true ∧ wAlarm.on TMR.CTRL_ALARM_EN = true ∧ wAlarm.get TMR.ALARM_LO + 2 ^ 32 * wAlarm.get TMR.ALARM_HI_ALARM ≤ wAlarm.rtc) ∧
    (wSlow.cel.off = false ∧ wSlow.boot.resetLow = true ∧ wSlow.boot.stuck = false ∧ 5000 < 5001) ∧
    (up.cel.off = false ∧ (up.posted.all fun p => p.2.2 != 1) = true ∧ up.rtcFrac + up.edgeFrac < 32768000000) ∧
    (wEdge.cel.off = false ∧ (wEdge.posted.all fun p => p.2.2 != 1) = true ∧ 32768000000 ≤ wEdge.rtcFrac + wEdge.edgeFrac ∧ wEdge.on TMR.CTRL_SET = false) ∧
    (wNoPort.hostPort = false) ∧
    (up.ready = true ∧ up.hostPort = true ∧ State.slowAddr ((0x0406B : BitVec 20).toNat / 4 * 4) = true ∧ (placeOf ((0x0406B : BitVec 20).toNat / 4 * 4)).isSome = true ∧ up.busy ((0x0406B : BitVec 20).toNat / 4 * 4 / 4096) = false) ∧
    (wBusyPage.ready = true ∧ wBusyPage.hostPort = true ∧ State.slowAddr ((0x0406B : BitVec 20).toNat / 4 * 4) = true ∧ (placeOf ((0x0406B : BitVec 20).toNat / 4 * 4)).isSome = true ∧ wBusyPage.busy ((0x0406B : BitVec 20).toNat / 4 * 4 / 4096) = true) := by decide +kernel

theorem meets_BruvanFramesAct_1 :
    (wPairUp.running = true ∧ wPairUp.pair = true ∧ wPairUp.active = true) ∧
    (wPair.running = true ∧ wPair.pair = true ∧ wPair.active = false ∧ wPair.on BRV.LINK_STAT_LOST = false) ∧
    (wPair.running = true ∧ wPair.pair = true ∧ wPair.role_ ≠ roleSyncing ∧ (0 : Word).toNat = wPair.get VLT.GEN ∧ List.replicate 8 (1 : Word) ≠ wPair.hashWords) ∧
    (wPair.running = true ∧ wPair.pair = true ∧ wPair.role_ ≠ roleSyncing) ∧
    (wPair.running = true ∧ wPair.pair = true ∧ (15 : Nat) < 16 ∧ wPair.role_ = roleStandby) ∧
    (wPairUp.running = true ∧ wPairUp.pair = true ∧ wPairUp.role_ ≠ roleStandby) ∧
    (wPair.running = true ∧ wPair.pair = true ∧ (wPair.heldRecords.any fun x => x.unitB == wRecA.unitB && x.rseq == wRecA.rseq) = true) ∧
    (wPair.running = true ∧ wPair.pair = true ∧ (wPair.heldRecords.any fun x => x.unitB == wRecB.unitB && x.rseq == wRecB.rseq) = false ∧ wPair.journalUsed + Payload.slots wRecB.payload ≤ 1024) ∧
    (wPairUp.running = true ∧ wPairUp.pair = true ∧ wPairUp.active = true ∧ wRecA ∈ wPairUp.heldRecords ∧ wRecA.unitB = wPairUp.isB) ∧
    (wUnacked.running = true ∧ wUnacked.pair = true) := by decide +kernel

theorem meets_BruvanFramesAct_2 :
    (wUnacked.running = true ∧ wUnacked.pair = true) ∧
    (wUnacked.running = true ∧ wUnacked.pair = true) ∧
    (wUnacked.running = true ∧ wUnacked.pair = true) ∧
    (wUnacked.running = true ∧ wUnacked.pair = true) ∧
    (wUnacked.running = true ∧ wUnacked.pair = true) ∧
    (wUnacked.running = true ∧ wUnacked.pair = true) ∧
    (wUnacked.running = true ∧ wUnacked.pair = true) ∧
    (wUnacked.running = true ∧ wUnacked.pair = true) ∧
    (wUnacked.running = true ∧ wUnacked.pair = true ∧ wUnacked.par.unacked = (3, .catchup (some 4)) :: [(65535, .catchup (some 5))]) ∧
    (wPair.running = true ∧ wPair.pair = true) := by decide +kernel

theorem meets_BruvanLinkActs_1 :
    (wLinks.running = true ∧ wLinks.pair = true ∧ (wLinks.get (State.laneFld true)).testBit 1 = true) ∧
    (wGone.running = true ∧ wGone.pair = true ∧ (wGone.get (State.laneFld true)).testBit 1 = false ∧ wGone.get (State.laneFld (!true)) ≠ 0) ∧
    (wOneWay.running = true ∧ wOneWay.pair = true ∧ ((wOneWay.get BRV.LINK_STAT_TX_UP = 0 ∨ wOneWay.get BRV.LINK_STAT_RX_UP = 0) ∧ wOneWay.on BRV.LINK_STAT_LOST = false ∧ wOneWay.on BRV.STAT_PART_SEEN = true)) ∧
    (wPair.running = true ∧ wPair.pair = true ∧ wPair.role_ = roleStandby) ∧
    (wPair.running = true ∧ wPair.pair = true ∧ (50 : Int).natAbs ≤ 50 ∧ wPair.par.pwmGood < 99) ∧
    (wLock99.running = true ∧ wLock99.pair = true ∧ (-50 : Int).natAbs ≤ 50 ∧ 99 ≤ wLock99.par.pwmGood ∧ wLock99.role_ ≠ roleSyncing) ∧
    (wLockOn.running = true ∧ wLockOn.pair = true ∧ 200 < (-201 : Int).natAbs ∧ wLockOn.on BRV.STAT_PWM_LOCK = true ∧ wLockOn.role_ = roleStandby) ∧
    (wLockOn.running = true ∧ wLockOn.pair = true ∧ wLockOn.on BRV.STAT_PWM_LOCK = true ∧ wLockOn.role_ = roleStandby) := by decide +kernel

theorem meets_BruvanLinkActs_2 :
    (wArrives.running = true ∧ wArrives.pair = true ∧ wArrives.on BRV.STAT_PART_SEEN = true ∧ wArrives.framesArrive = true) ∧
    (wPair.running = true ∧ wPair.pair = true) ∧
    (wPair.running = true ∧ wPair.pair = true ∧ wPair.role_ ≠ roleOut ∧ wPair.active = false) ∧
    (wDiffers.running = true ∧ wDiffers.pair = true ∧ wDiffers.par.diffFrom.isSome = true ∧ wDiffers.role_ = roleSyncing ∧ wDiffers.get BRV.STAT_PART_ROLE = roleActive) := by decide +kernel

theorem meets_PairCommandsAct_1 :
    (up.running = true) ∧
    (wMayHand.running = true ∧ wMayHand.mayHandOver = true ∧ wMayHand.par.decided = none) ∧
    (wMayHand.running = true ∧ wMayHand.mayHandOver = true ∧ wMayHand.par.decided = none ∧ wMayHand.par.leadFrom.isSome = true) ∧
    (wPair.running = true ∧ wPair.mayHandOver = false) ∧
    (wDecided.running = true ∧ wDecided.active = true ∧ wDecided.par.decided.isSome = true ∧ wDecided.par.overlap = false) ∧
    (wHandOverlap.running = true ∧ wHandOverlap.active = true ∧ wHandOverlap.par.overlap = true) ∧
    (up.running = true) ∧
    (wPairB.running = true ∧ wPairB.active = true ∧ wPairB.pair = true ∧ wPairB.isB = true) ∧
    (wSynced.running = true ∧ wSynced.pair = true ∧ wSynced.synced = true ∧ wSynced.par.asked = true) ∧
    (wOut.running = true ∧ wOut.role_ = roleOut) ∧
    (wSynced.running = true ∧ wSynced.role_ = roleSyncing) ∧
    (up.running = true ∧ up.role_ = roleActive) := by decide +kernel

theorem meets_PairCommandsAct_2 :
    (wPair.running = true ∧ wPair.role_ = roleStandby) ∧
    (wTesting.running = true ∧ wTesting.par.testing = true ∧ wTesting.p3Runs 3 = true) ∧
    (wTesting.running = true ∧ wTesting.par.testing = true ∧ wTesting.p3Runs 3 = true) ∧
    (wCompat.running = true ∧ wCompat.on BRV.CFG_COMPAT = true) ∧
    (wBrvF.running = true ∧ wBrvF.on BRV.FAULT_ACTIVE = false) := by decide +kernel

theorem meets_RolesChange :
    (wIncoming.running = true ∧ wIncoming.active = false ∧ wIncoming.par.incoming = some (5, 2) ∧ wIncoming.role_ = roleStandby) ∧
    (wHandOverlap.running = true ∧ wHandOverlap.active = true ∧ wHandOverlap.par.overlap = true) ∧
    (wAlone.running = true ∧ wAlone.pair = true ∧ wAlone.role_ = roleSyncing ∧ wAlone.clash = false ∧ wAlone.par.seen = false) ∧
    (wLinks.running = true ∧ wLinks.pair = true ∧ wLinks.role_ = roleStandby ∧ wLinks.on BRV.STAT_PART_SEEN = true ∧ wLinks.framesArrive = false) ∧
    (wAlone.running = true ∧ wAlone.pair = true ∧ wAlone.role_ = roleSyncing ∧ wAlone.on BRV.STAT_PART_SEEN = true ∧ wAlone.on BRV.STAT_HASH_MATCH = false) ∧
    (wPairUp.running = true ∧ wPairUp.pair = true ∧ wPairUp.active = true) := by decide +kernel

theorem meets_LedgerKeepsRecords :
    (wJLast.journalUsed + Payload.slots wPl ≤ 1024) ∧
    (1024 ≤ wJFull.journalUsed) ∧
    (up.ready = true) ∧
    (wJPage.ready = true ∧ wJPage.boot.leDown = false ∧ 256 ≤ wJPage.journalUsed) ∧
    (wJPage.ready = true ∧ wJPage.boot.leDown = false) ∧
    (wJPage.ready = true ∧ wJPage.boot.leDown = false) ∧
    (wBlocks.ready = true ∧ wBlocks.boot.leDown = false ∧ wBlocks.p3Runs 0 = true ∧ wBlocks.oldestDue = some 1 ∧ wBlocks.ldg.blocks[1]? = some ⟨35, [[wRecJ], [wRecJ, wRecJ], []], [1], false, false, [1]⟩) ∧
    (wCheckRun.ready = true ∧ wCheckRun.boot.leDown = false ∧ wCheckRun.on LDG.STAT_CHECKING = true ∧ wCheckRun.p3Runs 0 = true ∧ (1, 2) ∈ [(1, 2), (1, 1)] ∧ wCheckRun.ldg.blocks[1]? = some ⟨35, [[wRecJ], [wRecJ, wRecJ], []], [1], false, false, [1]⟩ ∧ State.programmed ⟨35, [[wRecJ], [wRecJ, wRecJ], []], [1], false, false, [1]⟩ 2 = true) ∧
    (wBlocks.ready = true ∧ wBlocks.boot.leDown = false ∧ wBlocks.on LDG.STAT_CHECKING = false) ∧
    (wNewDay.ready = true ∧ wNewDay.boot.leDown = false ∧ wNewDay.on TMR.STAT_RTC_VALID = true ∧ dayOf wNewDay.rtc ≠ wNewDay.ldg.day) ∧
    (wBlocks.on TMR.STAT_RTC_VALID = true ∧ dayOf wBlocks.rtc = wBlocks.ldg.day) ∧
    (wNoRtc.ready = true ∧ wNoRtc.boot.leDown = false ∧ wNoRtc.on TMR.STAT_RTC_VALID = false ∧ wNoRtc.ldg.runMs < dayMs) := by decide +kernel

theorem meets_LedgerAnswersQueries_1 :
    (wQry.ready = true ∧ wQry.ldg.dma = false) ∧
    (wQry.ready = true ∧ wQry.ldg.dma = false) ∧
    (wQryDma.ready = true ∧ wQryDma.ldg.dma = true) ∧
    (wQryDma.ready = true ∧ wQryDma.ldg.dma = true) ∧
    (wQryDma.ready = true ∧ wQryDma.ldg.dma = true) ∧
    (wWin.ready = true ∧ 0 < wWin.get LDG.RD_STAT_LEFT ∧ wWin.get LDG.RD_STAT_WORD < 15) ∧
    (wWin15.ready = true ∧ 0 < wWin15.get LDG.RD_STAT_LEFT ∧ wWin15.get LDG.RD_STAT_WORD = 15) ∧
    (wQry.ready = true ∧ wQry.get LDG.RD_STAT_LEFT = 0) ∧
    (wQry.ready = true ∧ (wQry.get HIF.HOST_CFG_HOSTSEL ≠ 2 ∨ wQry.dmaAddr % 64 ≠ 0)) ∧
    (wDmaHeld.ready = true ∧ (wDmaHeld.get HIF.HOST_CFG_HOSTSEL ≠ 2 ∨ wDmaHeld.dmaAddr % 64 ≠ 0)) ∧
    (wDmaOdd.ready = true ∧ (wDmaOdd.get HIF.HOST_CFG_HOSTSEL ≠ 2 ∨ wDmaOdd.dmaAddr % 64 ≠ 0)) ∧
    (wDmaOk.ready = true ∧ wDmaOk.get HIF.HOST_CFG_HOSTSEL = 2 ∧ wDmaOk.dmaAddr % 64 = 0) := by decide +kernel

theorem meets_LedgerAnswersQueries_2 :
    (wLdgWarn.boot.leDown = false ∧ wLdgWarn.ready = true ∧ wLdgWarn.on LDG.FAULT_ACTIVE = false) ∧
    (wReqBad.ready = true ∧ wReqBad.boot.leDown = false ∧ wReqBad.ldg.req = some .first ∧ wReqBad.qryTo < wReqBad.qryFrom) ∧
    (wReq1.ready = true ∧ wReq1.boot.leDown = false ∧ wReq1.ldg.req = some .first ∧ wReq1.qryFrom ≤ wReq1.qryTo) ∧
    (wQryDma.ready = true ∧ wQryDma.boot.leDown = false ∧ wQryDma.ldg.dma = true) := by decide +kernel

theorem meets_VaultActs_1 :
    (up.ready = true) ∧
    (wPw8.ready = true) ∧
    (up.ready = true ∧ up.on VLT.STAT_LOCKOUT = false ∧ up.active = true ∧ up.on VLT.STAT_SESSION = false ∧ up.on VLT.STAT_COMMITTING = false) ∧
    (wSess.ready = true ∧ (wSess.on VLT.STAT_LOCKOUT = true ∨ wSess.active = false ∨ wSess.on VLT.STAT_SESSION = true ∨ wSess.on VLT.STAT_COMMITTING = true)) ∧
    (wCommitting.ready = true ∧ wCommitting.on VLT.STAT_COMMITTING = true) ∧
    (wCommitting.ready = true ∧ wCommitting.on VLT.STAT_COMMITTING = true) ∧
    (wCommitting.ready = true ∧ wCommitting.on VLT.STAT_COMMITTING = true) ∧
    (wCommitting.ready = true ∧ wCommitting.on VLT.STAT_COMMITTING = true) ∧
    (wSess.ready = true ∧ wSess.on VLT.STAT_COMMITTING = false ∧ wSess.on VLT.STAT_SESSION = true) ∧
    (wSess.ready = true ∧ wSess.on VLT.STAT_COMMITTING = false ∧ wSess.on VLT.STAT_SESSION = true) ∧
    (wSess.ready = true ∧ wSess.on VLT.STAT_COMMITTING = false ∧ wSess.on VLT.STAT_SESSION = true) ∧
    (up.ready = true ∧ up.on VLT.STAT_COMMITTING = false ∧ up.on VLT.STAT_SESSION = false) := by decide +kernel

theorem meets_VaultActs_2 :
    (wSess.ready = true ∧ wSess.on VLT.STAT_COMMITTING = false ∧ wSess.refusal = 0) ∧
    (up.ready = true ∧ up.on VLT.STAT_COMMITTING = false ∧ up.refusal ≠ 0) ∧
    (wDelivery.ready = true ∧ wDelivery.on VLT.STAT_COMMITTING = false ∧ wDelivery.refusal ≠ 0) ∧
    (wPushed.ready = true) ∧
    (wLockedOut.on VLT.STAT_LOCKOUT = true) ∧
    (wRight.ready = true ∧ wRight.boot.leDown = false ∧ wRight.vlt.checking = true ∧ sha256 (wRight.bankInForce.salt ++ wRight.pwBytes) = wRight.bankInForce.hash) ∧
    (wChecking.ready = true ∧ wChecking.boot.leDown = false ∧ wChecking.vlt.checking = true ∧ sha256 (wChecking.bankInForce.salt ++ wChecking.pwBytes) ≠ wChecking.bankInForce.hash ∧ wChecking.get VLT.STAT_FAIL_CNT < 4) ∧
    (wWrong5.ready = true ∧ wWrong5.boot.leDown = false ∧ wWrong5.vlt.checking = true ∧ sha256 (wWrong5.bankInForce.salt ++ wWrong5.pwBytes) ≠ wWrong5.bankInForce.hash ∧ 4 ≤ wWrong5.get VLT.STAT_FAIL_CNT) ∧
    (wBuilding.ready = true ∧ wBuilding.boot.leDown = false ∧ wBuilding.vlt.building = some { Bank.empty with gen := 7, good := true, magic := bankMagic, commit := bankCommit }) ∧
    (wBuilding.ready = true ∧ wBuilding.boot.leDown = false ∧ wBuilding.vlt.building = some { Bank.empty with gen := 7, good := true, magic := bankMagic, commit := bankCommit }) ∧
    (wUnconf.ready = true ∧ wUnconf.boot.leDown = false ∧ (wUnconf.get VLT.STAT_FS_UNCONF).testBit 3 = true ∧ wUnconf.vlt.pushes[3] < 10) := by decide +kernel

theorem meets_VaultActs_3 :
    (wUnconf.ready = true ∧ wUnconf.boot.leDown = false ∧ wUnconf.vlt.pushes[3] < 10 ∧ (wUnconf.get VLT.STAT_FS_UNCONF).testBit 3 = true ∧ wUnconf.vlt.pushes[3] = 9) := by decide +kernel

theorem meets_ResetsAndBoot_1 :
    (wCellar.boot.resetLow = false ∧ (wCellar.cel.off = true ∨ wCellar.get PWR.STATE_STATE = 1)) ∧
    (wHalt.boot.resetLow = false ∧ wHalt.cel.off = false ∧ wHalt.get PWR.STATE_STATE ≠ 1) ∧
    (wHeldLow.boot.resetLow = true ∧ wHeldLow.get PWR.STATE_STATE ≠ 1 ∧ wHeldLow.boot.held = true) ∧
    (wNoCoreLow.boot.resetLow = true ∧ wNoCoreLow.get PWR.STATE_STATE = 1) ∧
    (wLoaded.ready = false ∧ wLoaded.boot.held = false ∧ wLoaded.boot.resetLow = false ∧ wLoaded.recovery = false ∧ wLoaded.get SAF.STAT_SC_STATE = 1 ∧ wLoaded.get PWR.STATE_STATE ≠ 1 ∧ wLoaded.boot.loaded = true) ∧
    (wLoaded.ready = false ∧ wLoaded.boot.loaded = true) ∧
    (up.coreOn = true) ∧
    (up.coreOn = true) ∧
    (up.coreOn = true ∧ up.boot.srstAt = none) ∧
    (wKeyed.coreOn = true ∧ wKeyed.boot.srstAt = some 0 ∧ wKeyed.usSince 0 ≤ 10000 ∧ wKeyed.get SAF.STAT_SC_STATE ≠ 3) ∧
    (wKeyedHalt.coreOn = true ∧ wKeyedHalt.get SAF.STAT_SC_STATE = 3) ∧
    (wTrip3.get SAF.STAT_SC_STATE = 2 ∧ 3 ≤ wTrip3.recentTrips) := by decide +kernel

theorem meets_ResetsAndBoot_2 :
    (wTrip2.get SAF.STAT_SC_STATE = 2 ∧ wTrip2.recentTrips < 3) := by decide +kernel

theorem meets_FirmwareUpdates_1 :
    (wFwBusy.coreOn = true ∧ wFwBusy.fwBusy = true) ∧
    (wFwBusy.coreOn = true ∧ wFwBusy.fwBusy = true) ∧
    (wFwBusy.coreOn = true ∧ wFwBusy.fwBusy = true) ∧
    (wFwBusy.coreOn = true ∧ wFwBusy.fwBusy = true) ∧
    (wFwBusy.coreOn = true ∧ wFwBusy.fwBusy = true) ∧
    (up.coreOn = true ∧ up.fwBusy = false) ∧
    (up.coreOn = true ∧ up.fwBusy = false) ∧
    (wFwAddr.coreOn = true ∧ wFwAddr.fwBusy = false ∧ wFwAddr.get SYS.FW_STAT_STATE ≤ 1) ∧
    (up.coreOn = true ∧ up.get SAF.STAT_SC_STATE ≠ 3 ∧ up.fwBusy = false ∧ up.get SYS.FW_STAT_STATE ≠ 2) ∧
    (wVerified.get SAF.STAT_SC_STATE ≠ 3 ∧ wVerified.coreOn = true ∧ wVerified.fwBusy = false ∧ wVerified.get SYS.FW_STAT_STATE = 2 ∧ wVerified.ready = true ∧ wVerified.active = true ∧ wVerified.on VLT.STAT_SESSION = false) ∧
    (wVerBusy.coreOn = true ∧ wVerBusy.get SAF.STAT_SC_STATE ≠ 3 ∧ wVerBusy.fwBusy = false ∧ wVerBusy.get SYS.FW_STAT_STATE = 2 ∧ wVerBusy.ready = true ∧ wVerBusy.active = true ∧ wVerBusy.on VLT.STAT_SESSION = true ∧ wVerBusy.notAllowed ≠ 0) := by decide +kernel

theorem meets_FirmwareUpdates_2 :
    (wVerSess.coreOn = true ∧ wVerSess.get SAF.STAT_SC_STATE ≠ 3 ∧ wVerSess.fwBusy = false ∧ (wVerSess.get SYS.FW_STAT_STATE = 2 ∧ wVerSess.boot.cmd = none ∧ (wVerSess.ready = false ∨ wVerSess.active = false ∨ wVerSess.on VLT.STAT_SESSION = true ∧ wVerSess.notAllowed = 0))) ∧
    (wTrialB.coreOn = true ∧ wTrialB.fwBusy = false ∧ wTrialB.ready = true ∧ wTrialB.on SYS.FW_STAT_TRIAL = true ∧ wTrialB.get SYS.FW_STAT_ERR ≠ 6) ∧
    (up.coreOn = true ∧ up.fwBusy = false ∧ up.on SYS.FW_STAT_TRIAL = false) ∧
    (wErasing.boot.cmd = some .erase) ∧
    (wVerifyA.boot.cmd = some .verify ∧ Slot.passes (wVerifyA.norSlot wVerifyA.idle) = true) ∧
    (wVerifyB.boot.cmd = some .verify ∧ Slot.passes (wVerifyB.norSlot wVerifyB.idle) = false) ∧
    (wTrialB.ready = true ∧ wTrialB.on SYS.FW_STAT_TRIAL = true ∧ wTrialB.get SYS.FW_STAT_ERR ≠ 6) := by decide +kernel

theorem meets_DiesAndMemories_1 :
    (up.coreOn = true) ∧
    (wDies.tracRel = true) ∧
    (wDies.sc.srcOn = true) ∧
    (wDies.on (AX.STAT_GATE_EN 15) = true) ∧
    (wDies.beats = true) ∧
    (wDies.beats = true) ∧
    (wDies.beats = true ∧ wDies.get (AX.FAULT_CAUSE 15) = 11) ∧
    ((.vault : EccSource) = .vault) ∧
    ((.journal : EccSource) = .journal) ∧
    ((.sc : EccSource) = .sc) ∧
    ((.fabric (some (0x12345, true)) : EccSource) = .fabric (some (0x12345, true))) ∧
    ((15 : Fin 16).val = 15) := by decide +kernel

theorem meets_DiesAndMemories_2 :
    ((.index 3 2 : EccSource) = .index 3 2) ∧
    ((.changeLog 1 : EccSource) = .changeLog 1) ∧
    ((⟨0, [[], []], [], false, false, []⟩ : DataBlock).lost.contains 1 = false ∧ wEccPages.ldg.blocks[0]? = some ⟨0, [[], []], [], false, false, []⟩ ∧ State.programmed ⟨0, [[], []], [], false, false, []⟩ 1 = true) ∧
    (wEccDoor.dwState 7 ≠ .fault ∧ wEccDoor.dwState 7 ≠ .isolated) ∧
    (wEcc.coreOn = true ∧ wEcc.get SAF.STAT_SC_STATE < 2) ∧
    ((.vault : EccSource) = .vault) ∧
    ((.le : EccSource) = .le) ∧
    ((.xe : EccSource) = .xe) ∧
    ((.oe : EccSource) = .oe) ∧
    ((.fabric (some (0x12345, true)) : EccSource) = .fabric (some (0x12345, true))) ∧
    ((.le : RestartEngine) = .le) ∧
    ((.xe : RestartEngine) = .xe) := by decide +kernel

theorem meets_FieldsTakeTheirWrites_1 :
    (wPbsOff.hostPort = true ∧ wPbsOff.coreOn = true ∧ wPbsOff.ready = true ∧ (0x06080 : BitVec 20).toNat % 4 = 0 ∧ ((placeOf 0x06080).any fun p => decide (p.kind = .pbs) && p.row.fields.any fun f => decide (f.access = .ro)) = true) ∧
    (up.coreOn = true ∧ up.ready = true ∧ up.hostPort = true ∧ ((placeOf 0x060C0).any fun p => decide (p.kind = .pbs) && p.row.fields.any fun f => decide (f.access = .cnt)) = true) ∧
    (up.coreOn = true ∧ up.ready = true ∧ up.hostPort = true ∧ ((placeOf 0x06048).any fun p => decide (p.kind = .pbs) && p.row.fields.any fun f => decide (f.access = .rw ∧ f.limit = .any)) = true) ∧
    (wSlOpen.coreOn = true ∧ wSlOpen.ready = true ∧ wSlOpen.hostPort = true ∧ wSlOpen.rwsOpen 0x5F = true ∧ ((placeOf 0x5F040).any fun p => decide (p.kind = .sl ∧ p.off ≠ 0x0A0) && p.row.fields.any fun f => decide (f.access = .rws ∧ f.limit = .any)) = true) ∧
    (up.coreOn = true ∧ up.ready = true ∧ up.hostPort = true ∧ ((placeOf 0x06044).any fun p => decide (p.kind = .pbs) && p.row.fields.any fun f => decide (f.access = .rw ∧ f.limit = .range 1 15 ∧ f.width = 4)) = true ∧ (0 : Int) ≤ 1 ∧ (1 : Int) ≤ 15 ∧ (15 : Int) < 2 ^ 4) := by decide +kernel

theorem meets_FieldsTakeTheirWrites_2 :
    (wSlOpen.coreOn = true ∧ wSlOpen.ready = true ∧ wSlOpen.hostPort = true ∧ ((placeOf 0x5F040).any fun p => p.row.fields.any fun f => decide (f.access = .rws ∧ f.limit = .codes [(0, 2)])) = true ∧ ([((0 : Nat), (2 : Nat))].any fun r => decide (r.1 ≤ 2 ∧ 2 ≤ r.2)) = true) ∧
    (wSlOpen.coreOn = true ∧ wSlOpen.ready = true ∧ wSlOpen.hostPort = true ∧ ([((0 : Nat), (2 : Nat))].any fun r => decide (r.1 ≤ 3 ∧ 3 ≤ r.2)) = false) ∧
    (up.coreOn = true ∧ up.ready = true ∧ up.hostPort = true ∧ up.rwsOpen 0x0F = false ∧ ((placeOf 0x0F040).any fun p => decide (p.kind = .enc) && p.row.fields.any fun f => decide (f.access = .rws)) = true) := by decide +kernel

theorem meets_WindowAnswers_1 :
    (wNoPort.coreOn = true ∧ wNoPort.ready = true ∧ wNoPort.hostPort = false) ∧
    (up.hostPort = true ∧ up.coreOn = true ∧ up.ready = true ∧ pageOf ((0xFFFFF : BitVec 20).toNat / 4096) = none) ∧
    (up.coreOn = true ∧ up.ready = true ∧ up.hostPort = true ∧ pageOf ((0x49000 : BitVec 20).toNat / 4096) = none) ∧
    (wPassT.coreOn = true ∧ wPassT.ready = true ∧ wPassT.hostPort = true ∧ (BitVec.ofNat 20 (PZ.PASS_T_LO 7).addr).toNat % 4 = 0 ∧ State.lowWord (BitVec.ofNat 20 (PZ.PASS_T_LO 7).addr).toNat = true ∧ wPassT.hiFrozen = []) ∧
    (wFrozenHi.coreOn = true ∧ wFrozenHi.ready = true ∧ wFrozenHi.hostPort = true ∧ (BitVec.ofNat 20 ((PZ.PASS_T_LO 7).addr + 4)).toNat % 4 = 0 ∧ State.lowWord ((BitVec.ofNat 20 ((PZ.PASS_T_LO 7).addr + 4)).toNat - 4) = true ∧ wFrozenHi.hiFrozen.find? (fun c => c.1 == (BitVec.ofNat 20 ((PZ.PASS_T_LO 7).addr + 4)).toNat) = some ((BitVec.ofNat 20 ((PZ.PASS_T_LO 7).addr + 4)).toNat, 9)) ∧
    (up.hostPort = true ∧ up.coreOn = true ∧ up.ready = true ∧ pageOf (0x0B : BitVec 8).toNat = some (.brv, 0)) ∧
    (up.coreOn = true ∧ up.ready = true ∧ up.hostPort = true ∧ pageOf (0xBF : BitVec 8).toNat = some (.cm, 63)) ∧
    (wCmOn.coreOn = true ∧ wCmOn.ready = true ∧ wCmOn.hostPort = true ∧ pageOf (0xBF : BitVec 8).toNat = some (.cm, 63)) := by decide +kernel

theorem meets_WindowAnswers_2 :
    (up.coreOn = true ∧ up.ready = true ∧ up.hostPort = true ∧ pageOf (0x00 : BitVec 8).toNat = some (.sys, 0) ∧ alwaysEnabled .sys = true) ∧
    (up.coreOn = true ∧ up.ready = true ∧ up.hostPort = true ∧ pageOf (0x47 : BitVec 8).toNat = some (.can, 3) ∧ (10 : Nat) < 32 ∧ (0xFFFFFFFF : Word).getLsbD 10 = true ∧ (eventBits .can).testBit 10 = true) ∧
    (wEdge2.hostPort = true ∧ wEdge2.coreOn = true ∧ wEdge2.ready = true ∧ wEdge2.pageOn (pgDW 7) = false ∧ wEdge2.edgesMissing 7 = true) ∧
    (wOpening.coreOn = true ∧ wOpening.ready = true ∧ wOpening.hostPort = true ∧ wOpening.pageOn (pgDW 7) = true ∧ wOpening.mayDisableDoor 7 = false) ∧
    (wIsolated.coreOn = true ∧ wIsolated.ready = true ∧ wIsolated.hostPort = true ∧ wIsolated.mayDisableDoor 7 = true) := by decide +kernel

theorem meets_SerialAndParallelPortsAct_1 :
    (up.onHpb = true) ∧
    (wHpbHold.onHpb = true ∧ wHpbHold.hif.hold = some (State.wordOf 0x0604A, 0x1234)) ∧
    (up.onHpb = true ∧ up.ready = true ∧ up.hif.hold = none) ∧
    (wPassT.onHpb = true) ∧
    (wHpbHold.onHpb = true ∧ wHpbHold.hif.latch = some (State.wordOf 0x0604A, 0xABCD)) ∧
    (wQspi.onQspi = true ∧ wQspi.ready = true ∧ (0x06049 : BitVec 24).toNat % 4 ≠ 0) ∧
    (wQspi.ready = true ∧ wQspi.onQspi = true ∧ (0x01044 : BitVec 24).toNat % 4 = 0) ∧
    (wQspi.onQspi = true ∧ wQspi.ready = true ∧ (0x06048 : BitVec 24).toNat % 4 = 0 ∧ (0x06048 : BitVec 24).toNat < 2 ^ 20) ∧
    (wQsQuad.onQspi = true ∧ wQsQuad.ready = true ∧ wQsQuad.hif.quad = true) ∧
    (wQspi.onQspi = true ∧ wQspi.ready = true ∧ wQspi.hif.quad = false) ∧
    (wQspi.onQspi = true ∧ wQspi.ready = true) ∧
    (wQsQuad.onQspi = true ∧ wQsQuad.ready = true ∧ 0 < 2) := by decide +kernel

theorem meets_SerialAndParallelPortsAct_2 :
    (wQsQuad.onQspi = true) := by decide +kernel

theorem meets_EndpointActs_1 :
    (wPcie.onPcie = true) ∧
    (wPcie.onPcie = true ∧ wPcie.ready = true ∧ (0x5#4 : BitVec 4) ≠ 0xF#4) ∧
    (wPcie.onPcie = true ∧ wPcie.ready = true ∧ (0x6#4 : BitVec 4) ≠ 0xF#4) ∧
    (wPcie.onPcie = true) ∧
    (wPcie.onPcie = true ∧ wPcie.ready = true) ∧
    (wPcie.onPcie = true ∧ wPcie.ready = true) ∧
    (wPcieEarly.onPcie = true ∧ wPcieEarly.boot.loaded = false) ∧
    (wPcie.onPcie = true ∧ wPcie.boot.loaded = true) ∧
    (wPcie.onPcie = true ∧ wPcie.boot.loaded = true) ∧
    (wPcie.onPcie = true) ∧
    (wPcie.onPcie = true) ∧
    (wMasked.onPcie = true ∧ wMasked.pcieMask.testBit 15 = true ∧ wMasked.hif.msiHeld.testBit 15 = true ∧ wMasked.vectorPending 15 = true ∧ wMasked.get HIF.PE_STAT_GRANTED ≠ 0) := by decide +kernel

theorem meets_EndpointActs_2 :
    (wPcie.onPcie = true) ∧
    (wPerst.hif.perst = true) ∧
    (wUnmasked.ready = true ∧ wUnmasked.vectorPending (fieldOf 15 0 4) = true ∧ wUnmasked.get HIF.PE_STAT_GRANTED ≠ 0 ∧ wUnmasked.pcieMask.testBit (fieldOf 15 0 4) = false) ∧
    (wMasked.ready = true ∧ wMasked.vectorPending (fieldOf 15 0 4) = true ∧ (wMasked.get HIF.PE_STAT_GRANTED = 0 ∨ wMasked.pcieMask.testBit (fieldOf 15 0 4) = true)) := by decide +kernel

theorem meets_WatchdogActs_1 :
    (wNoPort.ready = true ∧ wNoPort.hostPort = false) ∧
    (wNoPort.ready = true ∧ wNoPort.hostPort = false) ∧
    (wBlkLate.ready = true ∧ wBlkLate.hostPort = true ∧ wBlkLate.wdState = 0 ∧ 1000 * wBlkLate.hif.wdBoot < wBlkLate.usSince wBlkLate.hif.wdAt) ∧
    (wBlk.ready = true ∧ wBlk.wdState = 0 ∧ wBlk.hostPort = true ∧ wBlk.usSince wBlk.hif.wdAt ≤ 1000 * wBlk.hif.wdBoot) ∧
    (wBlk.ready = true ∧ wBlk.hostPort = true ∧ wBlk.wdState = 0 ∧ wdSecondKey ≠ wdFirstKey) ∧
    (wBlk.ready = true ∧ wBlk.wdState = 0) ∧
    (wWdRun.hostPort = true ∧ wWdRun.ready = true ∧ wWdRun.wdState = 1 ∧ wWdRun.on HIF.WD_STAT_NEXT = true ∧ 1000 * wWdRun.hif.wdMin ≤ wWdRun.usSince wWdRun.hif.wdAt ∧ wWdRun.usSince wWdRun.hif.wdAt ≤ 1000 * wWdRun.hif.wdMax) ∧
    (wWdEarly.ready = true ∧ wWdEarly.on HIF.WD_STAT_NEXT = true ∧ wWdEarly.hostPort = true ∧ wWdEarly.wdState = 1 ∧ wWdEarly.usSince wWdEarly.hif.wdAt < 1000 * wWdEarly.hif.wdMin) ∧
    (wWdLate.ready = true ∧ wWdLate.on HIF.WD_STAT_NEXT = true ∧ wWdLate.hostPort = true ∧ wWdLate.wdState = 1 ∧ 1000 * wWdLate.hif.wdMin ≤ wWdLate.usSince wWdLate.hif.wdAt ∧ 1000 * wWdLate.hif.wdMax < wWdLate.usSince wWdLate.hif.wdAt) := by decide +kernel

theorem meets_WatchdogActs_2 :
    (wWdRun.ready = true ∧ wWdRun.wdState = 1 ∧ wWdRun.on HIF.WD_STAT_NEXT = true ∧ wWdRun.hostPort = true ∧ wdFirstKey ≠ wdSecondKey) ∧
    (wWdRun.ready = true ∧ wWdRun.wdState = 1) ∧
    (wWdRun.ready = true ∧ wWdRun.wdState = 1 ∧ wWdRun.hif.warned = false) ∧
    (wWdExp.ready = true ∧ wWdExp.hostPort = true ∧ wWdExp.wdState = 2) ∧
    (wWdExp.ready = true ∧ wWdExp.hostPort = true ∧ wWdExp.wdState = 2) ∧
    (wBlk.ready = true ∧ wBlk.wdState ≠ 2) := by decide +kernel

theorem meets_EventSummariesShowSources :
    ((2 : Nat) < 3 ∧ wMasked.frozen = [] ∧ wMasked.hiFrozen = [] ∧ 27 < 32) ∧
    ((0x01 : Nat) < 256 ∧ (pageOf 0x01).isSome = true ∧ wMasked.reaches (4096 * 0x01 + 0x00C) = true) ∧
    ((191 : Nat) < 256 ∧ (pageOf 191).isSome = true ∧ wMasked.reaches (4096 * 191 + 0x00C) = true) := by decide +kernel

theorem meets_UnsafeRolesRefuseEnable :
    (wUnsafe.ready = true ∧ 9 ∈ wUnsafe.safeRoles 7 ∧ wUnsafe.roleDi 7 9 = some 63 ∧ wUnsafe.diSafe 63 = false ∧ wUnsafe.pageOn (pgDW 7) = false) ∧
    (wUnsafe.ready = true ∧ 9 ∈ wUnsafe.safeRoles 7 ∧ wUnsafe.roleDi 7 9 = some 63 ∧ wUnsafe.diSafe 63 = false ∧ wUnsafe.pageOn (pgDW 7) = false ∧ (3 : Word).getLsbD 0 = true ∧ wUnsafe.reaches (4096 * pgDW 7 + 0x004) = true) := by decide +kernel

theorem meets_EndpointResetsAlone :
    (wPcie.onPcie = true) ∧
    (True) ∧
    (True) := by decide +kernel

theorem meets_HighWordFreezes :
    (State.lowWord (BitVec.ofNat 20 (PZ.PASS_T_LO 7).addr).toNat = true ∧ wFrozenHi.reaches (BitVec.ofNat 20 (PZ.PASS_T_LO 7).addr).toNat = true) ∧
    ((wPassT.hiFrozen.all (fun c => c.1 != (BitVec.ofNat 20 (PZ.PASS_T_LO 7).addr).toNat + 4)) = true) ∧
    (wPassQ.onQspi = true ∧ wPassQ.ready = true ∧ wPassQ.hif.quad = false) ∧
    (wPassE.onPcie = true) := by decide +kernel



/-! ### The two hypotheses that compare a CRC: one of two states meets each, since both have the same CRC. -/

def wCopy0 : State := up |> put [(SAF.CFG_CRC, 0)]
def wCopy1 : State := up |> put [(SAF.CFG_CRC, 1)]
def wBase0 : State := wClosing
def wBase1 : State := wClosing |> put [(State.crcF (doorAxis 7), 1)]

theorem copyCrc_same : wCopy1.copyCrc = wCopy0.copyCrc := by
  have h : ∀ w, wCopy1.committedWord w = wCopy0.committedWord w := fun _ => rfl
  simp only [State.copyCrc, h]

theorem baseCrc_same : wBase1.baseCrc (doorAxis 7) = wBase0.baseCrc (doorAxis 7) :=
  congrArg crc32 (by decide +kernel : wBase1.baseBytes (doorAxis 7) = wBase0.baseBytes (doorAxis 7))

theorem meets_SelfTestsJudge_configCrcCheck : ∃ s : State,
    s.coreOn = true ∧ s.get SAF.STAT_SC_STATE = 1 ∧ s.running = true ∧ s.get SAF.CFG_CRC ≠ s.copyCrc.toNat := by
  by_cases h : wCopy0.copyCrc.toNat = 0
  · exact ⟨wCopy1, by decide +kernel, by decide +kernel, by decide +kernel, by rw [copyCrc_same, h]; decide +kernel⟩
  · exact ⟨wCopy0, by decide +kernel, by decide +kernel, by decide +kernel, fun e => h (e.symm.trans (by decide +kernel))⟩

theorem meets_EffortCommandsAct_modelCrossCheck : ∃ s : State,
    s.running = true ∧ s.mEq (doorAxis 7) ≠ 0 ∧ (s.baseCrc (doorAxis 7)).toNat ≠ s.get (State.crcF (doorAxis 7)) ∧
      s.mEq (stepAxis 7) = 0 := by
  by_cases h : (wBase0.baseCrc (doorAxis 7)).toNat = 0
  · exact ⟨wBase1, by decide +kernel, by decide +kernel, by rw [baseCrc_same, h]; decide +kernel, by decide +kernel⟩
  · exact ⟨wBase0, by decide +kernel, by decide +kernel, fun e => h (e.trans (by decide +kernel)), by decide +kernel⟩

/-! ### Commands that cannot arrive: one refused term for each check of `Instr.wf`. -/

def badGroup : GroupMeas := ⟨[], List.replicate 12 250, 250, 11000, 0⟩
def badFrame : CanFrame := ⟨0, false, false, false, false, false, 9, 0, 0, 0, 0, List.replicate 9 0⟩
def badMirror : MirrorFrame := ⟨[], 0, []⟩

theorem test_wf_halves : Instr.wf (.hpbLowHalfWrite 0x10002 0) = false ∧ Instr.wf (.hpbHighHalfWrite 0x10000 0) = false ∧
    Instr.wf (.hpbLowHalfRead 0x10001) = false ∧ Instr.wf (.hpbHighHalfRead 0x10003) = false := by decide

theorem test_wf_pcie : Instr.wf (.pcieBar0Write 0x10000 []) = false ∧ Instr.wf (.pcieBar0Read 0xFFFFF 2) = false ∧
    Instr.wf (.pcieBar2Read 0 0) = false ∧ Instr.wf (.pcieConfigRequest 0x006 none) = false := by decide

theorem test_wf_pages : Instr.wf (.unmappedPageAccess 0x00000 false) = false ∧ Instr.wf (.pageEnable 0x49) = false ∧
    Instr.wf (.pageDisable 0x49) = false ∧ Instr.wf (.evtForce 0x49 1) = false := by decide +kernel

theorem test_wf_registers : Instr.wf (.registerWrite 0x10041 0) = false ∧ Instr.wf (.slowDomainWrite 0x10040 0) = false ∧
    Instr.wf (.counter64LowRead 0x10040) = false ∧ Instr.wf (.counter64HighRead 0x00000) = false := by decide +kernel

theorem test_wf_telegrams : Instr.wf (.connect ⟨List.replicate 40 2⟩ .host) = false ∧
    Instr.wf (.command ⟨[2]⟩ .host) = false := by decide

theorem test_wf_measurements : Instr.wf (.senseSnapshot 0 badGroup) = false ∧
    Instr.wf (.pantryTick ⟨[], 250, 250, 250, 0, 800, 1100, 3300, 1200, 1200, 300⟩) = false ∧
    Instr.wf (.row 0 ⟨⟨false, 0x88B5, true, 1, 2, 8, 0⟩, 0, 0, [], []⟩) = false := by decide

theorem test_wf_buses : Instr.wf (.canFrameReceived 0 badFrame) = false ∧
    Instr.wf (.mvbSlaveFrame .good .none (List.replicate 33 0)) = false := by decide

theorem test_wf_partner : Instr.wf (.bruvanState ⟨true, badMirror⟩) = false ∧
    Instr.wf (.bruvanHealth ⟨true, ⟨0, false, 0, 0, 0, 0, []⟩⟩) = false ∧ Instr.wf (.bruvanHandover ⟨true, 0⟩ 7) = false ∧
    Instr.wf (.bruvanAdapt ⟨true, 0⟩ 0 ⟨[], [], 0, 0⟩) = false := by decide

theorem test_wf_record : Instr.wf (.recordSubmit (.fault 0 0 0 0 0 0 []) 8) = false := by decide

theorem test_wf_good : Instr.wf (.registerWrite 0x10040 0) = true ∧ Instr.wf (.pageEnable 0x10) = true ∧
    Instr.wf (.unmappedPageAccess 0x49000 false) = true := by decide +kernel

/-! ### Worked examples of the spec -/

/-- The location code of the worked example of R22, and R305's example of a load channel (0x69003FF0). -/
theorem test_loc_code : locCode 0 15 2 5 301 9 = 0x0E1152D9#32 ∧ locCode 6 10 0 0 1023 0 = 0x69003FF0#32 := by decide

/-- R210: the voxel i = 100, j = 70, k = 60 of DW2 lies at BAR2 address 0x0156_9934. -/
theorem test_voxel_address : 0x01000000 + 0x00400000 + voxelOffset 100 70 60 = 0x01569934 := by decide

/-- The example door of R168 and R171: closing, with IQ −9,200 mA, KF 160, F_ASSIST 150, bin 59 of R168. -/
def exDoor : State :=
  let s := up |> put [(AX.SCALE_NUM 4, 5), (AX.SCALE_DEN 4, 1), (AX.CFG_FB_SEL 4, 4), (DW.STATE_DW_STATE 2, 5),
    (DW.EFF_STAT_D_VALID 2, 1), (DW.DOOR_OPEN_POS 2, 65000), (DW.KF_DOOR 2, 160), (DW.M_C_DOOR_M_EQ 2, 800),
    (DW.M_C_DOOR_C_VISC 2, 200), (State.fricF 4 59, 380), (AX.MOTOR_R_R 4, 1200), (PBS.THERM_ETA, 85)]
  s.setI (AX.IQ 4) (-9200)

theorem test_drive_force : exDoor.driveForce 4 = -1472 := by decide +kernel

theorem test_power : exDoor.powerAt 4 882 2600 = 92 := by decide +kernel

/-- R56, R57: the two keys in turn. -/
theorem test_keys : wdFirstKey = 0x5AA5#32 ∧ wdSecondKey = 0xA55A#32 := by decide

/-- R44: a full write is stored as it is; R48: a window that is empty reads 0 and pops nothing. -/
theorem test_route_write : (match execRegisterWrite 0x020A8 0x01010201 up with
    | .next t => t.word 0x020A8 == 0x01010201#32
    | _ => false) = true := by decide +kernel

/-- R42: a read of the unmapped page 0x49 sets cause 3 and the address. -/
theorem test_unmapped : (match execUnmappedPageAccess 0x49000 false up with
    | .next t => t.get HIF.ERR_INFO_CAUSE == 3 && t.get HIF.ERR_ADDR_ADDR == 0x49000
    | _ => false) = true := by decide +kernel

/-- R56: the first key in BOOT_WAIT starts RUNNING; another value is EXPIRED with cause 2. -/
theorem test_first_key : (match execWdKeyWrite 0x5AA5 (up.set HIF.WD_STAT_STATE 0), execWdKeyWrite 0x1234 (up.set HIF.WD_STAT_STATE 0) with
    | .next t, .next u => t.wdState == 1 && u.wdState == 2 && u.get HIF.WD_STAT_CAUSE == 2
    | _, _ => false) = true := by decide +kernel

/-- R78: OPEN without a side release is rejected with reason 2 and leaves the state. -/
theorem test_open_no_release : (match execOpenCmd 2 .host (door 2 .closedLocked) with
    | .next t => t.get (DW.CMD_STAT_REASON 2) == 2 && t.get (DW.STATE_DW_STATE 2) == 1
    | _ => false) = true := by decide +kernel

end Sys2Proof.Tests
end

section
/-! PROOFS. The host's reads and writes as the statements on the host ports see them: what the wake from WATCH leaves alone, and what a
write of a register does that no field of it stores. -/

namespace Sys2Proof.Machine

namespace State

variable {s : State} {a : Nat}

/-! ### The wake from WATCH that an access brings (R329) -/

/-- The words that a wake from WATCH writes: CEL.WAKE_SRC and PWR.STATE. -/
def wakeWord (a : Nat) : Prop := a = CEL.WAKE_SRC_SRC.addr ∨ a = PWR.STATE_WAKE.addr

/-- A wake touches its two words and the cellar's mark of it. -/
theorem hostWakes_rest (s : State) :
    s.hostWakes = { s with regs := s.hostWakes.regs, cel := { s.cel with waking := s.hostWakes.cel.waking } } := by
  unfold hostWakes
  split
  · unfold wakeWatch
    split <;> rfl
  · rfl

@[simp] theorem hostWakes_out : s.hostWakes.out = s.out := by rw [hostWakes_rest]
@[simp] theorem hostWakes_hiFrozen : s.hostWakes.hiFrozen = s.hiFrozen := by rw [hostWakes_rest]
@[simp] theorem hostWakes_boot : s.hostWakes.boot = s.boot := by rw [hostWakes_rest]
@[simp] theorem hostWakes_cel_off : s.hostWakes.cel.off = s.cel.off := by rw [hostWakes_rest]

theorem word_hostWakes (ha : ¬ wakeWord a) : s.hostWakes.word a = s.word a := by
  obtain ⟨h1, h2⟩ := not_or.1 ha
  unfold hostWakes
  split
  · unfold wakeWatch
    split
    · rfl
    · exact (word_set_ne h2).trans (word_set_ne h1)
  · rfl

/-- A field that is not one of the two that a wake records reads as before. -/
theorem get_hostWakes {f : Fld} (hf : f.fits) (h1 : f.apart CEL.WAKE_SRC_SRC) (h2 : f.apart PWR.STATE_WAKE) :
    s.hostWakes.get f = s.get f := by
  unfold hostWakes
  split
  · unfold wakeWatch
    split
    · rfl
    · exact (get_set_apart (by decide) hf h2).trans (get_set_apart (by decide) hf h1)
  · rfl

@[simp] theorem reaches_hostWakes : s.hostWakes.reaches a = s.reaches a := by
  have h1 : s.hostWakes.get SYS.BOOT_STAT_READY = s.get SYS.BOOT_STAT_READY := get_hostWakes (by decide) (by decide) (by decide)
  have h2 : s.hostWakes.get PWR.STATE_STATE = s.get PWR.STATE_STATE := get_hostWakes (by decide) (by decide) (by decide)
  have h3 : s.hostWakes.get HIF.HOST_CFG_HOSTSEL = s.get HIF.HOST_CFG_HOSTSEL := get_hostWakes (by decide) (by decide) (by decide)
  simp only [reaches, coreOn, hostPort, ready, on, h1, h2, h3, hostWakes_boot, hostWakes_cel_off]

/-! ### Words and events -/

theorem wordOf_of_aligned {addr : BitVec 20} (h : addr.toNat % 4 = 0) : wordOf addr = addr.toNat := by
  unfold wordOf
  omega

theorem wordOf_ofNat (hlt : a < 2 ^ 20) (hal : a % 4 = 0) : wordOf (BitVec.ofNat 20 a) = a := by
  have ha : (BitVec.ofNat 20 a).toNat = a := Nat.mod_eq_of_lt hlt
  rw [wordOf_of_aligned (ha.symm ▸ hal), ha]

@[simp] theorem word_quadTakes : s.quadTakes.word a = s.word a := rfl

theorem word_msiEdges {r : State} : (msiEdges r s).word a = s.word a :=
  (Frame.msiEdges (W := fun _ => False) (r := r) (Frame.refl (s := s))).word a id

/-- An EVT bit is a bit of the page's EVT word. -/
theorem evt_eq_getLsbD {page bit : Nat} :
    s.evt page bit = (s.word (4096 * page + 0x00C)).getLsbD bit := by
  have h : s.evt page bit = decide (fieldOf (s.word (4096 * page + 0x00C)) bit 1 ≠ 0) := rfl
  have h0 : (fieldOf (s.word (4096 * page + 0x00C)) bit 1).testBit 0 = (s.word (4096 * page + 0x00C)).getLsbD bit := by
    unfold fieldOf
    rw [BitVec.testBit_toNat, getLsbD_fieldVec (by decide)]
    simp
  have h2 : fieldOf (s.word (4096 * page + 0x00C)) bit 1 < 2 := fieldOf_lt
  rw [h, ← h0]
  generalize fieldOf (s.word (4096 * page + 0x00C)) bit 1 = v at h2
  exact (by decide : ∀ v < 2, decide (v ≠ 0) = v.testBit 0) v h2

end State

end Sys2Proof.Machine
end

section
/-! PROOFS. R41: a reset of the endpoint, by PE_PERST_N or by the loss of the link, stays in the endpoint. -/

namespace Sys2Proof.Machine

namespace State

/-- What differs between `s` and `t` belongs to the endpoint: PE_STAT, the mask of MSI, the configuration space, PE_PERST_N and the
Subsystem IDs. -/
def EndpointOnly (s t : State) : Prop :=
  t = { s with
    regs := t.regs, pcieMask := t.pcieMask,
    hif := { s.hif with pcie := t.hif.pcie, perst := t.hif.perst, subsys := t.hif.subsys } } ∧
  ∀ a, a ≠ HIF.PE_STAT.addr → t.word a = s.word a

/-- The endpoint stands at its reset. -/
def EndpointAtReset (t : State) : Prop := t.word HIF.PE_STAT.addr = 0 ∧ t.pcieMask = 0 ∧ t.hif.pcie = []

theorem endpointReset_only (s : State) : EndpointOnly s s.endpointReset := ⟨rfl, fun _ ha => word_set_ne ha⟩

theorem endpointReset_atReset (s : State) : EndpointAtReset s.endpointReset := by
  refine ⟨?_, rfl, rfl⟩
  have h : ∀ w : Word, fieldPut w 0 32 0 = 0 := fun w => by
    apply BitVec.eq_of_getLsbD_eq
    intro i hi
    rw [getLsbD_fieldPut (by decide), if_pos (by omega)]
    simp
  exact word_set_same.trans (h _)

end State

/-- Settles O53: the reset of the endpoint writes PE_STAT, the mask and the configuration space, and the line PE_PERST_N is the
endpoint's own; the release takes nothing else than the Subsystem IDs. -/
theorem endpointResetsAlone : Obligations.EndpointResetsAlone := by
  intro s
  obtain ⟨hrest, hword⟩ := s.endpointReset_only
  refine ⟨?_, fun gen2 hon => ?_, ?_⟩
  · exact ⟨_, rfl, ⟨rfl, hword⟩, s.endpointReset_atReset, rfl⟩
  · exact ⟨s.endpointReset, by simp [exec, execPcieLinkChange, hon], ⟨hrest, hword⟩, s.endpointReset_atReset⟩
  · cases hp : s.hif.perst with
    | true => exact ⟨_, rfl, by simp only [hp, if_true]; exact ⟨⟨rfl, fun _ _ => rfl⟩, rfl⟩⟩
    | false => exact ⟨s, by simp [exec, execPePerstRelease, hp], ⟨rfl, fun _ _ => rfl⟩, hp⟩

end Sys2Proof.Machine
end

section
/-! PROOFS. R60: the three summary words. What they show rests on the EVT and EVT_EN words and on the feedback ports that the axes use;
a write of a read-only register stores nothing; a write of EVT clears the bits it carries. -/

namespace Sys2Proof.Machine

namespace State

variable {s t : State}

/-! ### What a summary word shows -/

/-- A word gathered bit by bit holds at each place what was asked there. -/
theorem getLsbD_gathered (p : Nat → Bool) (n : Nat) {i : Nat} (hi : i < 32) :
    ((List.range n).foldl (fun (w : Word) (j : Nat) => if p j then w ||| (1#32 <<< j) else w) 0).getLsbD i =
      (decide (i < n) && p i) := by
  induction n with
  | zero => simp
  | succ n ih =>
    rw [List.range_succ, List.foldl_append, List.foldl_cons, List.foldl_nil]
    have hbit : (1#32 <<< n).getLsbD i = decide (i = n) := by
      rw [BitVec.getLsbD_shiftLeft, BitVec.getLsbD_one, Bool.eq_iff_iff]
      simp only [Bool.and_eq_true, decide_eq_true_eq, Bool.not_eq_true', decide_eq_false_iff_not]
      omega
    split
    next hp =>
      rw [BitVec.getLsbD_or, ih, hbit]
      rcases Nat.lt_trichotomy i n with h | rfl | h
      · simp [h, Nat.lt_succ_of_lt h, Nat.ne_of_lt h]
      · simp [hp]
      · simp [Nat.not_lt.2 (Nat.le_of_lt h), Nat.ne_of_gt h, Nat.not_lt.2 (Nat.succ_le_of_lt h)]
    next hp =>
      rw [ih]
      rcases Nat.lt_trichotomy i n with h | rfl | h
      · simp [h, Nat.lt_succ_of_lt h]
      · simp [hp]
      · simp [Nat.not_lt.2 (Nat.le_of_lt h), Nat.not_lt.2 (Nat.succ_le_of_lt h)]

theorem getLsbD_evtSum {k i : Nat} (hi : i < 32) : (s.evtSum k).getLsbD i = s.srcPending (32 * k + i) := by
  unfold evtSum
  rw [getLsbD_gathered _ _ hi, decide_eq_true hi, Bool.true_and]

theorem slowAddr_summary {k : Nat} (hk : k < 3) : slowAddr (0x02040 + 4 * k) = false :=
  (by decide : ∀ k < 3, slowAddr (0x02040 + 4 * k) = false) k hk

theorem liveWord_summary {k : Nat} (hk : k < 3) : s.liveWord (0x02040 + 4 * k) = s.evtSum k := by
  have hslow := slowAddr_summary hk
  have hpage : (0x02040 + 4 * k) / 4096 = 2 := by omega
  have hoff : (0x02040 + 4 * k) % 4096 = 0x040 + 4 * k := by omega
  have hidx : (0x040 + 4 * k - 0x040) / 4 = k := by omega
  unfold liveWord
  simp only [hslow, hpage, hoff, hidx]
  rw [if_neg (by decide), if_neg (by omega), if_pos ⟨trivial, by omega, by omega⟩]

/-- With nothing frozen the host reads the live word. -/
theorem hostWord_unfrozen {a : Nat} (hf : s.frozen = []) (hh : s.hiFrozen = []) : s.hostWord a = s.liveWord (homeAddr a) := by
  unfold hostWord
  rw [hf, hh]
  rfl

/-- The words that decide which sources are pending: EVT, EVT_EN, and the CFG of an axis, at their offsets in a page. -/
def sourceWord (a : Nat) : Prop := a % 4096 = 0x00C ∨ a % 4096 = 0x010 ∨ a % 4096 = 0x040

theorem srcPending_congr (h : ∀ a, sourceWord a → t.word a = s.word a) (src : Nat) : t.srcPending src = s.srcPending src := by
  have hmotor : ∀ ax, t.get (AX.CFG_MOTOR ax) = s.get (AX.CFG_MOTOR ax) := fun ax =>
    get_congr (h _ (.inr (.inr (by unfold AX.CFG_MOTOR; dsimp only; omega))))
  have hsel : ∀ ax, t.get (AX.CFG_FB_SEL ax) = s.get (AX.CFG_FB_SEL ax) := fun ax =>
    get_congr (h _ (.inr (.inr (by unfold AX.CFG_FB_SEL; dsimp only; omega))))
  have hfeeds : t.feeds src = s.feeds src := by
    simp only [feeds, portOf, hmotor, hsel]
  have hevt : ∀ page, t.word (HDR.EVT page).addr = s.word (HDR.EVT page).addr := fun page =>
    h _ (.inl (by unfold HDR.EVT; dsimp only; omega))
  have hen : ∀ page, t.word (HDR.EVT_EN page).addr = s.word (HDR.EVT_EN page).addr := fun page =>
    h _ (.inr (.inl (by unfold HDR.EVT_EN; dsimp only; omega)))
  simp only [srcPending, hfeeds, hevt, hen]

theorem evtSum_congr (h : ∀ a, sourceWord a → t.word a = s.word a) (k : Nat) : t.evtSum k = s.evtSum k := by
  simp only [evtSum, srcPending_congr h]

theorem not_wakeWord_of_sourceWord {a : Nat} (h : sourceWord a) : ¬ wakeWord a := by
  unfold sourceWord at h
  simp only [wakeWord, CEL.WAKE_SRC_SRC, PWR.STATE_WAKE]
  omega

/-! ### A write of a read-only register -/

theorem foldl_writeField_readOnly {p : Place} {page : Nat} {w : Word} {l : List FieldRow} (h : ∀ f ∈ l, f.access = .ro)
    (acc : Word × Bool) : l.foldl (s.writeField p page w) acc = acc := by
  induction l with
  | nil => rfl
  | cons f l ih =>
    have hf : s.writeField p page w acc f = acc := by
      unfold writeField
      rw [h f (by simp)]
    rw [List.foldl_cons, hf]
    exact ih fun g hg => h g (by simp [hg])

/-- A register of read-only fields keeps its word; P2_MASK has none. -/
theorem written_readOnly {p : Place} {page : Nat} {w : Word} (h : ∀ f ∈ p.row.fields, f.access = .ro) (hp : s.p2Safe p.addr = 0) :
    s.written p page w = (s.word p.addr, false) := by
  unfold written
  have hall : ∀ q : FieldRow → Bool, ∀ f ∈ p.row.fields.filter q, f.access = .ro := fun q f hf => h f (List.mem_filter.1 hf).1
  have hnone : w &&& (0 : Word) = 0 := BitVec.and_zero
  simp only [foldl_writeField_readOnly (hall _), hp, hnone, if_true]

/-- A write of a read-only register changes no word of the window. -/
theorem word_storeReg_readOnly {p : Place} {page a : Nat} {w : Word} (h : ∀ f ∈ p.row.fields, f.access = .ro)
    (hp : s.p2Safe p.addr = 0) (hg : sessionGated p = false) : (s.storeReg p page w).word a = s.word a := by
  have hsame : (s.setWord p.addr (s.word p.addr)).word a = s.word a := by
    by_cases ha : a = p.addr
    · rw [ha, word_setWord_same]
    · exact word_setWord_ne ha
  unfold storeReg
  simp only [written_readOnly h hp, hg]
  split
  · exact word_msiEdges.trans hsame
  · exact hsame

/-- The place of a summary word. -/
def summaryPlace (k : Nat) : Place :=
  ⟨0x02040 + 4 * k, .eva, 0, ⟨0x040 + 4 * k, 1, 4, 0, [⟨0, 32, .ro, .plain, .any⟩]⟩, 0⟩

theorem placeOf_summary {k : Nat} (hk : k < 3) : placeOf (0x02040 + 4 * k) = some (summaryPlace k) :=
  (by decide : ∀ k < 3, placeOf (0x02040 + 4 * k) = some (summaryPlace k)) k hk

theorem word_regWrite_summary {k page a : Nat} {w : Word} (hk : k < 3) :
    (s.regWrite (summaryPlace k) page w).word a = s.word a := by
  have hp : s.p2Safe (summaryPlace k).addr = 0 :=
    (if_neg (by simp only [summaryPlace, PBS.P2_MASK0]; omega)).trans (if_neg (by simp only [summaryPlace, PBS.P2_MASK1_LS]; omega))
  have hoff : (summaryPlace k).off ≠ 0x050 := by
    unfold Place.off summaryPlace
    dsimp only
    omega
  have hw : s.regWrite (summaryPlace k) page w = s.storeReg (summaryPlace k) page w := if_neg hoff
  rw [hw]
  exact word_storeReg_readOnly (by simp [summaryPlace]) hp rfl

/-- A write of a summary word changes no word but those of a wake. -/
theorem word_fullWrite_summary {k a : Nat} {w : Word} (hk : k < 3) (ha : ¬ wakeWord a) :
    (s.fullWrite (0x02040 + 4 * k) w).word a = s.word a := by
  have hslow := slowAddr_summary hk
  have hpage : pageOf ((0x02040 + 4 * k) / 4096) = some (.eva, 0) := by
    rw [show (0x02040 + 4 * k) / 4096 = 2 by omega]
    rfl
  have hmapped : s.mappedWrite .eva (0x02040 + 4 * k) w = s.regWrite (summaryPlace k) ((0x02040 + 4 * k) / 4096) w := by
    unfold mappedWrite
    rw [if_neg (by omega), placeOf_summary hk]
    simp only [hslow, Bool.false_eq_true, if_false]
  unfold fullWrite
  split
  · rfl
  · simp only [hpage]
    rw [word_hostWakes ha, hmapped, word_regWrite_summary hk]

/-! ### A write of EVT -/

/-- The bits written with 1 are cleared; OVERRUN of an encoder output lies in another word. -/
theorem word_clearEvents {k : PageKind} {page : Nat} {w : Word} :
    (s.clearEvents k page w).word (4096 * page + 0x00C) = s.word (4096 * page + 0x00C) &&& ~~~ w := by
  have hset : (s.setWord (HDR.EVT page).addr (s.word (HDR.EVT page).addr &&& ~~~ w)).word (4096 * page + 0x00C) =
      s.word (4096 * page + 0x00C) &&& ~~~ w := word_setWord_same
  have hoverrun : ∀ m < 4, (ENC.STAT_OVERRUN m).addr ≠ 4096 * page + 0x00C := fun m hm => by
    simp only [ENC.STAT_OVERRUN]
    omega
  unfold clearEvents
  dsimp only
  split
  · refine Eq.trans ?_ hset
    refine List.foldlRecOn (motive := fun t : State => t.word (4096 * page + 0x00C) = _) _ _ rfl fun t ht m hm => ?_
    split
    · exact (word_set_ne (hoverrun m (List.mem_range.1 hm)).symm).trans ht
    · exact ht
  · exact hset

theorem word_fullWrite_evt {page : Nat} {w : Word} (hm : (pageOf page).isSome = true)
    (hr : s.reaches (4096 * page + 0x00C) = true) :
    (s.fullWrite (4096 * page + 0x00C) w).word (4096 * page + 0x00C) = s.word (4096 * page + 0x00C) &&& ~~~ w := by
  obtain ⟨⟨k, inst⟩, hk⟩ := Option.isSome_iff_exists.1 hm
  have hpage : (4096 * page + 0x00C) / 4096 = page := by omega
  have hoff : (4096 * page + 0x00C) % 4096 = 0x00C := by omega
  have hmapped : s.mappedWrite k (4096 * page + 0x00C) w = s.clearEvents k page w := by
    simp [mappedWrite, headerWrite, hpage, hoff]
  unfold fullWrite
  simp only [hr, hpage, hk]
  rw [if_neg (by decide), word_hostWakes (not_wakeWord_of_sourceWord (.inl hoff)), hmapped, word_clearEvents]

end State

/-- Settles O51: a summary word is gathered from the sources, its register has read-only fields alone, and a write of EVT clears the
bits it carries. -/
theorem eventSummariesShowSources : Obligations.EventSummariesShowSources := by
  intro s k hk
  refine ⟨fun hf hh i hi => ?_, fun w => ⟨_, rfl, ?_⟩, fun page hpage hm hr w => ⟨_, rfl, fun b hb => ?_⟩⟩
  · have hhome : homeAddr (0x02040 + 4 * k) = 0x02040 + 4 * k := by
      unfold homeAddr
      rw [if_neg (by omega)]
    rw [State.hostWord_unfrozen hf hh, hhome, State.liveWord_summary hk, State.getLsbD_evtSum hi]
  · dsimp only
    rw [State.liveWord_summary hk, State.liveWord_summary hk, State.wordOf_ofNat (by omega) (by omega)]
    refine State.evtSum_congr (fun a ha => ?_) k
    rw [State.word_quadTakes, State.word_fullWrite_summary hk (State.not_wakeWord_of_sourceWord ha)]
  · rw [State.evt_eq_getLsbD, State.evt_eq_getLsbD, State.wordOf_ofNat (by omega) (by omega), State.word_quadTakes,
      State.word_fullWrite_evt hm hr, BitVec.getLsbD_and, BitVec.getLsbD_not, decide_eq_true hb, Bool.true_and]

end Sys2Proof.Machine
end

section
/-! PROOFS. R47: the 64-bit counters. A read of the low word holds the high word as it then reads; a read of the high word lets it go; a
span of eight bytes reads the two in this order. -/

namespace Sys2Proof.Machine

/-- A cell put where none had its address is the one that is found. -/
theorem find?_cellInsert {k : Nat} {v : Word} {m : Cells} (h : ∀ c ∈ m, c.1 ≠ k) :
    (cellInsert k v m).find? (fun c => c.1 == k) = some (k, v) := by
  induction m with
  | nil => simp [cellInsert]
  | cons c t ih =>
    have hc : c.1 ≠ k := h c (by simp)
    unfold cellInsert
    split
    · simp
    · rw [List.find?_cons_of_neg (by simpa using hc)]
      exact ih fun x hx => h x (by simp [hx])

/-- A full word of a span is read as its four bytes. -/
theorem sliceBytes_wordBytes (w : Word) : sliceBytes (wordBytes w) 0 4 = wordBytes w := rfl

namespace State

variable {s u : State} {a : Nat}

/-! ### Where the counters lie -/

/-- The addresses of the low words. -/
def lowWords : List Nat :=
  [0x04040, 0x03054, 0x0D048, 0x0D050, 0x0C058, 0x1804C, 0x1904C, 0x1A04C, 0x1B04C, 0x1C04C, 0x1D04C, 0x1E04C, 0x1F04C]

theorem mem_lowWords (h : lowWord a = true) : a ∈ lowWords := by
  simp only [lowWord, Bool.or_eq_true, beq_iff_eq, List.any_eq_true, List.mem_range, TMR.RTC_LO, CEL.RSTK_LO, OCC.EPOCH_LO,
    OCC.TIME_LO, LDG.OLDEST_LO, PZ.PASS_T_LO] at h
  simp only [lowWords, List.mem_cons, List.not_mem_nil, or_false]
  rcases h with h | ⟨n, hn, h⟩ <;> omega

theorem lowWord_aligned (h : lowWord a = true) : a % 4 = 0 :=
  (by decide : ∀ x ∈ lowWords, x % 4 = 0) a (mem_lowWords h)

theorem lowWord_lt (h : lowWord a = true) : a + 8 ≤ 2 ^ 20 :=
  (by decide : ∀ x ∈ lowWords, x + 8 ≤ 2 ^ 20) a (mem_lowWords h)

theorem lowWord_mapped (h : lowWord a = true) : (pageOf (a / 4096)).isSome = true :=
  (by decide : ∀ x ∈ lowWords, (pageOf (x / 4096)).isSome = true) a (mem_lowWords h)

theorem lowWord_no_window (h : lowWord a = true) : fifoWindow a = false ∧ fifoWindow (a + 4) = false :=
  (by decide : ∀ x ∈ lowWords, fifoWindow x = false ∧ fifoWindow (x + 4) = false) a (mem_lowWords h)

theorem lowWord_high (h : lowWord a = true) : lowWord (a + 4) = false :=
  (by decide : ∀ x ∈ lowWords, lowWord (x + 4) = false) a (mem_lowWords h)

/-- Both words of a counter lie in one page. -/
theorem lowWord_page (h : lowWord a = true) : (a + 4) / 4096 = a / 4096 :=
  (by decide : ∀ x ∈ lowWords, (x + 4) / 4096 = x / 4096) a (mem_lowWords h)

theorem reaches_high (h : lowWord a = true) : s.reaches (a + 4) = s.reaches a := by
  unfold reaches
  rw [lowWord_page h]

/-! ### What is held of a high word -/

/-- The state with nothing held for the word at `a`. -/
def letGo (s : State) (a : Nat) : State := { s with hiFrozen := s.hiFrozen.filter (fun c => c.1 != a) }

/-- The state after a low word at `a` has been read: its high word is held as it then reads. -/
def holdHigh (s : State) (a : Nat) : State :=
  let t := (s.letGo a).letGo (a + 4)
  { t with hiFrozen := cellInsert (a + 4) (t.hostWord (a + 4)) t.hiFrozen }

theorem not_mem_letGo {c : Nat × Word} (h : c ∈ (s.letGo a).hiFrozen) : c.1 ≠ a := by
  simpa using (List.mem_filter.1 h).2

/-- A word for which nothing is held reads the same whatever is held for others. -/
theorem hostWord_of_not_held {x : Cells} (h : ∀ c ∈ x, c.1 ≠ a) :
    { s with hiFrozen := x }.hostWord a = (s.letGo a).hostWord a := by
  have hx : x.find? (fun c => c.1 == a) = none := List.find?_eq_none.2 fun c hc => by simpa using h c hc
  have hl : (s.letGo a).hiFrozen.find? (fun c => c.1 == a) = none :=
    List.find?_eq_none.2 fun c hc => by simpa using not_mem_letGo hc
  unfold hostWord
  simp only [hx, hl]
  rfl

/-- What is held for a word is what it reads. -/
theorem hostWord_of_held {w : Word} (h : u.hiFrozen.find? (fun c => c.1 == a) = some (a, w)) : u.hostWord a = w := by
  unfold hostWord
  simp only [h]

/-- After a read of the low word the high word is the one that was live then. -/
theorem hostWord_of_holdHigh (h : u.hiFrozen = (s.holdHigh a).hiFrozen) : u.hostWord (a + 4) = (s.letGo (a + 4)).hostWord (a + 4) := by
  have hfree : ∀ c ∈ ((s.letGo a).letGo (a + 4)).hiFrozen, c.1 ≠ a + 4 := fun c hc => not_mem_letGo hc
  have hlive : ((s.letGo a).letGo (a + 4)).hostWord (a + 4) = (s.letGo (a + 4)).hostWord (a + 4) :=
    hostWord_of_not_held (s := s) hfree
  rw [← hlive]
  exact hostWord_of_held (h ▸ find?_cellInsert hfree)

/-! ### The two reads -/

theorem fullRead_low (h : lowWord a = true) (hr : s.reaches a = true) :
    s.fullRead a = (s.hostWord a, (s.holdHigh a).hostWakes) := by
  have hm : (pageOf (a / 4096)).isNone = false := by rw [Option.isNone_eq_false_iff]; exact lowWord_mapped h
  obtain ⟨hw, -⟩ := lowWord_no_window h
  have hrd : a ≠ 0x0C0B0 := by rintro rfl; exact absurd hw (by decide)
  have htx : a ≠ 0x0A054 := by rintro rfl; exact absurd hw (by decide)
  unfold fullRead
  simp only [hr, hm, h, hrd, htx, Bool.not_true, Bool.false_eq_true, if_false, if_true]
  rfl

theorem fullRead_high (h : lowWord a = true) (hr : s.reaches a = true) :
    s.fullRead (a + 4) = (s.hostWord (a + 4), (s.letGo (a + 4)).hostWakes) := by
  have hm : (pageOf ((a + 4) / 4096)).isNone = false := by
    rw [lowWord_page h, Option.isNone_eq_false_iff]
    exact lowWord_mapped h
  obtain ⟨-, hw⟩ := lowWord_no_window h
  have hrd : a + 4 ≠ 0x0C0B0 := fun e => absurd (e ▸ hw) (by decide)
  have htx : a + 4 ≠ 0x0A054 := fun e => absurd (e ▸ hw) (by decide)
  unfold fullRead
  simp only [reaches_high h, hr, hm, lowWord_high h, hrd, htx, Bool.not_true, Bool.false_eq_true, if_false]
  rfl

/-! ### A span of both words -/

theorem readSpan_done {step : Nat → Nat} {reach : Nat → Bool} {k skip : Nat} {acc : List Byte} :
    readSpan step reach k s a skip 0 acc = (acc, s) := by
  cases k <;> rfl

/-- A span that begins with a whole word that is reached reads it in full. -/
theorem readSpan_word {step : Nat → Nat} {reach : Nat → Bool} {k len : Nat} {acc : List Byte} (hreach : reach a = true)
    (hlt : a < 2 ^ 20) :
    readSpan step reach (k + 1) s a 0 (len + 4) acc =
      readSpan step reach k (s.fullRead a).2 (a + step a) 0 len (acc ++ wordBytes (s.fullRead a).1) := by
  have hmin : min (4 - 0) (len + 4) = 4 := by omega
  conv => lhs; unfold readSpan
  simp only [hmin, hreach, Nat.mod_eq_of_lt hlt, Nat.add_eq_zero_iff, sliceBytes_wordBytes, Nat.add_sub_cancel, Bool.not_true,
    Bool.false_eq_true, if_false, if_true, reduceCtorEq, and_false]

/-- The bytes of a counter whose low word lies at `a`, both words as they stand at one time. -/
def counterBytes (s : State) (a : Nat) : List Byte :=
  wordBytes (s.hostWord a) ++ wordBytes ((s.letGo (a + 4)).hostWord (a + 4))

/-- Eight bytes from the low word of a counter are read at one time. -/
theorem readSpan_counter {step : Nat → Nat} {reach : Nat → Bool} {k : Nat} (h : lowWord a = true) (hr : s.reaches a = true)
    (hstep : step a = 4) (hlow : reach a = true) (hhigh : reach (a + 4) = true) :
    ∃ t : State, t.out = s.out ∧ readSpan step reach (k + 2) s a 0 8 [] = (s.counterBytes a, t) := by
  have hlt := lowWord_lt h
  have hheld : (s.holdHigh a).hostWakes.hostWord (a + 4) = (s.letGo (a + 4)).hostWord (a + 4) :=
    hostWord_of_holdHigh hostWakes_hiFrozen
  have hr2 : (s.holdHigh a).hostWakes.reaches a = true := reaches_hostWakes.trans hr
  refine ⟨((s.holdHigh a).hostWakes.letGo (a + 4)).hostWakes, hostWakes_out.trans hostWakes_out, ?_⟩
  rw [readSpan_word (len := 4) hlow (by omega), hstep, fullRead_low h hr, readSpan_word (len := 0) hhigh (by omega),
    fullRead_high h hr2, readSpan_done, hheld, List.nil_append, counterBytes]

/-- A counter is no window of the quad SPI port: the next word of its span is its high word. -/
theorem qsStep_lowWord (h : lowWord a = true) : qsStep a = 4 := by
  have hlt := lowWord_lt h
  obtain ⟨hw, -⟩ := lowWord_no_window h
  unfold qsStep
  rw [Nat.mod_eq_of_lt (by omega), hw]
  rfl

end State

/-! ### The four commands that read a counter -/

section

variable {s : State} {addr : BitVec 20}

theorem counter64LowRead_holds (h : State.lowWord addr.toNat = true) (hr : s.reaches addr.toNat = true) :
    Completes (.counter64LowRead addr) s fun t =>
      t.out = s.out ++ [.readData (wordBytes (s.hostWord addr.toNat))] ∧
        ∀ u : State, u.hiFrozen = t.hiFrozen →
          u.hostWord (addr.toNat + 4) = (s.letGo (addr.toNat + 4)).hostWord (addr.toNat + 4) := by
  refine ⟨_, rfl, ?_⟩
  rw [State.wordOf_of_aligned (State.lowWord_aligned h), State.fullRead_low h hr]
  exact ⟨congrArg (· ++ _) State.hostWakes_out, fun u hu => State.hostWord_of_holdHigh (hu.trans State.hostWakes_hiFrozen)⟩

theorem wordOf_high (h : State.lowWord addr.toNat = true) : State.wordOf (addr + 4) = addr.toNat + 4 := by
  have hlt := State.lowWord_lt h
  have hal := State.lowWord_aligned h
  have hsum : (addr + 4).toNat = addr.toNat + 4 := by
    rw [BitVec.toNat_add]
    exact Nat.mod_eq_of_lt (by simpa using by omega)
  rw [State.wordOf_of_aligned (by omega), hsum]

theorem counter64HighRead_letsGo (h : State.lowWord addr.toNat = true) (hr : s.reaches addr.toNat = true) :
    Completes (.counter64HighRead (addr + 4)) s fun t =>
      t.out = s.out ++ [.readData (wordBytes (s.hostWord (addr.toNat + 4)))] ∧
        t.hostWord (addr.toNat + 4) = (t.letGo (addr.toNat + 4)).hostWord (addr.toNat + 4) := by
  refine ⟨_, rfl, ?_⟩
  rw [wordOf_high h, State.fullRead_high h hr]
  exact ⟨congrArg (· ++ _) State.hostWakes_out,
    State.hostWord_of_not_held (s := (s.letGo (addr.toNat + 4)).hostWakes.emit _) fun c hc =>
      State.not_mem_letGo (s := s) (State.hostWakes_hiFrozen ▸ hc)⟩

/-- A plain read of the quad SPI port, in 1-1-1 mode. -/
theorem exec_qsRead_plain {a : BitVec 24} {len : Nat} (hq : s.onQspi = true) (hready : s.ready = true)
    (hquad : s.hif.quad = false) : exec (.qsRead ⟨0x03#8, a⟩ len) s = .next (s.qsReadFrom a.toNat len) := by
  simp [exec, execQsRead, hq, hready, hquad, State.qsUnknown]

theorem qsRead_counter (h : State.lowWord addr.toNat = true) (hr : s.reaches addr.toNat = true) (hq : s.onQspi = true)
    (hready : s.ready = true) (hquad : s.hif.quad = false) :
    Completes (.qsRead ⟨0x03#8, addr.setWidth 24⟩ 8) s fun t => t.out = s.out ++ [.readData (s.counterBytes addr.toNat)] := by
  have hlt := State.lowWord_lt h
  have hal := State.lowWord_aligned h
  have hat : (addr.setWidth 24).toNat = addr.toNat := by
    rw [BitVec.toNat_setWidth]
    exact Nat.mod_eq_of_lt (by omega)
  have hword : addr.toNat / 4 * 4 = addr.toNat := by omega
  obtain ⟨t, hout, hspan⟩ := State.readSpan_counter (k := 7) (step := State.qsStep)
    (reach := fun a => decide (a % 2 ^ 24 < 2 ^ 20)) h hr (State.qsStep_lowWord h) (by rw [decide_eq_true_eq]; omega)
    (by rw [decide_eq_true_eq]; omega)
  refine ⟨t.emit (.readData (s.counterBytes addr.toNat)), ?_, congrArg (· ++ _) hout⟩
  rw [exec_qsRead_plain hq hready hquad, hat]
  simp only [State.qsReadFrom, hal, hword, hspan]

theorem pcieBar0Read_counter (h : State.lowWord addr.toNat = true) (hr : s.reaches addr.toNat = true) (hp : s.onPcie = true) :
    Completes (.pcieBar0Read addr 8) s fun t => t.out = s.out ++ [.readData (s.counterBytes addr.toNat)] := by
  have hal := State.lowWord_aligned h
  obtain ⟨t, hout, hspan⟩ := State.readSpan_counter (k := 7) (step := fun _ => 4) (reach := fun _ => true) h hr rfl rfl rfl
  refine ⟨t.emit (.readData (s.counterBytes addr.toNat)), ?_, congrArg (· ++ _) hout⟩
  simp only [exec, execPcieBar0Read, hp, if_true, State.wordOf_of_aligned hal, hal, hspan]

end

/-- Settles O54: the high word that a read of the low word holds is the live one, and the read of the high word lets it go; a span of the
two words is these two reads. -/
theorem highWordFreezes : Obligations.HighWordFreezes := by
  intro s addr h hr
  obtain ⟨t, hexec, hout, hlive⟩ := counter64HighRead_letsGo h hr
  refine ⟨counter64LowRead_holds h hr, ⟨t, hexec, hout, fun hfree => ?_, hlive⟩, qsRead_counter h hr, pcieBar0Read_counter h hr⟩
  exact State.hostWord_of_not_held (s := s) (x := s.hiFrozen) fun c hc => by simpa using List.all_eq_true.1 hfree c hc

end Sys2Proof.Machine
end

section
/-! PROOFS. R257: the enable of a doorway is refused while a safety role that it uses lies on an input that is not safety-marked. The
validation of the recipe that comes first writes RCP_CTRL alone, so it leaves the roles and the marks as they were; the refusal then stands
through the rest of a write of PAGE_CTRL. -/

namespace Sys2Proof.Machine

namespace State

variable {s t : State} {page role di : Nat}

/-! ### A refused enable (R43) -/

/-- An enable of the page was refused: CFG_REJ with the offset of PAGE_CTRL, and ENABLE at 0. -/
def EnableRefused (page : Nat) (t : State) : Prop := t.rejected page 0x004 = true ∧ t.pageOn page = false

theorem refuseEnable_refused (h : s.pageOn page = false) : EnableRefused page (s.refuseEnable page) := by
  have hrej : (s.refuseEnable page).on (HDR.CFG_REJ page) = true :=
    (on_congr (word_set_ne (by simp only [HDR.CFG_REJ, HDR.REJ_OFFS]; omega))).trans (on_setB_same (by decide : 2 + 1 ≤ 32) rfl)
  have hoffs : (s.refuseEnable page).get (HDR.REJ_OFFS page) = 0x004 := get_set_same (by decide : 0 + 12 ≤ 32)
  have hen : (s.refuseEnable page).on (HDR.ENABLE page) = s.on (HDR.ENABLE page) :=
    on_congr ((word_set_ne (by simp only [HDR.ENABLE, HDR.REJ_OFFS]; omega)).trans
      (word_set_ne (by simp only [HDR.ENABLE, HDR.CFG_REJ]; omega)))
  exact ⟨by rw [rejected, hrej, hoffs]; rfl, hen.trans h⟩

/-- A refusal is read from the words of its page. -/
theorem EnableRefused.congr (h : EnableRefused page s) (hword : ∀ a, a / 4096 = page → t.word a = s.word a) :
    EnableRefused page t := by
  have hrej : t.on (HDR.CFG_REJ page) = s.on (HDR.CFG_REJ page) := on_congr (hword _ (by simp only [HDR.CFG_REJ]; omega))
  have hoffs : t.get (HDR.REJ_OFFS page) = s.get (HDR.REJ_OFFS page) := get_congr (hword _ (by simp only [HDR.REJ_OFFS]; omega))
  have hen : t.on (HDR.ENABLE page) = s.on (HDR.ENABLE page) := on_congr (hword _ (by simp only [HDR.ENABLE]; omega))
  simpa only [EnableRefused, rejected, pageOn, hrej, hoffs, hen] using h

theorem EnableRefused.setB_freeze {b : Bool} (h : EnableRefused page s) : EnableRefused page (s.setB (HDR.FREEZE page) b) := by
  have hrej : (s.setB (HDR.FREEZE page) b).on (HDR.CFG_REJ page) = s.on (HDR.CFG_REJ page) :=
    on_congr (word_set_ne (by simp only [HDR.CFG_REJ, HDR.FREEZE]; omega))
  have hoffs : (s.setB (HDR.FREEZE page) b).get (HDR.REJ_OFFS page) = s.get (HDR.REJ_OFFS page) :=
    get_set_addr (by simp only [HDR.REJ_OFFS, HDR.FREEZE]; omega)
  have hen : (s.setB (HDR.FREEZE page) b).on (HDR.ENABLE page) = s.on (HDR.ENABLE page) :=
    on_setB_apart (by decide : 1 + 1 ≤ 32) (by decide : 0 + 1 ≤ 32) (.inr (.inl (by decide : 0 + 1 ≤ 1)))
  simpa only [EnableRefused, rejected, pageOn, hrej, hoffs, hen] using h

/-! ### The safety roles of a doorway (R257) -/

theorem roleUnsafe_of_mem {n : Nat} (hrole : role ∈ s.safeRoles n) (hdi : s.roleDi n role = some di) (hsafe : s.diSafe di = false) :
    s.roleUnsafe n = true :=
  List.any_eq_true.2 ⟨role, hrole, by simp [hdi, hsafe]⟩

/-- What holds of the roles of a list holds of those that a condition lets through. -/
theorem lt_of_mem_ite_nil {c : Prop} [Decidable c] {l : List Nat} {k r : Nat} (hl : ∀ r ∈ l, r < k) (hr : r ∈ if c then l else []) :
    r < k := by
  split at hr
  · exact hl r hr
  · exact absurd hr List.not_mem_nil

theorem safeRoles_lt {n : Nat} (h : role ∈ s.safeRoles n) : role < 10 := by
  unfold safeRoles at h
  rcases List.mem_append.1 h with h | hd9
  · rcases List.mem_append.1 h with h | hd8
    · rcases List.mem_append.1 h with hd0 | hd6
      · exact (by decide : ∀ r ∈ [0, 1, 2, 3], r < 10) role hd0
      · exact lt_of_mem_ite_nil (by decide) hd6
    · exact lt_of_mem_ite_nil (by decide) hd8
  · exact lt_of_mem_ite_nil (by decide) hd9

theorem roleDi_lt {n : Nat} (h : s.roleDi n role = some di) : di < 64 := by
  unfold roleDi at h
  dsimp only at h
  split at h
  next hv => exact Option.some.inj h ▸ hv
  next => exact nomatch h

/-- The validation of a recipe shows its result in RCP_CTRL and does nothing else. -/
theorem validateRecipe_frame (s : State) (n : Fin 8) : Frame (· = (DW.RCP_CTRL n).addr) s (s.validateRecipe n).1 := by
  unfold validateRecipe
  split <;> exact Frame.set (Frame.set (Frame.setB Frame.refl (by rfl)) (by rfl)) (by rfl)

/-- The validation of the recipe leaves the words of the roles and of the safety marks alone. -/
theorem roleUnsafe_validateRecipe {n : Fin 8} (hrole : role ∈ s.safeRoles n) (hdi : s.roleDi n role = some di)
    (hsafe : s.diSafe di = false) : (s.validateRecipe n).1.roleUnsafe n = true := by
  have hlt := safeRoles_lt hrole
  have hlt64 := roleDi_lt hdi
  have hframe := s.validateRecipe_frame n
  have hstep := hframe.get (f := DW.CFG_STEP_EN n) (by simp only [DW.CFG_STEP_EN, DW.RCP_CTRL]; omega)
  have hedge := hframe.get (f := DW.EDGE_CFG_MODE n) (by simp only [DW.EDGE_CFG_MODE, DW.RCP_CTRL]; omega)
  have hmap := hframe.get (f := DW.DIMAP_D n role) (by simp only [DW.DIMAP_D, DW.RCP_CTRL]; omega)
  have hmark := hframe.get (f := DIN.SAFE (di / 32)) (by simp only [DIN.SAFE, DW.RCP_CTRL]; omega)
  have hroles : (s.validateRecipe n).1.safeRoles n = s.safeRoles n := by
    unfold safeRoles stepEn on
    rw [hstep, hedge]
  refine roleUnsafe_of_mem (role := role) (di := di) ?_ ?_ ?_
  · exact hroles ▸ hrole
  · simpa only [roleDi, hmap] using hdi
  · simpa only [diSafe, hmark] using hsafe

theorem pageOn_validateRecipe {n : Fin 8} : (s.validateRecipe n).1.pageOn (pgDW n) = s.pageOn (pgDW n) :=
  (s.validateRecipe_frame n).on (by simp only [HDR.ENABLE, DW.RCP_CTRL, pgDW]; omega)

theorem pageOf_pgDW (n : Fin 8) : pageOf (pgDW n) = some (.dw, n.val) := by
  revert n
  decide

theorem fin8_val (n : Fin 8) : fin8 n.val = n := Fin.ext (Nat.mod_eq_of_lt n.isLt)

/-! ### The enable of a doorway -/

theorem enablePage_refused {n : Fin 8} (hrole : role ∈ s.safeRoles n) (hdi : s.roleDi n role = some di) (hsafe : s.diSafe di = false)
    (hoff : s.pageOn (pgDW n) = false) : EnableRefused (pgDW n) (s.enablePage (pgDW n)) := by
  have hrefuse : s.enablePage (pgDW n) = (s.validateRecipe n).1.refuseEnable (pgDW n) := by
    simp [enablePage, enableDoor, pageOf_pgDW, fin8_val, hoff, roleUnsafe_validateRecipe hrole hdi hsafe]
  exact hrefuse ▸ refuseEnable_refused (pageOn_validateRecipe.trans hoff)

/-- What a write of PAGE_CTRL does after the enable, FREEZE, leaves a refusal standing. -/
theorem headerWrite_refused {k : PageKind} {w : Word} (hw : w.getLsbD 0 = true) (h : EnableRefused page (s.enablePage page)) :
    EnableRefused page (s.headerWrite k page 0x004 w) := by
  have hfreeze : ∀ b, EnableRefused page ((s.enablePage page).setB (HDR.FREEZE page) b) := fun _ => h.setB_freeze
  simp only [headerWrite, hw, if_true]
  split
  · split
    · exact hfreeze _
    · exact (hfreeze _).congr fun _ _ => rfl
  · exact (hfreeze _).congr fun _ _ => rfl

/-- Pages 3 and 5 hold the words that a wake writes; on a page beyond them a refusal stands through the whole write. -/
theorem fullWrite_refused {w : Word} (hmapped : (pageOf page).isSome = true) (hpage : 6 ≤ page)
    (hr : s.reaches (4096 * page + 0x004) = true) (hw : w.getLsbD 0 = true) (h : EnableRefused page (s.enablePage page)) :
    EnableRefused page (s.fullWrite (4096 * page + 0x004) w) := by
  obtain ⟨⟨k, inst⟩, hk⟩ := Option.isSome_iff_exists.1 hmapped
  have hdiv : (4096 * page + 0x004) / 4096 = page := by omega
  have hmod : (4096 * page + 0x004) % 4096 = 0x004 := by omega
  have hwrite : s.fullWrite (4096 * page + 0x004) w = (s.headerWrite k page 0x004 w).hostWakes := by
    simp [fullWrite, mappedWrite, hr, hdiv, hmod, hk]
  rw [hwrite]
  refine (headerWrite_refused hw h).congr fun a ha => word_hostWakes ?_
  simp only [wakeWord, CEL.WAKE_SRC_SRC, PWR.STATE_WAKE]
  omega

end State

/-- Settles O52: the roles and marks that the enable judges are those before the recipe's validation, and neither the rest of a write of
PAGE_CTRL nor a wake touches the refusal. -/
theorem unsafeRolesRefuseEnable : Obligations.UnsafeRolesRefuseEnable := by
  intro s n role di hready hrole hdi hsafe hoff
  have hrefused := State.enablePage_refused hrole hdi hsafe hoff
  have hpage : 0x10 ≤ pgDW n ∧ pgDW n < 0x18 := by unfold pgDW; omega
  refine ⟨⟨_, rfl, ?_⟩, fun w hw hr => ⟨_, rfl, ?_⟩⟩
  · have hnum : (BitVec.ofNat 8 (pgDW n)).toNat = pgDW n := Nat.mod_eq_of_lt (by omega)
    rw [hready, if_pos rfl, hnum]
    exact hrefused
  · rw [State.wordOf_ofNat (by omega) (by omega)]
    have hwritten := State.fullWrite_refused (by rw [State.pageOf_pgDW]; rfl) (by omega) hr hw hrefused
    exact hwritten.congr fun _ _ => State.word_quadTakes

end Sys2Proof.Machine
end
